-- ==== Sys2Proof/Word.lean ====
section
/-! DEFINITION. The words the specification names: bytes, the 48-bit words of R3 and the 64-bit parameter values of R46. -/
namespace Sys2Proof

/-- One byte. -/
abbrev Byte := BitVec 8

/-- The value of a parameter: 32 or 64 bits wide (R46); a narrow one has its upper half zero. -/
abbrev Word := BitVec 64

/-- A word of a Weaver data register or data bank, and each half of a Fysiva time (R3, R11). -/
abbrev Word48 := BitVec 48

end Sys2Proof
end

