-- ==== Sys2Proof/Syntax.lean ====
section
/-! DEFINITION. The commands of the block: one constructor for each row of the opcode table, with the operands the row's rule
gives it. -/
namespace Sys2Proof

/-- A BCP packet as it arrives at a port (R35, R36), with what the command's row does not already say: the opcode is the
command's. `udpLen` is the UDP payload's length; `tag` the 16 tag bytes as a number; `port` the port of arrival, 16 the
management port (R38); `addr` and `dport` its source; `fragment` an IP fragment (R33); `backlog` the packets that Stenor held
unprocessed when this one arrived (R38). -/
structure Packet where
  magic : BitVec 24 := 0x424350
  version : Byte := 3
  flags : BitVec 16 := 0
  session : BitVec 32
  seq : BitVec 32
  paramLen : BitVec 32
  status : BitVec 16 := 0
  reserved : BitVec 16 := 0
  target : BitVec 64 := 0
  payload : List Byte
  tag : BitVec 128
  udpLen : Nat
  port : Fin 17
  addr : BitVec 128
  dport : BitVec 16
  fragment : Bool := false
  backlog : Nat := 0
  udpPort : BitVec 16 := 0x12B8
deriving DecidableEq, Repr

/-- A parameter write sent without a packet of its own: the record of R46 and the target beat of R53. -/
structure Write where
  key : BitVec 32
  val : Word
  target : Word := 0
deriving DecidableEq, Repr

/-- What the boot ROM reads of a slot (R472): whether the flash answers, the 256 header bytes and the body. -/
structure BootSlot where
  answers : Bool
  header : List Byte
  body : List Byte
deriving DecidableEq, Repr

/-- How a PMBus transaction ends (R497): with the word that it read, if any, or in a failure. -/
inductive PmbusEnd where
  | ok (word : BitVec 16)
  | failed
deriving DecidableEq, Repr

/-- What the hardware measures of a calibration block (R430, R431): whether a sample is missing or carries O; the sum of |x|² at the
input of stage 1; for each sub-ADC, at the output of stage 1, the count of its samples and the sums of x, x², x times the sample
before, x times the sample after, the product of those two neighbours, and the squares of both; the sums of I and Q at the output of
stage 2; and of I², Q² and IQ at the output of stage 4. Samples count in steps of the 24-bit input word. -/
structure CalStats where
  bad : Bool
  power : Nat
  il : List (List Int)
  dc : List Int
  iq : List Int
deriving DecidableEq, Repr

/-- One converter sample of a lane's link or one sample of its replay source: the converter's values (two's complement in the low N bits),
its control bits, and whether the memory cannot deliver a replay sample in time (R225). A replay source gives its own values; a link's
missing samples follow from its state (R99). -/
structure RawSample where
  i : BitVec 24
  q : BitVec 24
  cs : BitVec 3
  miss : Bool
deriving DecidableEq, Repr

/-- A Fysiva time as a message carries it (R11). -/
structure Stamp where
  sec : BitVec 48
  ns : BitVec 30
  frac : BitVec 16
  quality : BitVec 2
deriving DecidableEq, Repr

/-- A request to a pseudo-channel (R236): the real-time port that makes it, if any, its row slot and line, and its direction. -/
structure HbmAsk where
  port : Option (Fin 42)
  slot : BitVec 21
  line : Fin 16
  write : Bool
deriving DecidableEq, Repr

/-- The context message of a lane export (R457): the exporter's node and lane, its kind and packing, the epoch, the anchors, STEP_Q, and
F_IN as a fraction in Sa/s. -/
structure ExportContext where
  node : Nat
  lane : Nat
  kind : Nat
  pack : Nat
  epoch : Nat
  anchorIndex : Nat
  anchorInput : Nat
  stepQ : Nat
  finN : Nat
  finD : Nat
deriving DecidableEq, Repr

/-- A sample of an export: its packed components, and valid, S, O, G and M as bits 4 to 0. -/
structure ExportSample where
  i : Int
  q : Int
  flags : BitVec 5
deriving DecidableEq, Repr

/-- What arrives on the DATA channel of an import (R457, R459): a frame with its first index, its RATE_SEQ and the cause of its missing
samples; the loss of a frame, by CRC or not; or the end of the export. -/
inductive ExportFrame where
  | data (first rateSeq cause detail : Nat) (samples : List ExportSample)
  | lost (first count : Nat) (crc : Bool)
  | stopped
deriving DecidableEq, Repr

/-- The commands of the block: one for each row of the table. -/
inductive Instr where
  /-- A PING of an open session (R61) arrives. -/
  | ping (p : Packet)
  /-- Step 1 of the handshake (R39) arrives: a PING of session 0. -/
  | pingHandshakeOpen (p : Packet)
  /-- Step 3 of the handshake (R39) arrives: a PING that names a handshake in progress. -/
  | pingHandshakeConfirm (p : Packet)
  /-- A PING with CLOSE (R42) arrives. -/
  | pingClose (p : Packet)
  /-- A packet with this opcode arrives (R61). -/
  | get (p : Packet)
  /-- A packet with this opcode arrives (R57). -/
  | set (p : Packet)
  /-- A packet with this opcode arrives (R58). -/
  | setMany (p : Packet)
  /-- A packet with this opcode arrives (R62). -/
  | arm (p : Packet)
  /-- A packet with this opcode arrives (R62). -/
  | disarm (p : Packet)
  /-- A packet with this opcode arrives (R184). -/
  | force (p : Packet)
  /-- A packet with this opcode arrives (R63). -/
  | schedule (p : Packet)
  /-- A packet with this opcode arrives (R59). -/
  | prepare (p : Packet)
  /-- A packet with this opcode arrives (R60). -/
  | commit (p : Packet)
  /-- A packet with this opcode arrives (R60). -/
  | abort (p : Packet)
  /-- A packet with this opcode arrives (R64). -/
  | readMem (p : Packet)
  /-- A packet with this opcode arrives (R64). -/
  | writeMem (p : Packet)
  /-- A packet with this opcode arrives (R65). -/
  | loadProgram (p : Packet)
  /-- A packet with this opcode arrives (R66). -/
  | startCore (p : Packet)
  /-- A packet with this opcode arrives (R66). -/
  | stopCore (p : Packet)
  /-- A packet with this opcode arrives (R67). -/
  | subscribe (p : Packet)
  /-- A packet with this opcode arrives (R67). -/
  | unsubscribe (p : Packet)
  /-- A packet with this opcode arrives (R429). -/
  | calRun (p : Packet)
  /-- A packet with this opcode arrives (R68). -/
  | snapshot (p : Packet)
  /-- A packet with this opcode arrives (R475). -/
  | enterFlow (p : Packet)
  /-- A packet with this opcode arrives (R69). -/
  | reset (p : Packet)
  /-- A packet with an opcode that R61 does not list arrives (R37). -/
  | unknownOpcodeRequest (op : BitVec 16) (p : Packet)
  /-- A packet for another member arrives (R44). -/
  | forwardRequest (op : BitVec 16) (p : Packet)
  /-- A handshake has waited for its step 3 (R41). -/
  | handshakeTimeout (session : BitVec 32)
  /-- A session has been idle (R42). -/
  | sessionIdleTimeout (session : BitVec 32)
  /-- A write to a parameter without a command of its own (R47). -/
  | parameterWrite (w : Write)
  /-- A write of 1 to an ENABLE (R50). -/
  | functionStartRequest (w : Write)
  /-- A write of 0 to an ENABLE (R50). -/
  | functionStopRequest (w : Write)
  /-- A schedule entry that is due performs its request (R63). -/
  | schedulePerformance (entry : BitVec 32)
  /-- The boundary of a prepared transaction has come (R60). -/
  | preparedTxnExpiry (session seq : BitVec 32)
  /-- A held request of a function begins (R51). -/
  | heldRequestBegin (blk inst : BitVec 8)
  /-- A start or stop sequence of a function completes (R49). -/
  | functionSequenceComplete (blk inst : BitVec 8)
  /-- The oldest record of a session's open packet has waited 2 µs (R83). -/
  | eventPacketTimeout (session : BitVec 32)
  /-- A session's closed event packet has its turn (R81). -/
  | eventPacketSend (session : BitVec 32)
  /-- A write to OUT_ACK (R84). -/
  | evtOutAck (w : Write)
  /-- The pulse of EVT_OUT_N[k] has run its width (R84). -/
  | evtOutPulseEnd (k : Fin 2)
  /-- The SerDes lanes of receive link k lock (R96). -/
  | jrxCdrLock (k : Fin 16)
  /-- Receive link k aligns; `arrivals` are its lanes' arrivals in 1/16 input sample (R95). -/
  | jrxAlignDone (k : Fin 16) (arrivals : List (BitVec 32))
  /-- Receive link k first releases samples (R96). -/
  | jrxRelease (k : Fin 16)
  /-- The start steps of receive link k are late; `mask` are the lanes that miss (R96). -/
  | jrxStartTimeout (k : Fin 16) (mask : Byte)
  /-- Receive link k loses sync-header lock or code-group sync (R99). -/
  | jrxHeaderLoss (k : Fin 16) (mask : Byte)
  /-- Receive link k loses its alignment (R99). -/
  | jrxAlignLoss (k : Fin 16) (mask : Byte)
  /-- A CRC-12 of receive link k does not match (R99). -/
  | jrxCrcError (k : Fin 16) (mask : Byte)
  /-- A character of JESD204B link k is wrong (R99). -/
  | jrxCharError (k : Fin 16) (mask : Byte)
  /-- The ILAS parameters of JESD204B link k differ from its configuration (R87). -/
  | jrxIlasMismatch (k : Fin 16) (mask : Byte)
  /-- The elastic buffer of receive link k leaves its window (R99). -/
  | jrxElasticError (k : Fin 16) (mask : Byte)
  /-- Receive link k loses its signal or CDR lock (R99). -/
  | jrxSignalLoss (k : Fin 16) (mask : Byte)
  /-- Receive link k releases again, `lost` input samples later (R100). -/
  | jrxReRelease (k : Fin 16) (lost : BitVec 32)
  /-- A SYSREF pulse of receive link k disagrees with its epoch (R100). -/
  | jrxEpochMove (k : Fin 16)
  /-- The rate error of receive link k, in 0.001 ppm (R90). -/
  | jrxRateError (k : Fin 16) (ppm : BitVec 32)
  /-- JTX_SYNC_N of transmit link t is lost (R102). -/
  | jtxSyncLoss (t : Fin 4)
  /-- Transmit link t completes its start (R102). -/
  | jtxUp (t : Fin 4)
  /-- A write to SPI_GO (R103). -/
  | spiGo (w : Write)
  /-- The transaction of SPI port j completes with the bits received (R103). -/
  | spiDone (j : Fin 8) (rx : Word)
  /-- The next converter positions of lane i run through it; `late` that what they decide is late (R108, R186). -/
  | laneOutputSample (i : Fin 32) (raws : List RawSample) (late : Bool)
  /-- The source of a waiting lane has released (R127). -/
  | laneStartAfterRelease (i : Fin 32)
  /-- A write to NCO_SYNC (R115). -/
  | ncoSync (w : Write)
  /-- A write to SWAP_AT (R121). -/
  | swapAtWrite (w : Write)
  /-- View j delivers the spectrum of its oldest complete window; `late` beyond its bound (R150). -/
  | spectrumDelivered (j : BitVec 7) (late : Bool)
  /-- Trace unit t delivers its oldest period that has ended (R158). -/
  | tracePeriodEnd (t : Fin 32)
  /-- A write to TRC_CLEAR (R159). -/
  | trcClear (w : Write)
  /-- A write to WIN_CFG (R144). -/
  | winCfgWrite (w : Write)
  /-- An edge on TRIG_IN[k], with its interpolator's code (R191). -/
  | trigInEdge (k : Fin 8) (rising : Bool) (code : BitVec 16) (late : Bool)
  /-- An edge on TIU_IN[k], with its interpolator's code (R405). -/
  | tiuInEdge (k : Fin 8) (rising : Bool) (code : BitVec 16) (late : Bool)
  /-- A trigger report arrives on a Plait port, replayed or not (R456). -/
  | plaitReportArrival (port : Fin 4) (ch : BitVec 6) (node : BitVec 18) (unit : BitVec 8) (seq : BitVec 32) (tp : Stamp) (again : Bool)
  /-- The next instant of TIME unit u has come (R182). -/
  | triggerTimeInstant (u : Fin 16) (late : Bool)
  /-- Unit u has seen its last conditions (R169). -/
  | triggerDrainEnd (u : Fin 16)
  /-- The pulse of TRIG_OUT[k] has run its width (R192). -/
  | trigOutPulseEnd (k : Fin 8)
  /-- A TIMED pulse of TRIG_OUT[k] is due (R192). -/
  | trigOutTimedPulse (k : Fin 8)
  /-- The FIFO share of writer w has drained (R222). -/
  | captureFifoResume (w : Fin 32)
  /-- Ring space of STREAM_THROUGH writer w is free again (R209). -/
  | captureStreamResume (w : Fin 32)
  /-- A write to CAP MARK (R218). -/
  | capMark (w : Write)
  /-- Replay source r has buffered its first 4,096 samples (R225). -/
  | replayBuffered (r : Fin 16)
  /-- Pseudo-channel p takes new requests and serves one; `levels` are the bytes in the FIFOs of the reader ports 32 to 41, `draw` the draw at an ACT (R235, R236, R240). -/
  | hbmRequest (p : Fin 128) (asks : List HbmAsk) (levels : List (Fin 10 × BitVec 21)) (draw : Word)
  /-- A refresh of pseudo-channel p falls due (R237). -/
  | refreshTick (p : Fin 128)
  /-- A temperature reading of stack k in 1/16 °C (R238). -/
  | stackTempReading (k : Fin 4) (temp : BitVec 16)
  /-- The training slot of pseudo-channel p; `found` that the training found a working setting (R241). -/
  | retrainSlot (p : Fin 128) (found : Bool)
  /-- A transfer of pseudo-channel p fails once and `more` times again (R242). -/
  | transferParityError (p : Fin 128) (lane : BitVec 8) (more : Fin 4) (slot : BitVec 21) (line : Fin 16) (write : Bool)
  /-- The failing lane of pseudo-channel p is moved to a spare (R242). -/
  | laneRepair (p : Fin 128)
  /-- Pseudo-channel p leaves service (R243). -/
  | pcRetirement (p : Fin 128)
  /-- The close pass of plane p ends (R253). -/
  | densityClosePassEnd (p : Fin 16) (late : Bool)
  /-- A write to CLEAR of a plane (R260). -/
  | densityClear (w : Write)
  /-- A line of spectrogram plane k is written (R263). -/
  | spectrogramLineComplete (k : Fin 16)
  /-- A write to BUF_CFG (R281). -/
  | bufCfgWrite (w : Write)
  /-- The last reference to buffer k retires (R281). -/
  | bufReleased (k : Fin 16)
  /-- The frame boundary of output o (R277). -/
  | displayFrameBoundary (o : Fin 2)
  /-- An edge on TE_IN (R278). -/
  | teInEdge (rising : Bool)
  /-- The line buffer of output o runs empty in a line (R279). -/
  | displayUnderflow (o : Fin 2) (line : BitVec 12)
  /-- The first frame of a new mode of output o starts (R283). -/
  | displayModeResume (o : Fin 2)
  /-- DisplayPort link training ends (R285). -/
  | dpTrainingDone (ok : Bool)
  /-- HPD takes a level (R285). -/
  | hpdEdge (high : Bool)
  /-- An IRQ_HPD; `lost` that the sink reports the link lost (R285). -/
  | irqHpd (lost : Bool)
  /-- A write to SIDE_GO (R286). -/
  | sideGo (w : Write)
  /-- The side-channel transaction of output o completes (R286). -/
  | sideDone (o : Fin 2) (rx : Word) (err timeout : Bool)
  /-- Core c meets an illegal word (R319). -/
  | illegalEncoding (c : Fin 64)
  /-- Core c meets a word that was never loaded (R316). -/
  | unloadedFetch (c : Fin 64)
  /-- A pending line of core c is taken (R301). -/
  | interruptEntry (c : Fin 64)
  /-- A beat start of core c that is due is taken (R303). -/
  | weaverBeatStart (c : Fin 64)
  /-- Core c issues a CWR to DMA_GO (R310). -/
  | dmaGo (c : Fin 64)
  /-- The descriptor first in the queue of core c has its turn (R311). -/
  | dmaDescriptorDone (c : Fin 64)
  /-- Core c issues a CWR to EVT_GO (R312). -/
  | evtGo (c : Fin 64)
  /-- Core c issues a CWR to TRQ_GO (R183). -/
  | trqGo (c : Fin 64)
  /-- Core c issues a CWR to GATE (R309). -/
  | gate (c : Fin 64)
  /-- Core c issues a CWR to REQ_GO (R313). -/
  | reqGo (c : Fin 64)
  /-- Stenor answers the request block of core c (R313). -/
  | reqComplete (c : Fin 64)
  /-- Core c issues a CWR to SPI_CTL (R312). -/
  | spiCtl (c : Fin 64)
  /-- Core c issues a CWR to STR_GO (R312). -/
  | strGo (c : Fin 64)
  /-- Core c issues a CWR to SVC_ANS (R314). -/
  | svcAns (c : Fin 64)
  /-- The oldest service record of core c has waited 40 µs (R314). -/
  | serviceTimeout (c : Fin 64)
  /-- The link of interface l comes up; 16 is the management port (R337). -/
  | netLinkUp (l : Fin 17)
  /-- The link of interface l goes down (R337). -/
  | netLinkDown (l : Fin 17)
  /-- An ARP request arrives (R336). -/
  | arpRequest (l : Fin 17) (mac : BitVec 48) (ip target : BitVec 32)
  /-- An IPv6 neighbour solicitation arrives (R336). -/
  | neighbourSolicitation (l : Fin 17) (mac : BitVec 48) (ip target : BitVec 128)
  /-- An ICMP or ICMPv6 echo request arrives (R336). -/
  | echoRequest (l : Fin 17) (v6 : Bool) (ip target : BitVec 128) (data : List Byte)
  /-- A resolved neighbour is due for its refresh (R336). -/
  | neighbourRefreshTimer (l : Fin 17) (v6 : Bool) (ip : BitVec 128)
  /-- A resolution without an answer is tried again (R336). -/
  | neighbourRetry (l : Fin 17) (v6 : Bool) (ip : BitVec 128)
  /-- The interface of stream k is ON and its neighbour resolved (R344). -/
  | streamStartComplete (k : Fin 64)
  /-- Stream k has its turn to send (R348). -/
  | streamPacketSend (k : Fin 64)
  /-- An ACK reaches the queue pair of stream k (R353). -/
  | roceAck (k : Fin 64) (psn : BitVec 24)
  /-- A NAK reaches the queue pair of stream k (R353). -/
  | roceNak (k : Fin 64) (psn : BitVec 24)
  /-- The oldest packet of stream k waits for its ACK too long (R353). -/
  | roceAckTimeout (k : Fin 64)
  /-- Another RDMA request reaches the queue pair of stream k (R352). -/
  | roceInvalidRequest (k : Fin 64) (psn : BitVec 24)
  /-- A write to RDMA_CREDIT (R352). -/
  | rdmaCreditWrite (w : Write)
  /-- Compressor k finishes its block; `mismatch` that the verifier disagrees (R359). -/
  | codecBlockDone (k : Fin 4) (mismatch : Bool)
  /-- A datagram for a decompressor's port arrives (R361). -/
  | decPacketArrival (l : Fin 16) (port : BitVec 16) (bytes : List Byte)
  /-- Decompressor d takes its next block (R362). -/
  | decBlock (d : Fin 2)
  /-- A Sync arrives; times are in 2^-16 ns (R403). -/
  | ptpSyncRx (l : Fin 17) (seq : BitVec 16) (twoStep : Bool) (t1 : BitVec 96) (corr : Word) (frac : BitVec 16)
  /-- A Follow_Up arrives (R403). -/
  | ptpFollowUpRx (l : Fin 17) (seq : BitVec 16) (t1 : BitVec 96) (corr : Word)
  /-- A Delay_Req arrives (R403). -/
  | ptpDelayReqRx (l : Fin 17) (seq : BitVec 16) (src : BitVec 80) (frac : BitVec 16)
  /-- A Delay_Resp arrives (R403). -/
  | ptpDelayRespRx (l : Fin 17) (seq : BitVec 16) (t4 : BitVec 96) (corr : Word)
  /-- An Announce arrives: grandmaster, its class, whether time and frequency are traceable, steps removed (R403). -/
  | ptpAnnounceRx (l : Fin 17) (gm : Word) (cls : Byte) (time freq : Bool) (steps : BitVec 16)
  /-- A master port is due to send Sync (R403). -/
  | ptpSyncTx (l : Fin 17)
  /-- A master port is due to send Announce (R403). -/
  | ptpAnnounceTx (l : Fin 17)
  /-- A slave port is due to send Delay_Req (R403). -/
  | ptpDelayReqTx (l : Fin 17)
  /-- A host sample datagram arrives (R379). -/
  | stimHostDatagram (l : Fin 16) (port : BitVec 16) (bytes : List Byte)
  /-- A write to JUMP (R376). -/
  | stmJump (w : Write)
  /-- The sequencer of channel k stands at an entry (R372). -/
  | stmSeqEntry (k : Fin 4)
  /-- The sequencer of channel k stands at a decision point (R377). -/
  | stmDecisionPoint (k : Fin 4)
  /-- The sequencer of channel k stands at an effect point (R378). -/
  | stmJumpEffect (k : Fin 4)
  /-- The next output position of channel k; `late` that its stored sample is late (R374, R381). -/
  | stmOutputSample (k : Fin 4) (late : Bool)
  /-- An under-run run of channel k ends (R381). -/
  | stmUnderrunEnd (k : Fin 4)
  /-- The C pins are sampled (R385). -/
  | vecCompare (levels : BitVec 48)
  /-- A write to VEC CLEAR (R385). -/
  | vecClear (w : Write)
  /-- An edge on PPS_IN, `frac` 2^-16 ns into the core cycle (R394). -/
  | ppsInEdge (rising : Bool) (frac : BitVec 16)
  /-- The frequency error of REF_IN over 1,024 beats, in 10^-12 (R394). -/
  | refInUpdate (err : Word)
  /-- A write to SET_BEAT (R397). -/
  | setBeat (w : Write)
  /-- A pulse of PPS_OUT[k] falls in this beat (R399). -/
  | ppsOutPulse (k : Fin 2)
  /-- A write to SYSREF_SHOT (R401). -/
  | sysrefShot (w : Write)
  /-- A write to CAL_GO (R407). -/
  | tiuCalGo (w : Write)
  /-- The die temperature, in 1/16 °C, has moved (R407). -/
  | tiuCalTempStart (temp : BitVec 16)
  /-- A calibration run ends, with the hits of every interpolator's codes (R407). -/
  | tiuCalEnd (hits : List (List (BitVec 32))) (temp : BitVec 16)
  /-- PLL n loses lock (R421). -/
  | pllUnlock (n : Fin 6)
  /-- PLL n locks in a band, after `ns` (R416). -/
  | pllLockDone (n : Fin 6) (band : BitVec 6) (ns : BitVec 16)
  /-- PLL n has not locked in 60 µs (R416). -/
  | pllLockTimeout (n : Fin 6)
  /-- The next attempt of PLL n is due (R423). -/
  | pllRelockRetry (n : Fin 6)
  /-- PLL n reaches the target of a retune (R419). -/
  | pllSlewDone (n : Fin 6)
  /-- A write to RELOCK (R424). -/
  | relock (w : Write)
  /-- Target t reads its temperature (R429). -/
  | calTempReading (t : Fin 32)
  /-- A block of 2^16 samples of target t completes (R430). -/
  | calBlock (t : Fin 32) (stats : CalStats)
  /-- The values of a run of target t are computed (R432). -/
  | calComputeDone (t : Fin 32)
  /-- A run of target t has waited WAIT_MAX seconds (R430). -/
  | calWaitTimeout (t : Fin 32)
  /-- A run's commit of target t is due (R437). -/
  | calCommitApply (t : Fin 32)
  /-- An interpolation commit of target t is due (R436). -/
  | calInterpCommit (t : Fin 32)
  /-- A write to CAL COMMIT (R437). -/
  | calCommit (w : Write)
  /-- A write to CLEAR_SETS (R437). -/
  | calClearSets (w : Write)
  /-- A write to AUX START (R443). -/
  | auxStart (w : Write)
  /-- A conversion result, in 2^-16 codes (R444). -/
  | auxResult (raws : List Word)
  /-- A write to SELFCAL (R445). -/
  | auxSelfcal (w : Write)
  /-- A self-calibration phase completes with its mean readings (R445). -/
  | auxSelfcalPhaseDone (raws : List Word)
  /-- Port p completes its start: the partner's node and port, the delays in ps, and the members' ports that are not UP (R450). -/
  | pltPortUp (p : Fin 4) (node : BitVec 18) (port : Fin 4) (out back : BitVec 48) (cut : List (Fin 16 × Fin 4))
  /-- Port p repeats the exchange after a wiring fault (R450). -/
  | pltWiringRetry (p : Fin 4) (node : BitVec 18) (port : Fin 4) (out back : BitVec 48) (cut : List (Fin 16 × Fin 4))
  /-- Port p loses CDR lock, or 64 flits in a row fail their CRC (R450). -/
  | pltPortFault (p : Fin 4) (crc : Bool) (cut : List (Fin 16 × Fin 4))
  /-- A two-way time exchange on port p, stamps in ps (R454). -/
  | pltTimeExchange (p : Fin 4) (t1 t2 t3 t4 : BitVec 80) (crcError : Bool)
  /-- The leader's beat number arrives on port p (R455). -/
  | pltBeatMessage (p : Fin 4) (n : Word) (quality : BitVec 2) (again : Bool)
  /-- A member's quiet report arrives on port p (R455). -/
  | pltQuietReport (p : Fin 4) (member : Fin 16) (joined quiet again : Bool)
  /-- A step notice arrives on port p (R455). -/
  | pltStepNotice (p : Fin 4) (atBeat step : Word) (again : Bool)
  /-- A BCP packet arrives over the CTRL class of a port (R44, R461). -/
  | pltCtrlMessage (port : Fin 4) (op : BitVec 16) (p : Packet) (again : Bool)
  /-- A member's outcome report arrives on port p (R462). -/
  | pltOutcomeReport (p : Fin 4) (member : Fin 16) (seq : BitVec 32) (status : BitVec 16) (again : Bool)
  /-- A context message arrives at import x (R458). -/
  | pltImportContext (x : Fin 8) (ctx : ExportContext)
  /-- A data frame arrives or is lost at import x (R458, R459). -/
  | pltImportFrame (x : Fin 8) (frame : ExportFrame) (late : Bool)
  /-- The crystal is qualified; the straps are sampled (R470). -/
  | resetEnd (member : BitVec 4) (bootMode : BitVec 2)
  /-- The boot ROM checks a slot (R472). -/
  | bootSlot (slot : BootSlot)
  /-- HBM3E training ends; `bad` are the pseudo-channels without a working setting (R470). -/
  | hbmTrainingEnd (bad : List (Fin 128))
  /-- A write to FUSE_OP with SVN_ADVANCE (R473). -/
  | svnAdvance (w : Write) (session seq : BitVec 32)
  /-- A write to FUSE_OP with REVOKE alone (R473). -/
  | revoke (w : Write) (session seq : BitVec 32)
  /-- A write to ZEROISE (R481). -/
  | zeroise (w : Write) (session seq : BitVec 32)
  /-- A write to COMMIT of a host key with ENROLL (R480). -/
  | hostKeyEnroll (w : Write) (session seq : BitVec 32)
  /-- A write to COMMIT of a host key with REMOVE (R480). -/
  | hostKeyRemove (w : Write) (session seq : BitVec 32)
  /-- A write to COMMIT of a group key with INSTALL (R480). -/
  | groupKeyInstall (w : Write) (session seq : BitVec 32)
  /-- A write to COMMIT of a group key with REMOVE (R480). -/
  | groupKeyRemove (w : Write) (session seq : BitVec 32)
  /-- A write to COMMIT of a stream key with INSTALL (R480). -/
  | streamKeyInstall (w : Write) (session seq : BitVec 32)
  /-- A write to COMMIT of a stream key with REMOVE (R480). -/
  | streamKeyRemove (w : Write) (session seq : BitVec 32)
  /-- JTAG EXTEST with a boundary register of `len` bits (R478). -/
  | extest (pins tdi len : Nat)
  /-- JTAG SAMPLE/PRELOAD (R478). -/
  | samplePreload (pins tdi len : Nat)
  /-- JTAG BYPASS, and every code not listed (R478). -/
  | bypass (tdi len : Nat)
  /-- The die sensors are read, in 1/16 °C (R498). -/
  | dieTempReading (temps : List (BitVec 16))
  /-- The core voltage target is updated: the lowest voltage in mV that leaves the margin, and DEVCLK_IN in Hz (R490, R496). -/
  | avsUpdate (lowest : BitVec 12) (devclk : List (BitVec 32))
  /-- A write to PEAK_CLEAR (R504). -/
  | peakClear (w : Write)
  /-- PORESET_N (0) or RESET_N (1) is released (R467). -/
  | resetPinRelease (pin : Fin 2)
  /-- An ARP reply or neighbour advertisement arrives (R336). -/
  | neighbourReply (l : Fin 17) (v6 : Bool) (ip : BitVec 128) (mac : BitVec 48)
  /-- A priority flow control frame arrives: the stream priority's mask bit and its quanta (R336). -/
  | pfcFrame (l : Fin 16) (mask : Byte) (quanta : BitVec 16)
  /-- A frame is dropped, with the FEC codewords counted since the last (R341). -/
  | frameDropped (l : Fin 17) (corrected uncorrected : BitVec 32)
  /-- A PMBus transaction ends (R497). -/
  | pmbusTransactionEnd (result : PmbusEnd)
  /-- The last line of the latched frame of output o has left its buffer (R277). -/
  | frameRetire (o : Fin 2)
  /-- The DAC of transmit link t resynchronises (R102). -/
  | jtxResynchronisation (t : Fin 4)
  /-- Core c issues its next word, of operation NOP. -/
  | nop (c : Fin 64)
  /-- Core c issues its next word, of operation ADD. -/
  | add (c : Fin 64)
  /-- Core c issues its next word, of operation SUB. -/
  | sub (c : Fin 64)
  /-- Core c issues its next word, of operation NEG. -/
  | neg (c : Fin 64)
  /-- Core c issues its next word, of operation ABS. -/
  | abs (c : Fin 64)
  /-- Core c issues its next word, of operation MAX. -/
  | max (c : Fin 64)
  /-- Core c issues its next word, of operation MIN. -/
  | min (c : Fin 64)
  /-- Core c issues its next word, of operation SEL. -/
  | sel (c : Fin 64)
  /-- Core c issues its next word, of operation CMP. -/
  | cmp (c : Fin 64)
  /-- Core c issues its next word, of operation TST. -/
  | tst (c : Fin 64)
  /-- Core c issues its next word, of operation AND. -/
  | and (c : Fin 64)
  /-- Core c issues its next word, of operation OR. -/
  | or (c : Fin 64)
  /-- Core c issues its next word, of operation XOR. -/
  | xor (c : Fin 64)
  /-- Core c issues its next word, of operation NOT. -/
  | not (c : Fin 64)
  /-- Core c issues its next word, of operation ASR. -/
  | asr (c : Fin 64)
  /-- Core c issues its next word, of operation LSR. -/
  | lsr (c : Fin 64)
  /-- Core c issues its next word, of operation ASL. -/
  | asl (c : Fin 64)
  /-- Core c issues its next word, of operation ASH. -/
  | ash (c : Fin 64)
  /-- Core c issues its next word, of operation MOV. -/
  | mov (c : Fin 64)
  /-- Core c issues its next word, of operation CONJ. -/
  | conj (c : Fin 64)
  /-- Core c issues its next word, of operation SWAP. -/
  | swap (c : Fin 64)
  /-- Core c issues its next word, of operation UNPK. -/
  | unpk (c : Fin 64)
  /-- Core c issues its next word, of operation VMAX. -/
  | vmax (c : Fin 64)
  /-- Core c issues its next word, of operation IADD. -/
  | iadd (c : Fin 64)
  /-- Core c issues its next word, of operation ISUB. -/
  | isub (c : Fin 64)
  /-- Core c issues its next word, of operation BEXP. -/
  | bexp (c : Fin 64)
  /-- Core c issues its next word, of operation EXP. -/
  | exp (c : Fin 64)
  /-- Core c issues its next word, of operation NORM. -/
  | norm (c : Fin 64)
  /-- Core c issues its next word, of operation BXR. -/
  | bxr (c : Fin 64)
  /-- Core c issues its next word, of operation MVA. -/
  | mva (c : Fin 64)
  /-- Core c issues its next word, of operation MVAR. -/
  | mvar (c : Fin 64)
  /-- Core c issues its next word, of operation MPY. -/
  | mpy (c : Fin 64)
  /-- Core c issues its next word, of operation MAC. -/
  | mac (c : Fin 64)
  /-- Core c issues its next word, of operation MSU. -/
  | msu (c : Fin 64)
  /-- Core c issues its next word, of operation MPYJ. -/
  | mpyj (c : Fin 64)
  /-- Core c issues its next word, of operation MACJ. -/
  | macj (c : Fin 64)
  /-- Core c issues its next word, of operation MAG2. -/
  | mag2 (c : Fin 64)
  /-- Core c issues its next word, of operation CLR. -/
  | clr (c : Fin 64)
  /-- Core c issues its next word, of operation ADDA. -/
  | adda (c : Fin 64)
  /-- Core c issues its next word, of operation LDA. -/
  | lda (c : Fin 64)
  /-- Core c issues its next word, of operation ASRA. -/
  | asra (c : Fin 64)
  /-- Core c issues its next word, of operation ASLA. -/
  | asla (c : Fin 64)
  /-- Core c issues its next word, of operation NEGA. -/
  | nega (c : Fin 64)
  /-- Core c issues its next word, of operation RND. -/
  | rnd (c : Fin 64)
  /-- Core c issues its next word, of operation CMPA. -/
  | cmpa (c : Fin 64)
  /-- Core c issues its next word, of operation MVFS. -/
  | mvfs (c : Fin 64)
  /-- Core c issues its next word, of operation MVTS. -/
  | mvts (c : Fin 64)
  /-- Core c issues its next word, of operation LDI. -/
  | ldi (c : Fin 64)
  /-- Core c issues its next word, of operation LDIS. -/
  | ldis (c : Fin 64)
  /-- Core c issues its next word, of operation IADDI. -/
  | iaddi (c : Fin 64)
  /-- Core c issues its next word, of operation ANDI. -/
  | andi (c : Fin 64)
  /-- Core c issues its next word, of operation ORI. -/
  | ori (c : Fin 64)
  /-- Core c issues its next word, of operation XORI. -/
  | xori (c : Fin 64)
  /-- Core c issues its next word, of operation CMPI. -/
  | cmpi (c : Fin 64)
  /-- Core c issues its next word, of operation ADDP. -/
  | addp (c : Fin 64)
  /-- Core c issues its next word, which has a load move (R321). -/
  | loadMove (c : Fin 64)
  /-- Core c issues its next word, which has a store move (R322). -/
  | storeMove (c : Fin 64)
  /-- Core c issues its next word, of operation BR. -/
  | br (c : Fin 64)
  /-- Core c issues its next word, of operation CALL. -/
  | call (c : Fin 64)
  /-- Core c issues its next word, of operation JMP. -/
  | jmp (c : Fin 64)
  /-- Core c issues its next word, of operation RTI. -/
  | rti (c : Fin 64)
  /-- Core c issues its next word, of operation LOOP. -/
  | loop (c : Fin 64)
  /-- Core c issues its next word, of operation LOOPD. -/
  | loopd (c : Fin 64)
  /-- Core c issues its next word, of operation REP. -/
  | rep (c : Fin 64)
  /-- Core c issues its next word, of operation REPD. -/
  | repd (c : Fin 64)
  /-- Core c issues its next word, of operation WAITB. -/
  | waitb (c : Fin 64)
  /-- Core c issues its next word, of operation CRD. -/
  | crd (c : Fin 64)
  /-- Core c issues its next word, of operation CWR. -/
  | cwr (c : Fin 64)
  /-- The beat in progress ends and the next begins (R15). -/
  | beatBoundary
  /-- The oldest accepted request that is due is performed (R56). -/
  | requestPerformance
  /-- A window of 1,024 beats ends (R79). -/
  | limitWindowEnd
  /-- The hash chain first in order completes (R220). -/
  | evidenceComplete
  /-- The compositor's tick (R267). -/
  | compositeTick
  /-- The frame in composition is complete (R267). -/
  | compositeComplete
  /-- No TE_IN edge for TE_TIMEOUT (R278). -/
  | teTimeout
  /-- Link training is tried again (R285). -/
  | dpTrainingRetry
  /-- A vector tick (R384). -/
  | vecTick
  /-- The reference has been silent (R394, R395). -/
  | timeRefLoss
  /-- HOLDOVER has lasted HOLD_MAX seconds (R395). -/
  | holdoverExpiry
  /-- The learned slope of the day is due (R393). -/
  | ageingLearn
  /-- A held step of the servo may be made (R397). -/
  | heldStep
  /-- The oldest measurement may close (R408). -/
  | tiuMeasurementClose
  /-- The auxiliary reference has settled (R441). -/
  | auxRefReady
  /-- The filter starts on its boundary (R443). -/
  | auxFilterStart
  /-- PORESET_N is asserted (R467). -/
  | powerOnReset
  /-- RESET_N is asserted (R467). -/
  | coldResetPin
  /-- The watchdog expires (R467). -/
  | watchdogReset
  /-- The image starts its reduced service (R470). -/
  | thawEntry
  /-- The conditions for FLOW hold (R475). -/
  | flowEntry
  /-- JTAG IDCODE (R478). -/
  | idcode
  /-- JTAG HALT_CAUSE (R478). -/
  | haltCause
  /-- The margin falls below the requirement (R496). -/
  | avsRaise
  /-- PMB_ALERT_N is asserted (R496). -/
  | pmbAlert
  /-- The last PMBus command is due again (R497). -/
  | avsRetry
  /-- An uncorrectable error in the keeper-core region (R477). -/
  | keeperFault
deriving DecidableEq, Repr

end Sys2Proof
end

