-- ==== Sys2Proof/Config.lean ====
section
/-! DEFINITION. What an implementation fixes and what the specification leaves open: the free values. Each is an opaque
constant, so that no proof can see its value. -/
namespace Sys2Proof.Config

/-- C of an ASR or LSR by 0 (R328: C is the last bit shifted out, and no bit is): a free value of the operand (log entry 10). -/
opaque shiftByZeroCarry : Word48 → Bool
/-- C of a complex ASR (R328 names one last bit, and two components shift): a free value of operand and count (log entry 10). -/
opaque complexShiftCarry : Word48 → Nat → Bool

/-- LATENCY of transmit link `t` in output samples (R102: fixed, and given no value), in 32 bits (log entry 11). -/
opaque jtxLatency : Nat → BitVec 32

/-- PIPE_LATENCY of a lane in core cycles under its settings (R132: given no value). -/
opaque pipeLatency : List Nat → BitVec 16
/-- Tap `t` of the fixed 63-tap half-band filter (R106: given no values), Q1.17. -/
opaque halfBandTap : Nat → BitVec 18
/-- Tap `t` of phase `p` of the fixed interpolator (R106: given no values), Q1.17. -/
opaque resampTap : Nat → Nat → BitVec 18
/-- The last-place error of the mixer's 24-bit cosine or sine (true) at a phase (R106: its table is not given). -/
opaque mixError : Nat → Bool → Int

/-- What a window whose entries sum to 0 makes of WIN_INFO and RBW (R154 divides by the sum; log entry 14). -/
opaque zeroSumWindow : Nat → BitVec 64
/-- What a window whose entries sum to 0 makes of a bin's dBq value (R148 divides by the sum; log entry 14). -/
opaque dbqZeroSum : Nat → Nat → Int
/-- The error of a mantissa (R147): of free value `n`, bin `k`, component `c`, in steps; used within n + 2 steps. -/
opaque transformError : Nat → Nat → Nat → Int
/-- Which exponent the transform settles on where R147's error admits its neighbours, of free value `n`: -1, 0 or 1 (log entry 13). -/
opaque transformExponent : Nat → Int
/-- The error of the logarithm of R148 before rounding, in 2^-80 dBq; used within half a dBq. -/
opaque dbqError : Nat → Nat → Int

/-- The O, G and M flags that a trigger report carries of a sample that has not left its lane (R173; log entry 15): three
bits, of free value `n`. -/
opaque unseenFlags : Nat → BitVec 3
/-- The last decision index of a unit that ended its armed interval without evaluating any (R195; log entry 15). -/
opaque noDecision : Nat → BitVec 64
/-- Whether a path of trigger unit `u` that crosses the core's time on the safe clock misses its bound, of free value `n` (R190). -/
opaque lateFire : Nat → Nat → Bool
/-- 1,280 log10 of an envelope of 0 (R193; log entry 16). -/
opaque logOfZero : Int

/-- Byte `k` of a line whose write failed all four attempts, of free value `n` (R242: undefined data). -/
opaque failedLine : Nat → Nat → Byte

/-- The item after the last window in the END record of an arm that had no window (R219 names none; log entry 18). -/
opaque noWindowEnd : Nat → BitVec 64
/-- Byte `k` of the SHA-384 fingerprint of the device identity certificate (R220, R479). -/
opaque deviceFingerprint : Nat → Byte
/-- Byte `k` of an ECDSA P-384 signature, r then s, of a SHA-384 digest by the identity key (R39, R220). -/
opaque identitySignature : Nat → Nat → Byte

/-- Whether a new target of a PLL lies in the band it is locked in: band, old and new target in kHz (R415 gives the bands no
edges; log entry 20). -/
opaque inBand : Nat → Nat → Nat → Bool
/-- The row of a value under a SPAN of 0 (R267 divides by it; log entry 21). -/
opaque zeroSpan : Int → BitVec 16
/-- Point, decision index, q and flags of a density condition of a frame that counted no spectrum (R179; log entry 22). -/
opaque emptyFrame : Nat → BitVec 64

/-- Byte `k` of the AES-256-GCM ciphertext and tag (the 16 last bytes) of data under a key, a 96-bit IV and additional data, each as
the number its bytes spell (R350). -/
opaque gcmByte : Nat → Nat → Nat → Nat → Nat → Byte
/-- A number drawn from the true random number generator: `n` bits, of free value `k` (R39, R352). -/
opaque random : Nat → Nat → Nat
/-- The status number of an EV_WVR_FAULT whose cause names no status (R318): of the cause (log entry 26). -/
opaque faultStatus : Nat → BitVec 16
/-- What CRD reads of a control word that R309 gives no read (log entry 31): of free value `n` and the word's address. -/
opaque unreadWord : Nat → Nat → BitVec 48

/-- The frequency term of y that the servo asks for after an update, in 10^-12 (R395 gives the loop a time constant and no gains): of
free value `n`, the offset in 2^-16 ns, the frequency error and TAU. -/
opaque servo : Nat → Int → Int → Nat → Int
/-- The part of y that corrects the time offset, asked for in the same way; used within SLEW_MAX (R392). -/
opaque slew : Nat → Int → Nat → Int
/-- The slope of the line fitted to the y values held over 7 days, in 10^-12 a day (R393 names no fit): of the list of them, each
with the cycle count of its start and whether the time base was LOCKED. -/
opaque ageFit : List (Nat × Int × Bool) → BitVec 32
/-- The position of an edge within its core cycle, in 2^-16 ns, before the first calibration table has passed (R407): of free value
`n`. -/
opaque uncalPosition : Nat → BitVec 16

/-- What a calibration estimate whose statistic is 0 gives (R431 divides by it; log entry 28): of free value `n` and the value's place. -/
opaque zeroStatistic : Nat → Nat → Int

/-- Whether an ECDSA P-384 signature (r then s) of a SHA-384 digest verifies under a public key (R39, R472). -/
opaque signatureVerifies : List Byte → List Byte → List Byte → Bool
/-- Whether 97 bytes are a point of P-384 in uncompressed form (R480, R506). -/
opaque onCurve : List Byte → Bool
/-- The engine's ephemeral public key of handshake `n`, byte `k`, and byte `k` of the shared secret with a public key (R39). -/
opaque ephemeralKey : Nat → Nat → Byte
opaque sharedSecret : Nat → List Byte → Nat → Byte
/-- The device identity certificate in DER (R39): its bytes. -/
opaque certificate : List Byte
/-- The plain text of AES-256-GCM under a key, IV and additional data, if its tag holds (R480). -/
opaque gcmOpen : List Byte → List Byte → List Byte → List Byte → Option (List Byte)
/-- Byte `k` of the SHA-384 hash of key `i` in the fuses (R473). -/
opaque fusedKeyHash : Nat → Nat → Byte
/-- Whether the identity key and certificate can be read from the Firn store (R477). -/
opaque firnReadable : Nat → Bool

end Sys2Proof.Config
end

