-- ==== Sys2Proof/Machine/Bytes.lean ====
section
/-! DEFINITION. Byte order (R3), bit fields and signed numbers: the helpers that every other file reads and writes
multi-byte fields with. -/
namespace Sys2Proof.Machine

/-- `n` bytes of `v`, most significant byte first (R3). -/
def beBytes : Nat → Nat → List Byte
  | 0, _ => []
  | n + 1, v => BitVec.ofNat 8 (v / 256 ^ n) :: beBytes n v

/-- The number that bytes spell, most significant byte first (R3). -/
def beNat (l : List Byte) : Nat := l.foldl (fun a b => a * 256 + b.toNat) 0

/-- Bits `hi` to `lo` of a number. -/
def bits (v hi lo : Nat) : Nat := v / 2 ^ lo % 2 ^ (hi + 1 - lo)

/-- The number with bits `hi` to `lo` replaced by `x`. -/
def setBits (v hi lo x : Nat) : Nat :=
  v - bits v hi lo * 2 ^ lo + x % 2 ^ (hi + 1 - lo) * 2 ^ lo

/-- Bit `i` of a number. -/
def bit (v i : Nat) : Bool := v / 2 ^ i % 2 == 1

/-- 1 for true and 0 for false. -/
def b2n (b : Bool) : Nat := if b then 1 else 0

/-- The signed value of a `w`-bit two's-complement field. -/
def sgn (w v : Nat) : Int := if v % 2 ^ w < 2 ^ (w - 1) then (v % 2 ^ w : Nat) else (v % 2 ^ w : Nat) - (2 ^ w : Nat)

/-- A signed 18-bit Q1.17 code in units of 2^-17. 0x2_0000 stands for +1.0, which the identity values of R427 need (log
entry 13). -/
def q117 (v : Nat) : Int := if v % 2 ^ 18 ≤ 2 ^ 17 then (v % 2 ^ 18 : Nat) else (v % 2 ^ 18 : Nat) - (2 ^ 18 : Nat)

/-- The `w`-bit two's-complement field of a signed value. -/
def uns (w : Nat) (v : Int) : Nat := (v % (2 ^ w : Nat)).toNat

/-- A signed value clamped to `w` bits (saturation). -/
def satS (w : Nat) (v : Int) : Int :=
  if v > (2 ^ (w - 1) : Nat) - 1 then (2 ^ (w - 1) : Nat) - 1 else if v < -((2 ^ (w - 1) : Nat) : Int) then -((2 ^ (w - 1) : Nat) : Int) else v

/-- An unsigned count clamped to `w` bits. -/
def satU (w v : Nat) : Nat := if v < 2 ^ w then v else 2 ^ w - 1

/-- `n / d` rounded to nearest, ties to even: convergent rounding, the rule wherever the manual names no other. -/
def rndEven (n : Int) (d : Nat) : Int :=
  let q := n.fdiv d
  let r := n - q * d
  if 2 * r > d then q + 1 else if 2 * r < d then q else if q % 2 = 0 then q else q + 1

/-- `n / d` rounded up. -/
def ceilDiv (n d : Nat) : Nat := (n + d - 1) / d

/-- `n / d` rounded up, signed; `d` is positive. -/
def iceilDiv (n : Int) (d : Nat) : Int := -((-n).fdiv d)

/-- The largest `n` with `2 ^ n ≤ v`; 0 for 0. -/
def log2 (v : Nat) : Nat := Nat.log2 v

/-- The integer square root, rounded down, by bisection over `fuel` bits. -/
def isqrtAux : Nat → Nat → Nat → Nat
  | 0, _, a => a
  | n + 1, v, a => let a' := a + 2 ^ n; if a' * a' ≤ v then isqrtAux n v a' else isqrtAux n v a

/-- The integer square root, rounded down. -/
def isqrt (v : Nat) : Nat := isqrtAux (v.log2 / 2 + 1) v 0

/-- A list of `n` zero bytes. -/
def zeros (n : Nat) : List Byte := List.replicate n 0

/-- The first `n` bytes, padded with zeros. -/
def fixLen (n : Nat) (l : List Byte) : List Byte := (l ++ zeros n).take n

/-- Cut a list into pieces of `n`, from its front (`fuel` pieces at most). -/
def chunksAux {α : Type} (n : Nat) : Nat → List α → List (List α)
  | 0, _ => []
  | k + 1, l => if l.isEmpty then [] else l.take n :: chunksAux n k (l.drop n)

/-- Cut a list into pieces of `n`; the last may be shorter. -/
def chunks {α : Type} (n : Nat) (l : List α) : List (List α) := chunksAux n l.length l

/-- Insertion sort by a key, stable. -/
def insertBy {α : Type} (key : α → Nat) (x : α) : List α → List α
  | [] => [x]
  | y :: t => if key x < key y then x :: y :: t else y :: insertBy key x t

/-- Sort by a key, stable. -/
def sortBy {α : Type} (key : α → Nat) (l : List α) : List α := l.foldl (fun acc x => insertBy key x acc) []

/-- The numbers `0 … n - 1` for which `p` holds. -/
def which (n : Nat) (p : Nat → Bool) : List Nat := (List.range n).filter p

/-- The mask with bit `i` set for each `i < n` with `p i`. -/
def maskOf (n : Nat) (p : Nat → Bool) : Nat := (List.range n).foldl (fun a i => if p i then a + 2 ^ i else a) 0

end Sys2Proof.Machine
end

