-- ==== Sys2Proof/Machine/Codec.lean ====
section
/-! DEFINITION. The sample codec (R357, R358, R362): coded blocks, their checks, and CRC-32C. -/
namespace Sys2Proof.Machine

/-- One bit of the reflected CRC-32C division. -/
def crcBit (c : Nat) : Nat := if c % 2 = 1 then Nat.xor (c / 2) 0x82F63B78 else c / 2
/-- One byte of it. -/
def crcByte (c : Nat) (v : Byte) : Nat := (List.range 8).foldl (fun a _ => crcBit a) (Nat.xor c v.toNat)
/-- CRC-32C of bytes. -/
def crc32c (l : List Byte) : Nat := Nat.xor (l.foldl crcByte (2 ^ 32 - 1)) (2 ^ 32 - 1)

/-- Packed samples as pairs of unsigned `w`-bit components (R211). -/
def unpackPairs (w : Nat) (l : List Byte) : List (Nat × Nat) :=
  (chunks (max 1 (w / 4)) l).map (fun c => (beNat c / 2 ^ w, beNat c % 2 ^ w))
/-- The packing layout of pairs. -/
def packPairs (w : Nat) (l : List (Nat × Nat)) : List Byte := (l.map (fun p => beBytes (w / 4) (p.1 * 2 ^ w + p.2))).flatten

/-- The bits of `v`, `n` of them, most significant first. -/
def msbBits (n v : Nat) : List Bool := (List.range n).map (fun i => bit v (n - 1 - i))

/-- The prediction of a sample from the two before it (R358). -/
def predOf (p : Nat) (x1 x2 : Int) : Int := if p = 0 then 0 else if p = 1 then x1 else 2 * x1 - x2

/-- u of a residue: e as a zig-zag value of `w` bits. -/
def zigzag (w : Nat) (e : Int) : Nat := if 0 ≤ e then (2 * e).toNat % 2 ^ w else (-2 * e - 1).toNat % 2 ^ w
/-- The residue that u stands for. -/
def unzigzag (u : Nat) : Int := if u % 2 = 0 then (u / 2 : Nat) else -((u / 2 + 1 : Nat) : Int)

/-- The bits of u under parameter k. -/
def riceBits (w k u : Nat) : List Bool :=
  let q := u / 2 ^ k
  if q < 16 then List.replicate q true ++ [false] ++ msbBits k (u % 2 ^ k) else List.replicate 16 true ++ msbBits w u

/-- k of the next sub-block from the sum of the last. -/
def nextK (w s : Nat) : Nat := if s / 64 = 0 then 0 else min (w - 1) (log2 (s / 64))

/-- The coder's state: the sample number, k, the sum of its sub-block and the two samples before. -/
structure RiceSt where
  i : Nat
  k : Nat
  sum : Nat
  x1 : Int
  x2 : Int
deriving DecidableEq, Repr

/-- The state after a sample with value `x` and residue code `u`. -/
def RiceSt.step (s : RiceSt) (w : Nat) (x : Int) (u : Nat) : RiceSt :=
  let sum := s.sum + u
  if (s.i + 1) % 64 = 0 then ⟨s.i + 1, nextK w sum, 0, x, s.x1⟩ else ⟨s.i + 1, s.k, sum, x, s.x1⟩

/-- The bits of one component (R358). -/
def codeBits (w p : Nat) (s : RiceSt) : List Nat → List Bool
  | [] => []
  | v :: t =>
    let x := sgn w v
    let u := zigzag w (sgn w (uns w (x - predOf p s.x1 s.x2)))
    riceBits w s.k u ++ codeBits w p (s.step w x u) t

/-- Bits as bytes, padded with 0. -/
def bitsToBytes (l : List Bool) : List Byte :=
  (chunks 8 l).map (fun c => BitVec.ofNat 8 ((c.foldl (fun a x => 2 * a + b2n x) 0) * 2 ^ (8 - c.length)))

/-- The part of one component. -/
def codePart (w p : Nat) (l : List Nat) : List Byte := bitsToBytes (codeBits w p ⟨0, w / 2, 0, 0, 0⟩ l)

/-- A coded block of packed samples, and whether it is raw (R357, R359): raw where coding gains nothing, or where the verifier
found a mismatch. -/
def codeBlock (w p : Nat) (data : List Byte) (mismatch : Bool) : List Byte × Bool :=
  let l := unpackPairs w data
  let i := codePart w p (l.map (·.1))
  let q := codePart w p (l.map (·.2))
  let n := data.length / (w / 4)
  let raw := mismatch || decide (n * 2 * w / 8 ≤ i.length + q.length)
  let head (mode il ql : Nat) : List Byte :=
    beBytes 1 (16 + 4 * mode + p) ++ beBytes 1 w ++ beBytes 2 n ++ beBytes 4 il ++ beBytes 4 ql ++ beBytes 4 (crc32c data)
  if raw then (head 1 data.length 0 ++ data, true) else (head 0 i.length q.length ++ i ++ q, false)

/-- Split a run of ones off the front, at most `m`. -/
def takeOnes : Nat → List Bool → Nat × List Bool
  | m + 1, true :: t => let (n, r) := takeOnes m t; (n + 1, r)
  | _, l => (0, l)

/-- The number that bits spell. -/
def bitsNat (l : List Bool) : Nat := l.foldl (fun a x => 2 * a + b2n x) 0

/-- One value u from the bits; none when they end before it. -/
def readRice (w k : Nat) (l : List Bool) : Option (Nat × List Bool) :=
  let (q, r) := takeOnes 16 l
  if q = 16 then (if r.length < w then none else some (bitsNat (r.take w), r.drop w))
  else if r.length < k + 1 then none
  else some (q * 2 ^ k + bitsNat ((r.drop 1).take k), r.drop (k + 1))

/-- `n` values of one component; none when the bits end early or more than 7 are left. -/
def decodeBits (w p : Nat) : Nat → RiceSt → List Bool → Option (List Int)
  | 0, _, l => if l.length ≤ 7 then some [] else none
  | n + 1, s, l =>
    match readRice w s.k l with
    | none => none
    | some (u, r) =>
      let x := sgn w (uns w (unzigzag u + predOf p s.x1 s.x2))
      (decodeBits w p n (s.step w x u) r).map (x :: ·)

def decodePart (w p n : Nat) (l : List Byte) : Option (List Int) :=
  decodeBits w p n ⟨0, w / 2, 0, 0, 0⟩ ((l.map (fun v => msbBits 8 v.toNat)).flatten)

/-- The samples of a coded block; none for a FORMAT violation of R362, predictor code 3 among them (DEDUCED, log entry 161). -/
def decodeBlock (l : List Byte) : Option (List (Int × Int)) :=
  let h := (l.getD 0 0).toNat
  let w := (l.getD 1 0).toNat
  let n := beNat ((l.drop 2).take 2)
  let il := beNat ((l.drop 4).take 4)
  let ql := beNat ((l.drop 8).take 4)
  let body := l.drop 16
  if h / 16 ≠ 1 ∨ 2 ≤ bits h 3 2 ∨ !([12, 16, 24].contains w) ∨ body.length < il + ql then none
  else
    let vals :=
      if bits h 3 2 = 1 then
        if il ≠ n * (w / 4) ∨ ql ≠ 0 then none else some ((unpackPairs w (body.take il)).map (fun p => (sgn w p.1, sgn w p.2)))
      else
        if bits h 1 0 = 3 then none else
        match decodePart w (bits h 1 0) n (body.take il), decodePart w (bits h 1 0) n ((body.drop il).take ql) with
        | some i, some q => some (i.zip q)
        | _, _ => none
    match vals with
    | none => none
    | some v =>
      if crc32c (packPairs w (v.map (fun p => (uns w p.1, uns w p.2)))) = beNat ((l.drop 12).take 4) then
        some (v.map (fun p => (p.1 * ((2 ^ (24 - w) : Nat) : Int), p.2 * ((2 ^ (24 - w) : Nat) : Int))))
      else none

end Sys2Proof.Machine
end

