-- ==== Sys2Proof/Machine/Keys.lean ====
section
/-! DEFINITION. The keys of the parameters (R4), each with instance 0: the block code in bits 31:24 and the item in bits
15:0; an instance adds to bits 23:16 and an array item to bits 15:0. -/
namespace Sys2Proof.Machine.K

abbrev SYS_STATE : Nat := 0x01000001
abbrev SYS_SLOT_MAP : Nat := 0x01000010
abbrev SYS_XFM_BUDGET_USED : Nat := 0x01000011
abbrev SYS_HIST_BUDGET_USED : Nat := 0x01000012
abbrev SYS_BEAT : Nat := 0x01000013
abbrev SYS_BCP_CMD_PORT : Nat := 0x01000020
abbrev SYS_BCP_EVT_PORT : Nat := 0x01000021
abbrev SYS_BCP_IDLE_TIMEOUT : Nat := 0x01000022
abbrev SYS_BCP_SESSIONS : Nat := 0x01000023
abbrev SYS_BCP_AUTH_FAIL : Nat := 0x01000024
abbrev SYS_BCP_DROPPED : Nat := 0x01000025
abbrev SYS_BCP_SEQ_REJECT : Nat := 0x01000026
abbrev SYS_RESET_CAUSE : Nat := 0x01000030
abbrev SYS_DEGRADED_CAUSES : Nat := 0x01000031
abbrev SYS_FLOW_CFG : Nat := 0x01000032
abbrev SYS_LAST_HALT : Nat := 0x01000033
abbrev SYS_FW_VERSION : Nat := 0x01000034
abbrev SYS_FLOW_PENDING : Nat := 0x01000035
abbrev SYS_WDOG_RESETS : Nat := 0x01000036
abbrev EVT_OUT_CFG0 : Nat := 0x02000010
abbrev EVT_OUT_CFG1 : Nat := 0x02000011
abbrev EVT_OUT_ACK : Nat := 0x02000012
abbrev EVT_OUT_STATE : Nat := 0x02000013
abbrev EVT_LOST : Nat := 0x02000014
abbrev EVT_SRC_CFG : Nat := 0x02001000
abbrev EVT_SRC_COUNT : Nat := 0x02002000
abbrev EVT_SRC_SUPPRESSED : Nat := 0x02003000
abbrev CLK_FMAX : Nat := 0x03000010
abbrev CLK_LOOP : Nat := 0x03000011
abbrev CLK_DITHER : Nat := 0x03000012
abbrev CLK_RELOCK : Nat := 0x03000014
abbrev CLK_STATUS : Nat := 0x03000020
abbrev CLK_FREQ_OUT : Nat := 0x03000021
abbrev CLK_LAST_LOCK : Nat := 0x03000022
abbrev CLK_UNLOCKS : Nat := 0x03000030
abbrev CLK_RELOCK_FAIL : Nat := 0x03000031
abbrev CLK_SAFE_BEATS : Nat := 0x03000032
abbrev CLK_BASE_RATE : Nat := 0x03000013
abbrev JRX_LANES : Nat := 0x04000010
abbrev JRX_FRAME : Nat := 0x04000011
abbrev JRX_MBLOCK : Nat := 0x04000012
abbrev JRX_POLARITY : Nat := 0x04000013
abbrev JRX_SKEW_REF : Nat := 0x04000014
abbrev JRX_STATUS : Nat := 0x04000020
abbrev JRX_LATENCY : Nat := 0x04000021
abbrev JRX_ARRIVAL : Nat := 0x04000022
abbrev JRX_SKEW : Nat := 0x04000023
abbrev JRX_MARGIN : Nat := 0x04000024
abbrev JRX_RATE_PPM : Nat := 0x04000025
abbrev JRX_HDR_ERR : Nat := 0x04000030
abbrev JRX_ALIGN_ERR : Nat := 0x04000031
abbrev JRX_CRC_ERR : Nat := 0x04000032
abbrev JRX_ELASTIC_ERR : Nat := 0x04000033
abbrev JRX_GAP_SAMPLES : Nat := 0x04000034
abbrev JRX_SPI_CFG : Nat := 0x04000010
abbrev JRX_SPI_TX : Nat := 0x04000011
abbrev JRX_SPI_RX : Nat := 0x04000012
abbrev JRX_SPI_GO : Nat := 0x04000013
abbrev JRX_SPI_STAT : Nat := 0x04000014
abbrev LANE_SOURCE : Nat := 0x05000008
abbrev LANE_CFG : Nat := 0x05000010
abbrev LANE_CORR_CTRL : Nat := 0x05000011
abbrev LANE_NCO_FREQ : Nat := 0x05000012
abbrev LANE_NCO_CTRL : Nat := 0x05000013
abbrev LANE_NCO_SYNC : Nat := 0x05000014
abbrev LANE_CIC : Nat := 0x05000015
abbrev LANE_MA : Nat := 0x05000016
abbrev LANE_FIR_CFG : Nat := 0x05000017
abbrev LANE_FIR_STATE : Nat := 0x05000018
abbrev LANE_SWAP_AT : Nat := 0x05000019
abbrev LANE_XFADE : Nat := 0x0500001A
abbrev LANE_RESAMP : Nat := 0x0500001B
abbrev LANE_GAIN : Nat := 0x0500001C
abbrev LANE_DET_CTRL : Nat := 0x0500001D
abbrev LANE_SETTLE_COUNT : Nat := 0x05000020
abbrev LANE_SETTLE_START : Nat := 0x05000021
abbrev LANE_SETTLE_CAUSE : Nat := 0x05000022
abbrev LANE_INDEX : Nat := 0x05000023
abbrev LANE_EPOCH_BEAT : Nat := 0x05000024
abbrev LANE_ANCHOR_INDEX : Nat := 0x05000025
abbrev LANE_ANCHOR_INPUT : Nat := 0x05000026
abbrev LANE_STEP_Q : Nat := 0x05000027
abbrev LANE_F_IN : Nat := 0x05000028
abbrev LANE_PIPE_LATENCY : Nat := 0x05000029
abbrev LANE_GROUP_DELAY : Nat := 0x0500002A
abbrev LANE_RETUNE_INDEX : Nat := 0x0500002B
abbrev LANE_DET_PEAK : Nat := 0x05000030
abbrev LANE_DET_PEAK_INDEX : Nat := 0x05000031
abbrev LANE_DET_MEAN : Nat := 0x05000032
abbrev LANE_DET_ENV : Nat := 0x05000033
abbrev LANE_DET_COUNT : Nat := 0x05000034
abbrev LANE_OVR_COUNT : Nat := 0x05000040
abbrev LANE_GAP_COUNT : Nat := 0x05000041
abbrev LANE_SAT_MASK : Nat := 0x05000042
abbrev LANE_FIR_A : Nat := 0x05001000
abbrev LANE_FIR_B : Nat := 0x05001200
abbrev XFM_CFG : Nat := 0x06000010
abbrev XFM_ALIGN : Nat := 0x06000011
abbrev XFM_OUT_RANGE : Nat := 0x06000012
abbrev XFM_POWER_OFFS : Nat := 0x06000013
abbrev XFM_EXCL : Nat := 0x06000014
abbrev XFM_COST : Nat := 0x06000020
abbrev XFM_RBW : Nat := 0x06000021
abbrev XFM_NEXT_Q : Nat := 0x06000022
abbrev XFM_SPECTRA : Nat := 0x06000030
abbrev XFM_UNSETTLED : Nat := 0x06000031
abbrev XFM_GAPS : Nat := 0x06000032
abbrev XFM_OVERRANGE : Nat := 0x06000033
abbrev XFM_LATE : Nat := 0x06000034
abbrev XFM_TRC_SRC : Nat := 0x06000010
abbrev XFM_TRC_PERIOD : Nat := 0x06000011
abbrev XFM_TRC_COLS : Nat := 0x06000012
abbrev XFM_TRC_CLEAR : Nat := 0x06000013
abbrev XFM_TRC_SEQ : Nat := 0x06000020
abbrev XFM_TRC_LAST_BEAT : Nat := 0x06000021
abbrev XFM_WIN_POOL : Nat := 0x06000013
abbrev XFM_WIN_CFG : Nat := 0x06000010
abbrev XFM_WIN_INFO : Nat := 0x06000011
abbrev XFM_WIN_GAIN : Nat := 0x06000012
abbrev XFM_WIN_E : Nat := 0x06004000
abbrev TRG_SRC : Nat := 0x07000010
abbrev TRG_SEL : Nat := 0x07000011
abbrev TRG_THRESH : Nat := 0x07000012
abbrev TRG_HYST : Nat := 0x07000013
abbrev TRG_QUAL : Nat := 0x07000014
abbrev TRG_QUAL_THRESH : Nat := 0x07000015
abbrev TRG_QUAL_GATE : Nat := 0x07000016
abbrev TRG_NM : Nat := 0x07000017
abbrev TRG_HOLD : Nat := 0x07000018
abbrev TRG_HOLD_LEN : Nat := 0x07000019
abbrev TRG_OFFS : Nat := 0x0700001A
abbrev TRG_TIME_AT : Nat := 0x0700001B
abbrev TRG_TIME_PERIOD : Nat := 0x0700001C
abbrev TRG_DEN : Nat := 0x0700001D
abbrev TRG_ACT_CAP : Nat := 0x07000020
abbrev TRG_ACT : Nat := 0x07000021
abbrev TRG_ACT_JUMP : Nat := 0x07000022
abbrev TRG_TEST_CFG : Nat := 0x07000023
abbrev TRG_TEST_POST : Nat := 0x07000024
abbrev TRG_TEST_LIM : Nat := 0x07000025
abbrev TRG_MASK_CFG : Nat := 0x07000026
abbrev TRG_ARM_STATE : Nat := 0x07000030
abbrev TRG_FIRES : Nat := 0x07000031
abbrev TRG_HELD_OFF : Nat := 0x07000032
abbrev TRG_QUAL_BLOCKED : Nat := 0x07000033
abbrev TRG_ACT_DROPPED : Nat := 0x07000034
abbrev TRG_LAST_POINT : Nat := 0x07000035
abbrev TRG_LAST_DECISION : Nat := 0x07000036
abbrev TRG_FIRE_SEQ : Nat := 0x07000037
abbrev TRG_TESTS : Nat := 0x07000038
abbrev TRG_FAILS : Nat := 0x07000039
abbrev TRG_REGION : Nat := 0x07000040
abbrev TRG_MASK_U : Nat := 0x07002000
abbrev TRG_MASK_L : Nat := 0x07004000
abbrev TRG_OUT_CFG : Nat := 0x07000010
abbrev TRG_OUT_DELAY : Nat := 0x07000011
abbrev TRG_OUT_PULSES : Nat := 0x07000020
abbrev TRG_OUT_LATE : Nat := 0x07000021
abbrev TRG_IN_EDGES : Nat := 0x07000020
abbrev TRG_IN_LOST : Nat := 0x07000021
abbrev TRG_IN_LEVEL : Nat := 0x07000022
abbrev CAP_CFG : Nat := 0x08000010
abbrev CAP_RING : Nat := 0x08000011
abbrev CAP_THAW_RING : Nat := 0x08000012
abbrev CAP_PRE : Nat := 0x08000013
abbrev CAP_POST : Nat := 0x08000014
abbrev CAP_SEG_COUNT : Nat := 0x08000015
abbrev CAP_STREAM : Nat := 0x08000016
abbrev CAP_MARK : Nat := 0x08000017
abbrev CAP_CAP_BYTES : Nat := 0x08000020
abbrev CAP_BASE_ADDR : Nat := 0x08000021
abbrev CAP_ARM_STATE : Nat := 0x08000022
abbrev CAP_WR_PTR : Nat := 0x08000023
abbrev CAP_OLDEST_PTR : Nat := 0x08000024
abbrev CAP_OLDEST_SEQ : Nat := 0x08000025
abbrev CAP_NEXT_SEQ : Nat := 0x08000026
abbrev CAP_CAPTURE_PTR : Nat := 0x08000027
abbrev CAP_ARM_SEQ : Nat := 0x08000028
abbrev CAP_SEGMENTS : Nat := 0x08000029
abbrev CAP_GAP_RECORDS : Nat := 0x08000030
abbrev CAP_GAP_ITEMS : Nat := 0x08000031
abbrev CAP_TRG_SECONDARY : Nat := 0x08000032
abbrev CAP_TRG_TOO_SOON : Nat := 0x08000033
abbrev CAP_TRG_IGNORED : Nat := 0x08000034
abbrev CAP_PACK_SAT : Nat := 0x08000035
abbrev CAP_RPL_SRC : Nat := 0x08000010
abbrev CAP_RPL_FROM : Nat := 0x08000011
abbrev CAP_RPL_TO : Nat := 0x08000012
abbrev CAP_RPL_RATE : Nat := 0x08000013
abbrev CAP_RPL_FIRST : Nat := 0x08000020
abbrev CAP_RPL_POS : Nat := 0x08000021
abbrev CAP_RPL_STATE : Nat := 0x08000022
abbrev CAP_RPL_DRY : Nat := 0x08000030
abbrev MEM_NR_CFG : Nat := 0x09000010
abbrev MEM_TRAIN_PERIOD : Nat := 0x09000011
abbrev MEM_ERR_LIMIT : Nat := 0x09000012
abbrev MEM_SLEEP : Nat := 0x09000013
abbrev MEM_N_PC : Nat := 0x09000014
abbrev MEM_UNIT_BYTES : Nat := 0x09000015
abbrev MEM_TOLERANCE : Nat := 0x09000016
abbrev MEM_UNIT : Nat := 0x09001000
abbrev MEM_TEMP : Nat := 0x09000020
abbrev MEM_PC_OK : Nat := 0x09000021
abbrev MEM_NR_INSERTED : Nat := 0x09000030
abbrev MEM_HOT_ENTRIES : Nat := 0x09000031
abbrev MEM_PORT_CFG : Nat := 0x09000010
abbrev MEM_PORT_STAT : Nat := 0x09000020
abbrev MEM_FIFO_BYTES : Nat := 0x09000021
abbrev MEM_PANIC_COUNT : Nat := 0x09000030
abbrev MEM_PANIC_BEATS : Nat := 0x09000031
abbrev MEM_PC_STATE : Nat := 0x09000020
abbrev MEM_TRAIN_LAST_BEAT : Nat := 0x09000021
abbrev MEM_LANE_ERR : Nat := 0x09000030
abbrev MEM_TRAIN_FAIL : Nat := 0x09000031
abbrev MEM_LINE_FAIL : Nat := 0x09000032
abbrev MEM_BURST_REFRESH : Nat := 0x09000033
abbrev DEN_SRC : Nat := 0x0A000010
abbrev DEN_GEOM : Nat := 0x0A000011
abbrev DEN_ROW_MAP : Nat := 0x0A000012
abbrev DEN_FRAME : Nat := 0x0A000013
abbrev DEN_DECAY : Nat := 0x0A000014
abbrev DEN_CMAP : Nat := 0x0A000015
abbrev DEN_IMG_BUF : Nat := 0x0A000016
abbrev DEN_DUMP : Nat := 0x0A000017
abbrev DEN_CLEAR : Nat := 0x0A000018
abbrev DEN_TILES : Nat := 0x0A000020
abbrev DEN_FRAME_SEQ : Nat := 0x0A000021
abbrev DEN_WEIGHT : Nat := 0x0A000022
abbrev DEN_SPECTRA : Nat := 0x0A000030
abbrev DEN_EXCLUDED : Nat := 0x0A000031
abbrev DEN_CLIPPED : Nat := 0x0A000032
abbrev DEN_SAT_CELLS : Nat := 0x0A000033
abbrev DEN_IMG_SKIPPED : Nat := 0x0A000034
abbrev DEN_COLOUR : Nat := 0x0A001000
abbrev DEN_ROW_TAB : Nat := 0x0A002000
abbrev DEN_SPG_SRC : Nat := 0x0A000010
abbrev DEN_SPG_RING : Nat := 0x0A000011
abbrev DEN_SPG_MAP : Nat := 0x0A000012
abbrev DEN_LINE_SEQ : Nat := 0x0A000020
abbrev DEN_VALID_FROM : Nat := 0x0A000021
abbrev DEN_LINE_BYTES : Nat := 0x0A000022
abbrev DEN_BASE_ADDR : Nat := 0x0A000023
abbrev DEN_COMP_OUT : Nat := 0x0A000010
abbrev DEN_COMP_FB : Nat := 0x0A000011
abbrev DEN_COMP_TICK : Nat := 0x0A000012
abbrev DEN_COMP_BG : Nat := 0x0A000013
abbrev DEN_L0_SRC : Nat := 0x0A000014
abbrev DEN_L0_RECT : Nat := 0x0A000015
abbrev DEN_L1_RECT : Nat := 0x0A000016
abbrev DEN_L1_MAP : Nat := 0x0A000017
abbrev DEN_LAYERS : Nat := 0x0A000018
abbrev DEN_L2_POS : Nat := 0x0A000019
abbrev DEN_CURSOR_POS : Nat := 0x0A00001A
abbrev DEN_TRC : Nat := 0x0A000020
abbrev DEN_COMP_SEQ : Nat := 0x0A000030
abbrev DEN_COMP_SKIPPED : Nat := 0x0A000031
abbrev DEN_POOL : Nat := 0x0A000040
abbrev DEN_TILES_FREE : Nat := 0x0A000041
abbrev DEN_BUF_CFG : Nat := 0x0A000010
abbrev DEN_BUF_ADDR : Nat := 0x0A000020
abbrev DEN_TE_CFG : Nat := 0x0A000016
abbrev DEN_TE_MISSED : Nat := 0x0A000032
abbrev DEN_OUT_CFG : Nat := 0x0A000010
abbrev DEN_H_TIMING : Nat := 0x0A000011
abbrev DEN_V_TIMING : Nat := 0x0A000012
abbrev DEN_PCLK : Nat := 0x0A000013
abbrev DEN_BORDER : Nat := 0x0A000014
abbrev DEN_STATUS : Nat := 0x0A000020
abbrev DEN_FRAMES : Nat := 0x0A000021
abbrev DEN_LATCHED_SEQ : Nat := 0x0A000022
abbrev DEN_RESERVE : Nat := 0x0A000023
abbrev DEN_REPEATS : Nat := 0x0A000030
abbrev DEN_UNDERFLOW : Nat := 0x0A000031
abbrev DEN_SIDE_CMD : Nat := 0x0A000040
abbrev DEN_SIDE_DATA : Nat := 0x0A000041
abbrev DEN_SIDE_GO : Nat := 0x0A000042
abbrev DEN_SIDE_RX : Nat := 0x0A000043
abbrev DEN_SIDE_STAT : Nat := 0x0A000044
abbrev DEN_DP_LINK : Nat := 0x0A000015
abbrev WVR_CFG : Nat := 0x0B000010
abbrev WVR_IVEC : Nat := 0x0B000011
abbrev WVR_REP_CAP : Nat := 0x0B000012
abbrev WVR_RPT_Q : Nat := 0x0B000013
abbrev WVR_SVC_Q : Nat := 0x0B000014
abbrev WVR_TAP : Nat := 0x0B000020
abbrev WVR_TAP_RING : Nat := 0x0B000028
abbrev WVR_RUN_STATE : Nat := 0x0B000030
abbrev WVR_FAULT : Nat := 0x0B000031
abbrev WVR_IMAGE : Nat := 0x0B000032
abbrev WVR_LAST_CYCLES : Nat := 0x0B000033
abbrev WVR_MAX_CYCLES : Nat := 0x0B000034
abbrev WVR_OVERRUNS : Nat := 0x0B000040
abbrev WVR_SKIPPED : Nat := 0x0B000041
abbrev WVR_TAP_DROP : Nat := 0x0B000042
abbrev WVR_RPT_DROP : Nat := 0x0B000043
abbrev WVR_SVC_LATE : Nat := 0x0B000044
abbrev WVR_DMA_REGION : Nat := 0x0B000010
abbrev NET_CFG : Nat := 0x0C000010
abbrev NET_MAC : Nat := 0x0C000011
abbrev NET_IP4 : Nat := 0x0C000012
abbrev NET_GW4 : Nat := 0x0C000013
abbrev NET_IP6_HI : Nat := 0x0C000014
abbrev NET_IP6_LO : Nat := 0x0C000015
abbrev NET_IP6_CFG : Nat := 0x0C000016
abbrev NET_GW6_HI : Nat := 0x0C000017
abbrev NET_GW6_LO : Nat := 0x0C000018
abbrev NET_STATUS : Nat := 0x0C000020
abbrev NET_STREAM_LOAD : Nat := 0x0C000021
abbrev NET_TX_FRAMES : Nat := 0x0C000030
abbrev NET_RX_FRAMES : Nat := 0x0C000031
abbrev NET_RX_DROPPED : Nat := 0x0C000032
abbrev NET_FEC_CORR : Nat := 0x0C000033
abbrev NET_FEC_UNCORR : Nat := 0x0C000034
abbrev NET_MODE : Nat := 0x0C000010
abbrev STR_CFG : Nat := 0x0D000010
abbrev STR_DEST4 : Nat := 0x0D000011
abbrev STR_DEST6_HI : Nat := 0x0D000012
abbrev STR_DEST6_LO : Nat := 0x0D000013
abbrev STR_PORTS : Nat := 0x0D000014
abbrev STR_RATE : Nat := 0x0D000015
abbrev STR_CODEC_RATE : Nat := 0x0D000016
abbrev STR_BUF : Nat := 0x0D000017
abbrev STR_READ_FROM : Nat := 0x0D000018
abbrev STR_READ_TO : Nat := 0x0D000019
abbrev STR_RDMA_QP : Nat := 0x0D00001A
abbrev STR_RDMA_ADDR : Nat := 0x0D00001B
abbrev STR_RDMA_RKEY : Nat := 0x0D00001C
abbrev STR_RDMA_RING : Nat := 0x0D00001D
abbrev STR_RDMA_CREDIT : Nat := 0x0D00001E
abbrev STR_STATUS : Nat := 0x0D000020
abbrev STR_PKT_SEQ : Nat := 0x0D000021
abbrev STR_WIRE_GAIN : Nat := 0x0D000022
abbrev STR_PACKETS : Nat := 0x0D000030
abbrev STR_DROPPED : Nat := 0x0D000031
abbrev STR_RETRANS : Nat := 0x0D000032
abbrev CDC_LOAD : Nat := 0x0E000020
abbrev CDC_BLOCKS : Nat := 0x0E000030
abbrev CDC_RAW_BLOCKS : Nat := 0x0E000031
abbrev CDC_VERIFY_FAIL : Nat := 0x0E000032
abbrev CDC_DROPPED : Nat := 0x0E000033
abbrev CDC_DEC_CFG : Nat := 0x0E000010
abbrev CDC_IN_ADDR : Nat := 0x0E000011
abbrev CDC_IN_LEN : Nat := 0x0E000012
abbrev CDC_OUT_LIMIT : Nat := 0x0E000013
abbrev CDC_DEC_STATUS : Nat := 0x0E000020
abbrev CDC_OUT_COUNT : Nat := 0x0E000021
abbrev CDC_LOST_BLOCKS : Nat := 0x0E000030
abbrev STM_CFG : Nat := 0x0F000010
abbrev STM_GAIN : Nat := 0x0F000011
abbrev STM_HOST_PORT : Nat := 0x0F000012
abbrev STM_JUMP : Nat := 0x0F000013
abbrev STM_STATUS : Nat := 0x0F000020
abbrev STM_POSITION : Nat := 0x0F000021
abbrev STM_F_B : Nat := 0x0F000022
abbrev STM_LEAD : Nat := 0x0F000023
abbrev STM_SLIP_TOTAL : Nat := 0x0F000024
abbrev STM_HOST_NEXT : Nat := 0x0F000025
abbrev STM_START_BEAT : Nat := 0x0F000026
abbrev STM_UNDERRUN_SAMPLES : Nat := 0x0F000030
abbrev STM_UNDERRUN_RUNS : Nat := 0x0F000031
abbrev STM_LATE_SAMPLES : Nat := 0x0F000032
abbrev STM_HOST_DROPPED : Nat := 0x0F000033
abbrev STM_JUMPS : Nat := 0x0F000034
abbrev STM_JUMP_DROPPED : Nat := 0x0F000035
abbrev STM_JUMP_REPLACED : Nat := 0x0F000036
abbrev STM_STORE : Nat := 0x0F000010
abbrev STM_STORE_BYTES : Nat := 0x0F000020
abbrev STM_SEG : Nat := 0x0F001000
abbrev STM_SEG_RATIO : Nat := 0x0F001400
abbrev STM_SEQ : Nat := 0x0F002000
abbrev STM_SEQV : Nat := 0x0F003000
abbrev VEC_CFG : Nat := 0x10000010
abbrev VEC_SAFE_W0 : Nat := 0x10000011
abbrev VEC_SAFE_W1 : Nat := 0x10000012
abbrev VEC_DRIVE_DELAY : Nat := 0x10000013
abbrev VEC_CMP_DELAY : Nat := 0x10000014
abbrev VEC_CLEAR : Nat := 0x10000015
abbrev VEC_TICK : Nat := 0x10000020
abbrev VEC_FIRST_TICK : Nat := 0x10000021
abbrev VEC_FIRST_PINS : Nat := 0x10000022
abbrev VEC_FIRST_TIME_W0 : Nat := 0x10000023
abbrev VEC_FIRST_TIME_W1 : Nat := 0x10000024
abbrev VEC_PINS : Nat := 0x10000025
abbrev VEC_FAILS : Nat := 0x10000030
abbrev VEC_SAFE_TICKS : Nat := 0x10000031
abbrev VEC_COMPARES : Nat := 0x10000032
abbrev TIM_CFG : Nat := 0x11000010
abbrev TIM_LOOP : Nat := 0x11000011
abbrev TIM_AGEING : Nat := 0x11000012
abbrev TIM_HOLD_MAX : Nat := 0x11000013
abbrev TIM_SET_BEAT : Nat := 0x11000014
abbrev TIM_IN_DELAY : Nat := 0x11000015
abbrev TIM_PTP_DOMAIN : Nat := 0x11000016
abbrev TIM_STATE : Nat := 0x11000020
abbrev TIM_OFFSET : Nat := 0x11000021
abbrev TIM_FREQ_CORR : Nat := 0x11000022
abbrev TIM_HOLD_SECONDS : Nat := 0x11000023
abbrev TIM_LAST_STEP : Nat := 0x11000024
abbrev TIM_REF_LOSSES : Nat := 0x11000030
abbrev TIM_STEPS : Nat := 0x11000031
abbrev TIM_SYSREF_CFG : Nat := 0x11000010
abbrev TIM_SYSREF_SHOT : Nat := 0x11000011
abbrev TIM_LAST_SHOT : Nat := 0x11000020
abbrev TIM_PPS_CFG : Nat := 0x11000010
abbrev TIM_PPS_DELAY : Nat := 0x11000011
abbrev TIM_REF_CFG : Nat := 0x11000010
abbrev TIM_PTP_CFG : Nat := 0x11000010
abbrev TIM_PTP_ASYM : Nat := 0x11000011
abbrev TIM_PTP_STATE : Nat := 0x11000020
abbrev TIM_PTP_MPD : Nat := 0x11000021
abbrev TIM_PTP_RX : Nat := 0x11000030
abbrev TIM_PTP_TX : Nat := 0x11000031
abbrev TIU_MEAS : Nat := 0x12000010
abbrev TIU_WIN_AFTER : Nat := 0x12000011
abbrev TIU_WIN_BEFORE : Nat := 0x12000012
abbrev TIU_STAT_N : Nat := 0x12000013
abbrev TIU_CAL_CFG : Nat := 0x12000014
abbrev TIU_CAL_GO : Nat := 0x12000015
abbrev TIU_CAL_STATE : Nat := 0x12000020
abbrev TIU_CAL_BEAT : Nat := 0x12000021
abbrev TIU_CAL_TEMP : Nat := 0x12000022
abbrev TIU_MEASUREMENTS : Nat := 0x12000030
abbrev TIU_CAL_FAIL : Nat := 0x12000031
abbrev TIU_IN_CFG : Nat := 0x12000010
abbrev TIU_LAST_INTERVAL : Nat := 0x12000020
abbrev TIU_LAST_FLAGS : Nat := 0x12000021
abbrev TIU_STAT_SEL : Nat := 0x12000022
abbrev TIU_STAT_MEAN : Nat := 0x12000023
abbrev TIU_STAT_SD : Nat := 0x12000024
abbrev TIU_STAT_MIN : Nat := 0x12000025
abbrev TIU_STAT_MAX : Nat := 0x12000026
abbrev TIU_STAT_FLAGS : Nat := 0x12000027
abbrev TIU_EDGES : Nat := 0x12000030
abbrev TIU_LOST : Nat := 0x12000031
abbrev TIU_MISSED : Nat := 0x12000032
abbrev TIU_UNMATCHED : Nat := 0x12000033
abbrev TIU_SKEW : Nat := 0x12000011
abbrev CAL_CFG : Nat := 0x13000010
abbrev CAL_TEMP_SCALE : Nat := 0x13000011
abbrev CAL_COMMIT : Nat := 0x13000012
abbrev CAL_CLEAR_SETS : Nat := 0x13000013
abbrev CAL_RUN_STATE : Nat := 0x13000020
abbrev CAL_BLOCKS : Nat := 0x13000021
abbrev CAL_TEMP : Nat := 0x13000022
abbrev CAL_RUNS : Nat := 0x13000023
abbrev CAL_FAILS : Nat := 0x13000024
abbrev CAL_LAST_OK_W0 : Nat := 0x13000025
abbrev CAL_LAST_OK_W1 : Nat := 0x13000026
abbrev CAL_LAST_OK_TEMP : Nat := 0x13000027
abbrev CAL_DC_NOW : Nat := 0x13000030
abbrev CAL_IQ_NOW : Nat := 0x13000031
abbrev CAL_IL_NOW : Nat := 0x13000038
abbrev CAL_POINT : Nat := 0x13000040
abbrev CAL_EQ : Nat := 0x13001000
abbrev CAL_INTERP_DT : Nat := 0x13000010
abbrev CAL_WAIT_MAX : Nat := 0x13000011
abbrev AUX_CFG : Nat := 0x14000010
abbrev AUX_START : Nat := 0x14000011
abbrev AUX_SELFCAL : Nat := 0x14000012
abbrev AUX_STATUS : Nat := 0x14000020
abbrev AUX_DATA_SEQ : Nat := 0x14000021
abbrev AUX_DATA_TIME_W0 : Nat := 0x14000022
abbrev AUX_DATA_TIME_W1 : Nat := 0x14000023
abbrev AUX_CH_CFG : Nat := 0x14000010
abbrev AUX_DATA : Nat := 0x14000020
abbrev AUX_SC_OFFSET : Nat := 0x14000021
abbrev AUX_SC_GAIN : Nat := 0x14000022
abbrev AUX_OVR_COUNT : Nat := 0x14000030
abbrev PLT_CFG : Nat := 0x15000010
abbrev PLT_NODE : Nat := 0x15000011
abbrev PLT_STATE : Nat := 0x15000020
abbrev PLT_OUT_SEQ : Nat := 0x15000021
abbrev PLT_OUT_DONE : Nat := 0x15000022
abbrev PLT_OUT_OK : Nat := 0x15000023
abbrev PLT_OUT_BEAT : Nat := 0x15000024
abbrev PLT_OUT_STATUS : Nat := 0x15000030
abbrev PLT_PORT_CFG : Nat := 0x15000010
abbrev PLT_PORT_STATE : Nat := 0x15000020
abbrev PLT_DELAY : Nat := 0x15000021
abbrev PLT_ASYM : Nat := 0x15000022
abbrev PLT_DATA_LOAD : Nat := 0x15000023
abbrev PLT_CRC_ERR : Nat := 0x15000030
abbrev PLT_REPLAYS : Nat := 0x15000031
abbrev PLT_DATA_LOST : Nat := 0x15000032
abbrev PLT_EXP_CFG : Nat := 0x15000010
abbrev PLT_EXP_RATE : Nat := 0x15000020
abbrev PLT_EXP_SAT : Nat := 0x15000030
abbrev PLT_IMP_CFG : Nat := 0x15000010
abbrev PLT_IMP_SRC : Nat := 0x15000020
abbrev PLT_IMP_MISSING : Nat := 0x15000030
abbrev PLT_EPOCH : Nat := 0x15000010
abbrev SEC_FUSE_STATE : Nat := 0x16000010
abbrev SEC_IMAGE : Nat := 0x16000011
abbrev SEC_FUSE_OP : Nat := 0x16000012
abbrev SEC_ZEROISE : Nat := 0x16000013
abbrev SEC_HOST_KEYS : Nat := 0x16000014
abbrev SEC_HOST_W : Nat := 0x16000010
abbrev SEC_HOST_COMMIT : Nat := 0x16000020
abbrev SEC_GROUP_W : Nat := 0x16000010
abbrev SEC_GROUP_ID : Nat := 0x16000020
abbrev SEC_GROUP_COMMIT : Nat := 0x16000021
abbrev SEC_GROUP_STATE : Nat := 0x16000022
abbrev SEC_STREAM_W : Nat := 0x16000010
abbrev SEC_STREAM_COMMIT : Nat := 0x16000020
abbrev SEC_STREAM_STATE : Nat := 0x16000021
abbrev JTX_LANES : Nat := 0x17000010
abbrev JTX_FRAME : Nat := 0x17000011
abbrev JTX_MBLOCK : Nat := 0x17000012
abbrev JTX_POLARITY : Nat := 0x17000013
abbrev JTX_SKEW_REF : Nat := 0x17000014
abbrev JTX_STATUS : Nat := 0x17000020
abbrev JTX_LATENCY : Nat := 0x17000021
abbrev JTX_RATE_PPM : Nat := 0x17000025
abbrev THM_PMBUS_ADDR : Nat := 0x18000010
abbrev THM_AVS_CFG : Nat := 0x18000011
abbrev THM_PEAK_CLEAR : Nat := 0x18000012
abbrev THM_DIE_TEMP : Nat := 0x18000020
abbrev THM_DIE_MAX : Nat := 0x18000021
abbrev THM_TSHUT : Nat := 0x18000022
abbrev THM_AVS_STATE : Nat := 0x18000023
abbrev THM_VCORE : Nat := 0x18000024
abbrev THM_AVS_ERR : Nat := 0x18000030
abbrev THM_DEVCLK : Nat := 0x18000020

end Sys2Proof.Machine.K
end

