-- ==== Sys2Proof/Machine/ParamTable.lean ====
section
/-! DEFINITION. The parameter tables of the specification (R4 to R10, R49 and every chapter's own table): one
`Row` for each key pattern, one `Fld` for each field of it, as the tables print them.  A field's `mn` and `mx` are the
values that its Meaning column admits. -/
namespace Sys2Proof.Machine

/-- The access codes of R6. -/
inductive Access where
  | rw | ro | w1 | rc
deriving DecidableEq, Repr

/-- The Takes-effect codes of R8. -/
inductive Effect where
  | imm | beat | sample | arm | frame | lock | boot
deriving DecidableEq, Repr

/-- One field of a parameter: its bits, its access code, its reset value, whether it is reserved (R2), and the least and
greatest value its table admits. -/
structure Fld where
  hi : Nat
  lo : Nat
  acc : Access
  reset : Nat
  rsvd : Bool
  mn : Nat
  mx : Nat
deriving DecidableEq, Repr

/-- One row of a parameter table: the instances and items it covers, its Takes-effect code and its fields. -/
structure Row where
  ilo : Nat
  ihi : Nat
  item : Nat
  n : Nat
  eff : Effect
  flds : List Fld
deriving DecidableEq, Repr

/-- A row of instances `ilo` to `ihi` and items `item` to `item + n - 1`. -/
def row (ilo ihi item n : Nat) (eff : Effect) (flds : List Fld) : Row := ⟨ilo, ihi, item, n, eff, flds⟩
/-- An RW field. -/
def rw (hi lo reset : Nat) : Fld := ⟨hi, lo, .rw, reset, false, 0, 2 ^ (hi + 1 - lo) - 1⟩
/-- An RW field whose table admits the values `mn` to `mx` only. -/
def rwr (hi lo reset mn mx : Nat) : Fld := ⟨hi, lo, .rw, reset, false, mn, mx⟩
/-- An RO field. -/
def ro (hi lo reset : Nat) : Fld := ⟨hi, lo, .ro, reset, false, 0, 2 ^ (hi + 1 - lo) - 1⟩
/-- An RC field. -/
def rc (hi lo reset : Nat) : Fld := ⟨hi, lo, .rc, reset, false, 0, 2 ^ (hi + 1 - lo) - 1⟩
/-- A W1 field. -/
def w1 (hi lo reset : Nat) : Fld := ⟨hi, lo, .w1, reset, false, 0, 2 ^ (hi + 1 - lo) - 1⟩
/-- A reserved field (R2). -/
def rsv (hi lo : Nat) (acc : Access) : Fld := ⟨hi, lo, acc, 0, true, 0, 0⟩

/-- The parameters of block SYS (code 0x01). -/
def rowsSYS : List Row :=
  [row 0 0 0x0001 1 .imm [ro 2 0 0x2, ro 3 3 0x0, rsv 31 4 .ro],
   row 0 0 0x0010 1 .imm [ro 31 0 0x0],
   row 0 0 0x0011 1 .imm [ro 11 0 0x0, rsv 31 12 .ro],
   row 0 0 0x0012 1 .imm [ro 7 0 0x0, rsv 31 8 .ro],
   row 0 0 0x0013 1 .imm [ro 63 0 0x0],
   row 0 0 0x0020 1 .boot [rw 15 0 0x12b8, rsv 31 16 .rw],
   row 0 0 0x0021 1 .boot [rw 15 0 0x12b9, rsv 31 16 .rw],
   row 0 0 0x0022 1 .imm [rwr 11 0 0x3c 1 3600, rsv 31 12 .rw],
   row 0 0 0x0023 1 .imm [ro 4 0 0x0, rsv 31 5 .ro],
   row 0 0 0x0024 1 .imm [rc 31 0 0x0],
   row 0 0 0x0025 1 .imm [rc 31 0 0x0],
   row 0 0 0x0026 1 .imm [rc 31 0 0x0],
   row 0 0 0x0030 1 .imm [ro 2 0 0x0, rsv 31 3 .ro],
   row 0 0 0x0031 1 .imm [ro 5 0 0x0, rsv 31 6 .ro],
   row 0 0 0x0032 1 .boot [rw 0 0 0x1, rwr 8 1 0x80 1 128, rsv 31 9 .rw],
   row 0 0 0x0033 1 .imm [ro 7 0 0x0, rsv 31 8 .ro]]  ++
  [row 0 0 0x0034 1 .imm [ro 31 0 0x40002],
   row 0 0 0x0035 1 .imm [ro 0 0 0x0, rsv 31 1 .ro],
   row 0 0 0x0036 1 .imm [rc 31 0 0x0]]

/-- The parameters of block EVT (code 0x02). -/
def rowsEVT : List Row :=
  [row 0 0 0x0010 1 .beat [rw 0 0 0x0, rwr 10 1 0xa 1 1023, rsv 31 11 .rw],
   row 0 0 0x0011 1 .beat [rw 0 0 0x0, rwr 10 1 0xa 1 1023, rsv 31 11 .rw],
   row 0 0 0x0012 1 .imm [w1 1 0 0x0, rsv 31 2 .w1],
   row 0 0 0x0013 1 .imm [ro 1 0 0x0, rsv 31 2 .ro],
   row 0 0 0x0014 1 .imm [rc 31 0 0x0],
   row 0 0 0x1000 1024 .beat [rwr 2 0 0x0 0 4, rsv 3 3 .rw, rw 15 4 0x10, rw 17 16 0x0, rw 18 18 0x0, rw 24 19 0x0, rw 26 25 0x0, rsv 31 27 .rw],
   row 0 0 0x2000 1024 .imm [rc 31 0 0x0],
   row 0 0 0x3000 1024 .imm [rc 31 0 0x0]]

/-- The parameters of block CLK (code 0x03). -/
def rowsCLK : List Row :=
  [row 0 5 0x0010 1 .beat [rw 31 0 0x0],
   row 0 5 0x0011 1 .lock [rwr 8 0 0x64 5 500, rsv 31 9 .rw],
   row 0 5 0x0012 1 .lock [rw 22 0 0x5a5a5a, rsv 31 23 .rw],
   row 0 5 0x0014 1 .beat [w1 0 0 0x0, rsv 31 1 .w1],
   row 0 5 0x0020 1 .imm [ro 2 0 0x0, ro 8 3 0x0, ro 10 9 0x0, rsv 31 11 .ro],
   row 0 5 0x0021 1 .imm [ro 31 0 0x0],
   row 0 5 0x0022 1 .imm [ro 15 0 0x0, rsv 31 16 .ro],
   row 0 5 0x0030 1 .imm [rc 31 0 0x0],
   row 0 5 0x0031 1 .imm [rc 31 0 0x0],
   row 0 5 0x0032 1 .imm [rc 31 0 0x0],
   row 1 1 0x0013 1 .beat [rwr 24 0 0x1c9c380 8000000 32500000, rsv 31 25 .rw]]

/-- The parameters of block JRX (code 0x04). -/
def rowsJRX : List Row :=
  [row 0 15 0x0010 1 .beat [rw 5 0 0x0, rwr 9 6 0x1 1 8, rw 10 10 0x0, rwr 12 11 0x0 0 2, rsv 31 13 .rw],
   row 0 15 0x0011 1 .beat [rwr 3 0 0x1 0 7, rw 8 4 0x0, rw 15 9 0x3, rwr 20 16 0x10 8 16, rw 21 21 0x1, rwr 23 22 0x0 0 2, rsv 31 24 .rw],
   row 0 15 0x0012 1 .beat [rw 4 0 0x0, rw 9 5 0x1f, rw 13 10 0x2, rw 14 14 0x0, rw 17 15 0x0, rsv 31 18 .rw],
   row 0 15 0x0013 1 .beat [rw 7 0 0x0, rsv 31 8 .rw],
   row 0 15 0x0014 1 .beat [rw 3 0 0x0, rsv 31 4 .rw],
   row 0 15 0x0020 1 .imm [ro 7 0 0x0, ro 8 8 0x0, ro 9 9 0x0, rsv 31 10 .ro],
   row 0 15 0x0021 1 .imm [ro 31 0 0x0],
   row 0 15 0x0022 1 .imm [ro 31 0 0x0],
   row 0 15 0x0023 1 .imm [ro 31 0 0x0],
   row 0 15 0x0024 1 .imm [ro 31 0 0x0],
   row 0 15 0x0025 1 .imm [ro 31 0 0x0],
   row 0 15 0x0030 1 .imm [rc 31 0 0x0],
   row 0 15 0x0031 1 .imm [rc 31 0 0x0],
   row 0 15 0x0032 1 .imm [rc 31 0 0x0],
   row 0 15 0x0033 1 .imm [rc 31 0 0x0],
   row 0 15 0x0034 1 .imm [rc 31 0 0x0]]  ++
  [row 64 71 0x0010 1 .beat [rw 7 0 0x1, rw 9 8 0x0, rw 10 10 0x0, rwr 16 11 0x10 1 63, rw 17 17 0x0, rsv 31 18 .rw],
   row 64 71 0x0011 1 .beat [rw 63 0 0x0],
   row 64 71 0x0012 1 .imm [ro 63 0 0x0],
   row 64 71 0x0013 1 .beat [w1 5 0 0x0, w1 6 6 0x0, w1 7 7 0x0, rsv 31 8 .w1],
   row 64 71 0x0014 1 .imm [ro 0 0 0x0, rsv 31 1 .ro],
   row 0 15 0x0001 1 .beat [rw 0 0 0x0, rsv 31 1 .rw],
   row 0 15 0x0002 1 .imm [ro 1 0 0x0, ro 3 2 0x0, rsv 31 4 .ro]]

/-- The parameters of block LANE (code 0x05). -/
def rowsLANE : List Row :=
  [row 0 31 0x0008 1 .beat [rw 3 0 0x0, rw 4 4 0x0, rw 7 5 0x0, rw 8 8 0x1, rwr 10 9 0x0 0 2, rw 13 11 0x0, rw 14 14 0x0, rsv 31 15 .rw],
   row 0 31 0x0010 1 .beat [rwr 1 0 0x0 0 2, rwr 6 2 0x0 0 16, rsv 31 7 .rw],
   row 0 31 0x0011 1 .beat [rw 3 0 0x0, rsv 31 4 .rw],
   row 0 31 0x0012 1 .beat [rw 47 0 0x0, rsv 63 48 .rw],
   row 0 31 0x0013 1 .beat [rw 15 0 0x0, rw 16 16 0x1, rsv 31 17 .rw],
   row 0 31 0x0014 1 .beat [w1 0 0 0x0, rsv 31 1 .w1],
   row 0 31 0x0015 1 .beat [rwr 2 0 0x5 3 5, rw 14 3 0x0, rw 18 15 0x0, rsv 31 19 .rw],
   row 0 31 0x0016 1 .beat [rw 9 0 0x0, rw 10 10 0x0, rsv 31 11 .rw],
   row 0 31 0x0017 1 .beat [rw 8 0 0x0, rw 12 9 0x0, rwr 16 13 0x0 0 8, rw 17 17 0x1, rsv 31 18 .rw],
   row 0 31 0x0018 1 .imm [ro 3 0 0x0, rsv 31 4 .ro],
   row 0 31 0x0019 1 .sample [rw 63 0 0xffffffffffffffff],
   row 0 31 0x001A 1 .beat [rwr 12 0 0x0 0 4096, rsv 31 13 .rw],
   row 0 31 0x001B 1 .beat [rw 31 0 0x0],
   row 0 31 0x001C 1 .beat [rw 4 0 0x0, rw 22 5 0x20000, rsv 31 23 .rw],
   row 0 31 0x001D 1 .beat [rwr 4 0 0xa 0 20, rw 9 5 0x4, rw 14 10 0x10, rw 15 15 0x1, rsv 31 16 .rw],
   row 0 31 0x0020 1 .imm [ro 31 0 0x0]]  ++
  [row 0 31 0x0021 1 .imm [ro 63 0 0x0],
   row 0 31 0x0022 1 .imm [ro 7 0 0x0, rsv 31 8 .ro],
   row 0 31 0x0023 1 .imm [ro 63 0 0x0],
   row 0 31 0x0024 1 .imm [ro 63 0 0x0],
   row 0 31 0x0025 1 .imm [ro 63 0 0x0],
   row 0 31 0x0026 1 .imm [ro 63 0 0x0],
   row 0 31 0x0027 1 .imm [ro 63 0 0x0],
   row 0 31 0x0028 1 .imm [ro 39 0 0x0, rsv 63 40 .ro],
   row 0 31 0x0029 1 .imm [ro 15 0 0x0, rsv 31 16 .ro],
   row 0 31 0x002A 1 .imm [ro 31 0 0x0],
   row 0 31 0x002B 1 .imm [ro 63 0 0x0],
   row 0 31 0x0030 1 .imm [ro 47 0 0x0, rsv 63 48 .ro],
   row 0 31 0x0031 1 .imm [ro 63 0 0x0],
   row 0 31 0x0032 1 .imm [ro 47 0 0x0, rsv 63 48 .ro],
   row 0 31 0x0033 1 .imm [ro 47 0 0x0, rsv 63 48 .ro],
   row 0 31 0x0034 1 .imm [ro 15 0 0x0, ro 31 16 0x0]]  ++
  [row 0 31 0x0040 1 .imm [rc 31 0 0x0],
   row 0 31 0x0041 1 .imm [rc 31 0 0x0],
   row 0 31 0x0042 1 .imm [rc 10 0 0x0, rsv 31 11 .rc],
   row 0 31 0x1000 512 .beat [rw 17 0 0x0, rsv 31 18 .rw],
   row 0 31 0x1200 512 .beat [rw 17 0 0x0, rsv 31 18 .rw],
   row 0 31 0x0001 1 .beat [rw 0 0 0x0, rsv 31 1 .rw],
   row 0 31 0x0002 1 .imm [ro 1 0 0x0, ro 3 2 0x0, rsv 31 4 .ro]]

/-- The parameters of block XFM (code 0x06). -/
def rowsXFM : List Row :=
  [row 0 126 0x0010 1 .beat [rwr 4 0 0xa 5 16, rwr 7 5 0x2 0 5, rw 13 8 0x1, rw 15 14 0x1, rsv 31 16 .rw],
   row 0 126 0x0011 1 .beat [rw 15 0 0x0, rsv 31 16 .rw],
   row 0 126 0x0012 1 .beat [rw 15 0 0xfe00, rwr 31 16 0x3f 0 4095],
   row 0 126 0x0013 1 .beat [rw 15 0 0x0, rsv 31 16 .rw],
   row 0 126 0x0014 1 .beat [rw 3 0 0x3, rw 7 4 0x3, rw 11 8 0x3, rsv 31 12 .rw],
   row 0 126 0x0020 1 .imm [ro 11 0 0x0, rsv 31 12 .ro],
   row 0 126 0x0021 1 .imm [ro 39 0 0x0, rsv 63 40 .ro],
   row 0 126 0x0022 1 .imm [ro 63 0 0x0],
   row 0 126 0x0030 1 .imm [rc 31 0 0x0],
   row 0 126 0x0031 1 .imm [rc 31 0 0x0],
   row 0 126 0x0032 1 .imm [rc 31 0 0x0],
   row 0 126 0x0033 1 .imm [rc 31 0 0x0],
   row 0 126 0x0034 1 .imm [rc 31 0 0x0],
   row 128 159 0x0010 1 .beat [rw 6 0 0x0, rw 9 7 0x0, rwr 14 10 0xa 6 16, rsv 31 15 .rw],
   row 128 159 0x0011 1 .beat [rwr 15 0 0x1 1 65535, rsv 31 16 .rw],
   row 128 159 0x0012 1 .beat [rw 11 0 0x0, rw 12 12 0x0, rsv 31 13 .rw]]  ++
  [row 128 159 0x0013 1 .beat [w1 0 0 0x0, rsv 31 1 .w1],
   row 128 159 0x0020 1 .imm [ro 31 0 0x0],
   row 128 159 0x0021 1 .imm [ro 63 0 0x0],
   row 192 192 0x0013 1 .imm [ro 19 0 0x47ff9, rsv 31 20 .ro],
   row 192 255 0x0010 1 .imm [rw 4 0 0x10, rsv 31 5 .rw],
   row 192 255 0x0011 1 .imm [ro 23 0 0x0, rsv 31 24 .ro],
   row 192 255 0x0012 1 .imm [ro 17 0 0x0, rsv 31 18 .ro],
   row 192 255 0x4000 32769 .imm [rw 17 0 0x0, rsv 31 18 .rw],
   row 0 126 0x0001 1 .beat [rw 0 0 0x0, rsv 31 1 .rw],
   row 0 126 0x0002 1 .imm [ro 1 0 0x0, ro 3 2 0x0, rsv 31 4 .ro],
   row 128 159 0x0001 1 .beat [rw 0 0 0x0, rsv 31 1 .rw],
   row 128 159 0x0002 1 .imm [ro 1 0 0x0, ro 3 2 0x0, rsv 31 4 .ro]]

/-- The parameters of block TRG (code 0x07). -/
def rowsTRG : List Row :=
  [row 0 15 0x0010 1 .arm [rw 3 0 0xa, rw 8 4 0x0, rwr 10 9 0x0 0 2, rw 14 11 0x0, rw 15 15 0x0, rw 16 16 0x0, rw 17 17 0x0, rw 19 18 0x1, rsv 31 20 .rw],
   row 0 15 0x0011 1 .arm [rwr 1 0 0x0 0 2, rwr 3 2 0x0 0 2, rw 6 4 0x0, rw 12 7 0x0, rsv 31 13 .rw],
   row 0 15 0x0012 1 .arm [rw 47 0 0x0, rsv 63 48 .rw],
   row 0 15 0x0013 1 .arm [rw 47 0 0x0, rsv 63 48 .rw],
   row 0 15 0x0014 1 .arm [rw 2 0 0x0, rw 5 3 0x0, rsv 31 6 .rw],
   row 0 15 0x0015 1 .arm [rw 47 0 0x0, rsv 63 48 .rw],
   row 0 15 0x0016 1 .beat [rw 0 0 0x0, rsv 31 1 .rw],
   row 0 15 0x0017 1 .arm [rw 5 0 0x0, rw 11 6 0x0, rsv 31 12 .rw],
   row 0 15 0x0018 1 .arm [rw 1 0 0x0, rsv 31 2 .rw],
   row 0 15 0x0019 1 .arm [rw 31 0 0x0],
   row 0 15 0x001A 1 .arm [rw 31 0 0x0],
   row 0 15 0x001B 1 .arm [rw 63 0 0x0],
   row 0 15 0x001C 1 .arm [rw 31 0 0x0],
   row 0 15 0x001D 1 .arm [rw 15 0 0x8000, rw 23 16 0x0, rsv 31 24 .rw],
   row 0 15 0x0020 1 .arm [rw 31 0 0x0],
   row 0 15 0x0021 1 .arm [rw 7 0 0x0, rw 8 8 0x0, rw 9 9 0x0, rw 15 10 0x0, rw 16 16 0x0, rw 18 17 0x0, rw 19 19 0x0, rw 25 20 0x0, rw 27 26 0x0, rsv 31 28 .rw]]  ++
  [row 0 15 0x0022 1 .arm [rw 11 0 0x0, rsv 31 12 .rw],
   row 0 15 0x0023 1 .arm [rw 0 0 0x0, rsv 31 1 .rw],
   row 0 15 0x0024 1 .arm [rw 31 0 0x0],
   row 0 15 0x0025 1 .arm [rw 15 0 0x7fff, rw 31 16 0x8000],
   row 0 15 0x0026 1 .arm [rwr 13 0 0x0 0 8192, rsv 15 14 .rw, rwr 29 16 0x0 0 8192, rsv 31 30 .rw],
   row 0 15 0x0030 1 .imm [ro 1 0 0x0, rsv 31 2 .ro],
   row 0 15 0x0031 1 .imm [rc 31 0 0x0],
   row 0 15 0x0032 1 .imm [rc 31 0 0x0],
   row 0 15 0x0033 1 .imm [rc 31 0 0x0],
   row 0 15 0x0034 1 .imm [rc 31 0 0x0],
   row 0 15 0x0035 1 .imm [ro 63 0 0x0],
   row 0 15 0x0036 1 .imm [ro 63 0 0x0],
   row 0 15 0x0037 1 .imm [ro 31 0 0x0],
   row 0 15 0x0038 1 .imm [rc 31 0 0x0],
   row 0 15 0x0039 1 .imm [rc 31 0 0x0],
   row 0 15 0x0040 8 .arm [rw 10 0 0x0, rw 21 11 0x0, rw 31 22 0x0, rw 41 32 0x0, rsv 63 42 .rw]]  ++
  [row 0 15 0x2000 8192 .arm [rw 20 0 0x0, rsv 31 21 .rw, rw 47 32 0x0, rsv 63 48 .rw],
   row 0 15 0x4000 8192 .arm [rw 20 0 0x0, rsv 31 21 .rw, rw 47 32 0x0, rsv 63 48 .rw],
   row 32 39 0x0010 1 .beat [rwr 1 0 0x0 0 2, rw 2 2 0x0, rwr 18 3 0xa0 2 65535, rw 21 19 0x0, rsv 31 22 .rw],
   row 32 39 0x0011 1 .beat [rw 31 0 0x0],
   row 32 39 0x0020 1 .imm [rc 31 0 0x0],
   row 32 39 0x0021 1 .imm [rc 31 0 0x0],
   row 48 55 0x0020 1 .imm [rc 31 0 0x0],
   row 48 55 0x0021 1 .imm [rc 31 0 0x0],
   row 48 55 0x0022 1 .imm [ro 0 0 0x0, rsv 31 1 .ro],
   row 0 15 0x0001 1 .beat [rw 0 0 0x0, rsv 31 1 .rw],
   row 0 15 0x0002 1 .imm [ro 1 0 0x0, ro 3 2 0x0, rsv 31 4 .ro]]

/-- The parameters of block CAP (code 0x08). -/
def rowsCAP : List Row :=
  [row 0 31 0x0010 1 .arm [rw 2 0 0x0, rwr 4 3 0x0 0 2, rw 11 5 0x0, rw 13 12 0x1, rw 14 14 0x0, rw 15 15 0x0, rw 16 16 0x1, rw 17 17 0x0, rsv 31 18 .rw],
   row 0 31 0x0011 1 .beat [rwr 7 0 0x0 0 133, rwr 15 8 0x0 0 134, rsv 31 16 .rw],
   row 0 31 0x0012 1 .beat [rw 5 0 0x0, rwr 12 6 0x0 0 64, rsv 31 13 .rw],
   row 0 31 0x0013 1 .arm [rw 47 0 0x0, rsv 63 48 .rw],
   row 0 31 0x0014 1 .arm [rw 47 0 0x1000, rsv 63 48 .rw],
   row 0 31 0x0015 1 .arm [rwr 16 0 0x1 1 65536, rsv 31 17 .rw],
   row 0 31 0x0016 1 .arm [rw 5 0 0x0, rsv 31 6 .rw],
   row 0 31 0x0017 1 .beat [w1 0 0 0x0, rsv 31 1 .w1],
   row 0 31 0x0020 1 .imm [ro 47 0 0x0, rsv 63 48 .ro],
   row 0 31 0x0021 1 .imm [ro 47 0 0x0, rsv 63 48 .ro],
   row 0 31 0x0022 1 .imm [ro 2 0 0x0, rsv 31 3 .ro],
   row 0 31 0x0023 1 .imm [ro 47 0 0x0, rsv 63 48 .ro],
   row 0 31 0x0024 1 .imm [ro 47 0 0x0, rsv 63 48 .ro],
   row 0 31 0x0025 1 .imm [ro 63 0 0x0],
   row 0 31 0x0026 1 .imm [ro 63 0 0x0],
   row 0 31 0x0027 1 .imm [ro 47 0 0x0, rsv 63 48 .ro]]  ++
  [row 0 31 0x0028 1 .imm [ro 31 0 0x0],
   row 0 31 0x0029 1 .imm [ro 16 0 0x0, rsv 31 17 .ro],
   row 0 31 0x0030 1 .imm [rc 31 0 0x0],
   row 0 31 0x0031 1 .imm [rc 31 0 0x0],
   row 0 31 0x0032 1 .imm [rc 31 0 0x0],
   row 0 31 0x0033 1 .imm [rc 31 0 0x0],
   row 0 31 0x0034 1 .imm [rc 31 0 0x0],
   row 0 31 0x0035 1 .imm [rc 31 0 0x0],
   row 32 47 0x0010 1 .beat [rw 4 0 0x0, rw 5 5 0x0, rw 6 6 0x0, rw 7 7 0x0, rsv 31 8 .rw],
   row 32 47 0x0011 1 .beat [rw 63 0 0x0],
   row 32 47 0x0012 1 .beat [rw 63 0 0xffffffffffffffff],
   row 32 47 0x0013 1 .beat [rw 31 0 0x10000000],
   row 32 47 0x0020 1 .imm [ro 63 0 0x0],
   row 32 47 0x0021 1 .imm [ro 63 0 0x0],
   row 32 47 0x0022 1 .imm [ro 1 0 0x0, rsv 31 2 .ro],
   row 32 47 0x0030 1 .imm [rc 31 0 0x0]]  ++
  [row 0 31 0x0001 1 .beat [rw 0 0 0x0, rsv 31 1 .rw],
   row 0 31 0x0002 1 .imm [ro 1 0 0x0, ro 3 2 0x0, rsv 31 4 .ro],
   row 32 47 0x0001 1 .beat [rw 0 0 0x0, rsv 31 1 .rw],
   row 32 47 0x0002 1 .imm [ro 1 0 0x0, ro 3 2 0x0, rsv 31 4 .ro]]

/-- The parameters of block MEM (code 0x09). -/
def rowsMEM : List Row :=
  [row 0 0 0x0010 1 .beat [rwr 4 0 0xa 4 16, rw 5 5 0x0, rsv 31 6 .rw],
   row 0 0 0x0011 1 .beat [rwr 9 0 0x10 1 1000, rsv 31 10 .rw],
   row 0 0 0x0012 1 .beat [rwr 7 0 0x10 1 255, rsv 31 8 .rw],
   row 0 0 0x0013 1 .beat [rwr 1 0 0x2 0 2, rsv 31 2 .rw],
   row 0 0 0x0014 1 .imm [ro 7 0 0x0, rsv 31 8 .ro],
   row 0 0 0x0015 1 .imm [ro 31 0 0x0],
   row 0 0 0x0016 1 .imm [ro 31 0 0xffffffff],
   row 0 0 0x1000 134 .beat [rwr 2 0 0x0 0 4, rsv 7 3 .rw, ro 15 8 0x0, rsv 31 16 .ro],
   row 16 19 0x0020 1 .imm [ro 15 0 0x0, ro 16 16 0x0, rsv 31 17 .ro],
   row 16 19 0x0021 1 .imm [ro 31 0 0x0],
   row 16 19 0x0030 1 .imm [rc 31 0 0x0],
   row 16 19 0x0031 1 .imm [rc 31 0 0x0],
   row 64 105 0x0010 1 .beat [rwr 5 0 0x30 4 60, rsv 31 6 .rw],
   row 64 105 0x0020 1 .imm [ro 0 0 0x0, rsv 31 1 .ro],
   row 64 105 0x0021 1 .imm [ro 31 0 0x0],
   row 64 105 0x0030 1 .imm [rc 31 0 0x0]]  ++
  [row 64 105 0x0031 1 .imm [rc 31 0 0x0],
   row 128 255 0x0020 1 .imm [ro 1 0 0x0, ro 2 2 0x0, ro 6 3 0x0, ro 8 7 0x2, rsv 31 9 .ro],
   row 128 255 0x0021 1 .imm [ro 63 0 0x0],
   row 128 255 0x0030 1 .imm [rc 31 0 0x0],
   row 128 255 0x0031 1 .imm [rc 31 0 0x0],
   row 128 255 0x0032 1 .imm [rc 31 0 0x0],
   row 128 255 0x0033 1 .imm [rc 31 0 0x0]]

/-- The parameters of block DEN (code 0x0A). -/
def rowsDEN : List Row :=
  [row 0 15 0x0010 1 .beat [rw 6 0 0x0, rwr 8 7 0x0 0 2, rsv 31 9 .rw],
   row 0 15 0x0011 1 .beat [rw 11 0 0x400, rw 22 12 0x200, rw 23 23 0x0, rwr 26 24 0x0 0 6, rsv 31 27 .rw],
   row 0 15 0x0012 1 .beat [rw 15 0 0xc400, rw 31 16 0x4000],
   row 0 15 0x0013 1 .beat [rwr 15 0 0x32dd 1 65535, rsv 31 16 .rw],
   row 0 15 0x0014 1 .frame [rwr 1 0 0x1 0 2, rwr 6 2 0x3 1 16, rsv 15 7 .rw, rw 31 16 0x0],
   row 0 15 0x0015 1 .frame [rw 0 0 0x0, rw 16 1 0x400, rsv 31 17 .rw],
   row 0 15 0x0016 1 .frame [rw 3 0 0x0, rw 7 4 0x0, rw 8 8 0x0, rsv 31 9 .rw],
   row 0 15 0x0017 1 .frame [rwr 1 0 0x0 0 2, rw 5 2 0x0, rsv 31 6 .rw],
   row 0 15 0x0018 1 .beat [w1 0 0 0x0, rsv 31 1 .w1],
   row 0 15 0x0020 1 .imm [ro 7 0 0x0, ro 15 8 0x0, rsv 31 16 .ro],
   row 0 15 0x0021 1 .imm [ro 63 0 0x0],
   row 0 15 0x0022 1 .imm [ro 23 0 0x0, rsv 31 24 .ro],
   row 0 15 0x0030 1 .imm [rc 31 0 0x0],
   row 0 15 0x0031 1 .imm [rc 31 0 0x0],
   row 0 15 0x0032 1 .imm [rc 31 0 0x0],
   row 0 15 0x0033 1 .imm [rc 31 0 0x0]]  ++
  [row 0 15 0x0034 1 .imm [rc 31 0 0x0],
   row 0 15 0x1000 1024 .frame [rw 31 0 0x0],
   row 0 15 0x2000 1024 .beat [rw 9 0 0x0, rsv 31 10 .rw],
   row 32 47 0x0010 1 .beat [rw 4 0 0x0, rsv 31 5 .rw],
   row 32 47 0x0011 1 .beat [rwr 7 0 0x0 0 133, rw 21 8 0x3fff, rsv 31 22 .rw],
   row 32 47 0x0012 1 .frame [rw 15 0 0xc400, rwr 31 16 0x4000 1 65535],
   row 32 47 0x0020 1 .imm [ro 63 0 0x0],
   row 32 47 0x0021 1 .imm [ro 63 0 0x0],
   row 32 47 0x0022 1 .imm [ro 15 0 0x0, rsv 31 16 .ro],
   row 32 47 0x0023 1 .imm [ro 47 0 0x0, rsv 63 48 .ro],
   row 32 47 0x1000 1024 .frame [rw 31 0 0x0],
   row 64 64 0x0010 1 .beat [rw 11 0 0x780, rw 23 12 0x4b0, rsv 31 24 .rw],
   row 64 64 0x0011 1 .beat [rw 11 0 0x210, rsv 31 12 .rw],
   row 64 64 0x0012 1 .beat [rwr 1 0 0x1 0 2, rwr 17 2 0x32dd 1 65535, rsv 31 18 .rw],
   row 64 64 0x0013 1 .frame [rw 29 0 0x0, rsv 31 30 .rw],
   row 64 64 0x0014 1 .frame [rwr 1 0 0x0 0 2, rw 5 2 0x0, rsv 31 6 .rw],
   row 64 64 0x0015 1 .frame [rw 47 0 0x0, rsv 63 48 .rw]]  ++
  [row 64 64 0x0016 1 .frame [rw 47 0 0x0, rsv 63 48 .rw],
   row 64 64 0x0017 1 .frame [rw 15 0 0xc400, rw 31 16 0x4000],
   row 64 64 0x0018 1 .frame [rw 3 0 0x3, rw 7 4 0x4, rw 11 8 0x5, rw 15 12 0x6, rw 18 16 0x0, rw 19 19 0x0, rsv 31 20 .rw],
   row 64 64 0x0019 1 .frame [rw 23 0 0x0, rsv 31 24 .rw],
   row 64 64 0x001A 1 .frame [rw 31 0 0x0],
   row 64 64 0x0020 8 .frame [rw 4 0 0x0, rw 5 5 0x0, rsv 31 6 .rw, rw 63 32 0xffffffff],
   row 64 64 0x0030 1 .imm [ro 31 0 0x0],
   row 64 64 0x0031 1 .imm [rc 31 0 0x0],
   row 64 64 0x0040 1 .beat [rw 7 0 0x0, rw 8 8 0x0, rsv 31 9 .rw],
   row 64 64 0x0041 1 .imm [ro 10 0 0x400, rsv 31 11 .ro],
   row 80 95 0x0010 1 .imm [rw 11 0 0x0, rw 23 12 0x0, rw 25 24 0x0, rsv 31 26 .rw],
   row 80 95 0x0020 1 .imm [ro 47 0 0x0, rsv 63 48 .ro],
   row 128 128 0x0016 1 .beat [rw 0 0 0x0, rw 1 1 0x0, rwr 11 2 0x64 1 1023, rsv 31 12 .rw],
   row 128 128 0x0032 1 .imm [rc 31 0 0x0],
   row 128 128 0x0010 1 .beat [rw 0 0 0x0, rw 1 1 0x1, rwr 3 2 0x2 0 2, rsv 31 4 .rw],
   row 129 129 0x0010 1 .beat [rsv 0 0 .rw, rw 1 1 0x1, rsv 31 2 .rw],
   row 128 129 0x0011 1 .frame [rw 11 0 0x780, rw 23 12 0x30, rw 35 24 0x20, rw 47 36 0x50, rw 48 48 0x1, rsv 63 49 .rw]]  ++
  [row 128 129 0x0012 1 .frame [rw 11 0 0x4b0, rw 23 12 0x3, rw 35 24 0x6, rw 47 36 0x1a, rw 48 48 0x0, rsv 63 49 .rw],
   row 128 129 0x0013 1 .frame [rw 31 0 0x25990],
   row 128 129 0x0014 1 .frame [rw 29 0 0x0, rsv 31 30 .rw],
   row 128 129 0x0020 1 .imm [ro 1 0 0x0, ro 2 2 0x0, ro 3 3 0x0, ro 4 4 0x0, rsv 31 5 .ro],
   row 128 129 0x0021 1 .imm [ro 63 0 0x0],
   row 128 129 0x0022 1 .imm [ro 31 0 0x0],
   row 128 129 0x0023 1 .imm [ro 31 0 0xffffffff],
   row 128 129 0x0030 1 .imm [rc 31 0 0x0],
   row 128 129 0x0031 1 .imm [rc 31 0 0x0],
   row 128 128 0x0040 1 .beat [rw 7 0 0x0, rw 9 8 0x0, rsv 27 10 .rw, rwr 31 28 0x0 0 8],
   row 129 129 0x0040 1 .beat [rw 7 0 0x0, rw 27 8 0x0, rwr 31 28 0x0 0 8],
   row 128 129 0x0041 1 .beat [rw 63 0 0x0],
   row 128 129 0x0042 1 .beat [w1 0 0 0x0, w1 1 1 0x0, rsv 31 2 .w1],
   row 128 129 0x0043 1 .imm [ro 63 0 0x0],
   row 128 129 0x0044 1 .imm [ro 2 0 0x0, rsv 31 3 .ro],
   row 129 129 0x0015 1 .frame [rw 1 0 0x1, rwr 3 2 0x2 0 2, rw 4 4 0x0, rsv 31 5 .rw],
   row 0 15 0x0001 1 .beat [rw 0 0 0x0, rsv 31 1 .rw]]  ++
  [row 0 15 0x0002 1 .imm [ro 1 0 0x0, ro 3 2 0x0, rsv 31 4 .ro],
   row 32 47 0x0001 1 .beat [rw 0 0 0x0, rsv 31 1 .rw],
   row 32 47 0x0002 1 .imm [ro 1 0 0x0, ro 3 2 0x0, rsv 31 4 .ro],
   row 64 64 0x0001 1 .beat [rw 0 0 0x0, rsv 31 1 .rw],
   row 64 64 0x0002 1 .imm [ro 1 0 0x0, ro 3 2 0x0, rsv 31 4 .ro],
   row 128 129 0x0001 1 .beat [rw 0 0 0x0, rsv 31 1 .rw],
   row 128 129 0x0002 1 .imm [ro 1 0 0x0, ro 3 2 0x0, rsv 31 4 .ro]]

/-- The parameters of block WVR (code 0x0B). -/
def rowsWVR : List Row :=
  [row 0 63 0x0010 1 .beat [rw 13 0 0x0, rw 14 14 0x0, rsv 31 15 .rw],
   row 0 63 0x0011 1 .beat [rw 55 0 0x0, rsv 63 56 .rw],
   row 0 63 0x0012 1 .beat [rwr 15 0 0x100 1 65535, rsv 31 16 .rw],
   row 0 63 0x0013 1 .beat [rw 13 0 0x0, rw 27 14 0x0, rsv 31 28 .rw],
   row 0 63 0x0014 1 .beat [rw 13 0 0x0, rw 27 14 0x0, rw 28 28 0x0, rsv 31 29 .rw],
   row 0 63 0x0020 8 .beat [rwr 2 0 0x0 0 5, rw 10 3 0x0, rsv 31 11 .rw],
   row 0 63 0x0028 8 .beat [rw 13 0 0x0, rw 27 14 0x0, rsv 31 28 .rw],
   row 0 63 0x0030 1 .imm [ro 1 0 0x0, ro 2 2 0x0, ro 16 3 0x0, rsv 31 17 .ro],
   row 0 63 0x0031 1 .imm [ro 7 0 0x0, ro 21 8 0x0, rsv 31 22 .ro],
   row 0 63 0x0032 1 .imm [ro 0 0 0x0, ro 3 1 0x0, rsv 31 4 .ro],
   row 0 63 0x0033 1 .imm [ro 31 0 0x0],
   row 0 63 0x0034 1 .imm [rc 31 0 0x0],
   row 0 63 0x0040 1 .imm [rc 31 0 0x0],
   row 0 63 0x0041 1 .imm [rc 31 0 0x0],
   row 0 63 0x0042 1 .imm [rc 31 0 0x0],
   row 0 63 0x0043 1 .imm [rc 31 0 0x0]]  ++
  [row 0 63 0x0044 1 .imm [rc 31 0 0x0],
   row 64 64 0x0010 1 .beat [rw 7 0 0x0, rw 15 8 0x0, rsv 31 16 .rw],
   row 0 63 0x0001 1 .beat [rw 0 0 0x0, rsv 31 1 .rw],
   row 0 63 0x0002 1 .imm [ro 1 0 0x0, ro 3 2 0x0, rsv 31 4 .ro]]

/-- The parameters of block NET (code 0x0C). -/
def rowsNET : List Row :=
  [row 0 16 0x0010 1 .beat [rw 0 0 0x0, rw 1 1 0x0, rw 4 2 0x0, rw 16 5 0x0, rw 19 17 0x0, rsv 31 20 .rw],
   row 0 15 0x0011 1 .beat [rw 47 0 0x0, rsv 63 48 .rw],
   row 16 16 0x0011 1 .boot [rw 47 0 0x0, rsv 63 48 .rw],
   row 0 15 0x0012 1 .beat [rw 31 0 0x0, rwr 37 32 0x18 0 32, rsv 63 38 .rw],
   row 16 16 0x0012 1 .boot [rw 31 0 0x0, rwr 37 32 0x18 0 32, rsv 63 38 .rw],
   row 0 15 0x0013 1 .beat [rw 31 0 0x0],
   row 16 16 0x0013 1 .boot [rw 31 0 0x0],
   row 0 15 0x0014 1 .beat [rw 63 0 0x0],
   row 16 16 0x0014 1 .boot [rw 63 0 0x0],
   row 0 15 0x0015 1 .beat [rw 63 0 0x0],
   row 16 16 0x0015 1 .boot [rw 63 0 0x0],
   row 0 15 0x0016 1 .beat [rwr 7 0 0x40 0 128, rsv 31 8 .rw],
   row 16 16 0x0016 1 .boot [rwr 7 0 0x40 0 128, rsv 31 8 .rw],
   row 0 15 0x0017 1 .beat [rw 63 0 0x0],
   row 16 16 0x0017 1 .boot [rw 63 0 0x0],
   row 0 15 0x0018 1 .beat [rw 63 0 0x0]]  ++
  [row 16 16 0x0018 1 .boot [rw 63 0 0x0],
   row 0 16 0x0020 1 .imm [ro 0 0 0x0, ro 3 1 0x0, rsv 31 4 .ro],
   row 0 16 0x0021 1 .imm [ro 19 0 0x0, rsv 31 20 .ro],
   row 0 16 0x0030 1 .imm [rc 31 0 0x0],
   row 0 16 0x0031 1 .imm [rc 31 0 0x0],
   row 0 16 0x0032 1 .imm [rc 31 0 0x0],
   row 0 16 0x0033 1 .imm [rc 31 0 0x0],
   row 0 16 0x0034 1 .imm [rc 31 0 0x0],
   row 32 35 0x0010 1 .beat [rwr 1 0 0x0 0 2, rsv 31 2 .rw],
   row 0 15 0x0001 1 .beat [rw 0 0 0x0, rsv 31 1 .rw],
   row 0 15 0x0002 1 .imm [ro 1 0 0x0, ro 3 2 0x0, rsv 31 4 .ro],
   row 16 16 0x0001 1 .beat [rw 0 0 0x0, rsv 31 1 .rw],
   row 16 16 0x0002 1 .imm [ro 1 0 0x0, ro 3 2 0x0, rsv 31 4 .ro]]

/-- The parameters of block STR (code 0x0D). -/
def rowsSTR : List Row :=
  [row 0 63 0x0010 1 .beat [rwr 2 0 0x0 0 6, rw 9 3 0x0, rw 10 10 0x0, rw 11 11 0x0, rw 15 12 0x0, rw 16 16 0x0, rw 17 17 0x0, rw 19 18 0x1, rw 23 20 0x0, rw 24 24 0x0, rw 27 25 0x0, rwr 30 28 0x2 0 4, rsv 31 31 .rw],
   row 0 63 0x0011 1 .beat [rw 31 0 0x0],
   row 0 63 0x0012 1 .beat [rw 63 0 0x0],
   row 0 63 0x0013 1 .beat [rw 63 0 0x0],
   row 0 63 0x0014 1 .beat [rw 15 0 0x12c0, rw 31 16 0xc000],
   row 0 63 0x0015 1 .beat [rwr 18 0 0x2710 1 385000, rsv 31 19 .rw],
   row 0 63 0x0016 1 .beat [rwr 20 0 0x0 0 1600000, rsv 31 21 .rw],
   row 0 63 0x0017 1 .beat [rwr 5 0 0x1 1 32, rsv 31 6 .rw],
   row 0 63 0x0018 1 .beat [rw 63 0 0x0],
   row 0 63 0x0019 1 .beat [rw 63 0 0xffffffffffffffff],
   row 0 63 0x001A 1 .beat [rw 23 0 0x0, rsv 31 24 .rw],
   row 0 63 0x001B 1 .beat [rw 63 0 0x0],
   row 0 63 0x001C 1 .beat [rw 31 0 0x0],
   row 0 63 0x001D 1 .beat [rw 31 0 0x10000],
   row 0 63 0x001E 1 .imm [rw 31 0 0x0],
   row 0 63 0x0020 1 .imm [ro 1 0 0x0, ro 25 2 0x0, rsv 31 26 .ro]]  ++
  [row 0 63 0x0021 1 .imm [ro 63 0 0x0],
   row 0 63 0x0022 1 .imm [ro 15 0 0x100, rsv 31 16 .ro],
   row 0 63 0x0030 1 .imm [rc 31 0 0x0],
   row 0 63 0x0031 1 .imm [rc 31 0 0x0],
   row 0 63 0x0032 1 .imm [rc 31 0 0x0],
   row 0 63 0x0001 1 .beat [rw 0 0 0x0, rsv 31 1 .rw],
   row 0 63 0x0002 1 .imm [ro 1 0 0x0, ro 3 2 0x0, rsv 31 4 .ro]]

/-- The parameters of block CDC (code 0x0E). -/
def rowsCDC : List Row :=
  [row 0 3 0x0020 1 .imm [ro 19 0 0x0, rsv 31 20 .ro],
   row 0 3 0x0030 1 .imm [rc 31 0 0x0],
   row 0 3 0x0031 1 .imm [rc 31 0 0x0],
   row 0 3 0x0032 1 .imm [rc 31 0 0x0],
   row 0 3 0x0033 1 .imm [rc 31 0 0x0],
   row 16 17 0x0010 1 .beat [rw 15 0 0x12c1, rw 16 16 0x0, rwr 28 17 0x100 1 4095, rsv 31 29 .rw],
   row 16 17 0x0011 1 .beat [rw 47 0 0x0, rsv 63 48 .rw],
   row 16 17 0x0012 1 .beat [rw 47 0 0x0, rsv 63 48 .rw],
   row 16 17 0x0013 1 .beat [rw 47 0 0x0, rsv 63 48 .rw],
   row 16 17 0x0020 1 .imm [ro 15 0 0x0, ro 18 16 0x0, rsv 31 19 .ro],
   row 16 17 0x0021 1 .imm [ro 63 0 0x0],
   row 16 17 0x0030 1 .imm [rc 31 0 0x0],
   row 16 17 0x0001 1 .beat [rw 0 0 0x0, rsv 31 1 .rw],
   row 16 17 0x0002 1 .imm [ro 1 0 0x0, ro 3 2 0x0, rsv 31 4 .ro]]

/-- The parameters of block STM (code 0x0F). -/
def rowsSTM : List Row :=
  [row 0 3 0x0010 1 .beat [rw 1 0 0x0, rw 4 2 0x0, rw 16 5 0x0, rw 17 17 0x0, rwr 19 18 0x1 0 2, rwr 21 20 0x0 0 2, rsv 31 22 .rw],
   row 0 3 0x0011 1 .beat [rw 17 0 0x20000, rsv 31 18 .rw],
   row 0 3 0x0012 1 .beat [rw 15 0 0x12c2, rsv 31 16 .rw],
   row 0 3 0x0013 1 .beat [w1 11 0 0x0, w1 12 12 0x0, rsv 31 13 .w1],
   row 0 3 0x0020 1 .imm [ro 1 0 0x0, ro 2 2 0x0, ro 3 3 0x0, ro 15 4 0x0, rsv 31 16 .ro],
   row 0 3 0x0021 1 .imm [ro 63 0 0x0],
   row 0 3 0x0022 1 .imm [ro 39 0 0x0, rsv 63 40 .ro],
   row 0 3 0x0023 1 .imm [ro 31 0 0x0],
   row 0 3 0x0024 1 .imm [ro 63 0 0x0],
   row 0 3 0x0025 1 .imm [ro 63 0 0x0],
   row 0 3 0x0026 1 .imm [ro 63 0 0x0],
   row 0 3 0x0030 1 .imm [rc 31 0 0x0],
   row 0 3 0x0031 1 .imm [rc 31 0 0x0],
   row 0 3 0x0032 1 .imm [rc 31 0 0x0],
   row 0 3 0x0033 1 .imm [rc 31 0 0x0],
   row 0 3 0x0034 1 .imm [rc 31 0 0x0]]  ++
  [row 0 3 0x0035 1 .imm [rc 31 0 0x0],
   row 0 3 0x0036 1 .imm [rc 31 0 0x0],
   row 16 16 0x0010 1 .beat [rwr 7 0 0x0 0 133, rwr 15 8 0x0 0 134, rsv 31 16 .rw],
   row 16 16 0x0020 1 .imm [ro 47 0 0x0, rsv 63 48 .ro],
   row 16 16 0x1000 1024 .beat [rwr 1 0 0x0 0 2, rw 3 2 0x1, rw 27 4 0x0, rw 59 28 0x0, rsv 63 60 .rw],
   row 16 16 0x1400 1024 .beat [rw 31 0 0x0],
   row 16 16 0x2000 4096 .beat [rwr 1 0 0x2 0 2, rw 13 2 0x0, rw 37 14 0x0, rw 49 38 0x0, rsv 63 50 .rw],
   row 16 16 0x3000 4096 .beat [rw 31 0 0x0, rw 47 32 0x0, rsv 63 48 .rw],
   row 0 3 0x0001 1 .beat [rw 0 0 0x0, rsv 31 1 .rw],
   row 0 3 0x0002 1 .imm [ro 1 0 0x0, ro 3 2 0x0, rsv 31 4 .ro]]

/-- The parameters of block VEC (code 0x10). -/
def rowsVEC : List Row :=
  [row 0 0 0x0010 1 .beat [rw 1 0 0x0, rwr 17 2 0x40 1 65535, rsv 31 18 .rw],
   row 0 0 0x0011 1 .beat [rw 47 0 0x0, rsv 63 48 .rw],
   row 0 0 0x0012 1 .beat [rw 47 0 0x0, rsv 63 48 .rw],
   row 0 0 0x0013 1 .beat [rw 31 0 0x0],
   row 0 0 0x0014 1 .beat [rw 31 0 0x0],
   row 0 0 0x0015 1 .beat [w1 0 0 0x0, rsv 31 1 .w1],
   row 0 0 0x0020 1 .imm [ro 63 0 0x0],
   row 0 0 0x0021 1 .imm [ro 63 0 0xffffffffffffffff],
   row 0 0 0x0022 1 .imm [ro 31 0 0x0],
   row 0 0 0x0023 1 .imm [ro 47 0 0x0, rsv 63 48 .ro],
   row 0 0 0x0024 1 .imm [ro 47 0 0x0, rsv 63 48 .ro],
   row 0 0 0x0025 1 .imm [ro 31 0 0x0],
   row 0 0 0x0030 1 .imm [rc 31 0 0x0],
   row 0 0 0x0031 1 .imm [rc 31 0 0x0],
   row 0 0 0x0032 1 .imm [rc 31 0 0x0],
   row 0 0 0x0001 1 .beat [rw 0 0 0x0, rsv 31 1 .rw]]  ++
  [row 0 0 0x0002 1 .imm [ro 1 0 0x0, ro 3 2 0x0, rsv 31 4 .ro]]

/-- The parameters of block TIM (code 0x11). -/
def rowsTIM : List Row :=
  [row 0 0 0x0010 1 .beat [rwr 1 0 0x0 0 2, rwr 4 2 0x0 0 4, rwr 9 5 0x0 0 16, rw 10 10 0x0, rw 11 11 0x0, rw 12 12 0x0, rsv 31 13 .rw],
   row 0 0 0x0011 1 .beat [rwr 13 0 0x64 1 10000, rwr 23 14 0x64 1 500, rsv 31 24 .rw],
   row 0 0 0x0012 1 .beat [rw 31 0 0x0],
   row 0 0 0x0013 1 .beat [rwr 31 0 0x15180 1 2147483648],
   row 0 0 0x0014 1 .beat [rw 63 0 0x0],
   row 0 0 0x0015 1 .beat [rw 31 0 0x0],
   row 0 0 0x0016 1 .beat [rwr 7 0 0x0 0 239, rw 8 8 0x0, rsv 31 9 .rw],
   row 0 0 0x0020 1 .imm [ro 1 0 0x0, ro 2 2 0x0, ro 4 3 0x0, ro 5 5 0x0, ro 6 6 0x0, rsv 31 7 .ro],
   row 0 0 0x0021 1 .imm [ro 63 0 0x0],
   row 0 0 0x0022 1 .imm [ro 31 0 0x0],
   row 0 0 0x0023 1 .imm [ro 31 0 0x0],
   row 0 0 0x0024 1 .imm [ro 63 0 0x0],
   row 0 0 0x0030 1 .imm [rc 31 0 0x0],
   row 0 0 0x0031 1 .imm [rc 31 0 0x0],
   row 16 23 0x0010 1 .beat [rwr 1 0 0x0 0 2, rwr 8 2 0x1 1 64, rwr 19 9 0x0 0 2000, rwr 27 20 0x10 1 255, rsv 31 28 .rw],
   row 16 23 0x0011 1 .beat [w1 0 0 0x0, rsv 31 1 .w1]]  ++
  [row 16 23 0x0020 1 .imm [ro 63 0 0x0],
   row 32 33 0x0010 1 .beat [rw 0 0 0x0, rw 1 1 0x1, rwr 20 2 0x186a0 1 500000, rsv 31 21 .rw],
   row 32 33 0x0011 1 .beat [rw 31 0 0x0],
   row 40 40 0x0010 1 .beat [rw 0 0 0x0, rw 1 1 0x0, rw 2 2 0x0, rsv 31 3 .rw],
   row 64 80 0x0010 1 .beat [rwr 1 0 0x0 0 2, rwr 3 2 0x1 0 2, rw 4 4 0x0, rw 8 5 0x0, rw 12 9 0x1, rw 16 13 0x0, rw 17 17 0x0, rsv 31 18 .rw],
   row 64 80 0x0011 1 .beat [rw 31 0 0x0],
   row 64 80 0x0020 1 .imm [ro 2 0 0x0, rsv 31 3 .ro],
   row 64 80 0x0021 1 .imm [ro 31 0 0x0],
   row 64 80 0x0030 1 .imm [rc 31 0 0x0],
   row 64 80 0x0031 1 .imm [rc 31 0 0x0]]

/-- The parameters of block TIU (code 0x12). -/
def rowsTIU : List Row :=
  [row 0 0 0x0010 1 .beat [rw 2 0 0x0, rw 10 3 0x2, rw 16 11 0x0, rsv 31 17 .rw],
   row 0 0 0x0011 1 .beat [rwr 31 0 0x3e8 1 1000000000],
   row 0 0 0x0012 1 .beat [rwr 31 0 0x0 0 1000000000],
   row 0 0 0x0013 1 .beat [rwr 24 0 0x400 1 16777216, rw 25 25 0x1, rsv 31 26 .rw],
   row 0 0 0x0014 1 .beat [rwr 7 0 0xa 1 40, rsv 31 8 .rw],
   row 0 0 0x0015 1 .beat [w1 0 0 0x0, rsv 31 1 .w1],
   row 0 0 0x0020 1 .imm [ro 1 0 0x0, rsv 31 2 .ro],
   row 0 0 0x0021 1 .imm [ro 63 0 0x0],
   row 0 0 0x0022 1 .imm [ro 15 0 0x0, rsv 31 16 .ro],
   row 0 0 0x0030 1 .imm [rc 31 0 0x0],
   row 0 0 0x0031 1 .imm [rc 31 0 0x0],
   row 16 23 0x0010 1 .beat [rwr 1 0 0x0 0 2, rsv 31 2 .rw],
   row 16 23 0x0020 1 .imm [ro 63 0 0x0],
   row 16 23 0x0021 1 .imm [ro 2 0 0x0, rsv 31 3 .ro],
   row 16 23 0x0022 1 .beat [rw 5 0 0x0, rsv 31 6 .rw],
   row 16 23 0x0023 1 .imm [ro 63 0 0x0]]  ++
  [row 16 23 0x0024 1 .imm [ro 63 0 0x0],
   row 16 23 0x0025 1 .imm [ro 63 0 0x0],
   row 16 23 0x0026 1 .imm [ro 63 0 0x0],
   row 16 23 0x0027 1 .imm [ro 24 0 0x0, rsv 31 25 .ro, ro 56 32 0x0, rsv 63 57 .ro],
   row 16 23 0x0030 1 .imm [rc 31 0 0x0],
   row 16 23 0x0031 1 .imm [rc 31 0 0x0],
   row 16 23 0x0032 1 .imm [rc 31 0 0x0],
   row 16 23 0x0033 1 .imm [rc 31 0 0x0],
   row 16 31 0x0011 1 .beat [rw 31 0 0x0]]

/-- The parameters of block CAL (code 0x13). -/
def rowsCAL : List Row :=
  [row 0 31 0x0010 1 .beat [rw 0 0 0x1, rw 1 1 0x0, rw 4 2 0x7, rwr 8 5 0x0 0 8, rwr 14 9 0x6 1 40, rsv 31 15 .rw],
   row 0 31 0x0011 1 .beat [rw 31 0 0x0, rw 47 32 0x0, rsv 63 48 .rw],
   row 0 31 0x0012 1 .beat [w1 0 0 0x0, rsv 31 1 .w1],
   row 0 31 0x0013 1 .beat [w1 0 0 0x0, rsv 31 1 .w1],
   row 0 31 0x0020 1 .imm [ro 2 0 0x0, ro 5 3 0x0, ro 9 6 0x0, rsv 31 10 .ro],
   row 0 31 0x0021 1 .imm [ro 6 0 0x0, rsv 31 7 .ro],
   row 0 31 0x0022 1 .imm [ro 15 0 0x0, rsv 31 16 .ro],
   row 0 31 0x0023 1 .imm [ro 31 0 0x0],
   row 0 31 0x0024 1 .imm [ro 31 0 0x0],
   row 0 31 0x0025 1 .imm [ro 47 0 0x0, rsv 63 48 .ro],
   row 0 31 0x0026 1 .imm [ro 47 0 0x0, rsv 63 48 .ro],
   row 0 31 0x0027 1 .imm [ro 15 0 0x0, rsv 31 16 .ro],
   row 0 31 0x0030 1 .imm [ro 23 0 0x0, ro 47 24 0x0, rsv 63 48 .ro],
   row 0 31 0x0031 1 .imm [ro 17 0 0x20000, ro 35 18 0x0, rsv 63 36 .ro],
   row 0 31 0x0038 8 .imm [ro 17 0 0x20000, ro 41 18 0x0, ro 57 42 0x0, rsv 63 58 .ro],
   row 0 31 0x0040 8 .imm [ro 15 0 0x0, ro 16 16 0x0, rsv 31 17 .ro]]  ++
  [row 0 31 0x1000 16 .beat [rw 17 0 0x0, rw 35 18 0x0, rsv 63 36 .rw],
   row 64 64 0x0010 1 .beat [rwr 5 0 0x8 1 63, rsv 31 6 .rw],
   row 64 64 0x0011 1 .beat [rw 15 0 0x0, rsv 31 16 .rw]]

/-- The parameters of block AUX (code 0x14). -/
def rowsAUX : List Row :=
  [row 0 0 0x0010 1 .beat [rwr 1 0 0x0 0 2, rwr 3 2 0x1 0 2, rwr 16 4 0x1fff 31 8191, rw 28 17 0x0, rw 29 29 0x0, rsv 31 30 .rw],
   row 0 0 0x0011 1 .beat [w1 0 0 0x0, rsv 31 1 .w1],
   row 0 0 0x0012 1 .beat [w1 0 0 0x0, rsv 31 1 .w1],
   row 0 0 0x0020 1 .imm [ro 0 0 0x0, ro 1 1 0x0, ro 2 2 0x0, ro 3 3 0x0, rsv 31 4 .ro],
   row 0 0 0x0021 1 .imm [ro 63 0 0x0],
   row 0 0 0x0022 1 .imm [ro 47 0 0x0, rsv 63 48 .ro],
   row 0 0 0x0023 1 .imm [ro 47 0 0x0, rsv 63 48 .ro],
   row 16 23 0x0010 1 .beat [rw 0 0 0x1, rsv 31 1 .rw],
   row 16 23 0x0020 1 .imm [ro 23 0 0x0, ro 24 24 0x0, rsv 31 25 .ro],
   row 16 23 0x0021 1 .imm [ro 23 0 0x0, rsv 31 24 .ro],
   row 16 23 0x0022 1 .imm [ro 17 0 0x0, rsv 31 18 .ro],
   row 16 23 0x0030 1 .imm [rc 31 0 0x0],
   row 0 0 0x0001 1 .beat [rw 0 0 0x0, rsv 31 1 .rw],
   row 0 0 0x0002 1 .imm [ro 1 0 0x0, ro 3 2 0x0, rsv 31 4 .ro]]

/-- The parameters of block PLT (code 0x15). -/
def rowsPLT : List Row :=
  [row 0 0 0x0010 1 .beat [rwr 1 0 0x0 0 2, rw 5 2 0xf, rw 19 6 0x0, rw 20 20 0x0, rw 21 21 0x0, rsv 31 22 .rw],
   row 0 0 0x0011 1 .imm [ro 17 0 0x0, rsv 31 18 .ro],
   row 0 0 0x0020 1 .imm [ro 0 0 0x0, ro 1 1 0x0, ro 5 2 0x0, ro 8 6 0x7, ro 24 9 0x0, rsv 31 25 .ro],
   row 0 0 0x0021 1 .imm [ro 31 0 0x0],
   row 0 0 0x0022 1 .imm [ro 15 0 0x0, rsv 31 16 .ro],
   row 0 0 0x0023 1 .imm [ro 15 0 0x0, rsv 31 16 .ro],
   row 0 0 0x0024 1 .imm [ro 63 0 0x0],
   row 0 0 0x0030 16 .imm [ro 15 0 0x0, rsv 31 16 .ro],
   row 16 19 0x0010 1 .beat [rw 3 0 0x0, rw 7 4 0x0, rsv 31 8 .rw],
   row 16 19 0x0020 1 .imm [ro 2 0 0x0, ro 20 3 0x0, ro 22 21 0x0, rsv 31 23 .ro],
   row 16 19 0x0021 1 .imm [ro 31 0 0x0],
   row 16 19 0x0022 1 .imm [ro 31 0 0x0],
   row 16 19 0x0023 1 .imm [ro 17 0 0x0, rsv 31 18 .ro],
   row 16 19 0x0030 1 .imm [rc 31 0 0x0],
   row 16 19 0x0031 1 .imm [rc 31 0 0x0],
   row 16 19 0x0032 1 .imm [rc 31 0 0x0]]  ++
  [row 32 39 0x0010 1 .beat [rw 4 0 0x0, rw 6 5 0x0, rw 9 7 0x0, rwr 11 10 0x0 0 2, rsv 31 12 .rw],
   row 32 39 0x0020 1 .imm [ro 17 0 0x0, rsv 31 18 .ro],
   row 32 39 0x0030 1 .imm [rc 31 0 0x0],
   row 48 55 0x0010 1 .beat [rw 4 0 0x0, rw 6 5 0x0, rw 9 7 0x0, rsv 31 10 .rw],
   row 48 55 0x0020 1 .imm [ro 17 0 0x0, ro 22 18 0x0, rsv 31 23 .ro],
   row 48 55 0x0030 1 .imm [rc 31 0 0x0],
   row 65 80 0x0010 1 .beat [rw 63 0 0x0],
   row 16 19 0x0001 1 .beat [rw 0 0 0x0, rsv 31 1 .rw],
   row 16 19 0x0002 1 .imm [ro 1 0 0x0, ro 3 2 0x0, rsv 31 4 .ro],
   row 32 39 0x0001 1 .beat [rw 0 0 0x0, rsv 31 1 .rw],
   row 32 39 0x0002 1 .imm [ro 1 0 0x0, ro 3 2 0x0, rsv 31 4 .ro],
   row 48 55 0x0001 1 .beat [rw 0 0 0x0, rsv 31 1 .rw],
   row 48 55 0x0002 1 .imm [ro 1 0 0x0, ro 3 2 0x0, rsv 31 4 .ro]]

/-- The parameters of block SEC (code 0x16). -/
def rowsSEC : List Row :=
  [row 0 0 0x0010 1 .imm [ro 5 0 0x0, ro 9 6 0x0, ro 10 10 0x0, rsv 31 11 .ro],
   row 0 0 0x0011 1 .imm [ro 5 0 0x0, ro 6 6 0x0, ro 7 7 0x0, ro 9 8 0x0, ro 13 10 0x0, rsv 31 14 .ro],
   row 0 0 0x0012 1 .imm [w1 0 0 0x0, w1 4 1 0x0, rsv 31 5 .w1],
   row 0 0 0x0013 1 .imm [w1 0 0 0x0, rsv 31 1 .w1],
   row 0 0 0x0014 1 .imm [ro 7 0 0x0, rsv 31 8 .ro],
   row 16 23 0x0010 13 .imm [rw 63 0 0x0],
   row 16 23 0x0020 1 .imm [w1 1 0 0x0, rsv 31 2 .w1],
   row 32 39 0x0010 10 .imm [rw 63 0 0x0],
   row 32 39 0x0020 1 .imm [rw 31 0 0x0],
   row 32 39 0x0021 1 .imm [w1 1 0 0x0, rsv 31 2 .w1],
   row 32 39 0x0022 1 .imm [ro 0 0 0x0, rsv 31 1 .ro],
   row 48 55 0x0010 7 .imm [rw 63 0 0x0],
   row 48 55 0x0020 1 .imm [w1 1 0 0x0, rsv 31 2 .w1],
   row 48 55 0x0021 1 .imm [ro 0 0 0x0, rsv 31 1 .ro]]

/-- The parameters of block JTX (code 0x17). -/
def rowsJTX : List Row :=
  [row 0 3 0x0010 1 .beat [rwr 5 0 0x0 0 15, rwr 9 6 0x1 1 8, rw 10 10 0x0, rwr 12 11 0x0 0 2, rsv 31 13 .rw],
   row 0 3 0x0011 1 .beat [rwr 3 0 0x1 0 7, rw 8 4 0x0, rw 15 9 0x3, rwr 20 16 0x10 8 16, rw 21 21 0x1, rwr 23 22 0x0 0 2, rsv 31 24 .rw],
   row 0 3 0x0012 1 .beat [rw 4 0 0x0, rw 9 5 0x1f, rsv 14 10 .rw, rw 17 15 0x0, rsv 31 18 .rw],
   row 0 3 0x0013 1 .beat [rw 7 0 0x0, rsv 31 8 .rw],
   row 0 3 0x0014 1 .beat [rw 3 0 0x0, rsv 31 4 .rw],
   row 0 3 0x0020 1 .imm [ro 7 0 0x0, ro 8 8 0x0, ro 9 9 0x0, rsv 31 10 .ro],
   row 0 3 0x0021 1 .imm [ro 31 0 0x0],
   row 0 3 0x0025 1 .imm [ro 31 0 0x0],
   row 0 3 0x0001 1 .beat [rw 0 0 0x0, rsv 31 1 .rw],
   row 0 3 0x0002 1 .imm [ro 1 0 0x0, ro 3 2 0x0, rsv 31 4 .ro]]

/-- The parameters of block THM (code 0x18). -/
def rowsTHM : List Row :=
  [row 0 0 0x0010 1 .boot [rw 6 0 0x40, rsv 31 7 .rw],
   row 0 0 0x0011 1 .beat [rwr 1 0 0x0 0 2, rwr 11 2 0x2ee 720 800, rsv 31 12 .rw],
   row 0 0 0x0012 1 .beat [w1 0 0 0x0, rsv 31 1 .w1],
   row 0 0 0x0020 1 .imm [ro 15 0 0x0, rsv 31 16 .ro],
   row 0 0 0x0021 1 .imm [ro 15 0 0x8000, rsv 31 16 .ro],
   row 0 0 0x0022 1 .imm [ro 15 0 0x6e0, rsv 31 16 .ro],
   row 0 0 0x0023 1 .imm [ro 1 0 0x0, ro 11 2 0x2ee, ro 27 12 0x0, rsv 31 28 .ro],
   row 0 0 0x0024 1 .imm [ro 11 0 0x0, ro 27 12 0x0, rsv 31 28 .ro],
   row 0 0 0x0030 1 .imm [rc 31 0 0x0],
   row 16 19 0x0020 1 .imm [ro 31 0 0x0]]

/-- The rows of a block, by its code (R48). -/
def blockRows : Nat → List Row
  | 0x01 => rowsSYS
  | 0x02 => rowsEVT
  | 0x03 => rowsCLK
  | 0x04 => rowsJRX
  | 0x05 => rowsLANE
  | 0x06 => rowsXFM
  | 0x07 => rowsTRG
  | 0x08 => rowsCAP
  | 0x09 => rowsMEM
  | 0x0A => rowsDEN
  | 0x0B => rowsWVR
  | 0x0C => rowsNET
  | 0x0D => rowsSTR
  | 0x0E => rowsCDC
  | 0x0F => rowsSTM
  | 0x10 => rowsVEC
  | 0x11 => rowsTIM
  | 0x12 => rowsTIU
  | 0x13 => rowsCAL
  | 0x14 => rowsAUX
  | 0x15 => rowsPLT
  | 0x16 => rowsSEC
  | 0x17 => rowsJTX
  | 0x18 => rowsTHM
  | _ => []

end Sys2Proof.Machine
end

