-- ==== Sys2Proof/Machine/Tab.lean ====
section
/-! DEFINITION. Tables: a value for each number, held as a list of (number, value) pairs, strictly rising; a number that
is not listed has the table's default. -/
namespace Sys2Proof.Machine

/-- A table from numbers to values. -/
abbrev Tab (α : Type) := List (Nat × α)

/-- The value a table holds for `k`; `d` when it lists none. -/
def tget {α : Type} (d : α) : Tab α → Nat → α
  | [], _ => d
  | (i, v) :: t, k => if i = k then v else tget d t k

/-- The value a table lists for `k`, if any. -/
def tfind {α : Type} : Tab α → Nat → Option α
  | [], _ => none
  | (i, v) :: t, k => if i = k then some v else tfind t k

/-- The table with `v` at `k`. -/
def tset {α : Type} : Tab α → Nat → α → Tab α
  | [], k, v => [(k, v)]
  | (i, w) :: t, k, v =>
    if k < i then (k, v) :: (i, w) :: t
    else if k = i then (k, v) :: t
    else (i, w) :: tset t k v

/-- The table with `f` applied to its value at `k`. -/
def tupd {α : Type} (d : α) (t : Tab α) (k : Nat) (f : α → α) : Tab α := tset t k (f (tget d t k))

/-- The table without an entry at `k`. -/
def tdel {α : Type} (t : Tab α) (k : Nat) : Tab α := t.filter (fun e => e.1 != k)

/-- The keys of a table strictly rise and lie above `lo`. -/
def risingFrom {α : Type} : Nat → Tab α → Bool
  | _, [] => true
  | lo, (i, _) :: t => decide (lo ≤ i) && risingFrom (i + 1) t

/-- The canonical form of a table: its keys strictly rise. -/
def twf {α : Type} (t : Tab α) : Bool := risingFrom 0 t

end Sys2Proof.Machine
end

