-- ==== Sys2Proof/Machine/LinkTypes.lean ====
section
/-! DEFINITION. The state of one converter link (R94 to R102) and of one SPI master port (R103), besides their parameters. -/
namespace Sys2Proof.Machine

/-- A receive or transmit link: the step of its start sequence it stands at (R96; 0 when it is not starting or restarting,
5 when it waits only for its release), the beat boundary of its epoch in the present numbering (negative when a step has
renumbered past it), whether it has released since ENABLE, the cause of the lost stretch in progress (R101), the release delay in
use, the core cycle count at which the sequence began, whether the epoch or the delay has changed since the last release, and the
epoch shift since then. -/
structure Link where
  step : Nat := 0
  epoch : Option Int := none
  everReleased : Bool := false
  lost : Option Nat := none
  delay : Nat := 0
  started : Nat := 0
  changed : Bool := false
  shift : Int := 0
  /-- A JESD204B transmit link that sends code groups (R102). -/
  resync : Bool := false
  /-- The runs of samples that DROP discards (R99): the first, counted from the epoch, and their number. -/
  drops : List (Int × Nat) := []
deriving DecidableEq, Repr

/-- An SPI port with a transaction in progress: its length, its chip select, and the core that started it. -/
structure SpiPort where
  len : Nat := 0
  cs : Nat := 0
  core : Option Nat := none
deriving DecidableEq, Repr

end Sys2Proof.Machine
end

