-- ==== Sys2Proof/Machine/WeaverTypes.lean ====
section
/-! DEFINITION. The state of one Weaver core (R290, R297 to R317): its registers, the results still in flight, the run of
its program, its control words, its DMA queue and its queues in the Y bank. -/
namespace Sys2Proof.Machine

/-- A register that a result in flight lands in (R297). -/
inductive CReg where
  | d (i : Nat) | a (i : Nat) | p (i : Nat) | m (i : Nat)
  | lc | lb | le | sr | bx | ira | isr
  /-- The condition codes: the result carries the bits it sets in its upper half and their values in its lower. -/
  | cc
  /-- SR.SAT or SR.OVF, sticky (R294): the result is the mask of bits to set. -/
  | srSet
  /-- The copy of LC, LB and LE that loop ends use, one word later than reads do (R298). -/
  | clc | clb | cle
  /-- A control word (R309). -/
  | cw (i : Nat)
deriving DecidableEq, Repr

/-- A result in flight: the register, its value, and the words still to be issued before it is visible (R297). -/
structure Flight where
  reg : CReg
  val : Nat
  wait : Nat
deriving DecidableEq, Repr

/-- A queued DMA descriptor (R310): source, destination and length words, and its tag. -/
structure DmaDesc where
  src : Nat
  dst : Nat
  len : Nat
  tag : Nat
deriving DecidableEq, Repr

/-- A service record in a core's queue that is not yet answered (R314): its tag, the reply that waits for it and the place
of its record there, and the core cycle count at its entry. -/
structure SvcRec where
  tag : Nat
  reply : Nat
  place : Nat
  opcode : Nat
  key : Nat
  since : Nat
deriving DecidableEq, Repr

/-- One tap or queue ring in Y (R305, R308, R314): write and read offsets, the offset that arrived entries have reached but
that no boundary has released, the entry count, and whether the next entry carries LOSS. -/
structure Ring where
  wr : Nat := 0
  rd : Nat := 0
  fill : Nat := 0
  seq : Nat := 0
  loss : Bool := false
deriving DecidableEq, Repr

/-- The state of one Weaver core. -/
structure Core where
  d : Tab Word48 := []
  a : Tab (BitVec 104) := []
  p : Tab (BitVec 16) := []
  m : Tab (BitVec 16) := []
  lc : BitVec 16 := 0
  lb : BitVec 14 := 0
  le : BitVec 14 := 0
  clc : BitVec 16 := 0
  clb : BitVec 14 := 0
  cle : BitVec 14 := 0
  sr : BitVec 16 := 0
  bx : BitVec 6 := 0
  cc : BitVec 5 := 0
  ira : BitVec 14 := 0
  isr : BitVec 16 := 0
  /-- The address of the next word to issue, and of the word last issued. -/
  pc : BitVec 14 := 0
  last : BitVec 14 := 0
  flight : List Flight := []
  /-- The delay slots still to issue and the target after them (R298). -/
  delay : Option (Nat × Nat) := none
  /-- The repetitions of the word at `pc` still to issue (R333). -/
  rep : Option Nat := none
  /-- Idle in WAITB (R303), and in an interrupt taken from there. -/
  waitb : Bool := false
  fromWaitb : Bool := false
  /-- Halted under R316. -/
  halted : Bool := false
  /-- A beat start is due and not yet taken (R303); in ABORT it waits only for a REP to end (R304). -/
  beatDue : Bool := false
  abortDue : Bool := false
  /-- Outputs carry the LATE mark (R304). -/
  late : Bool := false
  /-- Core cycles since the last beat start. -/
  hcycles : Nat := 0
  /-- Pending counts of the four interrupt lines (R300). -/
  pend : Tab Nat := []
  /-- The entry address that the next start uses (R66). -/
  entry : Nat := 0
  /-- Program words ever loaded (R65, R316). -/
  prog : Tab Word := []
  /-- Written control words, by address (R309), and the latched time words. -/
  cw : Tab Nat := []
  dma : List DmaDesc := []
  dmaTag : Nat := 0
  dmaStatus : Nat := 0
  reqBusy : Bool := false
  reqStatus : Nat := 0
  reqAddr : Nat := 0
  /-- The SPI ports on which a transaction of this core runs. -/
  spi : List Nat := []
  taps : Tab Ring := []
  rpt : Ring := {}
  svc : Ring := {}
  svcRecs : List SvcRec := []
  /-- The SAMPLES entry that each tap gathers: its first index, and its sample words and flags, newest first. -/
  gather : Tab (Nat × List (Nat × Nat)) := []
  /-- Values of QUAL_GATE that GATE has written, for the next boundary: unit and value. -/
  gates : List (Nat × Nat) := []
  /-- The core cycle count of the latest stores of its own program, and the words stored in it (R291). -/
  stored : Nat × List Nat := (0, [])
  /-- The words that its taps have delivered in the present beat (R306). -/
  tapped : Nat := 0
deriving DecidableEq, Repr

end Sys2Proof.Machine
end

