-- ==== Sys2Proof/Machine/BaseTypes.lean ====
section
/-! DEFINITION. The state of Stenor's side of the engine: device states (R10, R32), Fysiva times (R11), BCP messages (R35),
sessions and their event queues (R39 to R45, R80 to R83), accepted requests, prepared transactions and schedule entries
(R53 to R63). -/
namespace Sys2Proof.Machine

/-- The device states of R10 and R32; DEGRADED is a condition within FLOW. -/
inductive DevState where
  | reset | boot | thaw | flow | halt
deriving DecidableEq, Repr

/-- A Fysiva time (R11): TAI seconds, nanoseconds, fraction in 2^-16 ns, quality. -/
structure Fysiva where
  sec : Nat := 0
  ns : Nat := 0
  frac : Nat := 0
  quality : Nat := 0
deriving DecidableEq, Repr

/-- One step's change of memory: a byte stored, or every listed byte of `[lo, hi)` forgotten (it then reads as an unlisted
one). -/
inductive MemOp where
  | byte (a : Nat) (v : Byte)
  | clear (lo hi : Nat)
deriving DecidableEq, Repr

/-- A BCP packet the engine sends (R35); MAGIC, VERSION and PARAM_LENGTH follow from it. `tag` is 16 bytes, all zero where
the manual says so. -/
structure BcpMsg where
  flags : Nat
  opcode : Nat
  session : Nat
  seq : Nat
  status : Nat
  target : Nat
  payload : List Byte
  tag : List Byte
deriving DecidableEq, Repr

/-- One event occurrence raised by the command in progress: identifier, 16-byte payload, and the time of its cause where the
owning chapter defines one (R77). -/
structure Occ where
  id : Nat
  payload : List Byte
  at? : Option Fysiva := none
deriving DecidableEq, Repr

/-- One event record in a session's queue (R81), and the core cycle count at its detection (R83). -/
structure EvRec where
  id : Nat
  severity : Nat
  loss : Bool
  seq : Nat
  beat : Nat
  time : Fysiva
  payload : List Byte
  since : Nat
deriving DecidableEq, Repr

/-- A closed event packet that has not left yet (R83). -/
structure EvPkt where
  recs : List EvRec
deriving DecidableEq, Repr

/-- An open session (R39, R43, R45, R67, R81 to R83). Bit 31 of `id` marks a group session. -/
structure Session where
  id : Nat
  h2e : List Byte
  e2h : List Byte
  /-- The wrap key of R480. -/
  wrap : List Byte := []
  nextSeq : Nat := 2
  /-- Sequences of the 16 most recently accepted requests, newest first, each with its reply once that is made (R43). -/
  cache : List (Nat × Option BcpMsg) := []
  lastAccept : Nat := 0
  mask : Nat := 0
  evtPort : Nat := 0
  minSev : Nat := 0
  addr : Nat := 0
  dport : Nat := 0
  /-- The interface of the latest accepted request, 16 the management port (R81). -/
  iface : Nat := 16
  queue : List EvRec := []
  /-- Records discarded since the last EV_EVT_LOST, and whether the session waits for two free places (R82). -/
  lost : Nat := 0
  full : Bool := false
  evtSeq : Nat := 1
  /-- Closed packets waiting to leave. -/
  closed : List EvPkt := []
deriving DecidableEq, Repr

/-- A handshake between step 2 and step 4 (R39, R41). -/
structure Handshake where
  id : Nat
  step1 : List Byte
  engine : List Byte
  hostKey : Nat
  h2e : List Byte
  e2h : List Byte
  wrap : List Byte := []
  since : Nat
  port : Nat
  addr : Nat
  dport : Nat
deriving DecidableEq, Repr

/-- Where a reply goes, and what its header repeats. -/
structure ReplyTo where
  session : Nat
  seq : Nat
  opcode : Nat
  noReply : Bool
  port : Nat
  addr : Nat
  dport : Nat
deriving DecidableEq, Repr

/-- Who asked for a request: a session, the core session of a Weaver core (R313), or a schedule entry (R63). -/
inductive Asker where
  | session (id seq : Nat)
  | core (c : Nat)
  | entry (id : Nat)
deriving DecidableEq, Repr

/-- A write record: a key and the value it sets. -/
structure WriteRec where
  key : Nat
  val : Nat
deriving DecidableEq, Repr

/-- What an accepted request performs at its boundary (R54 to R63, R66, R68, R69). A key of a SNAPSHOT that acceptance refused
carries its status. -/
inductive ReqBody where
  /-- A SET record. -/
  | write (r : WriteRec)
  /-- The records of a SET_MANY or a committed transaction. -/
  | writeMany (rs : List WriteRec)
  /-- START_CORE: the cores and their entry address. -/
  | startCores (cores : List Nat) (entry : Nat)
  | stopCores (cores : List Nat)
  | arm (units : List Nat)
  | disarm (units : List Nat)
  | force (units : List Nat)
  | calRun (units : List Nat)
  | snapshot (keys : List (Nat × Nat)) (rto : ReplyTo)
  | reset (kind : Nat)
deriving DecidableEq, Repr

/-- An accepted request waiting for its performance beat (R55); `group` is one per request, so that the records of one SET
count once. -/
structure Accepted where
  asker : Asker
  group : Nat
  target : Nat
  body : ReqBody
deriving DecidableEq, Repr

/-- A prepared transaction (R59, R60). -/
structure Txn where
  session : Nat
  seq : Nat
  target : Nat
  recs : List WriteRec
  committed : Bool := false
deriving DecidableEq, Repr

/-- A standing schedule entry (R63). -/
structure SchedEntry where
  id : Nat
  session : Nat
  seq : Nat
  next : Nat
  period : Nat
  left : Option Nat
  opcode : Nat
  payload : List Byte
deriving DecidableEq, Repr

/-- A GET or SET reply that waits for service answers (R314): its records in order, each with its key, status and value
bytes, and the places not answered yet. -/
structure HeldReply where
  id : Nat
  rto : ReplyTo
  target : Nat
  recs : List (Nat × Nat × List Byte)
  isGet : Bool
  waiting : List Nat
  core : Option Nat := none
deriving DecidableEq, Repr

/-- What a command sends out of the engine. -/
inductive Sent where
  /-- The status of a write made by a command that carries no packet. -/
  | result (status : Nat)
  /-- A BCP reply or event packet, on a port (16 the management port), to an address and UDP port. -/
  | bcp (port addr dport : Nat) (m : BcpMsg)
  /-- A packet passed on over the Plait CTRL class (R44, R461): the Plait port it leaves on and its bytes, with its source. -/
  | ctrl (port : Nat) (bytes : List Byte) (addr dport : Nat)
  /-- A network frame on an interface (R336, R351, R352, R403): its kind, its addressing fields and its content. Kinds: 1 ARP
  (operation, sender MAC and address, target MAC and address); 2 neighbour discovery (ICMPv6 type, sender MAC and address, target);
  3 echo reply (1 for IPv6, destination); 4 a UDP stream packet (stream, 1 for IPv6, destination, source and destination port);
  5 a RoCEv2 packet (stream, destination, QPN, PSN, opcode, ring address, immediate data); 6 a PTP message; 7 a PFC frame. The last field is the IEEE 802.1Q tag, or 0 (R341). -/
  | frame (iface kind : Nat) (fields : List Nat) (bytes : List Byte)
  /-- An output pin takes a level, at a time within the beat in picoseconds. -/
  | pin (name : String) (index : Nat) (level : Bool) (atPs : Int)
  /-- REF_OUT runs at 10 MHz (0) or 100 MHz (1), or is held low (R400). -/
  | clockOut (freq : Nat) (on : Bool)
  /-- An SPI transaction begins: port, chip select, SPI mode (CPOL, CPHA) and DIV, its length, and the bits that the engine drives on
  SPI_SDIO, most significant first: all of them, or in three-wire mode those before the line turns round (R103). -/
  | spi (port cs mode div len driven : Nat) (tx : Nat)
  /-- Bits shifted out of the JTAG TDO pin. -/
  | tdo (bits : Nat) (len : Nat)
  /-- A PMBus transaction to a regulator's address: command code and data; a voltage stands in it in mV. -/
  | pmbus (addr cmd : Nat) (data : List Byte)
  /-- Samples sent to a converter: channel, I, Q. -/
  | dac (ch : Nat) (i q : Int)
  /-- The vector pins are driven: words 0 and 1 of R383, at a Fysiva time. -/
  | vec (w0 w1 : Nat) (at' : Fysiva)
  /-- A pseudo-channel serves a request: its rank (R236), slot, line and direction. -/
  | hbm (pc rank slot line : Nat) (write : Bool)
  /-- A message on a Plait port, by kind, and its fields. -/
  | plait (port kind : Nat) (fields : List Nat)
  /-- A side-channel transaction of a display output. -/
  | side (out cmd addr len data : Nat) (read : Bool)
  /-- The active pixels that a display output shows from a frame boundary (R276, R277): its FORMAT and its lines, from the top, each
  pixel with R above G above B. -/
  | scan (out format : Nat) (lines : List (List Nat))
  /-- The rest of an active line shows BORDER, as the output's format has it (R279). -/
  | scanBorder (out line pixel : Nat)
  /-- A display output sends timing without pixels: blanking packets, or the new mode's timing and MSA (R284, R285). -/
  | scanBlank (out : Nat)
  /-- A display output holds its lanes: DSI at LP-11, DisplayPort on the idle pattern with NoVideoStream (R280, R284, R285). -/
  | scanIdle (out : Nat)
deriving DecidableEq, Repr

end Sys2Proof.Machine
end

