-- ==== Sys2Proof/Machine/Memory.lean ====
section
/-! DEFINITION. The byte memories of the engine (R64): HBM3E, the Weaver cluster memory, the Weaver data banks and the THAW
capture store, each in its own part of one address line. A cell lists an address whose byte is not 0; an unlisted address
reads as 0 (log entry 2). -/
namespace Sys2Proof.Machine

/-- Byte memories, listed sparsely. -/
abbrev Mem := List Host.Cell

/-- What an unlisted address reads as (DESIGN CHOICE, log entry 2; R469 for the Weaver memories). -/
def memDefault : Byte := 0

/-- The byte at an address. -/
def memRead : Mem → Nat → Byte
  | [], _ => memDefault
  | (i, v) :: t, a => if i = a then v else memRead t a

/-- The memory with `v` at `a`, in canonical form. -/
def memWrite : Mem → Nat → Byte → Mem
  | [], a, v => if v = memDefault then [] else [(a, v)]
  | (i, w) :: t, a, v =>
    if a < i then (if v = memDefault then (i, w) :: t else (a, v) :: (i, w) :: t)
    else if a = i then (if v = memDefault then t else (a, v) :: t)
    else (i, w) :: memWrite t a v

/-- The memory with every byte of `[lo, hi)` reading as unlisted. -/
def memClear (m : Mem) (lo hi : Nat) : Mem := m.filter (fun c => !(decide (lo ≤ c.1) && decide (c.1 < hi)))

/-- One change of memory. -/
def memApply (m : Mem) : MemOp → Mem
  | .byte a v => memWrite m a v
  | .clear lo hi => memClear m lo hi

/-- The changes of one step, oldest last in the list. -/
def memApplyAll (m : Mem) (ops : List MemOp) : Mem := ops.foldr (fun o m => memApply m o) m

/-- Addresses strictly rise from `lo`, and no cell holds what an unlisted one reads as. -/
def memWfFrom : Nat → Mem → Bool
  | _, [] => true
  | lo, (i, v) :: t => decide (lo ≤ i) && decide (v ≠ memDefault) && memWfFrom (i + 1) t

/-- The canonical form of memory: addresses strictly rising, no entry equal to what an unlisted address reads as. -/
def Memory.wf (m : Mem) : Bool := memWfFrom 0 m

/-- What a byte reads as within a step that has made the changes `ops`, newest first. -/
def opsRead (m : Mem) : List MemOp → Nat → Byte
  | [], a => memRead m a
  | .byte i v :: t, a => if i = a then v else opsRead m t a
  | .clear lo hi :: t, a => if lo ≤ a ∧ a < hi then memDefault else opsRead m t a

/-! The parts of the address line. -/

/-- HBM3E, by physical place (R233): pseudo-channel, slot, and byte within it. -/
def spHbm (physical : Nat) : Nat := physical
/-- Weaver cluster shared memory, bytes 0 to 32 MiB. -/
def spShared (off : Nat) : Nat := 2 ^ 48 + off
/-- Word `i` of core `c`'s X bank (0) or Y bank (1): six bytes at a stride of eight. -/
def spBank (c bank i : Nat) : Nat := 2 ^ 49 + bank * 2 ^ 40 + c * 2 ^ 20 + i * 8
/-- The THAW capture store, which is the density store (R27), bytes 0 to 64 MiB. -/
def spThaw (off : Nat) : Nat := 2 ^ 50 + off

end Sys2Proof.Machine
end

