-- ==== Sys2Proof/Machine/LaneTypes.lean ====
section
/-! DEFINITION. The state of one analysis lane (R105 to R130), besides its parameters: the samples held by its stages, its
settling runs, its bank swaps, its missing run and its detectors. -/
namespace Sys2Proof.Machine

/-- A sample between two stages: its position (in converter samples before stage 3, in input positions from there on), its
value, why it is missing (gap cause and detail of R216), its O flag, the count of mixer changes that had taken effect when
it was mixed (R116), and the sub-ADC that took it (R93). -/
structure Smp where
  pos : Int := 0
  i : Int := 0
  q : Int := 0
  miss : Option (Nat × Nat) := none
  ovr : Bool := false
  gen : Nat := 0
  sub : Nat := 0
deriving DecidableEq, Repr

/-- A settling run (R125): its first index, its count and its cause bits. -/
structure SettleRun where
  start : Nat
  count : Nat
  cause : Nat
deriving DecidableEq, Repr

/-- A bank swap that has been performed (R121): the index requested, and the number of its acceptance. -/
structure Swap where
  n : Nat
  group : Nat := 0
deriving DecidableEq, Repr

/-- A fade in progress (R122): where it began, its length, the outputs done, and whether it was deferred. -/
structure Fade where
  start : Nat
  len : Nat
  done : Nat
  deferred : Bool
deriving DecidableEq, Repr

/-- A missing run in progress (R128): its first index, its length, and the gap cause and detail. -/
structure MissRun where
  first : Nat
  len : Nat
  cause : Nat
  detail : Nat
deriving DecidableEq, Repr

/-- The state of one lane. -/
structure Lane where
  /-- The lane numbers samples; false while it is OFF, or waits for its source's release (R127). -/
  running : Bool := false
  waitRelease : Bool := false
  /-- f_in in Sa/s as a fraction, and L' (R505) in half positions. -/
  finN : Nat := 0
  finD : Nat := 1
  lat2 : Nat := 0
  /-- The next converter sample to enter stage 1, counted from the epoch, and how many from there on have no data (R126). -/
  pos : Int := 0
  fill : Nat := 0
  /-- The histories of stages 1, 3, 5, 7, 8, 9 and 10, newest first. -/
  h1 : List Smp := []
  h3 : List Smp := []
  h5 : List Smp := []
  h7 : List Smp := []
  h8 : List Smp := []
  h9 : List Smp := []
  h10 : List Smp := []
  /-- The samples in the pipeline before stages 2, 3, 4, 5, 6 and 7 (R505), newest first. -/
  q2 : List Smp := []
  q3 : List Smp := []
  q4 : List Smp := []
  q5 : List Smp := []
  q6 : List Smp := []
  q7 : List Smp := []
  /-- The mixer's accumulator; whether the next sample sets it from its position; and the mixer changes so far (R115,
  R116). -/
  phi : Nat := 0
  sync : Bool := false
  gen : Nat := 0
  /-- The mixer changes that the delivered outputs have shown. -/
  shown : Nat := 0
  startIdx : Nat := 0
  /-- The index of the next output. -/
  next : Nat := 0
  /-- The settling runs not yet delivered whole (R125), and the end of the start run (R127). -/
  runs : List SettleRun := []
  startEnd : Nat := 0
  bank : Nat := 0
  swaps : List Swap := []
  fade : Option Fade := none
  /-- The lane sample on which a swap places M (R122). -/
  swapM : Option Nat := none
  miss : Option MissRun := none
  /-- The latest outputs' indices and flags (S, O, G, M), newest first. -/
  recent : List (Nat × Nat) := []
  /-- The factors in force at the present anchor: D_cic, the moving average's decimation, D_fir and RATIO (R111, R124). -/
  factors : List Nat := []
  /-- The anchors before the present one, newest first: index, input, step (R110, R111). -/
  past : List (Nat × Nat × Nat) := []
  /-- The changes performed at the present boundary and not yet applied: correction updates, as a mask of the stages that their values
  enter by (R114), a mixer change, and changes of stages 7 to 10. -/
  chgCorr : Nat := 0
  chgMix : Bool := false
  chg7 : Bool := false
  chg8 : Bool := false
  chg9 : Bool := false
  chg10 : Bool := false
  oldSource : Option Nat := none
  rateSeq : Nat := 0
  /-- The replay position that the lane takes next, once it has taken one (R225). -/
  rplPos : Option Nat := none
  /-- The detectors (R129). -/
  peak : Nat := 0
  peakIdx : Nat := 0
  sum : Nat := 0
  measured : Nat := 0
  skipped : Nat := 0
  rms : List Nat := []
  env16 : Nat := 0
  /-- The first O sample of the beat has been reported, and the stages that clamped in the beat (R133). -/
  ovrSeen : Bool := false
  satBeat : Nat := 0
deriving DecidableEq, Repr

/-- One output of a lane (R108). -/
structure LaneOut where
  n : Nat
  i : Int
  q : Int
  valid : Bool
  /-- The gap cause and detail of a missing sample. -/
  miss : Option (Nat × Nat)
  s : Bool
  o : Bool
  g : Bool
  m : Bool
  /-- The settling run in progress that covers the sample (R125). -/
  run : Option SettleRun := none
deriving DecidableEq, Repr

/-- The flags of an output as R108 lays them out. -/
def LaneOut.sogm (o : LaneOut) : Nat :=
  (if o.s then 8 else 0) + (if o.o then 4 else 0) + (if o.g then 2 else 0) + (if o.m then 1 else 0)

end Sys2Proof.Machine
end

