-- ==== Sys2Proof/Machine/ViewTypes.lean ====
section
/-! DEFINITION. The state of one transform view (R138 to R152) and of one trace unit (R156 to R161), besides their
parameters; a spectrum and a trace as their consumers receive them. -/
namespace Sys2Proof.Machine

/-- A window whose samples are complete and whose spectrum has not been delivered: its start, its samples in order, and the
re-anchor count it carries. -/
structure Window where
  s : Nat
  smps : List LaneOut
  rate : Nat
deriving DecidableEq, Repr

/-- The state of one view: the starts of the next window to be begun and to be completed, the first start that a stop
forbids, the lane samples held (newest first), and the windows complete. -/
structure View where
  begin' : Nat := 0
  complete : Nat := 0
  stopAt : Option Nat := none
  buf : List LaneOut := []
  ready : List Window := []
  delivered : Bool := false
deriving DecidableEq, Repr

/-- A bin of a spectrum: its mantissas and its dBq value. -/
structure Bin where
  mi : Int
  mq : Int
  dbq : Int
deriving DecidableEq, Repr

/-- A delivered spectrum (R150). -/
structure Spectrum where
  view : Nat
  q : Nat
  s : Nat
  n : Nat
  h : Nat
  table : Nat
  format : Nat
  flags : Nat
  exp : Nat
  first : Int
  bins : List Bin
  markOff : Nat
  rate : Nat
  /-- The beat that its detection sample lies in (R139). -/
  beat : Nat
  /-- The exclusion masks it meets (R152). -/
  exclTrg : Bool
  exclDen : Bool
  exclTrc : Bool
  /-- The sum of the window's entries and the POWER_OFFS that its dBq values use (R148). -/
  sw : Int := 0
  offs : Int := 0
deriving DecidableEq, Repr

/-- A point of a trace in progress: the largest, smallest and last dBq, the sum over spectra of the mean dBq of its bins, and the sum of
the linear powers (m_I² + m_Q²) 4^E. -/
structure Point where
  max : Int
  min : Int
  last : Int
  sum : Int
  lin : Nat
deriving DecidableEq, Repr

/-- A trace period in progress: its first beat, the beat at which it ends, its points, and its counts (R161); TRC_SRC as the unit had it,
the last spectrum included (its width in bins, window sum and offset), and the hold values that it extends when TRC_CLEAR has emptied
the unit's since it ended (R159). -/
structure Period where
  start : Nat
  stop : Nat
  part : Bool
  pts : List Point := []
  incl : Nat := 0
  excl : Nat := 0
  firstQ : Option Nat := none
  flags : Nat := 0
  src : Nat := 0
  width : Nat := 0
  sw : Int := 0
  offs : Int := 0
  base : Option (Option (List Int)) := none
deriving DecidableEq, Repr

/-- A delivered trace (R161): its descriptor's fields, its points and its columns. -/
structure Trace where
  unit : Nat
  det : Nat
  bits : Nat
  view : Nat
  start : Nat
  incl : Nat
  excl : Nat
  firstQ : Option Nat
  logTp : Nat
  pts : List Int
  cols : List Int
deriving DecidableEq, Repr

/-- The state of one trace unit: the beat of its start, the periods not yet delivered, the hold values and the TRC_SRC they were formed
under, the beat from which spectra enter them, and the latest trace. -/
structure Trc where
  startBeat : Nat := 0
  periods : List Period := []
  hold : Option (List Int) := none
  holdSrc : Nat := 0
  clearBeat : Nat := 0
  latest : Option Trace := none
deriving DecidableEq, Repr

end Sys2Proof.Machine
end

