-- ==== Sys2Proof/Machine/TrgTypes.lean ====
section
/-! DEFINITION. The state of one trigger unit (R169 to R194) and of one TRIG_OUT pin (R192), besides their parameters; a
trigger report (R173). -/
namespace Sys2Proof.Machine

/-- A hold-off in progress (R186): conditions with a trigger point below an index, or a number of conditions, are discarded. -/
inductive Hold where
  | none
  | upTo (idx : Nat)
  | events (left : Nat)
deriving DecidableEq, Repr

/-- One armed interval of a unit (R169): its first decision index and its first beat, the index and the beat that end it, why
it ended (R195), the priming of its level detectors and the last sample evaluated, the n-of-m history (newest first), its
hold-off, whether its violation has happened, the last decision index evaluated, the next instant of TIME, the WEAVER requests
not yet detected, and the configuration that a later ARM has replaced (R171). -/
structure Arm where
  lo : Nat
  loBeat : Nat
  hi : Option Nat := none
  hiBeat : Nat := 0
  reason : Nat := 0
  primR : Bool := false
  primF : Bool := false
  prev : Option (Nat × Int) := none
  hist : List Bool := []
  hold : Hold := .none
  violated : Bool := false
  last : Option Nat := none
  timeK : Nat := 0
  /-- Requests that wait for their sample, each with its core's LATE mark (R183, R304). -/
  reqs : List (Nat × Bool) := []
  cfg : Tab Word := []
deriving DecidableEq, Repr

/-- A trigger unit: the interval in force, and those that drain (R169). -/
structure TrgUnit where
  arm : Option Arm := none
  drains : List Arm := []
deriving DecidableEq, Repr

/-- A condition that a unit has detected (R168, R173); `sogm` holds the flags of report bits [7:4]. -/
structure Cond where
  point : Nat
  decision : Nat
  frac : Nat := 0
  noInterp : Bool := false
  sogm : Nat := 0
  tp : Fysiva
  q : Nat := 2 ^ 64 - 1
  bin : Int := -32768
  excess : Int := 0
  late : Bool := false
deriving DecidableEq, Repr

/-- A trigger report (R173); `view` is the view that its q counts spectra of. -/
structure Report where
  unit : Nat
  source : Nat
  lane : Nat
  flags : Nat
  point : Nat
  decision : Nat
  frac : Nat
  tp : Fysiva
  q : Nat
  bin : Int
  excess : Int
  seq : Nat
  view : Option Nat := none
deriving DecidableEq, Repr

/-- A violation (R194): its kind (0 spectrum, 1 envelope) and what broke (0 upper, 1 lower). -/
structure Violation where
  kind : Nat
  broken : Nat
  index : Nat
  stop : Bool
  post : Nat
deriving DecidableEq, Repr

/-- A fire: its report, the configuration values that its actions need, and its violation in test mode. -/
structure Fire where
  rep : Report
  actCap : Nat
  act : Nat
  jump : Nat
  viol : Option Violation := none
deriving DecidableEq, Repr

/-- A TRIG_OUT pin: asserted or not, the core time in ps at which its pulse ends, and its scheduled pulses (2^-16 ps). -/
structure OutPin where
  on : Bool := false
  stop : Nat := 0
  pend : List Int := []
deriving DecidableEq, Repr

end Sys2Proof.Machine
end

