-- ==== Sys2Proof/Machine/HbmTypes.lean ====
section
/-! DEFINITION. The state of one HBM3E pseudo-channel and of one stack (R236 to R245), besides their parameters. -/
namespace Sys2Proof.Machine

/-- A request queued at a pseudo-channel (R236): the real-time port it comes from, if any, its row slot and line, its
direction, and the core cycle count of its arrival. -/
structure HbmReq where
  port : Option Nat
  slot : Nat
  line : Nat
  write : Bool
  since : Nat
deriving DecidableEq, Repr

/-- A pseudo-channel: its queue in order of arrival, its open rows, the cycle count from which it serves again after a pause,
a burst or a wake, when its latest refresh, its training pause and its burst end, a pause that is owed and whether it finds a setting,
the times of its lanes' errors, the lane waiting for repair, the cycle count at which its retirement was decided, and whether it had a
request in this beat. -/
structure Pc where
  queue : List HbmReq := []
  open' : Tab Nat := []
  readyAt : Nat := 0
  refreshEnd : Nat := 0
  pauseEnd : Nat := 0
  burstEnd : Nat := 0
  pauseOwed : Option Bool := none
  errs : List (Nat × Nat) := []
  repair : Option Nat := none
  retire : Option Nat := none
  touched : Bool := false
deriving DecidableEq, Repr

/-- A real-time port: whether it has been in panic in this beat. -/
structure Port where
  panicked : Bool := false
deriving DecidableEq, Repr

/-- A claim of HBM units (R231): the first unit, how many, the owner code, and whether the owner is OFF. -/
structure Claim where
  first : Nat
  units : Nat
  owner : Nat
  off : Bool
deriving DecidableEq, Repr

end Sys2Proof.Machine
end

