-- ==== Sys2Proof/Machine/CapTypes.lean ====
section
/-! DEFINITION. The state of one capture writer (R198 to R223) and of one replay source (R224, R225), besides their
parameters. -/
namespace Sys2Proof.Machine

/-- A record that a ring holds: its RECORD_SEQ, offset, length and TYPE, the items `[lo, hi)` that it holds or covers, and its
arm. -/
structure Rec where
  seq : Nat
  off : Nat
  len : Nat
  type : Nat
  lo : Nat
  hi : Nat
  arm : Nat
deriving DecidableEq, Repr

/-- An item as it reaches a writer: a lane sample (its stored code, flags and settling run), or a spectrum or trace (its
descriptor and data). -/
structure Item where
  idx : Nat
  code : Nat := 0
  sat : Bool := false
  sogm : Nat := 0
  run : Option SettleRun := none
  miss : Option (Nat × Nat) := none
  descr : List Byte := []
  data : List Byte := []
deriving DecidableEq, Repr

/-- A record to be written: TYPE, COUNT, INDEX, the bytes from offset 32, the item range, and whether CAPTURE_PTR names it. One that
waits for free space (R209) carries the header bytes 2 and 3 and the ARM_SEQ of the arm that formed it. -/
structure Draft where
  type : Nat
  count : Nat
  index : Nat
  body : List Byte
  lo : Nat := 0
  hi : Nat := 0
  mark : Bool := false
  own : Option (Nat × Nat × Nat) := none
deriving DecidableEq, Repr

/-- A marker whose index has not arrived (R218): kind, INDEX, count. -/
structure PendMark where
  kind : Nat
  index : Nat
  count : Nat
deriving DecidableEq, Repr

/-- What a writer holds for one arm. `base` is b0 of R212; `first` the arm's first item and `cur` the next; `lo`, `hi` and `natural` the
window's first item, its end and the end its counts give; `halt` the first item after a stop index (R194); `reason` why the window ends;
`winFirst` the first window's first item and `last` the end of the last; `wrote` the records of the arm; `blkAt`, `blk` the open block
(newest first); `gaps` the runs of lost items that no delivered item has followed, oldest first, and `causes` what loses items at
present, in the order of detection (R222); `fifo` what SEGMENTS holds between windows (newest first); `viols` the violations whose
stop index ends the recording; `ending` an end that waits for space (R209). -/
structure CapArm where
  base : Nat := 0
  first : Nat := 0
  cur : Nat := 0
  lo : Nat := 0
  hi : Option Nat := none
  natural : Option Nat := none
  halt : Option Nat := none
  reason : Nat := 0
  winFirst : Option Nat := none
  last : Option Nat := none
  armFirst : Nat := 0
  wrote : Nat := 0
  blkAt : Nat := 0
  blk : List Item := []
  gaps : List MissRun := []
  causes : List (Nat × Nat) := []
  fifo : List Item := []
  marks : List PendMark := []
  shown : List (Nat × Nat) := []
  rateSeen : Nat := 0
  viols : List (Report × Violation) := []
  ending : Option Nat := none
deriving DecidableEq, Repr

/-- The state of one writer: its arm, and what belongs to its ring. -/
structure Cap extends CapArm where
  recs : List Rec := []
  users : Nat := 0
  /-- The capture FIFO's share: its bytes at a core cycle count, and whether it discards (R222). -/
  fill : Nat := 0
  fillAt : Nat := 0
  ovf : Bool := false
  /-- The bytes of the records that a writer without a ring holds for its stream (R342). -/
  pass : List (List Byte) := []
  /-- STREAM_THROUGH discards for want of space, with the records that wait (R209). -/
  backlog : Bool := false
  drafts : List Draft := []
  /-- The first and last RECORD_SEQ of a chain whose EVIDENCE is pending (R220). -/
  evid : Option (Nat × Nat) := none
  /-- Arms that a DISARM ended and an ARM followed while items before its beat were still to come, each with the parameter values that
  it keeps (R171, R203). -/
  tails : List (CapArm × Tab Word) := []
deriving DecidableEq, Repr

/-- The state of one replay source: the replay position and the index of the next sample, whether a dry run is in progress, and what it has
delivered that another lane has still to take, oldest first. -/
structure Replay where
  pos : Nat := 0
  idx : Nat := 0
  dry : Bool := false
  given : List (Sum (Int × Int) (Nat × Nat)) := []
deriving DecidableEq, Repr

end Sys2Proof.Machine
end

