-- ==== Sys2Proof/Machine/PlaneTypes.lean ====
section
/-! DEFINITION. The state of an ADPLL (R416 to R424), a density plane (R249 to R260), a spectrogram plane (R263), the compositor
(R267), a display output (R277 to R286) and a display buffer (R281), besides their parameters. -/
namespace Sys2Proof.Machine

/-- An ADPLL: whether its domain's data parts are stopped, whether the domain ran on the safe clock in this beat, the LFSR, the
core cycle count at which its sequence or wait began, its target in kHz, and whether the sequence is a band change. -/
structure Pll where
  down : Bool := false
  safeBeat : Bool := false
  lfsr : Nat := 0
  since : Nat := 0
  target : Option Nat := none
  change : Bool := false
deriving DecidableEq, Repr

/-- The last spectrum counted into a frame: q, window start, detection sample and flags. -/
structure Seen where
  q : Nat
  s : Nat
  det : Nat
  flags : Nat
deriving DecidableEq, Repr

/-- A close pass in progress (R253, R254): the frame that it closes, `[start, stop)`, its counts, and whether a CLEAR forbids
the decayed values. -/
structure Closing where
  start : Nat
  stop : Nat
  part : Bool
  incl : Nat
  excl : Nat
  last : Option Seen
  cleared : Bool := false
deriving DecidableEq, Repr

/-- A density plane: the counting and the closed bank by cell (column × R + row), the frame in progress, the beat at which a stop
ends it, the decayed weight, and the buffer of the latest completed image. -/
structure Plane where
  count : Tab Nat := []
  closed : Tab Nat := []
  start : Nat := 0
  stopAt : Option Nat := none
  part : Bool := true
  incl : Nat := 0
  excl : Nat := 0
  last : Option Seen := none
  clearBeat : Nat := 0
  closing : Option Closing := none
  wDecayed : Nat := 0
  sat : Bool := false
  image : Option Nat := none
  finished : Bool := false
deriving DecidableEq, Repr

/-- A spectrogram plane: the traces delivered whose lines are not complete. -/
structure Spg where
  pend : List Trace := []
deriving DecidableEq, Repr

/-- A composition in progress: its frame buffer and the buffers that it reads. -/
structure Composing where
  fb : Nat
  reads : List Nat
deriving DecidableEq, Repr

/-- The compositor: the composition in progress, the latest complete frame's buffer, and the core cycle count of the latest tick (R266). -/
structure Comp where
  busy : Option Composing := none
  latest : Option Nat := none
  tickAt : Option Nat := none
deriving DecidableEq, Repr

/-- A display output: the buffer and COMP_SEQ of the frame latched, and whether it still references the buffer; the step of a
start or a mode change (0 none, 1 the PLL, 2 training, 3 the blank frame); whether a mode's first frame has yet to start its
active lines, and the frame boundaries since the change; whether its first frame boundary has come, and its last; whether an
underflow was reported in this frame; the cycle counts of the last frame boundary, TE_IN edge and failed training; whether the
TE time-out was reported; a transfer in progress; a side-channel packet that waits for blanking. -/
structure Out where
  latched : Option (Nat × Nat) := none
  refs : Bool := false
  step : Nat := 0
  resume : Bool := false
  blank : Nat := 0
  first : Bool := false
  ended : Bool := false
  under : Bool := false
  boundAt : Nat := 0
  teAt : Nat := 0
  teOut : Bool := false
  failAt : Nat := 0
  transfer : Bool := false
  side : Option (Nat × Nat × Nat × Nat × Bool) := none
deriving DecidableEq, Repr

end Sys2Proof.Machine
end

