-- ==== Sys2Proof/Machine/NetTypes.lean ====
section
/-! DEFINITION. The state of a stream (R342 to R354), of a neighbour that an interface resolves (R336), of a compressor and of a
decompressor (R356 to R362), besides their parameters. -/
namespace Sys2Proof.Machine

/-- A stream item, or what is left of it: its KIND (R349; 16 a VITA 49.2 data run, 17 a context packet, 18 a gap and 19 another record, which VITA 49.2 does not send), INDEX, bytes 32 to 63, the
flag bytes of a SAMPLE_BLOCK, its data, the bytes of its smallest part, the offset of its next fragment, its LATE mark, whether
its coded form is known, whether its record is freed once it has been sent, and its samples. -/
structure StrItem where
  kind : Nat
  index : Nat
  hdr : List Byte
  flags : List Byte := []
  data : List Byte
  part : Nat := 1
  off : Nat := 0
  late : Bool := false
  ready : Bool := true
  frees : Bool := false
  n : Nat := 0
deriving DecidableEq, Repr

/-- A packet on its way (R352, R353): its PSN, its RoCEv2 opcode (0 First, 1 Middle, 2 Last with immediate, 3 Only with immediate),
its ring offset, its immediate data and its bytes, and the core cycle count of its sending. -/
structure RocePkt where
  psn : Nat
  op : Nat
  at' : Nat
  imm : Nat
  bytes : List Byte
  since : Nat
deriving DecidableEq, Repr

/-- A stream: its items, the next RECORD_SEQ to be read, the last of a READOUT, whether the next packet carries LOSS, the items
lost in the beat, the core cycle count from which RATE lets it send, whether its neighbour is resolved, the compressor whose turn it
is, the wire bytes of its latest blocks uncoded and coded, the beat that a stop names, whether the QP error has been reported; the
ring offset, the end of the message in progress, the PSN, the packets not acknowledged, how many of them are to be sent again and the
retries; the VITA packet counts, and whether a gap precedes the next packet. -/
structure Str where
  items : List StrItem := []
  next : Nat := 0
  last : Nat := 0
  loss : Bool := false
  lost : Nat := 0
  readyAt : Nat := 0
  startBeat : Nat := 0
  stopAt : Option Nat := none
  resolved : Bool := false
  done : Bool := false
  turn : Nat := 0
  gains : List (Nat × Nat) := []
  ring : Nat := 0
  msgEnd : Nat := 0
  psn : Nat := 0
  unacked : List RocePkt := []
  resend : Nat := 0
  retries : Nat := 0
  data : Nat := 0
  context : Nat := 0
  gap : Bool := false
deriving DecidableEq, Repr

/-- A neighbour: interface, IPv6 or IPv4, address, MAC once resolved, whether a request is unanswered, and the core
cycle count of the latest request or answer. -/
structure Neigh where
  iface : Nat
  v6 : Bool
  ip : Nat
  mac : Option Nat := none
  asked : Bool := true
  since : Nat
deriving DecidableEq, Repr

/-- A compressor's block (R356): its stream, its first index, component width, predictor and packed samples. -/
structure Job where
  stream : Nat
  index : Nat
  w : Nat
  pred : Nat
  data : List Byte
deriving DecidableEq, Repr

/-- A run of decoded samples (R361): its first index, its length, and its values; none for a missing run. -/
structure DecRun where
  first : Nat
  n : Nat
  vals : Option (List (Int × Int))
deriving DecidableEq, Repr

/-- A decompressor: the offset of its next entry in memory, the next PKT_SEQ, the block in assembly (first index, length, bytes),
the blocks complete, the index after the previous block, and what it has decoded and no consumer has taken. -/
structure Dec where
  pos : Nat := 0
  seq : Option Nat := none
  part : Option (Nat × Nat × List Byte) := none
  blocks : List (Nat × List Byte) := []
  next : Option Nat := none
  out : List DecRun := []
deriving DecidableEq, Repr

end Sys2Proof.Machine
end

