-- ==== Sys2Proof/Machine/StimTypes.lean ====
section
/-! DEFINITION. The state of a stimulus channel (R372 to R382) and of the vector plane (R383 to R386), besides their parameters. -/
namespace Sys2Proof.Machine

/-- A jump request (R376): the entry, its source (0 host, 1 trigger), its unit, and whether it came after a decision point. -/
structure JumpReq where
  entry : Nat
  source : Nat
  unit : Nat
  deferred : Bool
deriving DecidableEq, Repr

/-- A play (R369, R370): its entry, the descriptor and ratio it began under, its first output position and its length D, its vector
list, the samples that the sequencer has fetched of a HOST or DEC segment (none for a missing one), the jump fixed to it and whether
its decision point has passed, and the jump that it is the first play of. -/
structure Play where
  entry : Nat
  seg : Nat
  ratio : Nat
  start : Nat
  d : Nat
  vec : Nat
  vals : List (Option (Int × Int)) := []
  fixed : Option JumpReq := none
  decided : Bool := false
  jumped : Option JumpReq := none
deriving DecidableEq, Repr

/-- A stimulus channel: the output position, the sequencer's position, the plays not yet output (the one before them first), the next
entry, the plays left of the PLAY entry last reached with its SEQ and SEQV values, the entries passed without a PLAY, the loop counters, the request held and the
cycle counts at which a host request and a trigger request came, the jump that the next play begins, the host sample numbers received as intervals, the next
to be consumed, the position at which playback ends with its reason and entry, whether that has been reported, and an under-run run:
first position, length and cause. -/
structure Stim where
  pos : Nat := 0
  fed : Nat := 0
  plays : List Play := []
  entry : Nat := 0
  left : Nat := 0
  again : Option Nat := none
  word : Nat := 0
  vec : Nat := 0
  idle : Nat := 0
  loops : Tab Nat := []
  held : Option JumpReq := none
  hostAt : Option Nat := none
  trigAt : Option Nat := none
  jump : Option JumpReq := none
  have' : List (Nat × Nat) := []
  hostNext : Nat := 0
  endAt : Option (Nat × Nat × Nat) := none
  ended : Bool := false
  run : Option (Nat × Nat × Nat) := none
deriving DecidableEq, Repr

/-- A vector tick that is due: its index, its position with the SLIP zeros before it (R374), whether it drives the safe vector, and its words; none where it holds the
previous vector. -/
structure VecDue where
  tick : Nat
  pos : Nat
  safe : Bool
  words : Option (Nat × Nat)
deriving DecidableEq, Repr

/-- The vector plane: the ticks due, the vector driven, and the tick that waits for its comparison. -/
structure VecPlane where
  due : List VecDue := []
  w0 : Nat := 0
  w1 : Nat := 0
  cmp : Option VecDue := none
deriving DecidableEq, Repr

end Sys2Proof.Machine
end

