-- ==== Sys2Proof/Machine/TimeTypes.lean ====
section
/-! DEFINITION. The state of the time base (R391 to R398), of a PTP port (R402, R403) and of the time-interval unit (R405 to R410),
besides their parameters. -/
namespace Sys2Proof.Machine

/-- The time base: y without the ageing term in 10^-12, the core cycle count from which that term accrues, the latest reference
update and whether the reference is lost, the consecutive good, bad and returned updates, the quality before acquisition or
HOLDOVER, whether the Plait source is traceable, the y values held with the cycle counts of their start and whether LOCKED, the cycle counts since
which it is LOCKED and in HOLDOVER with the seconds before, that of the last learning, whether a servo step is due, the whole
seconds at which PPS_OUT last rose, the cycle counts of the latest update of y and of the start of acquisition, and whether REF_OUT runs. -/
structure TimeBase where
  y : Int := 0
  ageAt : Nat := 0
  refAt : Nat := 0
  lost : Bool := true
  good : Nat := 0
  bad : Nat := 0
  back : Nat := 0
  before : Nat := 0
  traceable : Bool := false
  hist : List (Nat × Int × Bool) := []
  lockedAt : Nat := 0
  holdAt : Nat := 0
  holdBase : Nat := 0
  learnAt : Nat := 0
  step : Bool := false
  pps : Tab Nat := []
  updAt : Nat := 0
  acqAt : Nat := 0
  refOn : Bool := false
deriving DecidableEq, Repr

/-- Announce data (R403): grandmaster identity, clockClass, the two traceable flags, stepsRemoved. -/
structure Announce where
  gm : Nat
  cls : Nat
  time : Bool
  freq : Bool
  steps : Nat
deriving DecidableEq, Repr

/-- A PTP port: its sequence numbers, the stamps of the exchange in progress (2^-16 ns), the correction of the Sync with the stamp it
arrived at while a Follow_Up is due, the offset t2 - t1, the Announce data last received, and the core cycle counts of the latest
Sync, Announce and Delay_Req sent or received. -/
structure PtpPort where
  seq : Nat := 0
  reqSeq : Nat := 0
  annSeq : Nat := 0
  waitSync : Option (Nat × Int × Int) := none
  ms : Option Int := none
  t3 : Option (Nat × Int) := none
  ann : Option Announce := none
  syncAt : Nat := 0
  annAt : Nat := 0
  reqAt : Nat := 0
deriving DecidableEq, Repr

/-- A measurement (R408): its start stamp, whether that carries UNCAL, and its stops: input, stamp, UNCAL. -/
structure Meas where
  s : Int
  uncal : Bool
  stops : List (Nat × Int × Bool) := []
deriving DecidableEq, Repr

/-- A statistic set (R410). -/
structure StatSet where
  n : Nat := 0
  sum : Int := 0
  sq : Nat := 0
  min : Int := 0
  max : Int := 0
  order : Nat := 0
  close : Nat := 0
  done : Bool := false
deriving DecidableEq, Repr

/-- The time-interval unit: the instant of the latest accepted edge of each pin (TIU_IN 0 to 7, TRIG_IN 8 to 15), in 2^-16 ns of core clock, the pins and the count of edges
lost in the beat; a calibration run in progress, whether one must complete after a loss of lock, the hits by pin of the table in
force and of a table that waits for the boundary with its temperature; the open measurements, the stop edges not yet assigned, and the
statistic sets, and whether a table has passed since the reset. -/
structure Tiu where
  last : Tab (Option Int) := []
  lostMask : Nat := 0
  lostCount : Nat := 0
  running : Bool := false
  owed : Bool := false
  table : Option (List (List Nat)) := none
  next : Option (List (List Nat) × Int) := none
  temp : Int := 0
  meas : List Meas := []
  edges : List (Nat × Int × Bool) := []
  stats : Tab StatSet := []
  passed : Bool := false
deriving DecidableEq, Repr

end Sys2Proof.Machine
end

