-- ==== Sys2Proof/Machine/SysTypes.lean ====
section
/-! DEFINITION. The state of self-calibration (R427 to R437), the auxiliary converter (R440 to R445), Plait (R448 to R462), and of
reset, boot, keys, JTAG and the PMBus master (R467 to R499), besides their parameters. -/
namespace Sys2Proof.Machine

/-- The sums of the counted blocks of a run, as CalStats lays them out. -/
structure CalSums where
  il : List (List Int) := []
  dc : List Int := []
  iq : List Int := []
deriving DecidableEq, Repr

/-- A calibration target. A set of values is a list: g_0 to g_7, o_0 to o_7, s_0 to s_7, d_I, d_Q, g, p. `base` holds the values at
the run's start; `points` the temperature points, rising; `heats` the readings taken while gathering, `first` that of the start;
`ended` says that a run has ended and its commit waits, `due` that a run or a commit of the interpolated values falls due at the next
boundary; `last` and `commitAt` the temperatures of the last run that ended PASS or FAIL and of the last commit; `since` and `waited`
the core cycles in WAITING_FOR_SIGNAL; `told` that the run has reported it; `readAt` the beat of the latest reading, plus one. -/
structure Cal where
  base : List Int := []
  sums : CalSums := {}
  points : List (Int × List Int) := []
  heats : List Int := []
  first : Int := 0
  ended : Bool := false
  runDue : Bool := false
  interpDue : Bool := false
  go : Bool := false
  last : Option Int := none
  commitAt : Option Int := none
  since : Nat := 0
  waited : Nat := 0
  told : Bool := false
  readAt : Nat := 0
deriving DecidableEq, Repr

/-- The auxiliary converter: the core cycle count at which its reference was selected; the beat and core cycle count of the filter
start, the results since it; self-calibration asked for, its phase (0 none) and the core cycle count and the readings of its phases. -/
structure Aux where
  refAt : Nat := 0
  start : Option (Nat × Nat) := none
  results : Nat := 0
  want : Bool := true
  phase : Nat := 0
  phaseAt : Nat := 0
  codes : List (List Int) := []
deriving DecidableEq, Repr

/-- A Plait port: the step of its start (0 when UP or OFF), the core cycle count of the step, and that of its latest exchange of stamps. -/
structure PltPort where
  step : Nat := 0
  since : Nat := 0
  exchangeAt : Nat := 0
deriving DecidableEq, Repr

/-- The group: the ports of other members that are not UP; the step of a member toward the leader's numbering; the quiet reports of
the JOINED members; a step notice held: its boundary and its beats; the leader's own step that waits for quiet; and the reports seen:
origin node, unit, FIRE_SEQ. `routes` holds, for each source of a packet passed on over CTRL, its address and UDP port and where the packet
came from: 0 to 16 a port of this engine, 17 and more a Plait port (R44). -/
structure Plait where
  cut : List (Nat × Nat) := []
  toward : Option Int := none
  quiets : Tab Bool := []
  notice : Option (Nat × Int) := none
  seen : List (Nat × Nat × Nat) := []
  routes : List (Nat × Nat × Nat) := []
deriving DecidableEq, Repr

/-- An import: the exporter's packing, whether a context has arrived, a sample has left, the export has stopped, and the losses of the beat: the first
missing index and their number. -/
structure Import where
  pack : Nat := 0
  context : Bool := false
  left : Bool := false
  stopped : Bool := false
  firstLost : Nat := 0
  lost : Nat := 0
deriving DecidableEq, Repr

/-- Reset, boot, keys, JTAG and PMBus. `member` and `bootMode` hold the straps as sampled at the end of RESET; `held` the reset pins
asserted (bit 0 PORESET_N, bit 1 RESET_N); `kind` the kind of the reset in progress (0 power-on, 1 cold, 2 warm); `trained` that
HBM3E training has ended; `flowPlls` the ADPLLs that FLOW was entered without; `slots` the boot slots still to try, `rejected` the rejection cause so far, `booted` that an image has been
accepted; `wdogs` the core cycle counts of the watchdog resets; `hot` and `stackHot` that the latest reading of the die, or of a
stack, lay above its limit; `host` the enrolled host keys (97 bytes as a number) and `group` the installed group keys (identifier,
h2e, e2h) by slot; `halt` the HALT cause. JTAG: the boundary register, and whether EXTEST drives it. PMBus: the transactions waiting
(command and data), the one on the bus, the failures in a row, whether it is in FAULT, when the latest retry left, and a
VOUT_COMMAND that failed in mode OFF. -/
structure SysUnit where
  member : Nat := 0
  bootMode : Nat := 0
  held : Nat := 0
  kind : Nat := 0
  trained : Bool := false
  flowPlls : List Nat := []
  slots : List Nat := []
  rejected : Nat := 0
  booted : Bool := false
  wdogs : List Nat := []
  hot : Bool := false
  stackHot : List Nat := []
  host : Tab Nat := []
  group : Tab (Nat × List Byte × List Byte) := []
  halt : Nat := 0
  boundary : Nat := 0
  extest : Bool := false
  pmQueue : List (Nat × Nat) := []
  pmBus : Option (Nat × Nat) := none
  pmFails : Nat := 0
  pmRetryAt : Nat := 0
  pmAgain : Bool := false
deriving DecidableEq, Repr

end Sys2Proof.Machine
end

