-- ==== Sys2Proof/Machine/State.lean ====
section
/-! DEFINITION. The state of the engine: every register, buffer, counter, mode and pin the specification gives it, as plain
data, with the queue of waiting commands, and the state right after reset. -/
namespace Sys2Proof.Machine


/-- Everything the specification gives the engine but its byte memories. -/
structure Block where
  /-- The value in force of every parameter that does not hold its reset value (R4 to R9). -/
  params : Tab Word := []
  /-- Written values that wait for a later instant: ARM, FRAME, LOCK or BOOT (R8, R56). -/
  waiting : Tab Word := []
  dev : DevState := .thaw
  /-- The beat number, the core cycle within the beat (R12, R14), and the core cycles since power-on. -/
  beat : Nat := 0
  cycle : Nat := 0
  ticks : Nat := 0
  sessions : List Session := []
  shakes : List Handshake := []
  accepted : List Accepted := []
  nextGroup : Nat := 0
  txns : List Txn := []
  sched : List SchedEntry := []
  nextEntry : Nat := 1
  /-- The core cycle count at which a function last reached ON or OFF (R51), by its FUNC_STATE key. -/
  reached : Tab Nat := []
  heldReplies : List HeldReply := []
  nextHeld : Nat := 0
  /-- Event sources (R76, R79, R81): running totals, counts of the window in progress, and what the window withheld. -/
  srcTotal : Tab Nat := []
  srcWin : Tab Nat := []
  supFirst : Option Nat := none
  supTotal : Nat := 0
  supSrcs : List Nat := []
  /-- The first beat of the window of 1,024 beats in progress (R79). -/
  winBeat : Nat := 0
  /-- The core cycle counts at which the pulses of EVT_OUT_N[0] and [1] end, and at which each pin last had an occurrence (R84). -/
  evtEnd : Tab Nat := []
  evtAt : Tab Nat := []
  /-- Of each counter that advanced in the core cycle of the first number, what it advanced by there (R7). -/
  counted : Tab (Nat × Nat) := []
  /-- The core cycle count at which a packet last arrived, and how many had come in that cycle (R38). -/
  arrivedAt : Nat := 0
  arrived : Nat := 0
  /-- The primitives that resident services have taken, by block code and instance, each with its service (R30). -/
  owned : Tab Nat := []
  cores : Tab Core := []
  /-- Receive links 0 to 15 and transmit links 0 to 3 (R91, R102), and the SPI ports 0 to 7 (R103). -/
  jrx : Tab Link := []
  jtx : Tab Link := []
  spi : Tab SpiPort := []
  /-- The beat boundary, in the present numbering, at which each SYSREF output last issued an edge (R94, R96, R401). -/
  shot : Tab Int := []
  lanes : Tab Lane := []
  /-- The epoch of each lock group that runs, or that a joined domain has set (R127, R130, R460). -/
  groupEpochs : Tab (Option Nat) := []
  views : Tab View := []
  trcs : Tab Trc := []
  trgs : Tab TrgUnit := []
  outPins : Tab OutPin := []
  pcs : Tab Pc := []
  ports : Tab Port := []
  /-- Capture writers 0 to 31, the writers whose EVIDENCE is pending in order of END (R220), and replay sources 0 to 15. -/
  caps : Tab Cap := []
  evidence : List Nat := []
  replays : Tab Replay := []
  /-- The ADPLLs 0 to 5, density planes 0 to 15, spectrogram planes 0 to 15, the compositor, and outputs 0 and 1. -/
  plls : Tab Pll := []
  planes : Tab Plane := []
  spgs : Tab Spg := []
  comp : Comp := {}
  outs : Tab Out := []
  /-- BUF_CFG changes that wait for a display buffer's last reference (R281), and the buffers out of service (R264). -/
  bufWait : Tab Nat := []
  bufOut : List Nat := []
  /-- Streams 0 to 63, the neighbours that interfaces resolve (R336), the blocks in compressors 0 to 3, decompressors 0 and 1, and
  the stream keys by slot: key and salt (R350, R480). -/
  strs : Tab Str := []
  neighs : List Neigh := []
  jobs : Tab Job := []
  decs : Tab Dec := []
  streamKeys : Tab (Nat × Nat) := []
  /-- The core cycle count until which PFC pauses an interface's stream packets (R336). -/
  pfc : Tab Nat := []
  /-- Stimulus channels 0 to 3 and the vector plane. -/
  stims : Tab Stim := []
  vec : VecPlane := {}
  /-- The time base, the PTP ports (0 to 16), and the time-interval unit. -/
  tim : TimeBase := {}
  ptps : Tab PtpPort := []
  tiu : Tiu := {}
  /-- Calibration targets 0 to 31, and the auxiliary converter. -/
  cals : Tab Cal := []
  aux : Aux := {}
  /-- The Plait group, its ports 0 to 3, exports and imports 0 to 7. -/
  plt : Plait := {}
  pltPorts : Tab PltPort := []
  imports : Tab Import := []
  /-- Reset, boot, keys, JTAG and the PMBus master. -/
  sys : SysUnit := {}
  /-- A stack's latest reading was the first at or below 83.0 °C in the doubled region (R238). -/
  coolOnce : Tab Bool := []
  /-- The first pseudo-channel that a retirement in THAW took out of service (R243, R476). -/
  firstRetired : Option Nat := none
  /-- The units the display buffer pool holds (R264). -/
  poolSize : Nat := 0
  /-- The values that parameters had before each performance, newest first: the beat of the performance and the value
  before it, for the parameters that later items of earlier beats still use (R122, R139). -/
  past : Tab (List (Nat × Nat)) := []
  /-- The Firn store's held values (R8 BOOT, R469, R480) by key. -/
  firn : Tab Word := []
  /-- How many free values the specification's open choices have taken. -/
  fresh : Nat := 0
  /-- What the command in progress has sent, stored and raised. -/
  sent : List Sent := []
  stores : List MemOp := []
  raised : List Occ := []
deriving DecidableEq, Repr

/-- The whole state: the block, its byte memories, and the commands waiting, first in, first out. -/
structure State where
  blk : Block
  mem : Mem
  pending : List Instr
deriving DecidableEq, Repr

/-- Why a run stops with a fault: nothing does. -/
inductive Fault where
deriving DecidableEq, Repr

/-- Why a command is refused. -/
inductive Refusal where
  /-- Raised by an arm whose command has no meaning yet; safe. -/
  | notModelled (mnemonic : String)
deriving DecidableEq, Repr

/-- The state right after reset. -/
def State.reset : State := { blk := {}, mem := [], pending := [] }

end Sys2Proof.Machine
end

