-- ==== Sys2Proof/Machine/Ops.lean ====
section
/-! DEFINITION. The named operations every command is written over: parameters (R4 to R9), function life (R49), times
(R11, R12), memory, events raised (R77), and the frame in which a command runs. -/
namespace Sys2Proof.Machine

/-! ## Parameters -/

/-- The block code, instance and item of a key (R4). -/
def keyBlock (k : Nat) : Nat := bits k 31 24
def keyInst (k : Nat) : Nat := bits k 23 16
def keyItem (k : Nat) : Nat := bits k 15 0
/-- Key `k` of instance `i`. -/
def ki (k i : Nat) : Nat := k + i * 65536
/-- The key of a block, instance and item. -/
def mkKey (blk i item : Nat) : Nat := blk * 2 ^ 24 + i * 65536 + item

/-- The table row that defines a key, if any (R47). -/
def rowOf (k : Nat) : Option Row :=
  (blockRows (keyBlock k)).find? (fun r => decide (r.ilo ≤ keyInst k) && decide (keyInst k ≤ r.ihi) &&
    decide (r.item ≤ keyItem k) && decide (keyItem k < r.item + r.n))

/-- Whether any field lies above bit 31, which makes a parameter 8 bytes wide (R46). -/
def Row.wide (r : Row) : Bool := r.flds.any (fun f => decide (31 < f.hi))
/-- The width of a parameter in bytes (R46). -/
def Row.width (r : Row) : Nat := if r.wide then 8 else 4
/-- The reset value that the Reset column prints. -/
def Row.resetVal (r : Row) : Nat := r.flds.foldl (fun a f => a + f.reset * 2 ^ f.lo) 0

/-- The reset severity of an event source: the owning chapter's (R75); none for a reserved identifier (R74). -/
def eventSeverity (id : Nat) : Option Nat :=
  if id < 256 then [some 2, some 2, some 1, some 1, some 1, some 1, none, none].getD (id % 8) none
  else if id < 384 then [some 1, some 0, some 0, some 2, some 1, none, none, none].getD (id % 8) none
  else if id < 640 then [some 2, some 1, some 3, some 1].getD (id % 4) none
  else if id < 672 then some 1
  else if id < 680 then [some 2, some 1, some 2, some 2, some 1, some 2, some 2, some 3].getD (id - 672) none
  else if id < 704 then none
  else if id < 768 then [some 1, some 3, some 2, some 3].getD (id % 4) none
  else if id < 776 then [some 1, some 3].getD (id % 2) none
  else if id < 780 then some 0
  else if id < 797 then some 2
  else if id < 802 then [some 3, some 2, some 2, some 3, some 3].getD (id - 797) none
  else if id < 808 then none
  else if id < 815 then [some 2, some 2, some 2, some 2, some 1, some 2, some 1].getD (id - 808) none
  else if id < 832 then none
  else if id < 840 then [some 1, some 2, some 2, some 1, some 1, some 2, some 1, some 0].getD (id - 832) none
  else if id < 864 then none
  else if id < 888 then [some 1, some 3, some 4, none].getD (id % 4) none
  else if id < 896 then none
  else if id < 911 then [some 1, some 1, some 2, some 2, some 0, none, none, some 1].getD (id % 8) none
  else if id < 912 then none
  else if id < 928 then [some 1, some 2, some 0, some 1].getD (id % 4) none
  else if id < 930 then [some 2, some 1].getD (id - 928) none
  else if id < 944 then none
  else if id < 947 then [some 1, some 1, some 0].getD (id - 944) none
  else if id < 960 then none
  else if id < 963 then [some 1, some 1, some 2].getD (id - 960) none
  else if id < 976 then none
  else if id < 987 then [some 1, some 3, some 2, some 1, some 1, none, some 2, none, some 3, some 1, some 2].getD (id - 976) none
  else none

/-- FMAX at reset of ADPLL `n`, in kHz (R414). -/
def fmaxReset (n : Nat) : Nat := [1600400, 812704, 156290, 420000, 600150, 20486].getD n 0

/-- Entry `k` of a colour table at reset (R256): R = G = B = k, opaque but for entry 0. -/
def greyRamp (k : Nat) : Nat := (if k = 0 then 0 else 3 * 2 ^ 30) + k * (2 ^ 20 + 2 ^ 10 + 1)

/-- The value a parameter holds on entering THAW after a power-on reset (R5): the Reset column, with the cells it states per
source, table, plane, channel, port and PLL; the management port is ON (R335). The Firn store's and the fuses' cells are those of a new engine (log entry 3). -/
def resetVal (k : Nat) : Nat :=
  let i := keyInst k; let it := keyItem k
  match keyBlock k with
  | 0x01 => if it = 0x0001 then 2 else (rowOf k).elim 0 Row.resetVal
  | 0x02 => if 0x1000 ≤ it ∧ it < 0x1400 then (eventSeverity (it - 0x1000)).getD 0 + 16 * 16 else (rowOf k).elim 0 Row.resetVal
  | 0x03 => if it = 0x0010 then fmaxReset i else (rowOf k).elim 0 Row.resetVal
  | 0x06 => if it = 0x0010 ∧ 0xC7 ≤ i then 0 else (rowOf k).elim 0 Row.resetVal
  | 0x0C => if i = 0x10 ∧ it = 1 then 1 else if i = 0x10 ∧ it = 2 then 2 else (rowOf k).elim 0 Row.resetVal
  | 0x09 => if it = 0x0010 ∧ 0x60 ≤ i then 0x10 else (rowOf k).elim 0 Row.resetVal
  | 0x13 => if it = 0x1000 ∧ i < 32 then 0x20000 else (rowOf k).elim 0 Row.resetVal
  | 0x14 => if it = 0x0022 ∧ 0x10 ≤ i then 0x20000 else (rowOf k).elim 0 Row.resetVal
  | 0x0F => if it = 0x0012 ∧ i < 4 then 0x12C2 + i else (rowOf k).elim 0 Row.resetVal
  | 0x0A => if 0x1000 ≤ it ∧ it < 0x1400 ∧ (i < 16 ∨ (32 ≤ i ∧ i < 48)) then greyRamp (it - 0x1000) else (rowOf k).elim 0 Row.resetVal
  | _ => (rowOf k).elim 0 Row.resetVal

/-- The value in force of a parameter. -/
def Block.val (b : Block) (k : Nat) : Nat :=
  match tfind b.params k with
  | some v => v.toNat
  | none => resetVal k

/-- The value in force of a parameter in a beat that may have passed: the value before the earliest later performance. -/
def Block.valAt (b : Block) (k beat : Nat) : Nat :=
  match ((tget [] b.past k).filter (fun e => decide (beat < e.1))).getLast? with
  | some e => e.2
  | none => b.val k

/-- Remember the value that a performance at the present beat replaces. -/
def Block.notePast (b : Block) (k : Nat) : Block := { b with past := tupd [] b.past k (fun l => (b.beat, b.val k) :: l) }

/-- Bits `hi` to `lo` of parameter `k` of instance `i`, in force. -/
def Block.f (b : Block) (k i hi lo : Nat) : Nat := bits (b.val (ki k i)) hi lo

/-- The parameters with key `k` holding `v`. -/
def Block.setVal (b : Block) (k v : Nat) : Block := { b with params := tset b.params k (BitVec.ofNat 64 v) }

/-- The engine writes bits `hi` to `lo` of parameter `k` of instance `i`. -/
def Block.pf (b : Block) (k i hi lo v : Nat) : Block :=
  let key := ki k i
  b.setVal key (setBits (b.val key) hi lo v)

/-- The engine writes the whole of parameter `k` of instance `i`. -/
def Block.pv (b : Block) (k i v : Nat) : Block := b.setVal (ki k i) v

/-- What a counter has advanced by in the present core cycle (R7). -/
def Block.countedNow (b : Block) (key : Nat) : Nat :=
  let c := tget (0, 0) b.counted key
  if c.1 = b.ticks then c.2 else 0
/-- A counter's advance by `n` is noted with its core cycle (R7). -/
def Block.noteCount (b : Block) (key n : Nat) : Block := { b with counted := tset b.counted key (b.ticks, b.countedNow key + n) }
/-- A 32-bit counter advances; it wraps (log entry 7). -/
def Block.inc (b : Block) (k i n : Nat) : Block := (b.noteCount (ki k i) n).pv k i ((b.val (ki k i) + n) % 2 ^ 32)
/-- A 32-bit counter advances and saturates, where its row says so. -/
def Block.incSat (b : Block) (k i n : Nat) : Block :=
  let v := satU 32 (b.val (ki k i) + n)
  (b.noteCount (ki k i) (v - b.val (ki k i))).pv k i v

/-! ## Function life (R49 to R51) -/

/-- OFF, STARTING, ON and STOPPING as FUNC_STATE codes them. -/
def lOff : Nat := 0
def lStarting : Nat := 1
def lOn : Nat := 2
def lStopping : Nat := 3

/-- FUNC_STATE[1:0] of an instance. -/
def Block.life (b : Block) (blk i : Nat) : Nat := bits (b.val (mkKey blk i 2)) 1 0
/-- The held request of an instance: 0 none, 1 start, 2 stop. -/
def Block.heldReq (b : Block) (blk i : Nat) : Nat := bits (b.val (mkKey blk i 2)) 3 2
/-- ENABLE of an instance, in force. -/
def Block.enabled (b : Block) (blk i : Nat) : Bool := bit (b.val (mkKey blk i 1)) 0
def Block.isOn (b : Block) (blk i : Nat) : Bool := b.life blk i == lOn
def Block.isOff (b : Block) (blk i : Nat) : Bool := b.life blk i == lOff
/-- STARTING or STOPPING. -/
def Block.moving (b : Block) (blk i : Nat) : Bool := b.life blk i == lStarting || b.life blk i == lStopping

/-! ## Times (R11, R12) -/

/-- The quality code of the time base in force (R396). -/
def Block.quality (b : Block) : Nat := bits (b.val K.TIM_STATE) 4 3

/-- The Fysiva time of a beat number and an offset in units of 2^-16 ns from its start. -/
def timeAt (beat : Nat) (off : Int) (q : Nat) : Fysiva :=
  let t := (beat : Int) * (1280 * 65536) + off
  let u := t.toNat
  let ns := u / 65536
  ⟨ns / 1000000000, ns % 1000000000, u % 65536, q⟩

/-- 2^-16 ns units of a number of core cycles: one cycle is 625 ps, which is 40,960 units. -/
def cycleUnits (c : Nat) : Nat := c * 40960

/-- The time of the present core cycle. -/
def Block.now (b : Block) : Fysiva := timeAt b.beat (cycleUnits b.cycle) b.quality

/-- Word 0 and word 1 of a Fysiva time (R11). -/
def Fysiva.w0 (t : Fysiva) : Nat := t.sec % 2 ^ 48
def Fysiva.w1 (t : Fysiva) : Nat := t.ns % 2 ^ 30 * 2 ^ 18 + t.frac % 2 ^ 16 * 4 + t.quality % 4
/-- The twelve bytes of a Fysiva time (R3, R11). -/
def Fysiva.bytes (t : Fysiva) : List Byte := beBytes 6 t.w0 ++ beBytes 6 t.w1

/-- The core cycle count: it never steps back. -/
def Block.clock (b : Block) : Nat := b.ticks

/-! ## Memory within a step -/

/-- A byte as the step so far leaves it. -/
def Block.rdByte (b : Block) (m : Mem) (a : Nat) : Byte := opsRead m b.stores a
/-- Bytes as the step so far leaves them. -/
def Block.rdBytes (b : Block) (m : Mem) (a n : Nat) : List Byte := (List.range n).map (fun i => b.rdByte m (a + i))
/-- Store one byte. -/
def Block.stByte (b : Block) (a : Nat) (v : Byte) : Block := { b with stores := .byte a v :: b.stores }
/-- Store bytes at rising addresses. -/
def Block.stBytes (b : Block) (a : Nat) (l : List Byte) : Block :=
  { b with stores := ((l.mapIdx (fun i v => MemOp.byte (a + i) v)).reverse) ++ b.stores }
/-- Forget a range. -/
def Block.stClear (b : Block) (lo hi : Nat) : Block := { b with stores := .clear lo hi :: b.stores }

/-- A word of a Weaver bank. -/
def Block.rdWord48 (b : Block) (m : Mem) (c bank i : Nat) : Nat := beNat (b.rdBytes m (spBank c bank i) 6)
/-- Store a word of a Weaver bank. -/
def Block.stWord48 (b : Block) (c bank i v : Nat) : Block := b.stBytes (spBank c bank i) (beBytes 6 v)

/-! ## Outputs, events and free values -/

/-- The engine sends something. -/
def Block.send (b : Block) (x : Sent) : Block := { b with sent := b.sent ++ [x] }

/-- An event occurs (R77): its payload is padded to 16 bytes. -/
def Block.raise (b : Block) (id : Nat) (payload : List Byte) : Block :=
  { b with raised := b.raised ++ [⟨id, fixLen 16 payload, none⟩] }
/-- An event occurs whose record carries the time of its cause (R77). -/
def Block.raiseAt (b : Block) (id : Nat) (payload : List Byte) (t : Fysiva) : Block :=
  { b with raised := b.raised ++ [⟨id, fixLen 16 payload, some t⟩] }

/-- The number of the next free value. -/
def Block.tick (b : Block) : Block := { b with fresh := b.fresh + 1 }

/-- A Weaver core's state. -/
def Block.core (b : Block) (c : Nat) : Core := tget {} b.cores c
def Block.setCore (b : Block) (c : Nat) (x : Core) : Block := { b with cores := tset b.cores c x }
/-- A core's own program stores a word of its bank. -/
def Block.coreStore (b : Block) (c bank i v : Nat) : Block :=
  let x := b.core c
  let old := if x.stored.1 = b.clock then x.stored.2 else []
  (b.stWord48 c bank i v).setCore c { x with stored := (b.clock, spBank c bank i :: old) }
/-- The host writes a word of a bank: a store of the core to it in the same core cycle leaves the core's value (R291). -/
def Block.hostStore (b : Block) (c bank i v : Nat) : Block :=
  let x := b.core c
  if x.stored.1 = b.clock ∧ x.stored.2.contains (spBank c bank i) then b else b.stWord48 c bank i v

/-- The event that a change of FUNC_STATE raises, where the owning chapter gives one. -/
def lifeEvent (blk i : Nat) : Option Nat :=
  match blk with
  | 0x05 => if i < 32 then some (8 * i + 5) else none
  | 0x07 => if i < 16 then some (256 + 8 * i + 4) else none
  | 0x0B => if i < 64 then some (384 + 4 * i + 3) else none
  | 0x0A => if i = 0x80 then some 896 else if i = 0x81 then some 904 else none
  | 0x0F => if i < 4 then some (912 + 4 * i) else none
  | 0x10 => some 929
  | _ => none

/-- A function enters a state of its life; the change is reported where its chapter says so. -/
def Block.setLife (b : Block) (blk i st : Nat) : Block :=
  let old := b.life blk i
  let k := mkKey blk i 2
  let b := b.setVal k (setBits (b.val k) 1 0 st)
  if old = st then b
  else
    let b := if st = lOff ∨ st = lOn then { b with reached := tset b.reached k b.ticks } else b
    match lifeEvent blk i with
    | some e => b.raise e (beBytes 1 st ++ beBytes 1 old)
    | none => b

/-- A start or stop request is held, or no longer held (R50, R51). -/
def Block.setHeld (b : Block) (blk i h : Nat) : Block :=
  let k := mkKey blk i 2
  b.setVal k (setBits (b.val k) 3 2 h)

/-- ENABLE takes a value. -/
def Block.setEnable (b : Block) (blk i : Nat) (on : Bool) : Block := b.setVal (mkKey blk i 1) (b2n on)

/-! ## Statuses (R71) -/

inductive Status where
  | ok | deferred | partly | busy | busyScanout | swapPending | paramKey | paramRange | budget | state | notInThaw
  | captureTooLong | codecLimit | tooLate | aborted | tooBig | opcode | image | auth | sequence | version | sessions | format
  | unreachable | fault
deriving DecidableEq, Repr

/-- The number of a status (R71). -/
def Status.num : Status → Nat
  | .ok => 0 | .deferred => 1 | .partly => 2 | .busy => 0x10 | .busyScanout => 0x11 | .swapPending => 0x12
  | .paramKey => 0x20 | .paramRange => 0x21 | .budget => 0x22 | .state => 0x23 | .notInThaw => 0x24
  | .captureTooLong => 0x25 | .codecLimit => 0x26 | .tooLate => 0x27 | .aborted => 0x28 | .tooBig => 0x29 | .opcode => 0x2A
  | .image => 0x2B | .auth => 0x30 | .sequence => 0x31 | .version => 0x32 | .sessions => 0x33 | .format => 0x34
  | .unreachable => 0x40 | .fault => 0x41

/-- Whether a status lets a record be performed. -/
def Status.good (s : Status) : Bool := s == .ok || s == .deferred

/-- The first check that fails gives the status (R54): later ones are not made. -/
def firstBad : List Status → Status
  | [] => .ok
  | s :: t => if s.good then (match firstBad t with | .ok => s | x => x) else s

/-- A check: `ok` when the condition holds. -/
def need (c : Bool) (s : Status) : Status := if c then .ok else s

end Sys2Proof.Machine
end

