-- ==== Sys2Proof/Machine/StrBase.lean ====
section
/-! DEFINITION. What reaches a stream: the room it has, and the items of its source (R342, R344, R346, R347); what a
decompressor's consumer takes (R361). -/
namespace Sys2Proof.Machine

def bNET : Nat := 0x0C
def bSTR : Nat := 0x0D
def bCDC : Nat := 0x0E

def Block.str (b : Block) (s : Nat) : Str := tget {} b.strs s
def Block.setStr (b : Block) (s : Nat) (x : Str) : Block := { b with strs := tset b.strs s x }
def Block.strKind (b : Block) (s : Nat) : Nat := b.f K.STR_CFG s 2 0
def Block.strSrc (b : Block) (s : Nat) : Nat := b.f K.STR_CFG s 9 3
def Block.strVita (b : Block) (s : Nat) : Bool := b.f K.STR_CFG s 10 10 == 1
def Block.strRoce (b : Block) (s : Nat) : Bool := b.f K.STR_CFG s 11 11 == 1
def Block.strIface (b : Block) (s : Nat) : Nat := b.f K.STR_CFG s 15 12
def Block.strV6 (b : Block) (s : Nat) : Bool := b.f K.STR_CFG s 16 16 == 1
def Block.strCoded (b : Block) (s : Nat) : Bool := b.f K.STR_CFG s 17 17 == 1
def Block.strEnc (b : Block) (s : Nat) : Bool := b.f K.STR_CFG s 24 24 == 1

/-- The most stream data a packet carries (R338, R347): PKT_MAX, less the tag. -/
def Block.strMax (b : Block) (s : Nat) : Nat :=
  (if b.f K.NET_CFG (b.strIface s) 0 0 = 1 then 4032 else 1344) - (if b.strEnc s then 16 else 0)

/-- The most data a packet of an item holds: whole parts. -/
def Block.itemMax (b : Block) (s : Nat) (it : StrItem) : Nat := max 1 (b.strMax s / max 1 it.part) * max 1 it.part

/-- The bytes an item takes in the stream's packet buffer: its packets with their headers and tags. -/
def Block.itemRoom (b : Block) (s : Nat) (it : StrItem) : Nat :=
  let n := it.data.length - it.off
  n + max 1 (ceilDiv n (b.itemMax s it)) * (if b.strEnc s then 80 else 64)

/-- The bytes that a stream's pages hold. -/
def Block.strHeld (b : Block) (s : Nat) : Nat :=
  let x := b.str s
  (x.items.map (b.itemRoom s)).foldl (· + ·) 0 + (x.unacked.map (fun p => p.bytes.length)).foldl (· + ·) 0

/-- Whether `n` more bytes fit the pages of R347. -/
def Block.strRoom (b : Block) (s n : Nat) : Bool := decide (b.strHeld s + n ≤ b.f K.STR_BUF s 5 0 * 65536)

/-- An item of a real-time source reaches a stream: one that finds no room is discarded whole and counted (R346). -/
def Block.strOffer (b : Block) (s : Nat) (it : StrItem) : Block × Bool :=
  let x := b.str s
  if b.strRoom s (b.itemRoom s it) then (b.setStr s { x with items := x.items ++ [it] }, true)
  else ((b.inc K.STR_DROPPED s 1).setStr s { x with loss := true, lost := x.lost + 1 }, false)

/-- Whether stream `s` takes an item of a source that belongs to a beat (R344). -/
def Block.strTakes (b : Block) (s kind beat : Nat) : Bool :=
  let x := b.str s
  b.strKind s == kind && !b.isOff bSTR s && decide (x.startBeat ≤ beat) &&
    (match x.stopAt with | some e => decide (beat < e) | none => true)

/-- An item reaches every stream of its source. -/
def Block.strOfferAll (b : Block) (kind src beat : Nat) (it : StrItem) : Block :=
  (which 64 (fun s => b.strTakes s kind beat && b.strSrc s == src)).foldl (fun b s => (b.strOffer s it).1) b

/-- An occurrence that LIMIT does not withhold reaches the EVENTS streams whose EVT_SEV it meets. -/
def Block.strEvent (b : Block) (severity : Nat) (bytes : List Byte) : Block :=
  (which 64 (fun s => b.strTakes s 5 b.beat && decide (b.f K.STR_CFG s 30 28 ≤ severity))).foldl
    (fun b s => (b.strOffer s { kind := 7, index := b.beat, hdr := beBytes 4 1 ++ zeros 28, data := bytes, part := 44 }).1) b

def Block.dec (b : Block) (d : Nat) : Dec := tget {} b.decs d
def Block.setDec (b : Block) (d : Nat) (x : Dec) : Block := { b with decs := tset b.decs d x }

/-- The next sample that a decompressor has decoded: a value, or none within a missing run; nothing when it has none. -/
def Block.decTake (b : Block) (d : Nat) : Block × Option (Option (Int × Int)) :=
  let x := b.dec d
  match x.out with
  | [] => (b, none)
  | r :: t =>
    let v := match r.vals with | some l => l.head? | none => none
    let rest := if r.n ≤ 1 then t else { r with first := r.first + 1, n := r.n - 1, vals := r.vals.map (·.drop 1) } :: t
    (b.setDec d { x with out := rest }, some v)

/-- How many samples wait for a decompressor's consumer. -/
def Block.decWaiting (b : Block) (d : Nat) : Nat := ((b.dec d).out.map (·.n)).foldl (· + ·) 0

end Sys2Proof.Machine
end

