-- ==== Sys2Proof/Machine/Events.lean ====
section
/-! DEFINITION. Events: their order, their rate limit, and their delivery to sessions, pins and cores (R74 to R85), and the
frame in which every command runs. -/
namespace Sys2Proof.Machine

/-- SRC_CFG of a source (R76). -/
def Block.srcCfg (b : Block) (id hi lo : Nat) : Nat := bits (b.val (K.EVT_SRC_CFG + id)) hi lo

/-- A port carries large packets: a network interface with JUMBO (CFG[0]), or the Plait CTRL class, which takes BCP packets of 8,848 bytes
(R34, R452). -/
def Block.jumbo (b : Block) (port : Nat) : Bool := decide (17 ≤ port) || b.f K.NET_CFG port 0 0 == 1

/-- The largest payload of a BCP packet on a port (R34). -/
def Block.payloadLimit (b : Block) (port : Nat) : Nat := if b.jumbo port then 8800 else 1360

/-- The most records an event packet carries on a port (R81). One that leaves over CTRL may end on a port with standard frames, and holds 30
(DESIGN CHOICE, log entry 146). -/
def Block.recLimit (b : Block) (port : Nat) : Nat := if b.f K.NET_CFG port 0 0 = 1 then 200 else 30

/-- The places a session's queue has taken, closed packets included. -/
def Session.taken (s : Session) : Nat := s.queue.length + (s.closed.map (fun p => p.recs.length)).foldl (· + ·) 0

/-- A record takes its place among those of its detecting core cycle, by ascending identifier (R78). -/
def insertRec (r : EvRec) : List EvRec → List EvRec
  | [] => [r]
  | x :: l => if x.since = r.since ∧ r.id < x.id then r :: x :: l else x :: insertRec r l

/-- A record joins the queue; a full packet is closed (R83). -/
def Session.push (s : Session) (limit : Nat) (r : EvRec) : Session :=
  let q := insertRec r s.queue
  if limit ≤ q.length then { s with queue := [], closed := s.closed ++ [⟨q⟩] } else { s with queue := q }

/-- The source's running total, and SRC_COUNT, advance by one (R79, R81). -/
def Block.countSource (b : Block) (id : Nat) : Block :=
  let b := b.inc (K.EVT_SRC_COUNT + id) 0 1
  { b with srcTotal := tupd 0 b.srcTotal id (· + 1) }

/-- The record of an occurrence for a session. -/
def Block.record (b : Block) (o : Occ) (loss : Bool) : EvRec :=
  ⟨o.id, b.srcCfg o.id 2 0, loss, tget 0 b.srcTotal o.id % 2 ^ 32, b.beat, o.at?.getD b.now, o.payload, b.clock⟩

/-- The 44 bytes of an event record (R81); LATE is set beyond the 4 µs of R31. -/
def Block.recBytes (b : Block) (r : EvRec) : List Byte :=
  beBytes 2 r.id ++ beBytes 1 r.severity ++ beBytes 1 (b2n r.loss + 2 * b2n (decide (r.since + 6400 < b.clock))) ++
    beBytes 4 r.seq ++ beBytes 8 r.beat ++ r.time.bytes ++ r.payload

/-- Replace the session with the same identifier. -/
def Block.setSession (b : Block) (s : Session) : Block :=
  { b with sessions := b.sessions.map (fun x => if x.id = s.id then s else x) }

/-- Deliver a record to one session (R82): a full queue discards it, and the first record that then finds two places free
follows one EV_EVT_LOST. -/
def Block.deliverTo (b : Block) (sid : Nat) (o : Occ) : Block :=
  match b.sessions.find? (fun s => s.id == sid) with
  | none => b
  | some s =>
    let limit := b.recLimit s.iface
    if (if s.full then decide (254 < s.taken) else decide (256 ≤ s.taken)) then
      (b.setSession { s with lost := s.lost + 1, full := true }).inc K.EVT_LOST 0 1
    else if s.full then
      let b := b.countSource 978
      let lostRec := b.record ⟨978, fixLen 16 (beBytes 4 s.lost), some (o.at?.getD b.now)⟩ false
      let y := { s with lost := 0, full := false }
      let y := if limit ≤ y.queue.length + 1 then { y with queue := [], closed := y.closed ++ [⟨y.queue ++ [lostRec]⟩] } else { y with queue := y.queue ++ [lostRec] }
      b.setSession (y.push limit (b.record o true))
    else b.setSession (s.push limit (b.record o false))

/-- Route an occurrence to EVT_OUT_N[k] (R84): LEVEL asserts the pin, PULSE starts or restarts the width. -/
def Block.routePin (b : Block) (id k : Nat) : Block :=
  if bit (b.srcCfg id 17 16) k then
    let cfg := b.val (K.EVT_OUT_CFG0 + k)
    let was := bit (b.val K.EVT_OUT_STATE) k
    let b := b.pf K.EVT_OUT_STATE 0 k k 1
    let b := if was then b else b.send (.pin "EVT_OUT_N" k false 0)
    let b := { b with evtAt := tset b.evtAt k b.clock }
    if bit cfg 0 then { b with evtEnd := tset b.evtEnd k (b.clock + bits cfg 10 1 * 16) } else b
  else b

/-- One more pending occurrence on a line of a core that is ON (R85, R300). -/
def Block.pendLine (b : Block) (c line : Nat) : Block :=
  if b.isOn 0x0B c then
    let x := b.core c
    b.setCore c { x with pend := tupd 0 x.pend line (fun n => min 255 (n + 1)) }
  else b

/-- One occurrence (R77 to R85). 978 and 979 ignore LIMIT and routing (R76). -/
def Block.occur (b : Block) (o : Occ) : Block :=
  let special := o.id == 978 || o.id == 979
  let b := b.countSource o.id
  let n := tget 0 b.srcWin o.id + 1
  let b := { b with srcWin := tset b.srcWin o.id n }
  let limit := b.srcCfg o.id 15 4
  let withheld := !special && limit != 0 && decide (limit < n)
  let b :=
    if withheld then
      let b := b.inc (K.EVT_SRC_SUPPRESSED + o.id) 0 1
      { b with supFirst := some (b.supFirst.getD o.id), supTotal := b.supTotal + 1,
               supSrcs := if b.supSrcs.contains o.id then b.supSrcs else b.supSrcs ++ [o.id] }
    else
      let sev := b.srcCfg o.id 2 0
      ((b.sessions.filter (fun s => bit s.mask o.id && decide (s.minSev ≤ sev))).map (·.id)).foldl
        (fun b sid => b.deliverTo sid o) (b.strEvent sev (b.recBytes (b.record o false)))
  if special then b
  else
    let b := (b.routePin o.id 0).routePin o.id 1
    if b.srcCfg o.id 18 18 = 1 then b.pendLine (b.srcCfg o.id 24 19) (b.srcCfg o.id 26 25) else b

/-- The occurrences that a command raised, in the order of R78: one core cycle, by ascending identifier. -/
def Block.flushEvents (b : Block) : Block :=
  { (sortBy Occ.id b.raised).foldl Block.occur b with raised := [] }

/-- The block as a command finds it: what the last one sent, stored and raised is cleared. -/
def State.start (s : State) : Block := { s.blk with sent := [], stores := [], raised := [] }

/-- The state after a command that left the block as `b`: the events it raised are delivered (R76 to R82), and the bytes it stored reach
the memories. The queue is unchanged. -/
def State.finish (s : State) (b : Block) : State :=
  { s with blk := b.flushEvents, mem := memApplyAll s.mem b.flushEvents.stores }

/-- A command acts on the block and the memories as it finds them. -/
def State.run (f : Mem → Block → Block) (s : State) : Host.Outcome State Fault Refusal := .next (s.finish (f s.mem s.start))

/-- The window of 1,024 beats that begins at beat `t` has not begun yet: the one in progress ends there. -/
def Block.windowDue (b : Block) (t : Nat) : Bool := t % 1024 == 0 && b.winBeat != t

/-- At the end of a window of 1,024 beats, the start of beat `t`, the engine reports what LIMIT withheld, once, and the next window begins
(R79). A step of the beat number that lands inside another group of 1,024 beats ends no window: the window runs on to the next multiple
(DESIGN CHOICE, log entry 138). -/
def Block.endWindow (b : Block) (t : Nat) : Block :=
  let b := match b.supFirst with
    | some id => b.raise 979 (beBytes 2 id ++ zeros 2 ++ beBytes 4 b.supTotal ++ beBytes 2 b.supSrcs.length)
    | none => b
  { b with srcWin := [], supFirst := none, supTotal := 0, supSrcs := [], winBeat := t }

/-- An occurrence of the present core cycle asserted the pin, or would have. -/
def Block.pinHeld (b : Block) (k : Nat) : Bool := (tfind b.evtAt k) == some b.clock

/-- OUT_ACK releases a pin in LEVEL mode, unless an occurrence of the same core cycle holds it (R84). -/
def Block.outAck (b : Block) (mask : Nat) : Block :=
  [0, 1].foldl (fun b k =>
    if bit mask k && !bit (b.val (K.EVT_OUT_CFG0 + k)) 0 && bit (b.val K.EVT_OUT_STATE) k && !b.pinHeld k then
      (b.pf K.EVT_OUT_STATE 0 k k 0).send (.pin "EVT_OUT_N" k true 0)
    else b) b

/-- A PULSE-mode pin is released when its width has passed (R84). The mode is the one in force: a pin asserted in the other mode stays
asserted until the present mode releases it (DESIGN CHOICE, log entry 139). -/
def Block.pulseEnd (b : Block) (k : Nat) : Block :=
  if bit (b.val (K.EVT_OUT_CFG0 + k)) 0 && bit (b.val K.EVT_OUT_STATE) k && decide (tget 0 b.evtEnd k ≤ b.clock) then
    (b.pf K.EVT_OUT_STATE 0 k k 0).send (.pin "EVT_OUT_N" k true 0)
  else b

/-- The open packet of a session is closed (R83). -/
def Block.closePacket (b : Block) (sid : Nat) : Block :=
  match b.sessions.find? (fun s => s.id == sid) with
  | none => b
  | some s => if s.queue.isEmpty then b else b.setSession { s with queue := [], closed := s.closed ++ [⟨s.queue⟩] }

/-- Whether an interface's link is up (R337). -/
def Block.linkUp (b : Block) (iface : Nat) : Bool := b.f K.NET_STATUS iface 0 0 == 1

end Sys2Proof.Machine
end

