-- ==== Sys2Proof/Machine/Links.lean ====
section
/-! DEFINITION. Converter links and SPI masters (R86 to R104, R509, R510): the checks of a link's ENABLE, its start sequence,
its errors, its re-release, and the SPI transactions. -/
namespace Sys2Proof.Machine

/-- The block codes of receive and transmit links. -/
def bJRX : Nat := 0x04
def bJTX : Nat := 0x17

/-! ## Settings of a link (R91, R102); `blk` is JRX or JTX -/

/-- A field of a link's items 0x0010 to 0x0014. -/
def Block.lk (b : Block) (blk k item hi lo : Nat) : Nat := bits (b.val (mkKey blk k item)) hi lo
def Block.lkFirst (b : Block) (blk k : Nat) : Nat := b.lk blk k 0x10 5 0
def Block.lkL (b : Block) (blk k : Nat) : Nat := b.lk blk k 0x10 9 6
def Block.lkIsB (b : Block) (blk k : Nat) : Bool := b.lk blk k 0x10 10 10 == 1
def Block.lkDiv (b : Block) (blk k : Nat) : Nat := 2 ^ b.lk blk k 0x10 12 11
def Block.lkM (b : Block) (blk k : Nat) : Nat := b.lk blk k 0x11 3 0 + 1
def Block.lkS (b : Block) (blk k : Nat) : Nat := b.lk blk k 0x11 8 4 + 1
def Block.lkF (b : Block) (blk k : Nat) : Nat := b.lk blk k 0x11 15 9 + 1
def Block.lkN (b : Block) (blk k : Nat) : Nat := b.lk blk k 0x11 20 16
def Block.lkNp (b : Block) (blk k : Nat) : Nat := if b.lk blk k 0x11 21 21 = 1 then 16 else 12
def Block.lkCS (b : Block) (blk k : Nat) : Nat := b.lk blk k 0x11 23 22
def Block.lkE (b : Block) (blk k : Nat) : Nat := b.lk blk k 0x12 4 0 + 1
def Block.lkK (b : Block) (blk k : Nat) : Nat := b.lk blk k 0x12 9 5 + 1
def Block.lkRBD (b : Block) (blk k : Nat) : Nat := b.lk blk k 0x12 13 10
/-- CRC_ACTION = DROP. -/
def Block.lkDrop (b : Block) (blk k : Nat) : Bool := b.lk blk k 0x12 14 14 == 1
def Block.lkSel (b : Block) (blk k : Nat) : Nat := b.lk blk k 0x12 17 15

/-- The base line rate in kbit/s (R89). -/
def Block.baseRate (b : Block) : Nat := b.f K.CLK_BASE_RATE 1 24 0

/-- The converter sample rate of a link in Sa/s, as numerator and denominator: the payload the line rate carries after its
coding, over M × N' bits on L lanes (R89, R90). -/
def Block.fConv (b : Block) (blk k : Nat) : Nat × Nat :=
  let line := b.baseRate * 1000 * b.lkL blk k
  if b.lkIsB blk k then (line * 8, b.lkDiv blk k * 10 * b.lkM blk k * b.lkNp blk k)
  else (line * 64, b.lkDiv blk k * 66 * b.lkM blk k * b.lkNp blk k)

/-- Samples of one converter in an extended multiblock, or in a multiframe (R94). -/
def Block.embSamples (b : Block) (blk k : Nat) : Nat :=
  if b.lkIsB blk k then b.lkK blk k * b.lkS blk k
  else b.lkE blk k * 2048 * b.lkL blk k / (b.lkM blk k * b.lkNp blk k)

/-- Samples of one converter in one multiblock. -/
def Block.mbSamples (b : Block) (blk k : Nat) : Nat :=
  if b.lkIsB blk k then b.lkK blk k * b.lkS blk k else 2048 * b.lkL blk k / (b.lkM blk k * b.lkNp blk k)

/-- Whether the extended multiblock divides the SYSREF period beat/K exactly (R96). -/
def Block.dividesSysref (b : Block) (blk k kdiv : Nat) : Bool :=
  let (n, d) := b.fConv blk k
  let den := d * kdiv * b.embSamples blk k * 100000000
  den != 0 && n * 128 % den == 0

/-- SYSREF_OUT[j]'s MODE and K (R401). -/
def Block.sysrefMode (b : Block) (j : Nat) : Nat := b.f K.TIM_SYSREF_CFG (0x10 + j) 1 0
def Block.sysrefK (b : Block) (j : Nat) : Nat := b.f K.TIM_SYSREF_CFG (0x10 + j) 8 2

/-- The frame arithmetic of R86 and R87: F = M × S × N' / (8 × L) exactly, N' holds the sample and its control bits, whole
frames fill the extended multiblock, and F × K lies in range in JESD204B. -/
def Block.frameOk (b : Block) (blk k : Nat) : Bool :=
  b.lkF blk k * 8 * b.lkL blk k == b.lkM blk k * b.lkS blk k * b.lkNp blk k &&
  decide (b.lkN blk k + b.lkCS blk k ≤ b.lkNp blk k) &&
  (if b.lkIsB blk k then decide (17 ≤ b.lkF blk k * b.lkK blk k) && decide (b.lkF blk k * b.lkK blk k ≤ 1024)
   else b.lkE blk k * 256 % b.lkF blk k == 0)

/-- The line rate lies within its coding's range (R86, R89). -/
def Block.rateOk (b : Block) (blk k : Nat) : Bool :=
  let d := b.lkDiv blk k
  if b.lkIsB blk k then decide (2000000 * d ≤ b.baseRate) && decide (b.baseRate ≤ 16000000 * d)
  else decide (8000000 * d ≤ b.baseRate) && decide (b.baseRate ≤ 32500000 * d)

/-- With a periodic SYSREF the extended multiblock must divide its period (R96). -/
def Block.epochOk (b : Block) (blk k : Nat) : Bool :=
  let j := b.lkSel blk k
  b.sysrefMode j != 1 || b.dividesSysref blk k (b.sysrefK j)

/-- How many SerDes lanes a direction has (R86). -/
def serdes (blk : Nat) : Nat := if blk = bJTX then 16 else 64
/-- How many links a direction has. -/
def linkCount (blk : Nat) : Nat := if blk = bJTX then 4 else 16

/-- The link's SerDes lanes lie in range and overlap no other enabled link's (R89). -/
def Block.serdesOk (b : Block) (blk k : Nat) : Bool :=
  let lo := b.lkFirst blk k; let hi := lo + b.lkL blk k
  decide (hi ≤ serdes blk) &&
  (List.range (linkCount blk)).all (fun j =>
    j == k || !(b.enabled blk j || !b.isOff blk j) ||
      decide (hi ≤ b.lkFirst blk j) || decide (b.lkFirst blk j + b.lkL blk j ≤ lo))

/-- The import that presents lane `i`, if any (R458). -/
def Block.importOf (b : Block) (i : Nat) : Option Nat :=
  (List.range 8).find? (fun m => !b.isOff 0x15 (0x30 + m) && b.f K.PLT_IMP_CFG (0x30 + m) 4 0 == i)

/-- The lanes that take input from receive link `k` (R93); an imported lane takes none (R458). -/
def Block.lanesOfLink (b : Block) (k : Nat) : List Nat :=
  which 32 (fun i => b.f K.LANE_SOURCE i 4 4 == 0 && b.f K.LANE_SOURCE i 3 0 == k && (b.importOf i).isNone)

/-- Step 8 of R54 for a link's parameters: items 0x0010 to 0x0013 are written only while the link is not ON (R91), and a
receive link in use is not stopped (R92). -/
def Block.linkState (b : Block) (blk k item v : Nat) : Status :=
  if item = 1 then
    if v % 2 = 0 ∧ blk = bJRX then
      need (!(b.lanesOfLink k).any (fun i => !b.isOff 0x05 i)) .busy
    else .ok
  else if 0x10 ≤ item ∧ item ≤ 0x13 then need (!b.isOn blk k) .state
  else .ok

/-- Step 9 for a link: what ENABLE = 1 requires (R86, R87, R89, R96). -/
def Block.linkValue (b : Block) (blk k item v : Nat) : Status :=
  if item = 1 ∧ v % 2 = 1 then
    need (b.frameOk blk k && b.rateOk blk k && b.epochOk blk k) .paramRange
  else .ok

/-- Step 10 for a link (R89). -/
def Block.linkBudget (b : Block) (blk k item v : Nat) : Status :=
  if item = 1 ∧ v % 2 = 1 then need (b.serdesOk blk k) .budget else .ok

/-! ## The running link -/

def Block.lnk (b : Block) (blk k : Nat) : Link := tget {} (if blk = bJTX then b.jtx else b.jrx) k
def Block.setLnk (b : Block) (blk k : Nat) (x : Link) : Block :=
  if blk = bJTX then { b with jtx := tset b.jtx k x } else { b with jrx := tset b.jrx k x }

/-- STATUS.RELEASED (R91). -/
def Block.released (b : Block) (blk k : Nat) : Bool := bit (b.val (mkKey blk k 0x20)) 9

/-- The mask of all of a link's lanes (R510). -/
def Block.allLanes (b : Block) (blk k : Nat) : Nat := 2 ^ b.lkL blk k - 1

/-- The release latency in input samples (R94) at release delay `r`. -/
def Block.latencyAt (b : Block) (k r : Nat) : Nat :=
  (r + 1) * b.embSamples bJRX k + (if b.lkDrop bJRX k && !b.lkIsB bJRX k then b.embSamples bJRX k else 0)

/-- The release margin in 1/16 input sample (R95) at release delay `r`: the release lies `r` extended multiblocks, and one
more under DROP in JESD204C (R94), after the end of the extended multiblock as sent. -/
def Block.marginAt (b : Block) (k r arrival : Nat) : Int :=
  (16 * ((r + b2n (b.lkDrop bJRX k && !b.lkIsB bJRX k)) * b.embSamples bJRX k) : Nat) - (arrival : Int)

/-- SKEW: ARRIVAL less that of the reference link, in 1/16 input sample; 0 when the input sample rates differ (R98). -/
def Block.skewOf (b : Block) (k : Nat) : Int :=
  let r := b.f K.JRX_SKEW_REF k 3 0
  let (n, d) := b.fConv bJRX k; let (n', d') := b.fConv bJRX r
  if n * d' = n' * d then (b.val (ki K.JRX_ARRIVAL k) : Int) - (b.val (ki K.JRX_ARRIVAL r) : Int) else 0

/-- The beat of the epoch that SYSREF_OUT[j] gives: any boundary while PERIODIC, that of its latest edge otherwise (R94, R96). -/
def Block.sysrefEpoch (b : Block) (j : Nat) : Option Int :=
  if b.sysrefMode j = 1 then some b.beat else tfind b.shot j

/-- Whether two boundaries lie a whole number of extended multiblocks apart (R94, R96). -/
def Block.epochsAgree (b : Block) (blk k : Nat) (x y : Int) : Bool :=
  let (n, d) := b.fConv blk k
  let den := d * b.embSamples blk k * 100000000
  den == 0 || (x - y).natAbs * n * 128 % den == 0

/-- How far the extended-multiblock grid moves from epoch `x` to epoch `y`, in input samples: the residue from 0 to one extended
multiblock less one (R104; DESIGN CHOICE, log entry 148: the rule gives the shift a sign and no range). -/
def Block.epochShift (b : Block) (k : Nat) (x y : Int) : Int :=
  let (n, d) := b.fConv bJRX k
  let smp := rndEven ((y - x) * n * 128) (d * 100000000)
  let e := b.embSamples bJRX k
  if e = 0 then 0 else smp % e

/-- The converter samples from a link's epoch to beat boundary `t` (R94). -/
def Block.sinceEpoch (b : Block) (blk k : Nat) (t : Int) : Int :=
  match (b.lnk blk k).epoch with
  | some e => let (n, d) := b.fConv blk k; iceilDiv ((t - e) * n * 128) (d * 100000000)
  | none => 0

/-- The converter samples that a link's converter has taken since the link's epoch, at the present core cycle. -/
def Block.takenSince (b : Block) (k : Nat) : Int :=
  match (b.lnk bJRX k).epoch with
  | some e => let (n, d) := b.fConv bJRX k; iceilDiv (((b.beat - e) * 2048 + b.cycle) * n) (d * 1600000000)
  | none => 0

/-- EV_JRX_DOWN (R104, R510). -/
def Block.jrxDown (b : Block) (k reason mask : Nat) : Block := b.raise (705 + 4 * k) (beBytes 1 reason ++ beBytes 1 mask)

def rHeader : Nat := 1
def rAlign : Nat := 2
def rElastic : Nat := 3
def rIlas : Nat := 4
def rRate : Nat := 5

/-- STATUS of a link loses its locks, its alignment or its release. -/
def Block.clearStatus (b : Block) (blk k : Nat) (locks : Bool) : Block :=
  let key := mkKey blk k 0x20
  b.setVal key (if locks then 0 else setBits (b.val key) 9 8 0)

/-- JRX_SYNC_N[k] takes a level: low asserts it (R97). -/
def Block.jrxSync (b : Block) (k : Nat) (level : Bool) : Block := b.send (.pin "JRX_SYNC_N" k level 0)

/-- A link begins its start sequence at step 1 (R96). A receive link asserts JRX_SYNC_N in JESD204B and holds it deasserted in
JESD204C (R97). -/
def Block.linkBegin (b : Block) (blk k : Nat) : Block :=
  let x := b.lnk blk k
  let b := (b.clearStatus blk k true).setLnk blk k { x with step := 1, started := b.clock }
  if blk = bJRX then b.jrxSync k (!b.lkIsB bJRX k) else b

/-- ENABLE = 1 performed: the link enters STARTING with its configured release delay (R96, R100). -/
def Block.linkStart (b : Block) (blk k : Nat) : Block :=
  let b := (b.setLife blk k lStarting).setLnk blk k { delay := b.lkRBD blk k }
  (b.linkBegin blk k).setVal (mkKey blk k 0x21) 0

/-- ENABLE = 0 performed at beat B: it releases nothing from boundary B and discards what it holds (R92). -/
def Block.linkStop (b : Block) (blk k : Nat) : Block :=
  let b := (b.setLife blk k lStopping).setLnk blk k {}
  (b.clearStatus blk k true).setVal (mkKey blk k 0x21) 0

/-- CDR lock and sync-header lock on every lane (R96 steps 1 and 2). In JESD204B the engine releases JRX_SYNC_N (R97). -/
def Block.jrxCdrLock (b : Block) (k : Nat) : Block :=
  let x := b.lnk bJRX k
  if x.step = 1 ∨ x.step = 2 then
    let b := (b.pf K.JRX_STATUS k 7 0 (b.allLanes bJRX k)).setLnk bJRX k { x with step := 3 }
    if b.lkIsB bJRX k then b.jrxSync k true else b
  else b

/-- The epoch is taken when the link's output has one (R96 step 4). -/
def Block.takeEpoch (b : Block) (blk k : Nat) : Block :=
  let x := b.lnk blk k
  match x.epoch with
  | some _ => b
  | none => b.setLnk blk k { x with epoch := b.sysrefEpoch (b.lkSel blk k) }

/-- The smallest release delay from `r` up to 15 that gives MARGIN ≥ 0 (R100). -/
def Block.fitDelay (b : Block) (k arrival : Nat) : Nat → Nat → Option Nat
  | 0, _ => none
  | n + 1, r => if 0 ≤ b.marginAt k r arrival then some r else b.fitDelay k arrival n (r + 1)

/-- The lanes whose arrival makes MARGIN negative (R510). -/
def Block.lateLanes (b : Block) (k r : Nat) (arr : List Nat) : Nat :=
  maskOf (b.lkL bJRX k) (fun j => decide (b.marginAt k r (arr.getD j 0) < 0))

/-- Alignment completes with the arrival of each lane, in 1/16 input sample (R95, R96 steps 3 and 4, R100). Before the first
release a negative MARGIN at the configured delay leaves the link STARTING; after it the link takes the smallest larger
delay that fits, and repeats steps 1 to 5 when none does. The lanes that EV_JRX_DOWN then names are those late at the configured delay
(DESIGN CHOICE, log entry 149: R510 does not say at which delay MARGIN is judged). -/
def Block.jrxAlignDone (b : Block) (k : Nat) (arr : List Nat) : Block :=
  let x := b.lnk bJRX k
  if x.step = 3 then
    let arrival := arr.foldl max 0
    let b := (b.pf K.JRX_STATUS k 8 8 1).pv K.JRX_ARRIVAL k (arrival % 2 ^ 32)
    let r := b.lkRBD bJRX k
    let setM (b : Block) (r : Nat) : Block := b.pv K.JRX_MARGIN k (uns 32 (b.marginAt k r arrival))
    if 0 ≤ b.marginAt k r arrival then
      ((setM b r).setLnk bJRX k { x with step := 4, delay := r, changed := x.changed || x.delay != r }).takeEpoch bJRX k
    else if !x.everReleased then
      ((setM b r).setLnk bJRX k { x with step := 3 }).jrxDown k rAlign (b.lateLanes k r arr)
    else match b.fitDelay k arrival (15 - r) (r + 1) with
      | some r' => ((setM b r').setLnk bJRX k { x with step := 4, delay := r', changed := true }).takeEpoch bJRX k
      | none =>
        (((setM b r).jrxDown k rAlign (b.lateLanes k r arr)).setLnk bJRX k { x with changed := true }).linkBegin bJRX k
  else b

/-- The payload of EV_JRX_UP. -/
def Block.jrxUpPayload (b : Block) (k : Nat) : List Byte :=
  beBytes 4 (b.val (ki K.JRX_LATENCY k)) ++ beBytes 4 (uns 32 (b.skewOf k)) ++ beBytes 4 (b.val (ki K.JRX_MARGIN k))

/-- The first release (R96 step 5): RELEASED, LATENCY and EV_JRX_UP; FUNC_STATE becomes ON at the next boundary. -/
def Block.jrxRelease (b : Block) (k : Nat) : Block :=
  let b := if (b.lnk bJRX k).step = 4 then b.takeEpoch bJRX k else b
  let x := b.lnk bJRX k
  if x.step = 4 ∧ x.epoch.isSome ∧ !x.everReleased then
    let b := (b.pf K.JRX_STATUS k 9 9 1).pv K.JRX_LATENCY k (b.latencyAt k x.delay % 2 ^ 32)
    let b := b.setLnk bJRX k { x with step := 0, everReleased := true, changed := false, shift := 0 }
    b.raise (704 + 4 * k) (b.jrxUpPayload k)
  else b

/-- Ten milliseconds in core cycles (R96). -/
def tenMs : Nat := 16000000

/-- Steps 1 to 4 are not complete 10 ms after they began (R96): EV_JRX_DOWN ALIGN names the lanes that had not completed the
step, and the sequence starts again. -/
def Block.jrxTimeout (b : Block) (k mask : Nat) : Block :=
  let x := b.lnk bJRX k
  if x.step ≠ 0 ∧ ¬(x.step = 4 ∧ x.epoch.isSome) ∧ x.started + tenMs ≤ b.clock then
    (b.jrxDown k rAlign (mask % 2 ^ b.lkL bJRX k)).linkBegin bJRX k
  else b

/-- Whether a receive link reports errors: STOPPING and OFF links report none (R101). -/
def Block.linkLive (b : Block) (k : Nat) : Bool := b.life bJRX k == lStarting || b.life bJRX k == lOn

/-- An error that loses samples (R99 to R101, R509): it is counted; before the first release it only sends the sequence back;
after it the link reports the loss and repeats its steps from `back` without leaving ON, its 10 ms from the error on (DESIGN CHOICE,
log entry 150: R96 counts them from the performance beat). -/
def Block.jrxLoss (b : Block) (k counter reason mask back : Nat) : Block :=
  if b.linkLive k then
    let b := b.inc counter k 1
    let x := b.lnk bJRX k
    let b := if x.everReleased then b.jrxDown k reason (mask % 2 ^ b.lkL bJRX k) else b
    let b := b.clearStatus bJRX k (decide (back < 3))
    let b := if b.lkIsB bJRX k then b.jrxSync k false else b
    b.setLnk bJRX k { x with step := back, lost := if x.everReleased then some (x.lost.getD reason) else none,
                             started := if x.everReleased then b.clock else x.started }
  else b

/-- The multiblock whose CRC-12 has just been compared: the one before that which has most recently arrived whole on the latest lane,
since the CRC travels in the next one (R99). Its first sample, counted from the epoch (DEDUCED, log entry 153). -/
def Block.crcBlock (b : Block) (k : Nat) : Int :=
  let mb := b.mbSamples bJRX k
  ((16 * b.takenSince k - b.val (ki K.JRX_ARRIVAL k)).fdiv ((16 * mb : Nat) : Int) - 2) * mb

/-- The samples of one multiblock become a gap (R99). Runs that have passed the release are forgotten. -/
def Block.jrxDrop (b : Block) (k n : Nat) : Block :=
  let x := b.lnk bJRX k
  let past := b.takenSince k - (b.latencyAt k x.delay + 2 * b.embSamples bJRX k : Nat)
  (b.setLnk bJRX k { x with drops := x.drops.filter (fun d => decide (past < d.1 + d.2)) ++ [(b.crcBlock k, n)] }).incSat
    K.JRX_GAP_SAMPLES k n

/-- A CRC-12 mismatch (R99): counted and reported; under DROP its multiblock becomes a gap, unless it lies in a stretch that is lost
already (R101). -/
def Block.jrxCrc (b : Block) (k mask : Nat) : Block :=
  if b.linkLive k then
    let b := b.inc K.JRX_CRC_ERR k 1
    if (b.lnk bJRX k).everReleased then
      let n := if b.lkDrop bJRX k && (b.lnk bJRX k).lost.isNone then b.mbSamples bJRX k else 0
      let b := if n = 0 then b else b.jrxDrop k n
      b.raise (706 + 4 * k) (beBytes 1 (mask % 2 ^ b.lkL bJRX k) ++ beBytes 4 n)
    else b
  else b

/-- A JESD204B disparity or not-in-table error (R99): counted and reported; no samples are lost. -/
def Block.jrxChar (b : Block) (k mask : Nat) : Block :=
  if b.linkLive k then
    let b := b.inc K.JRX_CRC_ERR k 1
    if (b.lnk bJRX k).everReleased then b.raise (706 + 4 * k) (beBytes 1 (mask % 2 ^ b.lkL bJRX k) ++ beBytes 4 0) else b
  else b

/-- The link releases again after an error, `lost` input samples later (R100): at the same LATENCY the gap covers exactly the
lost samples; at another, or under a moved epoch, EV_JRX_LATENCY reports the change. Answers the block and whether the
lanes it feeds go through an input link change. -/
def Block.jrxReRelease (b : Block) (k lost : Nat) : Block × Bool :=
  let b := if (b.lnk bJRX k).step = 4 then b.takeEpoch bJRX k else b
  let x := b.lnk bJRX k
  if x.step = 4 ∧ x.epoch.isSome ∧ x.everReleased then
    let old := b.val (ki K.JRX_LATENCY k)
    let b := (b.pf K.JRX_STATUS k 9 9 1).pv K.JRX_LATENCY k (b.latencyAt k x.delay % 2 ^ 32)
    let b := b.incSat K.JRX_GAP_SAMPLES k lost
    let new := b.val (ki K.JRX_LATENCY k)
    let moved := x.changed || old != new
    let b := if moved then b.raise (707 + 4 * k) (beBytes 4 old ++ beBytes 4 new ++ beBytes 4 (uns 32 x.shift)) else b
    let b := b.setLnk bJRX k { x with step := 0, lost := none, changed := false, shift := 0 }
    (b.raise (704 + 4 * k) (b.jrxUpPayload k), moved)
  else (b, false)

/-- A link takes a new epoch that disagrees with its running one (R100, R102): a receive link that has released discards what it holds,
and repeats steps 3 to 5 without leaving ON, or goes on with the earlier steps that it is repeating. -/
def Block.epochMove (b : Block) (blk k : Nat) (old new : Int) : Block :=
  let x := b.lnk blk k
  if blk = bJRX ∧ x.everReleased then
    let shift := if x.lost.isNone then b.epochShift k old new
                 else if b.embSamples bJRX k = 0 then 0 else (x.shift + b.epochShift k old new) % (b.embSamples bJRX k : Int)
    (b.clearStatus bJRX k false).setLnk bJRX k
      { x with epoch := some new, step := if x.step = 1 ∨ x.step = 2 then x.step else 3, lost := some (x.lost.getD rAlign),
               changed := true, shift := shift, drops := [] }
  else b.setLnk blk k { x with epoch := some new }

/-- A SYSREF pulse that disagrees with the running epoch of a receive link (R94, R96, R100); one that agrees changes nothing. -/
def Block.jrxEpochMove (b : Block) (k : Nat) : Block :=
  match (b.lnk bJRX k).epoch, b.sysrefEpoch (b.lkSel bJRX k) with
  | some old, some new => if b.linkLive k && !b.epochsAgree bJRX k old new then b.epochMove bJRX k old new else b
  | _, _ => b

/-- SYSREF_OUT[j] issues an edge at the present beat boundary (R94, R401). -/
def Block.sysrefEdge (b : Block) (j : Nat) : Bool := b.sysrefMode j == 1 || tfind b.shot j == some (b.beat : Int)

/-- The local extended-multiblock counter of a link restarts at this boundary when its SYSREF output issues an edge there: the boundary
is the link's epoch (R94, R102). -/
def Block.linkEdge (b : Block) (blk k : Nat) : Block :=
  let x := b.lnk blk k
  match x.epoch with
  | some old =>
    if (b.life blk k == lStarting || b.life blk k == lOn) && b.sysrefEdge (b.lkSel blk k) then
      let new : Int := b.beat
      if b.epochsAgree blk k old new then
        b.setLnk blk k { x with epoch := some new, drops := x.drops.map (fun d => (d.1 - (b.sinceEpoch blk k new), d.2)) }
      else b.epochMove blk k old new
    else b
  | none => b

/-- The SYSREF edges of a beat boundary: each output records its edge, and the links that it feeds restart their counters (R94, R401). -/
def Block.sysrefEdges (b : Block) : Block :=
  let b := (List.range 8).foldl (fun b j => if b.sysrefMode j = 1 then
    { b.pv K.TIM_LAST_SHOT (0x10 + j) b.beat with shot := tset b.shot j b.beat } else b) b
  let b := b.jrx.foldl (fun b e => b.linkEdge bJRX e.1) b
  b.jtx.foldl (fun b e => b.linkEdge bJTX e.1) b

/-- A step renumbers the beats by `d`; the epochs keep their instants (R397). -/
def Block.epochsStep (b : Block) (d : Int) : Block :=
  let move (t : Tab Link) : Tab Link := t.map (fun e => (e.1, { e.2 with epoch := e.2.epoch.map (· + d) }))
  { b with jrx := move b.jrx, jtx := move b.jtx, shot := b.shot.map (fun e => (e.1, e.2 + d)) }

/-- The measured rate error in 0.001 ppm (R90): beyond 20 ppm it is reported, and the link runs on. -/
def Block.jrxRate (b : Block) (k : Nat) (ppm : Int) : Block :=
  if b.linkLive k then
    let b := b.pv K.JRX_RATE_PPM k (uns 32 ppm)
    if decide (20000 < ppm.natAbs) && (b.lnk bJRX k).everReleased then b.jrxDown k rRate (b.allLanes bJRX k) else b
  else b

/-- A transmit link completes its start (R102). -/
def Block.jtxUp (b : Block) (t : Nat) : Block :=
  let b := b.takeEpoch bJTX t
  let x := b.lnk bJTX t
  if x.step ≠ 0 ∧ x.epoch.isSome ∧ b.life bJTX t = lStarting then
    let lat := (Config.jtxLatency t).toNat
    let b := b.setVal (mkKey bJTX t 0x20) (b.allLanes bJTX t + 2 ^ 8 + 2 ^ 9)
    let b := b.setVal (mkKey bJTX t 0x21) lat
    (b.setLnk bJTX t { x with step := 0, everReleased := true }).raise (768 + 2 * t) (beBytes 4 lat)
  else b

/-- Loss of JTX_SYNC_N (R102): a JESD204B transmit link sends code groups until it resynchronises; JESD204C ignores the
pin (R97). -/
def Block.jtxSyncLoss (b : Block) (t : Nat) : Block :=
  let x := b.lnk bJTX t
  if b.lkIsB bJTX t && x.everReleased && b.isOn bJTX t && !x.resync then
    let key := mkKey bJTX t 0x20
    ((b.setVal key (setBits (b.val key) 9 9 0)).setLnk bJTX t { x with resync := true }).raise (769 + 2 * t) (beBytes 1 rHeader)
  else b

/-- The DAC resynchronises and the link sends stimulus samples again (R102); no event reports it (DESIGN CHOICE, log entry 151: the
rule names none). -/
def Block.jtxResync (b : Block) (t : Nat) : Block :=
  let x := b.lnk bJTX t
  if x.resync then
    let key := mkKey bJTX t 0x20
    (b.setVal key (setBits (b.val key) 9 9 1)).setLnk bJTX t { x with resync := false }
  else b

/-- What a beat boundary does to a link: one that has released is ON, one that was stopped is OFF (R92, R96). -/
def Block.linkBoundary (b : Block) (blk k : Nat) : Block :=
  if b.life blk k = lStopping then b.setLife blk k lOff
  else if b.life blk k = lStarting ∧ (b.lnk blk k).everReleased then b.setLife blk k lOn
  else b

/-! ## SPI masters (R103) -/

/-- Whether port `j` is busy. -/
def Block.spiBusy (b : Block) (j : Nat) : Bool := b.f K.JRX_SPI_STAT (0x40 + j) 0 0 == 1

/-- A transaction starts (R103): LEN bits of TX go out, most significant first, at the mode and divider of SPI_CFG; in three-wire mode
the engine drives SPI_SDIO for the first TURN of them, and then reads on it. -/
def Block.spiStart (b : Block) (j len cs tx : Nat) (core : Option Nat) : Block :=
  let b := (b.pf K.JRX_SPI_STAT (0x40 + j) 0 0 1)
  let cfg (hi lo : Nat) : Nat := b.f K.JRX_SPI_CFG (0x40 + j) hi lo
  let driven := if cfg 10 10 = 1 then min (cfg 16 11) len else len
  { b with spi := tset b.spi j ⟨len, cs, core⟩ }.send (.spi j cs (cfg 9 8) (cfg 7 0) len driven (tx / 2 ^ (64 - driven)))

/-- SPI_GO performed: bit 7 starts the transaction that the other fields describe. -/
def Block.spiGo (b : Block) (j v : Nat) : Block :=
  if bit v 7 then b.spiStart j (bits v 5 0 + 1) (bits v 6 6) (b.val (ki K.JRX_SPI_TX (0x40 + j))) none else b

/-- A transaction completes with the bits received: RX, BUSY and EV_SPI_DONE. -/
def Block.spiDone (b : Block) (j rx : Nat) : Block :=
  if b.spiBusy j then
    let x := tget {} b.spi j
    let v := rx % 2 ^ x.len
    let b := (b.pf K.JRX_SPI_STAT (0x40 + j) 0 0 0).pv K.JRX_SPI_RX (0x40 + j) v
    let b := match x.core with
      | some c => let y := b.core c; b.setCore c { y with spi := y.spi.erase j, cw := tset (tset y.cw 0x37 (v % 2 ^ 48)) 0x38 (v / 2 ^ 48) }
      | none => b
    b.raise (776 + j / 2) (beBytes 1 j ++ beBytes 1 x.len ++ beBytes 8 v)
  else b

end Sys2Proof.Machine
end

