-- ==== Sys2Proof/Machine/Trig.lean ====
section
/-! DEFINITION. Fixed-point sine, cosine and logarithms: the exact real values that the transform and the mixer approximate,
computed with integers to far below the last place of any stored result. -/
namespace Sys2Proof.Machine

/-- The scale of the fixed-point values here: 2^64 stands for 1. -/
def fxOne : Nat := 2 ^ 64

/-- 2π at the scale 2^64, rounded down. -/
def fxTwoPi : Nat := 115904311329233965478

/-- `x - x³/3! + …` by Horner's rule over `n` terms, at the scale 2^64; `x2` is x². -/
def fxSeries (x2 : Nat) : Nat → Nat → Int → Int
  | 0, _, acc => acc
  | n + 1, k, acc => fxSeries x2 n (k - 2) ((fxOne : Int) - acc * x2 / (fxOne * (k * (k - 1)) : Nat))

/-- Sine of an angle at the scale 2^64, for 0 ≤ x ≤ π/4. -/
def fxSinSmall (x : Nat) : Int := (fxSeries (x * x / fxOne) 11 23 fxOne) * x / (fxOne : Nat)
/-- Cosine of an angle at the scale 2^64, for 0 ≤ x ≤ π/4. -/
def fxCosSmall (x : Nat) : Int := fxSeries (x * x / fxOne) 11 22 fxOne

/-- Sine of `num / den` of a turn, for 0 ≤ num / den ≤ 1/4. -/
def fxSinQuarter (num den : Nat) : Int :=
  if 8 * num ≤ den then fxSinSmall (num * fxTwoPi / den) else fxCosSmall ((den - 4 * num) * fxTwoPi / (4 * den))

/-- Sine of `num / den` of a turn, at the scale 2^64. -/
def fxSin (num den : Nat) : Int :=
  let n := num % den
  if 4 * n ≤ den then fxSinQuarter n den
  else if 2 * n ≤ den then fxSinQuarter (den - 2 * n) (2 * den)
  else if 4 * n ≤ 3 * den then -fxSinQuarter (2 * n - den) (2 * den)
  else -fxSinQuarter (den - n) den

/-- Cosine of `num / den` of a turn, at the scale 2^64. -/
def fxCos (num den : Nat) : Int := fxSin (4 * num + den) (4 * den)

/-- The fraction bits of log2 by repeated squaring: `m` at the scale 2^64 lies in [1, 2). -/
def fxLog2Frac : Nat → Nat → Nat → Nat
  | 0, _, acc => acc
  | n + 1, m, acc =>
    let m2 := m * m / fxOne
    if 2 * fxOne ≤ m2 then fxLog2Frac n (m2 / 2) (2 * acc + 1) else fxLog2Frac n m2 (2 * acc)

/-- log2 of a positive number, at the scale 2^40, rounded down. -/
def fxLog2 (v : Nat) : Nat :=
  let e := v.log2
  e * 2 ^ 40 + fxLog2Frac 40 (v * fxOne / 2 ^ e) 0

end Sys2Proof.Machine
end

