-- ==== Sys2Proof/Machine/Lanes.lean ====
section
/-! DEFINITION. Analysis lanes (R105 to R133, R505): rates and positions, the stages, settling, bank swaps, starts and stops,
gaps and detectors. Positions in interval arithmetic count half input positions, so that the two real samples of one
position have places of their own. -/
namespace Sys2Proof.Machine

def bLANE : Nat := 0x05

def Block.lane (b : Block) (i : Nat) : Lane := tget {} b.lanes i
def Block.setLane (b : Block) (i : Nat) (x : Lane) : Block := { b with lanes := tset b.lanes i x }

/-! ## Settings -/

def Block.lnSource (b : Block) (i : Nat) : Nat := b.val (ki K.LANE_SOURCE i)
/-- The slots of a lane of kind 0, 1 or 2 (R19). -/
def slotsOfKind (k : Nat) : Nat := if k = 0 then 1 else if k = 1 then 2 else 4
def Block.lnSlots (b : Block) (i : Nat) : Nat := slotsOfKind (b.f K.LANE_CFG i 1 0)
/-- CFG.LOCK. -/
def Block.lnGroup (b : Block) (i : Nat) : Nat := b.f K.LANE_CFG i 6 2
def Block.lnCplx (b : Block) (i : Nat) : Bool := b.f K.LANE_SOURCE i 8 8 == 1
def Block.lnReplay (b : Block) (i : Nat) : Bool := b.f K.LANE_SOURCE i 4 4 == 1
def Block.lnLink (b : Block) (i : Nat) : Nat := b.f K.LANE_SOURCE i 3 0
/-- D_cic, 1 when the CIC is bypassed. -/
def Block.lnCic (b : Block) (i : Nat) : Nat := b.f K.LANE_CIC i 14 3 + 1
def Block.lnOrder (b : Block) (i : Nat) : Nat := b.f K.LANE_CIC i 2 0
/-- L of the moving average, and its decimation. -/
def Block.lnLen (b : Block) (i : Nat) : Nat := b.f K.LANE_MA i 9 0 + 1
def Block.lnMaDec (b : Block) (i : Nat) : Nat := if b.f K.LANE_MA i 10 10 = 1 then b.lnLen i else 1
def Block.lnTaps (b : Block) (i : Nat) : Nat := b.f K.LANE_FIR_CFG i 8 0 + 1
def Block.lnFirByp (b : Block) (i : Nat) : Bool := b.f K.LANE_FIR_CFG i 17 17 == 1
/-- D_fir, 1 when the FIR is bypassed. -/
def Block.lnFirDec (b : Block) (i : Nat) : Nat := if b.lnFirByp i then 1 else b.f K.LANE_FIR_CFG i 12 9 + 1
def Block.lnRatio (b : Block) (i : Nat) : Nat := b.val (ki K.LANE_RESAMP i)

/-- G of the CIC: the ceiling of N × log2 D (R106). -/
def cicGrowth (n d : Nat) : Nat := if d ≤ 1 then 0 else log2 (d ^ n - 1) + 1

/-- d_pre and step_q (R105). -/
def Block.lnDpre (b : Block) (i : Nat) : Nat := b.lnCic i * b.lnMaDec i * b.lnFirDec i
def Block.lnStepQ (b : Block) (i : Nat) : Nat :=
  if (b.importOf i).isSome then b.val (ki K.LANE_STEP_Q i) else b.lnDpre i * (2 ^ 32 + b.lnRatio i)

/-- f_conv of a lane's source in Sa/s, as a fraction: its link's, or its replay source's (R93, R225). -/
def Block.lnFconv (b : Block) (i : Nat) : Nat × Nat :=
  if b.lnReplay i then (b.f K.CAP_RPL_RATE (0x20 + b.lnLink i) 31 0 * 1600000000, 2 ^ 28) else b.fConv bJRX (b.lnLink i)

/-- f_in (R105); an imported lane has its exporter's (R458). -/
def Block.lnFin (b : Block) (i : Nat) : Nat × Nat :=
  if (b.importOf i).isSome then ((b.lane i).finN, (b.lane i).finD)
  else let (n, d) := b.lnFconv i; if b.lnCplx i then (n, d) else (n, 2 * d)

/-- f_s (R105). -/
def Block.lnFs (b : Block) (i : Nat) : Nat × Nat :=
  let (n, d) := b.lnFin i; (n * 2 ^ 32, d * b.lnStepQ i)

/-- Two rates are equal. -/
def sameRate (x y : Nat × Nat) : Bool := x.1 * y.2 == y.1 * x.2
/-- A rate lies at or below `n` Sa/s. -/
def rateLe (x : Nat × Nat) (n : Nat) : Bool := decide (x.1 ≤ n * x.2)

/-- c of R25: f_s over f_core, rounded up, in units of 1/16. -/
def Block.lnCost (b : Block) (i : Nat) : Nat := let (n, d) := b.lnFs i; ceilDiv (n * 16) (d * 1600000000)

/-- The slots a lane occupies (R20). -/
def Block.lnSlotMask (b : Block) (i : Nat) : Nat := (2 ^ b.lnSlots i - 1) * 2 ^ i

/-- A lane stage that is not bypassed: its number, its response (R109) and its decimation, the grid before stage 3 of a real
lane counting half positions. -/
structure ActiveStage where
  stage : Nat
  resp : Nat
  dec : Nat
deriving DecidableEq, Repr

/-- The stages that are not bypassed, in order (R105, R109). -/
def Block.lnChain (b : Block) (i : Nat) : List ActiveStage :=
  let c := b.val (ki K.LANE_CORR_CTRL i)
  let on (p : Bool) (x : ActiveStage) : List ActiveStage := if p then [x] else []
  on (!bit c 0 && b.f K.LANE_SOURCE i 10 9 != 0) ⟨1, 3, 1⟩ ++
  on (!bit c 1) ⟨2, 1, 1⟩ ++
  on (!b.lnCplx i) ⟨3, 63, 2⟩ ++
  on (!bit c 2 && b.lnCplx i) ⟨4, 1, 1⟩ ++
  on (!bit c 3) ⟨5, 16, 1⟩ ++
  on (b.f K.LANE_NCO_CTRL i 16 16 == 0) ⟨6, 1, 1⟩ ++
  on (decide (1 < b.lnCic i)) ⟨7, b.lnOrder i * (b.lnCic i - 1) + 1, b.lnCic i⟩ ++
  on (decide (1 < b.lnLen i)) ⟨8, b.lnLen i, b.lnMaDec i⟩ ++
  on (!b.lnFirByp i) ⟨9, b.lnTaps i, b.lnFirDec i⟩ ++
  on (b.lnRatio i != 0) ⟨10, 32, 1⟩ ++ [⟨11, 1, 1⟩]

/-! ## Index, position and time (R110 to R112) -/

def Block.lnAnchorIdx (b : Block) (i : Nat) : Nat := b.val (ki K.LANE_ANCHOR_INDEX i)
def Block.lnAnchorIn (b : Block) (i : Nat) : Nat := b.val (ki K.LANE_ANCHOR_INPUT i)
def Block.lnEpoch (b : Block) (i : Nat) : Nat := b.val (ki K.LANE_EPOCH_BEAT i)

/-- STEP_Q in force. -/
def Block.lnStep (b : Block) (i : Nat) : Nat := b.val (ki K.LANE_STEP_Q i)

/-- One stretch of a lane's numbering: an index, its position, and the step from there on (R110, R111). -/
structure Anchor where
  idx : Nat
  input : Nat
  step : Nat
deriving DecidableEq, Repr

/-- p(n) of R110 under one anchor, in units of 2^-32 input positions. -/
def Anchor.p32 (a : Anchor) (n : Int) : Int := (a.input : Int) * (2 ^ 32 : Nat) + (n - a.idx) * a.step

/-- The anchors of a lane, newest first: the present one and those it has replaced. -/
def Block.lnAnchors (b : Block) (i : Nat) : Anchor × List Anchor :=
  (⟨b.lnAnchorIdx i, b.lnAnchorIn i, b.lnStep i⟩, (b.lane i).past.map (fun (n, a, s) => ⟨n, a, s⟩))

/-- The anchor that holds for index `n`. -/
def anchorOf (n : Int) (a : Anchor) : List Anchor → Anchor
  | [] => a
  | c :: t => if (a.idx : Int) ≤ n then a else anchorOf n c t

/-- p(n) in units of 2^-32 input positions. -/
def Block.lnP32 (b : Block) (i : Nat) (n : Int) : Int := (anchorOf n (b.lnAnchors i).1 (b.lnAnchors i).2).p32 n
/-- The step that holds at index `n`. -/
def Block.lnStepAt (b : Block) (i : Nat) (n : Int) : Nat := (anchorOf n (b.lnAnchors i).1 (b.lnAnchors i).2).step

/-- The smallest index whose position satisfies a condition that holds from some position on: `f` counts the steps from an anchor to it. -/
def anchorsFrom (f : Anchor → Int) (a : Anchor) : List Anchor → Int
  | [] => a.idx + f a
  | c :: t => if 0 < f a then a.idx + f a else min (a.idx : Int) (anchorsFrom f c t)

/-- The smallest n with p(n) at or after `p`, in units of 2^-32 input positions. -/
def Block.lnIdxAt (b : Block) (i : Nat) (p : Int) : Int :=
  anchorsFrom (fun a => iceilDiv (p - a.input * (2 ^ 32 : Nat)) a.step) (b.lnAnchors i).1 (b.lnAnchors i).2
/-- The smallest n with p(n) at or after `h` half positions. -/
def Block.lnIdxFrom (b : Block) (i : Nat) (h : Int) : Int := b.lnIdxAt i (h * (2 ^ 31 : Nat))
/-- The smallest n with p(n) after `h` half positions. -/
def Block.lnIdxAfter (b : Block) (i : Nat) (h : Int) : Int := b.lnIdxAt i (h * (2 ^ 31 : Nat) + 1)

/-- m(b) (R112). -/
def Block.lnM (b : Block) (i : Nat) (beat : Nat) : Int :=
  let x := b.lane i
  iceilDiv (((beat : Int) - b.lnEpoch i) * x.finN * 128) (x.finD * 100000000)

/-- first(b) (R112), at least the first index numbered. -/
def Block.lnFirst (b : Block) (i : Nat) (beat : Nat) : Nat := (b.lnIdxFrom i (2 * b.lnM i beat)).toNat

/-- r_B in half positions (R505). -/
def Block.lnRB (b : Block) (i : Nat) (beat : Nat) : Int := 2 * b.lnM i beat - (b.lane i).lat2

/-- o_s (R505), in positions; 64 from stage 7 on. -/
def stageOffset (s : Nat) : Nat := [0, 0, 4, 8, 40, 44, 62].getD s 64

/-- T(n) (R110). -/
def Block.lnTime (b : Block) (i : Nat) (n : Int) : Fysiva :=
  let x := b.lane i
  timeAt (b.lnEpoch i) (rndEven (b.lnP32 i n * x.finD * 1000000000) (x.finN * 65536)) b.quality

/-- The beat in which a lane sample lies (R112): the last whose m(b) is at or before p(n), so the fraction of p(n) plays no part. -/
def Block.lnBeatOf (b : Block) (i n : Nat) : Nat :=
  let x := b.lane i
  let p := (b.lnP32 i n).fdiv ((2 ^ 32 : Nat) : Int)
  if x.finN = 0 then b.beat
  else ((b.lnEpoch i : Int) + (p * x.finD * 100000000).fdiv ((x.finN * 128 : Nat) : Int)).toNat

/-! ## Settling runs (R124, R125) -/

/-- The grid at the input of stage `s`, in half positions. -/
def gridAt (c : List ActiveStage) (cplx : Bool) (s : Nat) : Nat :=
  c.foldl (fun g a => if a.stage < s then g * a.dec else g) (if cplx then 2 else 1)

/-- The lane outputs that `[lo, hi]` at the input of stage `s` reaches, in half positions; the last component says that `hi`
itself is outside. -/
def spread (c : List ActiveStage) (g : Nat) (lo hi : Int) : Int × Int × Bool :=
  match c with
  | [] => (lo, hi, false)
  | a :: t =>
    if a.stage = 10 then (lo - 16 * g, hi + 16 * g, true)
    else
      let gd := g * a.dec
      spread t gd (iceilDiv lo gd * gd) ((hi + ((a.resp - 1) * g : Nat)).fdiv gd * gd)

/-- The lane indices, from and to (exclusive), that `[lo, hi]` at the input of stage `s` reaches. -/
def Block.lnReach (b : Block) (i s : Nat) (lo hi : Int) : Int × Int :=
  let c := b.lnChain i
  let (l, h, ex) := spread (c.filter (fun a => decide (s ≤ a.stage))) (gridAt c (b.lnCplx i) s) lo hi
  (b.lnIdxFrom i l, if ex then b.lnIdxFrom i h else b.lnIdxAfter i h)

/-- A run joins those in progress: it merges with every run that it overlaps or directly follows (R125), and the parameters
show the result. Outputs from before the lane's start or its latest anchor are not reached. -/
def Block.addRun (b : Block) (i : Nat) (r : Int × Int) (cause : Nat) : Block :=
  let x := b.lane i
  let s := max r.1 (max x.startIdx (b.lnAnchorIdx i) : Nat); let e := r.2
  if e ≤ s then b
  else
    let s := s.toNat; let e := e.toNat
    let touch (q : SettleRun) : Bool := decide (s ≤ q.start + q.count) && decide (q.start ≤ e)
    let old := x.runs.filter touch
    let s' := old.foldl (fun a q => min a q.start) s
    let e' := old.foldl (fun a q => max a (q.start + q.count)) e
    let k := old.foldl (fun a q => a ||| q.cause) cause
    let run : SettleRun := ⟨s', e' - s', k⟩
    let b := b.setLane i { x with runs := x.runs.filter (fun q => !touch q) ++ [run] }
    ((b.pv K.LANE_SETTLE_START i s').pv K.LANE_SETTLE_COUNT i ((e' - s') % 2 ^ 32)).pv K.LANE_SETTLE_CAUSE i k

/-- Marks on the first `own` outputs of stage `s` that use what entered stage `entry` at or after boundary `beat`, whose
first position is `rb` half positions there. -/
def Block.markOwn (b : Block) (i : Nat) (rb : Int) (s entry own cause : Nat) : Block :=
  if own = 0 then b
  else
    let c := b.lnChain i
    let g := gridAt c (b.lnCplx i) s
    let pb := iceilDiv (rb - 2 * stageOffset entry) g * g
    if s = 10 then
      let n := b.lnIdxFrom i pb
      b.addRun i (n, n + own) cause
    else
      let gd := g * ((c.find? (fun a => a.stage == s)).elim 1 ActiveStage.dec)
      let o := iceilDiv pb gd * gd
      b.addRun i (b.lnReach i (s + 1) o (o + (own - 1) * gd)) cause

/-- The own marks of a stage from 7 to 10 that has been cleared (R117, R118, R119, R123); none when it is bypassed. -/
def Block.ownMarks (b : Block) (i s : Nat) : Nat :=
  if !(b.lnChain i).any (fun a => a.stage == s) then 0
  else if s = 7 then b.lnOrder i
  else if s = 8 then (if 1 < b.lnMaDec i then 1 else b.lnLen i)
  else if s = 9 then ceilDiv (b.lnTaps i - 1) (b.lnFirDec i)
  else 32

/-- The cause bit of a stage from 7 to 10 (R125). -/
def causeBit (s : Nat) : Nat := 2 ^ (s - 6)

/-- The histories of stage `s` and every later one are cleared. -/
def Lane.clearFrom (x : Lane) (s : Nat) : Lane :=
  let x := if s ≤ 7 then { x with h7 := [] } else x
  let x := if s ≤ 8 then { x with h8 := [] } else x
  let x := if s ≤ 9 then { x with h9 := [] } else x
  { x with h10 := [] }

/-- Stage `s` alone is cleared. -/
def Lane.clearOnly (x : Lane) (s : Nat) : Lane :=
  if s = 7 then { x with h7 := [] } else if s = 8 then { x with h8 := [] } else if s = 9 then { x with h9 := [] }
  else { x with h10 := [] }

/-- Samples without data that fill a pipeline of `n` places before position `p`, newest first. -/
def blanks (p : Int) (n gen : Nat) : List Smp := (List.range n).map (fun (k : Nat) => { pos := p - 1 - (k : Int), gen := gen })

/-- Every stage is cleared: the pipeline of stages 1 to 6 holds 64 positions without data before converter sample `c`, which enters stage 1
next, and the first `fill` samples from it have none (R126). -/
def Block.lnFlush (b : Block) (i : Nat) (c : Int) (fill : Nat) : Block :=
  let x := b.lane i
  let r : Nat := if b.lnCplx i then 1 else 2
  let g := x.gen
  let p := iceilDiv (c - 8 * r) r
  b.setLane i { x.clearFrom 7 with
    h1 := [], h3 := [], h5 := [], pos := c, fill := fill,
    q2 := blanks c (4 * r) g, q3 := blanks (c - 4 * r) (4 * r) g, q4 := blanks p 32 g,
    q5 := blanks (p - 32) 4 g, q6 := blanks (p - 36) 18 g, q7 := blanks (p - 54) 2 g }

/-! ## Parameters that follow from the settings (R132) -/

/-- GROUP_DELAY, in 1/1,024 lane sample. -/
def Block.lnGroupDelay (b : Block) (i : Nat) : Nat :=
  let c := b.lnChain i
  -- twice the delay, in input positions
  let twice := c.foldl (fun (acc : Nat × Nat) a =>
    let (s, g) := acc
    let s := if a.stage = 3 then s + 31 else if a.stage = 5 then s + 15
             else if 7 ≤ a.stage ∧ a.stage ≤ 9 then s + (a.resp - 1) * g else s
    (s, if 7 ≤ a.stage then g * a.dec else g)) (0, 1)
  (rndEven ((twice.1 * 512 * 2 ^ 32 : Nat) : Int) (b.lnStepQ i)).toNat % 2 ^ 32

/-- STEP_Q, F_IN, PIPE_LATENCY and GROUP_DELAY as the settings in force give them. -/
def Block.lnDerived (b : Block) (i : Nat) : Block :=
  let (n, d) := b.lnFin i
  let b := b.pv K.LANE_STEP_Q i (b.lnStepQ i)
  let b := b.pf K.LANE_F_IN i 39 0 (rndEven (n : Int) d).toNat
  let b := b.pf K.LANE_PIPE_LATENCY i 15 0
    (Config.pipeLatency [b.lnSource i, b.val (ki K.LANE_CORR_CTRL i), b.val (ki K.LANE_NCO_CTRL i), b.val (ki K.LANE_CIC i),
      b.val (ki K.LANE_MA i), b.val (ki K.LANE_FIR_CFG i), b.lnRatio i]).toNat
  b.pv K.LANE_GROUP_DELAY i (b.lnGroupDelay i)

/-- L' of R505 in half positions: the link's LATENCY, or the one at which it will first release; 0 for a replay source. -/
def Block.lnLatency (b : Block) (i : Nat) : Nat :=
  let k := b.lnLink i
  let lat :=
    if b.lnReplay i then 0
    else if b.released bJRX k then b.val (ki K.JRX_LATENCY k)
    else b.latencyAt k (if b.isOff bJRX k then b.lkRBD bJRX k else (b.lnk bJRX k).delay)
  if b.lnCplx i then 2 * lat else lat

/-- The lane takes its source's rate and release latency (R105, R505). -/
def Block.lnTakeSource (b : Block) (i : Nat) : Block :=
  let (n, d) := b.lnFin i
  b.setLane i { b.lane i with finN := n, finD := d, lat2 := b.lnLatency i, rplPos := none }

/-- Link `k` has released: the lanes that it feeds number their positions under its LATENCY (R505). -/
def Block.lanesLatency (b : Block) (k : Nat) : Block :=
  (b.lanesOfLink k).foldl (fun b i => if (b.lane i).running then b.setLane i { b.lane i with lat2 := b.lnLatency i } else b) b

/-! ## Changes at a boundary (R111, R113 to R119, R123 to R126) -/

/-- The stretch without data, then every clearing stage's own marks (R126). -/
def Block.restartRun (b : Block) (i : Nat) (beat : Nat) (lat2 : Nat) (cause : Nat) : Block :=
  let m := 2 * b.lnM i beat
  let last := m - (if b.lnCplx i then 2 else 1)
  let b := b.addRun i (b.lnReach i 1 (m - lat2 - 128) last) cause
  [7, 8, 9, 10].foldl (fun b s => b.markOwn i (m - lat2) s s (b.ownMarks i s) cause) b

/-- The first converter sample released at or after the present boundary, and how many precede the first of the boundary's own beat
(R505), for a release latency of `lat2` half positions. -/
def Block.lnReleasedFrom (b : Block) (i lat2 : Nat) : Int × Nat :=
  if b.lnCplx i then (b.lnM i b.beat - (lat2 / 2 : Nat), lat2 / 2) else (2 * b.lnM i b.beat - lat2, lat2)

/-- An input link change at the present boundary (R126); `old` is the SOURCE value before, and `cause` the bits of the changes that
coincide with it. -/
def Block.linkChange (b : Block) (i old cause : Nat) : Block :=
  let lat2 := (b.lane i).lat2
  let m := b.lnM i b.beat
  let b := b.lnTakeSource i
  let (c, n) := b.lnReleasedFrom i lat2
  let b := (b.lnFlush i c n).restartRun i b.beat lat2 (cause ||| 0x20)
  let b := b.lnDerived i
  b.raise (8 * i + 4) (beBytes 2 old ++ beBytes 2 (b.lnSource i) ++ beBytes 8 (uns 64 m))

/-- The factors that fix a lane's positions: D_cic, the moving average's decimation, D_fir and RATIO. -/
def Block.lnFactors (b : Block) (i : Nat) : List Nat := [b.lnCic i, b.lnMaDec i, b.lnFirDec i, b.lnRatio i]

/-- How many outputs have passed from anchor `a` on, of a lane whose factors were `fs`, when the next input of its last decimating stage is
the first at or after `h` half positions (R110, R122). -/
def outputsBefore (fs : List Nat) (a : Anchor) (h : Int) : Nat :=
  let ratio := fs.getD 3 0
  let u := iceilDiv (h - 2 * a.input) (2 * (fs.getD 0 1 * fs.getD 1 1 * fs.getD 2 1))
  (if ratio = 0 then u else iceilDiv ((u - 16) * (2 ^ 32 : Nat)) (2 ^ 32 + ratio)).toNat

/-- The lane takes a new anchor; the one before it goes on to number the outputs before (R111). -/
def Block.setAnchor (b : Block) (i idx input : Nat) : Block :=
  let x := b.lane i
  let past := if b.lnAnchorIdx i < idx then (b.lnAnchorIdx i, b.lnAnchorIn i, b.lnStep i) :: x.past else x.past
  ((b.setLane i { x with past := past }).pv K.LANE_ANCHOR_INDEX i idx).pv K.LANE_ANCHOR_INPUT i input

/-- The lane is re-anchored by a change of stage `s` (R111): the next output after those of the old factors has the first position of the
new ones at or after p_B. -/
def Block.reanchor (b : Block) (i s : Nat) : Block :=
  let g := gridAt (b.lnChain i) (b.lnCplx i) s
  let pb := iceilDiv (b.lnRB i b.beat - 2 * stageOffset s) g * g
  let d := b.lnDpre i
  let done := outputsBefore (b.lane i).factors (b.lnAnchors i).1 pb
  let b := b.setAnchor i (b.lnAnchorIdx i + done) (iceilDiv pb (2 * d) * d).toNat
  b.setLane i { b.lane i with rateSeq := ((b.lane i).rateSeq + 1) % 65536, factors := b.lnFactors i }

/-- The first stage whose factor differs from the one in force (R111, R124). -/
def Block.lnMoved (b : Block) (i : Nat) : Option Nat :=
  ([7, 8, 9, 10].zip ((b.lane i).factors.zip (b.lnFactors i))).findSome? (fun (s, x, y) => if x = y then none else some s)

/-- What the changes performed at this boundary do to a lane that runs, all together (R111, R116, R124 to R126): a changed factor re-anchors
it and clears the later stages, correction updates and cleared stages make their marks, and an input link change clears everything. -/
def Block.lnApply (b : Block) (i : Nat) : Block :=
  let x := b.lane i
  let chg := [(7, x.chg7), (8, x.chg8), (9, x.chg9), (10, x.chg10)]
  let b := b.setLane i { x with chgCorr := 0, chgMix := false, chg7 := false, chg8 := false, chg9 := false, chg10 := false,
                                oldSource := none, gen := if x.chgMix then x.gen + 1 else x.gen }
  if !x.running then b
  else
    let rb := b.lnRB i b.beat
    let moved := b.lnMoved i
    let b := match moved with | some s => b.reanchor i s | none => b
    let b := b.lnDerived i
    match x.oldSource with
    | some old =>
      b.linkChange i old ((chg.filter (·.2)).foldl (fun a c => a ||| causeBit c.1) (if x.chgCorr = 0 then 0 else 1))
    | none =>
      let b := [1, 2, 4, 5].foldl (fun b s => if bit x.chgCorr s then b.markOwn i rb 5 s 16 1 else b) b
      chg.foldl (fun b (s, c) =>
        if c || moved.any (fun z => decide (z < s)) then
          (b.setLane i ((b.lane i).clearOnly s)).markOwn i rb s s (b.ownMarks i s) (causeBit (if c then s else moved.getD s))
        else b) b

/-- A write to a parameter of a lane has been performed: what it changes is noted until the boundary's writes are all in
force. -/
def Block.lnWrote (b : Block) (i item old new : Nat) : Block :=
  let x := b.lane i
  let d := old ^^^ new
  if item = 0x0008 then (if d = 0 ∨ !x.running then b else b.setLane i { x with oldSource := some old })
  else if item = 0x0011 then
    b.setLane i { x with chgCorr := x.chgCorr ||| ((bits d 1 0 + bits d 3 2 * 8) * 2) }
  else if item = 0x0012 ∨ item = 0x0013 then (if d = 0 then b else b.setLane i { x with chgMix := true })
  else if item = 0x0014 then (if bit new 0 then b.setLane i { x with chgMix := true, sync := true } else b)
  else if item = 0x0015 then (if d % 2 ^ 15 = 0 then b else b.setLane i { x with chg7 := true })
  else if item = 0x0016 then (if d = 0 then b else b.setLane i { x with chg8 := true })
  else if item = 0x0017 then (if d % 2 ^ 13 = 0 ∧ !bit d 17 then b else b.setLane i { x with chg9 := true })
  else if item = 0x001B then (if d = 0 then b else b.setLane i { x with chg10 := true })
  else if item = 0x001D then (if d = 0 then b else b.setLane i { x with rms := [] })
  else b

/-! ## Start and stop (R127) -/

/-- The members of a lane's lock group that number samples, other than the lane. -/
def Block.groupMembers (b : Block) (i : Nat) : List Nat :=
  if b.lnGroup i = 0 then []
  else which 32 (fun j => j != i && b.lnGroup j == b.lnGroup i && (b.lane j).running &&
    (b.life bLANE j == lStarting || b.life bLANE j == lOn))

/-- Whether a lane's source is released: its link's STATUS, or a replay source that is ON (R126, R225). -/
def Block.lnReleased (b : Block) (i : Nat) : Bool :=
  if b.lnReplay i then b.isOn 0x08 (0x20 + b.lnLink i) else b.released bJRX (b.lnLink i)

/-- The lane begins to number samples at epoch `e`; the present boundary is its start (R127). -/
def Block.lnBegin (b : Block) (i e : Nat) : Block :=
  let mate := (b.groupMembers i).head?
  let b := b.setLane i { running := true, sync := true }
  let b := b.lnTakeSource i
  let b := b.pv K.LANE_EPOCH_BEAT i e
  let b := match mate with
    | some j => ((b.pv K.LANE_ANCHOR_INDEX i (b.lnAnchorIdx j)).pv K.LANE_ANCHOR_INPUT i (b.lnAnchorIn j)).setLane i
        { b.lane i with rateSeq := (b.lane j).rateSeq, past := (b.lane j).past, factors := b.lnFactors i }
    | none => ((b.pv K.LANE_ANCHOR_INDEX i 0).pv K.LANE_ANCHOR_INPUT i 0).setLane i { b.lane i with factors := b.lnFactors i }
  let b := b.lnDerived i
  let b := b.pf K.LANE_FIR_STATE i 3 0 0
  let n0 := b.lnFirst i b.beat
  let b := b.setLane i { b.lane i with startIdx := n0, next := n0 }
  let (c, n) := b.lnReleasedFrom i (b.lane i).lat2
  let b := b.lnFlush i c n
  let b := b.restartRun i b.beat (b.lane i).lat2 0x40
  let x := b.lane i
  b.setLane i { x with startEnd := x.runs.foldl (fun a r => max a (r.start + r.count)) x.startIdx }

/-- The epoch of a lane's lock group: the EPOCH that fixes it, else the members' in this engine, else the group's, else this beat
(R127, R130, R460). -/
def Block.groupEpoch (b : Block) (i : Nat) : Option Nat :=
  let fixed := if b.lnGroup i = 0 then 0 else b.val (ki K.PLT_EPOCH (0x40 + b.lnGroup i))
  if fixed ≠ 0 then some fixed
  else match (b.groupMembers i).head? with
  | some j => some (b.lnEpoch j)
  | none => if b.lnGroup i = 0 then none else tget none b.groupEpochs (b.lnGroup i)

/-- ENABLE = 1 performed at the present beat (R127). A lane of no group whose source is not released waits for it. -/
def Block.laneStart (b : Block) (i : Nat) : Block :=
  let b := b.setLife bLANE i lStarting
  if b.lnGroup i = 0 ∧ !b.lnReleased i then b.setLane i { waitRelease := true }
  else
    let e := (b.groupEpoch i).getD b.beat
    let b := if b.lnGroup i = 0 then b else { b with groupEpochs := tset b.groupEpochs (b.lnGroup i) (some e) }
    b.lnBegin i e

/-- The first beat boundary after its source's release is a waiting lane's epoch (R127 step 3). -/
def Block.laneReleaseStart (b : Block) (i : Nat) : Block :=
  if (b.lane i).waitRelease && b.lnReleased i then b.lnBegin i b.beat else b

/-- The group epoch ends when no member of the group is STARTING or ON (R130). -/
def Block.groupEnd (b : Block) (g : Nat) : Block :=
  if g = 0 ∨ (List.range 32).any (fun j => b.lnGroup j == g && (b.life bLANE j == lStarting || b.life bLANE j == lOn)) then b
  else { b with groupEpochs := tdel b.groupEpochs g }

/-- ENABLE = 0 performed at the present beat (R127): the samples in flight still complete. -/
def Block.laneStop (b : Block) (i : Nat) : Block :=
  let b := (b.setLife bLANE i lStopping).groupEnd (b.lnGroup i)
  if (b.lane i).waitRelease then b.setLane i {} else b

/-- Whether the start run has left the lane (R127 step 5). -/
def Lane.startDone (x : Lane) : Bool := x.running && decide (x.startEnd ≤ x.next)

/-! ## The stages (R105 to R107, R115 to R123) -/

/-- A sample joins a history of `r` samples. -/
def histPush (r : Nat) (h : List Smp) (x : Smp) : List Smp := (x :: h).take r

/-- An output of a stage: missing if any input of its response is, else carrying O if any does or the stage clamps (R109). -/
def stageOut (h : List Smp) (pos : Int) (i q : Int) (clamp : Bool) : Smp × Bool :=
  let miss := h.reverse.findSome? (·.miss)
  let gen := h.foldl (fun a s => max a s.gen) 0
  match miss with
  | some c => ({ pos := pos, miss := some c, gen := gen }, false)
  | none => ({ pos := pos, i := i, q := q, ovr := clamp || h.any (·.ovr), gen := gen }, clamp)

/-- A component rounded convergently from `d` units, clamped to 24 bits, and whether it clamped. -/
def round24 (v : Int) (d : Nat) : Int × Bool :=
  let r := rndEven v d; let c := satS 24 r; (c, c != r)

/-- An output from two exact components in units of 1/d. -/
def out24 (h : List Smp) (pos : Int) (i q : Int) (d : Nat) : Smp × Bool :=
  let (ci, fi) := round24 i d; let (cq, fq) := round24 q d
  stageOut h pos ci cq (fi || fq)

/-- A stage that clamped sets its bit in SAT_MASK and among the beat's bits (R106, R133). -/
def Block.clamped (b : Block) (i s : Nat) (c : Bool) : Block :=
  if c then
    let b := b.pv K.LANE_SAT_MASK i (b.val (ki K.LANE_SAT_MASK i) ||| 2 ^ (s - 1))
    b.setLane i { b.lane i with satBeat := (b.lane i).satBeat ||| 2 ^ (s - 1) }
  else b

/-- A field of CAL[i] as a signed number. -/
def Block.calS (b : Block) (k i hi lo : Nat) : Int := sgn (hi + 1 - lo) (b.f k i hi lo)

/-- Stage 1 on sample h[1], with its neighbours (R427): x1 = (x - o) g, x2 = x1 - s (x1[n+1] - x1[n-1]) / 2. -/
def Block.ilValue (b : Block) (i : Nat) (h : List Smp) (c : Smp → Int) : Int :=
  let x1 (s : Smp) : Int := (c s - b.calS (K.CAL_IL_NOW + s.sub) i 41 18) * b.f (K.CAL_IL_NOW + s.sub) i 17 0
  let mid := h.getD 1 {}
  let at' (n : Nat) : Int := match h[n]? with | some s => x1 s | none => 0
  at' 1 * 131072 - b.calS (K.CAL_IL_NOW + mid.sub) i 57 42 * (at' 0 - at' 2)

/-- The convolution of two lists of taps. -/
def conv (a c : List Nat) : List Nat :=
  (List.range (a.length + c.length - 1)).map (fun n =>
    ((List.range (n + 1)).map (fun k => a.getD k 0 * c.getD (n - k) 0)).foldl (· + ·) 0)

/-- The impulse response of a CIC of order `n` and decimation `d`. -/
def cicTaps (n d : Nat) : List Nat := (List.replicate n (List.replicate d 1)).foldl conv [1]

/-- The sum of products of taps and a history. -/
def dot (taps : List Int) (h : List Smp) (c : Smp → Int) : Int :=
  ((taps.zip h).map (fun (t, s) => t * c s)).foldl (· + ·) 0

/-- The taps of a FIR bank. -/
def Block.firTaps (b : Block) (i bank : Nat) : List Int :=
  (List.range (b.lnTaps i)).map (fun k => q117 (b.val (ki ((if bank = 0 then K.LANE_FIR_A else K.LANE_FIR_B) + k) i)))

/-- The lane sample that the newest sample at position `p` of the last decimating stage completes, if any (R110, R122,
R123). -/
def Block.lnCompletes (b : Block) (i : Nat) (p : Int) : Option Nat :=
  let a := b.lnAnchorIn i; let ai := b.lnAnchorIdx i; let d := b.lnDpre i
  let u := (p - a).fdiv (d : Int)
  let ratio := b.lnRatio i
  if ratio = 0 then (if u < 0 then none else some (ai + u.toNat))
  else
    let j := iceilDiv ((u - 16) * (2 ^ 32 : Nat)) (2 ^ 32 + ratio)
    if j < 0 then none
    else if (j * (2 ^ 32 + ratio : Nat)).fdiv ((2 ^ 32 : Nat) : Int) = u - 16 then some (ai + j.toNat) else none

/-- The SWAP_AT requests to lane `i` that are accepted and not yet performed: index, acceptance and beat. -/
def Block.swapsAsked (b : Block) (i : Nat) : List (Nat × Nat × Nat) :=
  let k := ki K.LANE_SWAP_AT i
  (b.accepted.map (fun a =>
    match a.body with
    | .write r => if r.key = k then [(r.val, a.group, a.target)] else []
    | .writeMany rs => (rs.filter (fun r => r.key == k)).map (fun r => (r.val, a.group, a.target))
    | _ => [])).flatten

/-- The swaps that lane `i` holds, in the order of their acceptance (R121): index, acceptance, and the beat of one that is not yet
performed. -/
def Block.swapQueue (b : Block) (i : Nat) : List (Nat × Nat × Option Nat) :=
  sortBy (fun x => x.2.1) ((b.lane i).swaps.map (fun s => (s.n, s.group, none)) ++ (b.swapsAsked i).map (fun (n, g, t) => (n, g, some t)))

/-- The swap that may begin: the current one, once it has been performed (R121). -/
def Block.swapNow (b : Block) (i : Nat) : Option Nat :=
  match b.swapQueue i with
  | (n, _, none) :: _ => some n
  | _ => none

/-- A swap begins, goes on or ends with the FIR output at position `p` (R122): answers the lane and, while a fade runs,
(k + 1, M + 1). -/
def Block.swapStep (b : Block) (i : Nat) (p : Int) : Block × Option (Nat × Nat) :=
  let x := b.lane i
  let begin' (x : Lane) : Lane :=
    match x.fade, b.swapNow i, b.lnCompletes i p with
    | none, some at', some n =>
      if at' ≤ n then { x with fade := some ⟨n, bits (b.valAt (ki K.LANE_XFADE i) (b.lnBeatOf i n)) 12 0, 0, n != at'⟩, swapM := some n, bank := 1 - x.bank }
      else x
    | _, _, _ => x
  let x := begin' x
  match x.fade with
  | none => (b.setLane i x, none)
  | some f =>
    let k := f.done + 1
    let w := if f.len = 0 then none else some (k, f.len + 1)
    if f.len ≤ k then
      let b := b.setLane i { x with fade := none, swaps := (sortBy (·.group) x.swaps).drop 1 }
      (b.raise (8 * i + 3) (beBytes 8 f.start ++ beBytes 2 f.len ++ beBytes 1 x.bank ++ beBytes 1 (b2n f.deferred)), w)
    else (b.setLane i { x with fade := some { f with done := k } }, w)

/-- The mixer's sine or cosine at a phase of 48 bits, in Q1.23, within one unit of the exact value (log entry 12). -/
def mixTrig (exact : Int) (err : Int) : Int :=
  satS 24 (rndEven (exact * (2 ^ 23 : Nat)) fxOne + (if err < -1 then -1 else if 1 < err then 1 else err))

/-- Stage 10: an output for the interpolation point that the newest input completes (R123). -/
def Block.stage10 (b : Block) (i : Nat) (s : Smp) : Block × List (Nat × Smp) :=
  let done := b.lnCompletes i s.pos
  if b.lnRatio i = 0 then (b, (done.map (fun n => (n, s))).toList)
  else
    let x := b.lane i
    let h := histPush 32 x.h10 s
    let b := b.setLane i { x with h10 := h }
    match done with
    | none => (b, [])
    | some n =>
      let frac := (n - b.lnAnchorIdx i) * b.lnRatio i % 2 ^ 32
      let taps := (List.range 32).map (fun t => q117 (Config.resampTap (frac / 2 ^ 22) t).toNat)
      let (o, c) := out24 h s.pos (dot taps h (·.i)) (dot taps h (·.q)) 131072
      (b.clamped i 10 c, [(n, o)])

/-- Stage 9 (R119, R122). -/
def Block.stage9 (b : Block) (i : Nat) (s : Smp) : Block × List (Nat × Smp) :=
  let x := b.lane i
  let byp := b.lnFirByp i
  let h := if byp then [s] else histPush (b.lnTaps i) x.h9 s
  let b := b.setLane i { x with h9 := if byp then [] else h }
  if s.pos % (b.lnDpre i : Int) ≠ 0 then (b, [])
  else
    let (b, fade) := b.swapStep i s.pos
    if byp then b.stage10 i s
    else
      let sh := b.f K.LANE_FIR_CFG i 16 13
      let new := b.firTaps i (b.lane i).bank
      let taps : List Int × Nat := match fade with
        | some (k, m) =>
          let g := rndEven (k * 131072 : Nat) m
          (((b.firTaps i (1 - (b.lane i).bank)).zip new).map (fun (o, n) => o * (131072 - g) + n * g), 131072)
        | none => (new, 1)
      let d := 2 ^ (17 - sh) * taps.2
      let (o, c) := out24 h s.pos (dot taps.1 h (·.i)) (dot taps.1 h (·.q)) d
      (b.clamped i 9 c).stage10 i o

/-- Stage 8 (R118). -/
def Block.stage8 (b : Block) (i : Nat) (s : Smp) : Block × List (Nat × Smp) :=
  let l := b.lnLen i
  if l = 1 then b.stage9 i s
  else
    let x := b.lane i
    let h := histPush l x.h8 s
    let b := b.setLane i { x with h8 := h }
    if s.pos % (b.lnCic i * b.lnMaDec i : Nat) ≠ 0 then (b, [])
    else
      let ones := List.replicate l (1 : Int)
      let (o, c) := out24 h s.pos (dot ones h (·.i)) (dot ones h (·.q)) l
      (b.clamped i 8 c).stage9 i o

/-- Stage 7 (R117). -/
def Block.stage7 (b : Block) (i : Nat) (s : Smp) : Block × List (Nat × Smp) :=
  let d := b.lnCic i
  if d = 1 then b.stage8 i s
  else
    let n := b.lnOrder i
    let x := b.lane i
    let h := histPush (n * (d - 1) + 1) x.h7 s
    let b := b.setLane i { x with h7 := h }
    if s.pos % (d : Int) ≠ 0 then (b, [])
    else
      let taps := (cicTaps n d).map Int.ofNat
      let (o, c) := out24 h s.pos (dot taps h (·.i)) (dot taps h (·.q)) (2 ^ (cicGrowth n d - b.f K.LANE_CIC i 18 15))
      (b.clamped i 7 c).stage8 i o

/-- Put a sample into a pipeline of `n` places, newest first, and take out the oldest. -/
def pipe (n : Nat) (q : List Smp) (s : Smp) : List Smp × List Smp := ((s :: q).take n, (s :: q).drop n)

/-- Stage 6: the mixer (R115). -/
def Block.stage6 (b : Block) (i : Nat) (s : Smp) : Block × List (Nat × Smp) :=
  let x := b.lane i
  let freq := b.f K.LANE_NCO_FREQ i 47 0
  let phi := if x.sync then uns 48 ((freq : Int) * s.pos) else x.phi
  let s := { s with gen := x.gen }
  let x := { x with phi := (phi + freq) % 2 ^ 48, sync := false }
  let (o, c) :=
    if b.f K.LANE_NCO_CTRL i 16 16 = 1 then (s, false)
    else
      let th := (phi + b.f K.LANE_NCO_CTRL i 15 0 * 2 ^ 32) % 2 ^ 48
      let co := mixTrig (fxCos th (2 ^ 48)) (Config.mixError th false)
      let si := mixTrig (fxSin th (2 ^ 48)) (Config.mixError th true)
      out24 [s] s.pos (s.i * co + s.q * si) (s.q * co - s.i * si) 8388608
  let (q, out) := pipe 2 x.q7 o
  let b := (b.setLane i { x with q7 := q }).clamped i 6 c
  match out with
  | s :: _ => b.stage7 i s
  | [] => (b, [])

/-- Stage 5: the equaliser (R106). -/
def Block.stage5 (b : Block) (i : Nat) (s : Smp) : Block × List (Nat × Smp) :=
  let x := b.lane i
  let byp := b.f K.LANE_CORR_CTRL i 3 3 == 1
  let h := histPush 16 x.h5 s
  let re := (List.range 16).map (fun k => q117 (b.f (K.CAL_EQ + k) i 17 0))
  let im := (List.range 16).map (fun k => q117 (b.f (K.CAL_EQ + k) i 35 18))
  let (o, c) := if byp then (s, false) else
    out24 h s.pos (dot re h (·.i) - dot im h (·.q)) (dot re h (·.q) + dot im h (·.i)) 131072
  let (q, out) := pipe 18 x.q6 o
  let b := (b.setLane i { x with h5 := if byp then [] else h, q6 := q }).clamped i 5 c
  match out with
  | s :: _ => b.stage6 i s
  | [] => (b, [])

/-- Stage 4: IQ balance (R106). -/
def Block.stage4 (b : Block) (i : Nat) (s : Smp) : Block × List (Nat × Smp) :=
  let x := b.lane i
  let byp := b.f K.LANE_CORR_CTRL i 2 2 == 1 || !b.lnCplx i
  let (o, c) := if byp then (s, false) else
    out24 [s] s.pos (s.i * 131072) ((b.f K.CAL_IQ_NOW i 17 0 : Int) * s.q + q117 (b.f K.CAL_IQ_NOW i 35 18) * s.i) 131072
  let (q, out) := pipe 4 x.q5 o
  let b := (b.setLane i { x with q5 := q }).clamped i 4 c
  match out with
  | s :: _ => b.stage5 i s
  | [] => (b, [])

/-- x[m] times e^(-jπm/2) (R107): its I and Q. -/
def quarterTurn (s : Smp) : Int × Int :=
  match (s.pos % 4).toNat with
  | 0 => (s.i, 0) | 1 => (0, -s.i) | 2 => (-s.i, 0) | _ => (0, s.i)

/-- Stage 3: real to complex (R107). -/
def Block.stage3 (b : Block) (i : Nat) (s : Smp) : Block × List (Nat × Smp) :=
  let x := b.lane i
  let go (b : Block) (x : Lane) (o : Smp) : Block × List (Nat × Smp) :=
    let (q, out) := pipe 32 x.q4 o
    let b := b.setLane i { x with q4 := q }
    match out with
    | s :: _ => b.stage4 i s
    | [] => (b, [])
  if b.lnCplx i then go b x s
  else
    let h := histPush 63 x.h3 s
    let x := { x with h3 := h }
    if s.pos % 2 ≠ 0 then (b.setLane i x, [])
    else
      let taps := (List.range 63).map (fun t => q117 (Config.halfBandTap t).toNat)
      let (o, c) := out24 h (s.pos / 2) (dot taps h (fun s => (quarterTurn s).1)) (dot taps h (fun s => (quarterTurn s).2)) 131072
      let b := (b.setLane i x).clamped i 3 c
      go b (b.lane i) o

/-- Stage 2: DC offset (R427). -/
def Block.stage2 (b : Block) (i : Nat) (s : Smp) : Block × List (Nat × Smp) :=
  let x := b.lane i
  let r := if b.lnCplx i then 1 else 2
  let (o, c) := if b.f K.LANE_CORR_CTRL i 1 1 = 1 then (s, false) else
    out24 [s] s.pos (s.i - b.calS K.CAL_DC_NOW i 23 0) (if b.lnCplx i then s.q - b.calS K.CAL_DC_NOW i 47 24 else 0) 1
  let (q, out) := pipe (4 * r) x.q3 o
  let b := (b.setLane i { x with q3 := q }).clamped i 2 c
  match out with
  | s :: _ => b.stage3 i s
  | [] => (b, [])

/-- Stage 1: interleave correction (R427); a lane with no sub-ADC index bypasses it. -/
def Block.stage1 (b : Block) (i : Nat) (s : Smp) : Block × List (Nat × Smp) :=
  let x := b.lane i
  let r := if b.lnCplx i then 1 else 2
  let h := histPush 3 x.h1 s
  let byp := b.f K.LANE_CORR_CTRL i 0 0 == 1 || b.f K.LANE_SOURCE i 10 9 == 0
  let (o, c) := if byp then (s, false) else
    out24 h s.pos (b.ilValue i h (·.i)) (if b.lnCplx i then b.ilValue i h (·.q) else 0) (131072 * 131072)
  let (q, out) := pipe (4 * r) x.q2 o
  let b := (b.setLane i { x with h1 := if byp then [] else h, q2 := q }).clamped i 1 c
  match out with
  | s :: _ => b.stage2 i s
  | [] => (b, [])

/-! ## Stage 11, flags, gaps and detectors (R106, R108, R116, R125, R128, R129) -/

/-- The digital gain (R106). -/
def Block.stage11 (b : Block) (i : Nat) (s : Smp) : Block × Smp :=
  let sh := sgn 5 (b.f K.LANE_GAIN i 4 0)
  let fine : Int := b.f K.LANE_GAIN i 22 5
  let k : Int := fine * (2 ^ (sh + 16).toNat : Nat)
  let (o, c) := out24 [s] s.pos (s.i * k) (s.q * k) (2 ^ 33)
  (b.clamped i 11 c, o)

/-- The detectors take an output (R129). -/
def Block.detect (b : Block) (i : Nat) (o : LaneOut) : Block :=
  let x := b.lane i
  let skip := o.s && b.f K.LANE_DET_CTRL i 15 15 == 1
  if !o.valid then b
  else if skip then b.setLane i { x with skipped := x.skipped + 1 }
  else
    let p := (o.i * o.i + o.q * o.q).toNat
    let w := b.f K.LANE_DET_CTRL i 4 0
    let p16 := p * 65536
    let sh := if x.env16 < p16 then b.f K.LANE_DET_CTRL i 9 5 else b.f K.LANE_DET_CTRL i 14 10
    let first := x.measured == 0 || decide (x.peak < p)
    b.setLane i { x with
      peak := if first then p else x.peak, peakIdx := if first then o.n else x.peakIdx,
      sum := x.sum + p, measured := x.measured + 1, rms := (p :: x.rms).take (2 ^ w),
      env16 := ((x.env16 : Int) + rndEven ((p16 : Int) - x.env16) (2 ^ sh)).toNat }

/-- The continuous mean of p (R129), and the envelope's integer part. -/
def Lane.rmsMean (x : Lane) : Nat :=
  if x.rms.isEmpty then 0 else (rndEven ((x.rms.foldl (· + ·) 0 : Nat) : Int) x.rms.length).toNat
def Lane.env (x : Lane) : Nat := x.env16 / 65536

/-- A lane output leaves stage 10: gain, flags, gap and settling reports, detectors. -/
def Block.laneOut (b : Block) (i n : Nat) (s : Smp) : Block × List LaneOut :=
  let x := b.lane i
  if n < x.startIdx then (b, [])
  else
    let (b, s) := b.stage11 i s
    let x := b.lane i
    let run := x.runs.find? (fun r => decide (r.start ≤ n) && decide (n < r.start + r.count))
    let inRun := run.isSome
    let mixM := decide (x.shown < s.gen)
    let mFlag := mixM || x.swapM == some n
    let valid := s.miss.isNone
    let o : LaneOut := ⟨n, s.i, s.q, valid, s.miss, valid && inRun, valid && s.ovr, valid && x.miss.isSome, valid && mFlag, run⟩
    let b := if mixM then b.pv K.LANE_RETUNE_INDEX i n else b
    let x := { x with next := n + 1, shown := max x.shown s.gen, swapM := if x.swapM == some n then none else x.swapM,
                      recent := ((n, o.sogm) :: x.recent).take 1024 }
    let x := match s.miss with
      | some (c, d) =>
        match x.miss with
        | some r => { x with miss := some { r with len := r.len + 1 } }
        | none => { x with miss := some ⟨n, 1, c, d⟩ }
      | none => { x with miss := none }
    let gap := if valid then (b.lane i).miss else none
    let done := x.runs.filter (fun r => decide (r.start + r.count ≤ n + 1))
    let b := b.setLane i { x with runs := x.runs.filter (fun r => !decide (r.start + r.count ≤ n + 1)) }
    let b := if valid then b else b.inc K.LANE_GAP_COUNT i 1
    let b := match gap with
      | some r => b.raise (8 * i) (beBytes 8 r.first ++ beBytes 4 r.len ++ beBytes 2 r.cause)
      | none => b
    let b :=
      if o.o then
        let b := b.inc K.LANE_OVR_COUNT i 1
        if (b.lane i).ovrSeen then b
        else (b.setLane i { b.lane i with ovrSeen := true }).raise (8 * i + 1) (beBytes 8 n ++ beBytes 2 (b.lane i).satBeat)
      else b
    let b := done.foldl (fun b r => b.raise (8 * i + 2) (beBytes 8 r.start ++ beBytes 4 r.count ++ beBytes 1 r.cause)) b
    (b.detect i o, [o])

/-- The place of a lane's converter sample in its link's numbering, which counts from the link's epoch (R94). -/
def Block.linkPos (b : Block) (i : Nat) (pos : Int) : Int := pos + b.sinceEpoch bJRX (b.lnLink i) (b.lnEpoch i)

/-- The sub-ADC that took a sample (R93): by position within the extended multiblock, or by the control bits. -/
def Block.subAdc (b : Block) (i : Nat) (pos : Int) (cs : Nat) : Nat :=
  match b.f K.LANE_SOURCE i 10 9 with
  | 1 => (b.linkPos i pos % (max 1 (b.embSamples bJRX (b.lnLink i)) : Nat)).toNat % (b.f K.LANE_SOURCE i 13 11 + 1)
  | 2 => cs
  | _ => 0

/-- One converter sample enters stage 1 (R88, R93, R99): `i` and `q` are the converter's N-bit values. -/
def Block.laneIn (b : Block) (i : Nat) (vi vq : Int) (cs : Nat) (miss : Option (Nat × Nat)) : Block × List (Nat × Smp) :=
  let x := b.lane i
  let sh := if b.lnReplay i then 1 else 2 ^ (24 - b.lkN bJRX (b.lnLink i))
  let s : Smp := match miss with
    | some c => { pos := x.pos, miss := some c }
    | none => { pos := x.pos, i := satS 24 (vi * sh), q := if b.lnCplx i then satS 24 (vq * sh) else 0,
                ovr := b.f K.LANE_SOURCE i 14 14 == 1 && bit cs 0, sub := b.subAdc i x.pos cs }
  (b.setLane i { x with pos := x.pos + 1 }).stage1 i s

/-- What stage 10 has put out leaves the lane: `go` delivers each output before the next is formed. -/
def Block.laneFinish (go : Block → LaneOut → Block) (i : Nat) (r : Block × List (Nat × Smp)) : Block :=
  r.2.foldl (fun b (n, s) => let x := b.laneOut i n s; x.2.foldl go x.1) r.1

/-- The converter samples without data that a start or a link change leaves enter stage 1 as zero (R126). -/
def Block.laneFill (go : Block → LaneOut → Block) (b : Block) (i : Nat) : Block :=
  (List.range (b.lane i).fill).foldl (fun b _ =>
    let x := b.lane i
    Block.laneFinish go i ((b.setLane i { x with pos := x.pos + 1, fill := x.fill - 1 }).stage1 i { pos := x.pos })) b

/-- One pipeline of a lane empties, oldest first, into the stages after it. -/
def Block.laneEmpty (go : Block → LaneOut → Block) (i : Nat) (b : Block) (s : Nat) : Block :=
  let x := b.lane i
  let (q, rest) : List Smp × Lane :=
    match s with
    | 2 => (x.q2, { x with q2 := [] }) | 3 => (x.q3, { x with q3 := [] }) | 4 => (x.q4, { x with q4 := [] })
    | 5 => (x.q5, { x with q5 := [] }) | 6 => (x.q6, { x with q6 := [] }) | _ => (x.q7, { x with q7 := [] })
  q.reverse.foldl (fun b y => Block.laneFinish go i
    (match s with
     | 2 => b.stage2 i y | 3 => b.stage3 i y | 4 => b.stage4 i y | 5 => b.stage5 i y | 6 => b.stage6 i y | _ => b.stage7 i y)) (b.setLane i rest)

/-- The samples in flight complete after a stop (R127): each pipeline, last first, empties through all that follow it. -/
def Block.laneDrain (go : Block → LaneOut → Block) (b : Block) (i : Nat) : Block :=
  [7, 6, 7, 5, 6, 7, 4, 5, 6, 7, 3, 4, 5, 6, 7, 2, 3, 4, 5, 6, 7].foldl (Block.laneEmpty go i) b

/-- The detector reports of the beat that ends (R129): the DET parameters take them, and the next beat starts afresh. -/
def Block.detBoundary (b : Block) (i : Nat) : Block :=
  let x := b.lane i
  let mean := if x.measured = 0 then 0 else (rndEven (x.sum : Int) x.measured).toNat
  let b := b.pf K.LANE_DET_PEAK i 47 0 (if x.measured = 0 then 0 else x.peak)
  let b := b.pv K.LANE_DET_PEAK_INDEX i (if x.measured = 0 then 0 else x.peakIdx)
  let b := b.pf K.LANE_DET_MEAN i 47 0 mean
  let b := b.pf K.LANE_DET_ENV i 47 0 x.env
  let b := b.pv K.LANE_DET_COUNT i (x.measured % 65536 + x.skipped % 65536 * 65536)
  b.setLane i { x with peak := 0, peakIdx := 0, sum := 0, measured := 0, skipped := 0, ovrSeen := false, satBeat := 0 }

end Sys2Proof.Machine
end

