-- ==== Sys2Proof/Machine/Views.lean ====
section
/-! DEFINITION. Transform views, window tables and trace units (R134 to R166). -/
namespace Sys2Proof.Machine

def bXFM : Nat := 0x06
/-- The XFM instance of trace unit `t`. -/
def trcInst (t : Nat) : Nat := 0x80 + t
/-- The XFM instance of window table `t`. -/
def winInst (t : Nat) : Nat := 0xC0 + t

def Block.view (b : Block) (j : Nat) : View := tget {} b.views j
def Block.setView (b : Block) (j : Nat) (x : View) : Block := { b with views := tset b.views j x }
def Block.trc (b : Block) (t : Nat) : Trc := tget {} b.trcs t
def Block.setTrc (b : Block) (t : Nat) (x : Trc) : Block := { b with trcs := tset b.trcs t x }

/-- The lane of view instance `j` (R134). -/
def viewLane (j : Nat) : Nat := j / 4
/-- View instances that are defined (R134). -/
def viewDefined (j : Nat) : Bool := decide (j < 0x7F) && j % 4 != 3
/-- All defined view instances. -/
def allViews : List Nat := which 0x7F viewDefined

def Block.vwN (b : Block) (j : Nat) : Nat := b.f K.XFM_CFG j 4 0
def Block.vwSize (b : Block) (j : Nat) : Nat := 2 ^ b.vwN j
def Block.vwH (b : Block) (j : Nat) : Nat := b.f K.XFM_CFG j 7 5
def Block.vwHop (b : Block) (j : Nat) : Nat := 2 ^ (b.vwN j - b.vwH j)
def Block.vwTable (b : Block) (j : Nat) : Nat := b.f K.XFM_CFG j 13 8
def Block.vwFormat (b : Block) (j : Nat) : Nat := b.f K.XFM_CFG j 15 14
def Block.vwAlign (b : Block) (j : Nat) : Nat := b.f K.XFM_ALIGN j 15 0
def outFirst (v : Nat) : Int := sgn 16 (bits v 15 0)
def outCount (v : Nat) : Nat := (bits v 31 16 + 1) * 16
def Block.vwOutCount (b : Block) (j : Nat) : Nat := outCount (b.val (ki K.XFM_OUT_RANGE j))

/-- Whether an output range lies within a transform of size N (R149). -/
def rangeOk (n : Nat) (v : Nat) : Bool :=
  let lo := outFirst v; let c := outCount v
  decide (-((n / 2 : Nat) : Int) ≤ lo) && decide (lo + c ≤ (n / 2 : Nat))

/-- The cost of a view in 1/16 window-sample per core clock (R25). -/
def Block.vwCost (b : Block) (j : Nat) : Nat := b.lnCost (viewLane j) * 2 ^ b.vwH j

/-- The sum of the costs of the views that are not OFF (R25). -/
def Block.xfmUsed (b : Block) : Nat :=
  ((allViews.filter (fun j => !b.isOff bXFM j)).map b.vwCost).foldl (· + ·) 0

/-! ## Window tables (R142 to R144) -/

/-- I0(2√y) at the scale 2^64, for y at that scale: the sum of y^k / (k!)². -/
def fxI0 : Nat → Nat → Nat → Nat → Nat → Nat
  | 0, _, _, _, acc => acc
  | n + 1, y, k, term, acc => let t := term * y / (fxOne * k * k); fxI0 n y (k + 1) t (acc + t)

/-- Entry n of a Kaiser window of order P with parameter β, in Q2.16 (R143). -/
def kaiser (beta n p : Nat) : Int :=
  -- (β/2)² (1 - (2n/P - 1)²) = β² n (P - n) / P²
  let y := beta * beta * (n * (p - n)) * fxOne / (p * p)
  let y0 := beta * beta * fxOne / 4
  rndEven ((fxI0 80 y 1 fxOne fxOne : Nat) * 65536) (fxI0 80 y0 1 fxOne fxOne)

/-- A sum of cosines in units of 10^-9, at n/P of a turn, in Q2.16. -/
def cosineSum (c : List Int) (n p : Nat) : Int :=
  rndEven ((c.mapIdx (fun k a => a * fxCos (k * n) p)).foldl (· + ·) 0 * 65536) (1000000000 * fxOne)

/-- Entry n of a preloaded table of order P = 65,536 (R143). -/
def preloaded (t n : Nat) : Int :=
  match t with
  | 0 => 65536
  | 1 => cosineSum [500000000, -500000000] n 65536
  | 2 => cosineSum [358750000, -488290000, 141280000, -11680000] n 65536
  | 3 => cosineSum [215578950, -416631580, 277263158, -83578947, 6947368] n 65536
  | 4 => kaiser 6 n 65536
  | 5 => kaiser 9 n 65536
  | _ => kaiser 12 n 65536

/-- The order code p of a table; 0 when it is released. -/
def Block.winCode (b : Block) (t : Nat) : Nat := b.f K.XFM_WIN_CFG (winInst t) 4 0

/-- Entry e[n] of a table. -/
def Block.winEntry (b : Block) (t n : Nat) : Int :=
  if t < 7 then preloaded t n else sgn 18 (b.f (K.XFM_WIN_E + n) (winInst t) 17 0)

/-- w[n] of a window of size `size` taken from table `t` (R142). -/
def Block.winAt (b : Block) (t size n : Nat) : Int :=
  let p := 2 ^ b.winCode t
  let m := n * p / size
  if m ≤ p / 2 then b.winEntry t m else b.winEntry t (p - m)

/-- The entries that a table of order code p takes (R144). -/
def winEntries (p : Nat) : Nat := if p = 0 then 0 else 2 ^ (p - 1) + 1

/-- Free entries of the window pool (R144). -/
def Block.winPool (b : Block) : Nat :=
  524288 - ((List.range 64).map (fun t => winEntries (b.winCode t))).foldl (· + ·) 0

/-- Whether any view that is not OFF names a table. -/
def Block.winInUse (b : Block) (t : Nat) : Bool := allViews.any (fun j => !b.isOff bXFM j && b.vwTable j == t)

/-- Σw and Σw² over a window of size `size` from table `t`, in units of 2^-16 and 2^-32. -/
def Block.winSums (b : Block) (t size : Nat) : Int × Nat :=
  (List.range size).foldl (fun (a : Int × Nat) n => let w := b.winAt t size n; (a.1 + w, a.2 + (w * w).toNat)) (0, 0)

/-- WIN_INFO: ENBW at order P in 2^-16 bin; free where Σw is 0 (log entry 14). -/
def Block.winInfo (b : Block) (t : Nat) : Nat :=
  let p := 2 ^ b.winCode t
  if b.winCode t = 0 then 0
  else
    let (s, s2) := b.winSums t p
    if s = 0 then (Config.zeroSumWindow t).toNat % 2 ^ 24 else (rndEven (p * s2 * 65536 : Nat) (s * s).toNat).toNat % 2 ^ 24

/-- WIN_GAIN: Σw/P in Q2.16. -/
def Block.winGain (b : Block) (t : Nat) : Nat :=
  if b.winCode t = 0 then 0 else uns 18 (rndEven (b.winSums t (2 ^ b.winCode t)).1 (2 ^ b.winCode t))

/-- RBW in mHz (R154). -/
def Block.vwRbw (b : Block) (j : Nat) : Nat :=
  let (s, s2) := b.winSums (b.vwTable j) (b.vwSize j)
  let (n, d) := b.lnFs (viewLane j)
  if s = 0 then (Config.zeroSumWindow (64 + j)).toNat % 2 ^ 40
  else (rndEven (s2 * n * 1000 : Nat) ((s * s).toNat * d)).toNat % 2 ^ 40

/-- A WIN_CFG write performed: the new storage is all zero (R144). -/
def Block.winConfigure (b : Block) (t v : Nat) : Block :=
  let lo := ki (K.XFM_WIN_E) (winInst t)
  { b with params := b.params.filter (fun e => !(decide (lo ≤ e.1) && decide (e.1 ≤ lo + 32768))) }.setVal
    (ki K.XFM_WIN_CFG (winInst t)) v

/-! ## Checks (R54 steps 5, 8, 9 and 10) -/

/-- Whether a trace unit that is not OFF takes its spectra from view `j`. -/
def Block.vwTraced (b : Block) (j : Nat) : Bool :=
  (List.range 32).any (fun t => !b.isOff bXFM (trcInst t) && b.f K.XFM_TRC_SRC (trcInst t) 6 0 == j)

/-- Step 8 for a view, a trace unit or a window table. `users` says that a trace unit, plane or trigger unit that is not OFF
takes its spectra from the view. -/
def Block.xfmState (b : Block) (j item v : Nat) (users : Bool) : Status :=
  let old := b.val (mkKey bXFM j item)
  if j < 0x80 then
    if item = 1 then
      if v % 2 = 1 then need (b.life bLANE (viewLane j) == lStarting || b.life bLANE (viewLane j) == lOn) .state
      else need (!users) .busy
    else if item = 0x10 ∨ item = 0x11 then need (b.isOff bXFM j) .state
    else if item = 0x12 ∨ item = 0x13 then need (!b.vwTraced j) .busy
    else if item = 0x14 ∧ bits v 11 8 ≠ bits old 11 8 then need (!b.vwTraced j) .busy
    else .ok
  else if j < 0xA0 then
    if item = 1 ∧ v % 2 = 1 then
      let s := b.f K.XFM_TRC_SRC j 6 0
      need (viewDefined s && (b.life bXFM s == lStarting || b.life bXFM s == lOn)) .state
    else if item = 0x10 ∨ item = 0x11 then need (b.isOff bXFM j) .state
    else .ok
  else
    let t := j - 0xC0
    if item = 0x10 ∨ 0x4000 ≤ item then
      if b.winInUse t then .busy
      else if item = 0x10 then
        need (decide (winEntries (bits v 4 0) ≤ b.winPool + winEntries (b.winCode t))) .busy
      else .ok
    else .ok

/-- The display columns that TRC_COLS may name for 2^logTp points (R160). -/
def colsOk (c logTp : Nat) : Bool := c == 0 || ((c == 64 || c == 128 || c == 256 || c == 512 || c == 1024 || c == 2048) && decide (c ≤ 2 ^ logTp))

/-- Step 9 for a view, a trace unit or a window table. -/
def Block.xfmValue (b : Block) (j item v : Nat) : Status :=
  if j < 0x80 then
    if item = 1 ∧ v % 2 = 1 then
      let t := b.vwTable j
      let (n, d) := b.lnFs (viewLane j)
      need (decide (n ≤ 100000000 * b.vwHop j * d) && decide (b.vwAlign j < b.vwHop j) &&
        b.winCode t != 0 && decide (b.vwN j ≤ b.winCode t) && rangeOk (b.vwSize j) (b.val (ki K.XFM_OUT_RANGE j))) .paramRange
    else if item = 0x12 ∧ !b.isOff bXFM j then need (rangeOk (b.vwSize j) v) .paramRange
    else .ok
  else if j < 0xA0 then
    if item = 1 ∧ v % 2 = 1 then
      let lt := b.f K.XFM_TRC_SRC j 14 10
      need (b.vwOutCount (b.f K.XFM_TRC_SRC j 6 0) % 2 ^ lt == 0 && colsOk (b.f K.XFM_TRC_COLS j 11 0) lt) .paramRange
    else if item = 0x12 then need (colsOk (bits v 11 0) (b.f K.XFM_TRC_SRC j 14 10)) .paramRange
    else .ok
  else if item = 0x10 then need (bits v 4 0 == 0 || (decide (5 ≤ bits v 4 0) && decide (bits v 4 0 ≤ 16))) .paramRange
  else .ok

/-- Step 10 for a view (R25, R136). -/
def Block.xfmBudget (b : Block) (j item v : Nat) : Status :=
  if j < 0x80 ∧ item = 1 ∧ v % 2 = 1 then
    need (decide (b.xfmUsed + (if b.isOff bXFM j then b.vwCost j else 0) ≤ 3072)) .budget
  else .ok

/-! ## The running view (R138 to R140) -/

/-- The smallest window start at or after `s0` (R138). -/
def nextStart (align hop s0 : Nat) : Nat := align + ceilDiv (s0 - align) hop * hop

/-- ENABLE = 1 performed at the present beat. -/
def Block.viewStart (b : Block) (j : Nat) : Block :=
  let i := viewLane j
  let x := b.lane i
  let s0 := if x.running ∧ b.lnEpoch i ≤ b.beat then b.lnFirst i b.beat else x.startIdx
  let s := nextStart (b.vwAlign j) (b.vwHop j) s0
  let b := b.setLife bXFM j lStarting
  (b.setView j { begin' := s, complete := s }).pv K.XFM_NEXT_Q j ((s - b.vwAlign j) / b.vwHop j)

/-- ENABLE = 0 performed at the present beat. -/
def Block.viewStop (b : Block) (j : Nat) : Block :=
  let i := viewLane j
  (b.setLife bXFM j lStopping).setView j { b.view j with stopAt := some (b.lnFirst i b.beat) }

/-- A view takes a lane output: windows begin and complete with it (R138). -/
def Block.viewTake (b : Block) (j : Nat) (o : LaneOut) : Block :=
  let x := b.view j
  let n := b.vwSize j; let h := b.vwHop j
  let lanes := b.lane (viewLane j)
  if b.isOff bXFM j then b
  else
    let begins := o.n == x.begin' && (match x.stopAt with | some l => decide (x.begin' < l) | none => true)
    let b := if begins then b.pv K.XFM_NEXT_Q j ((x.begin' + h - b.vwAlign j) / h) else b
    let x := if begins then { x with begin' := x.begin' + h } else x
    let x := if x.complete ≤ o.n then { x with buf := (o :: x.buf).take n } else x
    let rate := if o.n < b.lnAnchorIdx (viewLane j) then (lanes.rateSeq + 65535) % 65536 else lanes.rateSeq
    let x := if o.n + 1 = x.complete + n ∧ x.complete < x.begin' then
        { x with ready := x.ready ++ [⟨x.complete, x.buf.reverse, rate⟩], complete := x.complete + h }
      else x
    b.setView j x

/-- What a boundary does to a view: ON after its first spectrum, OFF after its last (R140). -/
def Block.viewBoundary (b : Block) (j : Nat) : Block :=
  let x := b.view j
  if b.life bXFM j = lStarting ∧ x.delivered then b.setLife bXFM j lOn
  else match x.stopAt with
    | some l => if b.life bXFM j = lStopping ∧ x.ready.isEmpty ∧ l ≤ x.complete then (b.setLife bXFM j lOff).setView j {} else b
    | none => b

/-! ## The transform (R145 to R152) -/

/-- The exact value of one component of X[k] at the scale 2^(39 + 64), from the windowed samples in order. -/
def dftBin (ws : List (Int × Int)) (size : Nat) (k : Int) : Int × Int :=
  (ws.foldl (fun (a : Int × Int × Nat) (x : Int × Int) =>
    let th := ((k * a.2.2) % size).toNat
    let c := fxCos th size; let s := fxSin th size
    (a.1 + x.1 * c + x.2 * s, a.2.1 + x.2 * c - x.1 * s, a.2.2 + 1)) (0, 0, 0)) |> (fun r => (r.1, r.2.1))

/-- A component at the scale 2^103 in steps of exponent `e`, rounded (R147). -/
def stepsOf (v : Int) (e : Nat) : Int := rndEven v (2 ^ (63 + e))

/-- The exponent of a block whose largest component is `v` at the scale 2^103: the least E, at least 0, that brings the
rounded mantissa below 2^23 (R146). -/
def blockExp (v : Nat) : Nat → Nat
  | 0 => 63
  | n + 1 => let e := 63 - (n + 1); if stepsOf v e < 8388608 then e else blockExp v n

/-- The exponent that a block is normalised to (R146): its exact values give one, and errors of `m` steps may leave the largest mantissa
in [2^22, 2^23) under a neighbour too; `pick` says which then. -/
def normalExp (v m : Nat) (pick : Int) : Nat :=
  let e := blockExp v 63
  if pick = 1 ∧ e < 63 ∧ 4194304 ≤ stepsOf v (e + 1) + m then e + 1
  else if pick = -1 ∧ 0 < e ∧ stepsOf v (e - 1) ≤ 8388607 + m then e - 1
  else e

/-- Mantissas never leave 24 bits, and above E = 0 the largest reaches 2^22 (R146): those of the components that are largest exactly do,
where no other does. -/
def normalised (big e : Nat) (exact' mants : List (Int × Int)) : List (Int × Int) :=
  let top (v : Int) : Int := if v < -8388607 then -8388607 else if 8388607 < v then 8388607 else v
  let ms := mants.map (fun x => (top x.1, top x.2))
  if e = 0 ∨ ms.any (fun x => decide (4194304 ≤ max x.1.natAbs x.2.natAbs)) then ms
  else (exact'.zip ms).map (fun (v, x) =>
    let lift (v x : Int) : Int := if v.natAbs = big then (if v < 0 then -4194304 else 4194304) else x
    (lift v.1 x.1, lift v.2 x.2))

/-- A free error of at most `m` steps. -/
def bounded (m : Nat) (e : Int) : Int := if e < -(m : Int) then -(m : Int) else if (m : Int) < e then m else e

/-- v of R148 for a bin whose mantissas square to `p` (times 4^E) under a window of sum `sw`: 1280 log10 p rounded, with the
logarithm's allowed error. -/
def dbqOf (p e : Nat) (sw : Int) (offs : Int) : Int :=
  if p = 0 then -32768
  else
    -- 1280 log10 2 at the scale 2^40
    let k : Nat := 423662055093639
    let lg : Int := (fxLog2 p : Int) + ((2 * e : Nat) - 80 + 32 : Int) * (2 ^ 40 : Nat) - 2 * (fxLog2 sw.natAbs : Int)
    let v := if sw = 0 then Config.dbqZeroSum p e else
      rndEven (lg * k + bounded (2 ^ 79) (Config.dbqError p e)) (2 ^ 80)
    let v := v + offs
    if v > 32767 then 32767 else if v < -32768 then -32768 else v

/-- The span in which LATE can be set (R151, R190, R423): from the move of PLL_CORE's domain to the safe clock until the first boundary
after its relock. -/
def Block.lateSpan (b : Block) : Bool := (tget {} b.plls 0).down

/-- The spectrum of a complete window (R145 to R152): the exact transform, with an error that is free within R147's bound and R146's
normalisation. The scale of R146's 28-bit samples and the width of its twiddle factors are not given, so its stages show in that error
alone (log entry 13). LATE is possible only while PLL_CORE's data parts stand still (R151). -/
def Block.transform (b : Block) (j : Nat) (w : Window) (late : Bool) : Spectrum :=
  let n := b.vwN j; let size := 2 ^ n
  let t := b.vwTable j
  let ws := w.smps.mapIdx (fun m o => let c := b.winAt t size m; (c * o.i, c * o.q))
  let det := w.s + size - 1
  let beat := b.lnBeatOf (viewLane j) det
  let range := b.valAt (ki K.XFM_OUT_RANGE j) beat
  let offs := sgn 16 (bits (b.valAt (ki K.XFM_POWER_OFFS j) beat) 15 0)
  let excl := b.valAt (ki K.XFM_EXCL j) beat
  let all := (List.range size).map (fun (k : Nat) => dftBin ws size ((k : Int) - (size / 2 : Nat)))
  let big := all.foldl (fun a x => max a (max x.1.natAbs x.2.natAbs)) 0
  let e := if big = 0 then 0 else normalExp big (n + 2) (Config.transformExponent b.fresh)
  let mant (v : Int) (k c : Nat) : Int :=
    if big = 0 then 0 else stepsOf v e + bounded (n + 2) (Config.transformError b.fresh k c)
  let ms := normalised big e all (all.mapIdx (fun k x => (mant x.1 k 0, mant x.2 k 1)))
  let sw := (b.winSums t size).1
  let lo := (outFirst range + (size / 2 : Nat)).toNat
  let bins := ((ms.drop lo).take (outCount range)).map (fun (mi, mq) => ⟨mi, mq, dbqOf (mi * mi + mq * mq).toNat e sw offs⟩)
  let fl := b2n (w.smps.any (·.s)) + 2 * b2n (w.smps.any (fun o => !o.valid)) + 4 * b2n (w.smps.any (·.o)) + 8 * b2n (late && b.lateSpan)
  let hit (lo : Nat) : Bool := (fl &&& bits excl (lo + 3) lo) != 0
  { view := j, q := (w.s - b.vwAlign j) / b.vwHop j, s := w.s, n := n, h := b.vwH j, table := t, format := b.vwFormat j,
    flags := fl, exp := e, first := outFirst range, bins := bins,
    markOff := ((w.smps.findIdx? (·.m)).getD 0xFFFF), rate := w.rate, beat := beat,
    exclTrg := hit 0, exclDen := hit 4, exclTrc := hit 8, sw := sw, offs := offs }

/-- The 32-byte descriptor (R150). -/
def Spectrum.descriptor (x : Spectrum) : List Byte :=
  beBytes 1 (x.view / 4) ++ beBytes 1 (x.view % 4) ++ beBytes 1 x.flags ++ beBytes 1 (x.exp + 64 * x.format) ++
    beBytes 8 x.q ++ beBytes 8 x.s ++ beBytes 1 x.n ++ beBytes 1 x.h ++ beBytes 1 x.table ++ beBytes 1 0 ++
    beBytes 2 (uns 16 x.first) ++ beBytes 2 (x.bins.length - 1) ++ beBytes 2 x.markOff ++ beBytes 2 x.rate

/-- The bins as FORMAT states (R149). -/
def Spectrum.payload (x : Spectrum) : List Byte :=
  let cplx := (x.bins.map (fun p => beBytes 3 (uns 24 p.mi) ++ beBytes 3 (uns 24 p.mq))).flatten
  let pow := (x.bins.map (fun p => beBytes 2 (uns 16 p.dbq))).flatten
  match x.format with | 0 => cplx | 1 => pow | _ => cplx ++ pow

/-- A spectrum reaches the streams of its view (R342, R349). -/
def Block.strSpectrum (b : Block) (x : Spectrum) : Block :=
  b.strOfferAll 2 x.view x.beat
    { kind := 4, index := x.q, hdr := x.descriptor, data := x.payload, part := [6, 2, 1].getD x.format 1 }

/-- The counters of a view (R163). -/
def Block.viewCount (b : Block) (x : Spectrum) : Block :=
  let one (b : Block) (k i : Nat) : Block := if bit x.flags i then b.inc k x.view 1 else b
  one (one (one (one (b.inc K.XFM_SPECTRA x.view 1) K.XFM_UNSETTLED 0) K.XFM_GAPS 1) K.XFM_OVERRANGE 2) K.XFM_LATE 3

/-! ## Trace units (R156 to R162) -/

/-- The points of a spectrum (R157): each covers `w` consecutive selected bins. -/
def specPoints (x : Spectrum) (w : Nat) : List Point :=
  (chunks w x.bins).map (fun c =>
    let d := c.map (·.dbq)
    { max := d.foldl max (-32768), min := d.foldl min 32767, last := (d.getD (w / 2) (-32768)),
      sum := rndEven (d.foldl (· + ·) 0) (max 1 d.length), lin := (c.map (fun p => (p.mi * p.mi + p.mq * p.mq).toNat * 4 ^ x.exp)).foldl (· + ·) 0 })

/-- Two stretches of one point. -/
def Point.join (a c : Point) : Point := ⟨Max.max a.max c.max, Min.min a.min c.min, c.last, a.sum + c.sum, a.lin + c.lin⟩

/-- TRC_PERIOD of a unit. -/
def Block.trcP (b : Block) (t : Nat) : Nat := max 1 (b.f K.XFM_TRC_PERIOD (trcInst t) 15 0)

/-- The trace period that a beat lies in, opened if it is new (R158). -/
def Block.trcPeriod (b : Block) (t beat : Nat) (x : Trc) : Period :=
  let p := b.trcP t
  let s := max x.startBeat (beat - beat % p)
  (x.periods.find? (fun q => q.start == s)).getD
    { start := s, stop := (beat / p + 1) * p, part := s == x.startBeat, src := b.val (ki K.XFM_TRC_SRC (trcInst t)) }

/-- The fields of TRC_SRC (R165): view, detector and log2 Tp. -/
def srcView (v : Nat) : Nat := bits v 6 0
def srcDet (v : Nat) : Nat := bits v 9 7
def srcTp (v : Nat) : Nat := bits v 14 10
/-- MAX_HOLD or MIN_HOLD. -/
def srcHolds (v : Nat) : Bool := srcDet v == 5 || srcDet v == 6

/-- A period takes its place among those of a unit, in order of their beats. -/
def Trc.put (x : Trc) (p : Period) : Trc :=
  { x with periods := sortBy (·.start) (x.periods.filter (fun q => q.start != p.start) ++ [p]) }

/-- A period takes a spectrum (R157, R159): one of before TRC_CLEAR does not enter the hold values of a period that outlasts it. -/
def Period.take (p : Period) (sp : Spectrum) (clear : Nat) : Period :=
  if sp.exclTrc then { p with excl := p.excl + 1 }
  else
    let w := sp.bins.length / 2 ^ srcTp p.src
    let new := specPoints sp w
    let pts := if srcHolds p.src && p.base.isNone && decide (sp.beat < clear) then p.pts
               else if p.pts.isEmpty then new else p.pts.zipWith Point.join new
    { p with pts := pts, incl := p.incl + 1, firstQ := some (p.firstQ.getD sp.q), flags := p.flags ||| sp.flags,
             width := w, sw := sp.sw, offs := sp.offs }

/-- A trace unit takes a spectrum (R157, R159). -/
def Block.trcTake (b : Block) (t : Nat) (sp : Spectrum) : Block :=
  let u := trcInst t
  let x := b.trc t
  let live := (b.life bXFM u == lStarting || b.life bXFM u == lOn) && decide (x.startBeat ≤ sp.beat)
  match x.periods.find? (fun p => decide (p.start ≤ sp.beat) && decide (sp.beat < p.stop)) with
  | some p => if srcView p.src = sp.view then b.setTrc t (x.put (p.take sp x.clearBeat)) else b
  | none =>
    if live && srcView (b.val (ki K.XFM_TRC_SRC u)) == sp.view then
      b.setTrc t (x.put ((b.trcPeriod t sp.beat x).take sp x.clearBeat))
    else b

/-- The value of a point at the end of a period of `n` spectra of `w` bins each (R157). -/
def Point.value (p : Point) (det n w : Nat) (sw offs : Int) : Int :=
  match det with
  | 0 => p.max | 1 => p.min | 2 => p.last | 5 => p.max | 6 => p.min
  | 4 => rndEven p.sum (Max.max 1 n)
  | _ =>
    -- the mean of linear power, kept as a ratio: log2 of a quotient is a difference
    if p.lin = 0 then -32768
    else if sw = 0 then Config.dbqZeroSum p.lin 0
    else
      let k : Nat := 423662055093639
      let lg : Int := (fxLog2 p.lin : Int) - (fxLog2 (n * w) : Int) - 48 * (2 ^ 40 : Nat) - 2 * (fxLog2 sw.natAbs : Int)
      let v := rndEven (lg * k + bounded (2 ^ 79) (Config.dbqError p.lin (n * w))) (2 ^ 80) + offs
      if v > 32767 then 32767 else if v < -32768 then -32768 else v

/-- The trace of a period that has ended, and the hold values after it (R157 to R161), under TRC_SRC as the period had it. A period that
ended before TRC_CLEAR extends the values of before, and hands them to the others that did. -/
def Block.trcClose (b : Block) (t : Nat) (x : Trc) (p : Period) : Trace × Trc :=
  let u := trcInst t
  let det := srcDet p.src
  let lt := srcTp p.src
  let now := p.pts.map (fun q => q.value det p.incl p.width p.sw p.offs)
  let blank := List.replicate (2 ^ lt) (-32768 : Int)
  let before := p.base.getD x.hold
  let held : Option (List Int) :=
    if !srcHolds p.src then none
    else if p.pts.isEmpty then before
    else match before with
      | some h => some (h.zipWith (fun a c => if det = 5 then max a c else min a c) now)
      | none => some now
  let pts := if srcHolds p.src then held.getD blank else if p.pts.isEmpty then blank else now
  let c := b.f K.XFM_TRC_COLS u 11 0
  let least := b.f K.XFM_TRC_COLS u 12 12 == 1
  let cols := if c = 0 then [] else (chunks (2 ^ lt / c) pts).map (fun g =>
    if least then g.foldl min 32767 else g.foldl max (-32768))
  let rest := x.periods.filter (fun q => q.start != p.start)
  ({ unit := t, det := det, bits := p.flags + 16 * b2n p.part + 32 * b2n (p.incl == 0) + 64 * b2n (c != 0), view := srcView p.src,
     start := p.start, incl := p.incl, excl := p.excl, firstQ := p.firstQ, logTp := lt, pts := pts, cols := cols },
   if p.base.isSome then { x with periods := rest.map (fun q => if q.base.isSome then { q with base := some held } else q) }
   else { x with hold := held, holdSrc := p.src, periods := rest })

/-- The 32-byte trace descriptor (R161). -/
def Trace.descriptor (x : Trace) : List Byte :=
  beBytes 1 x.unit ++ beBytes 1 x.det ++ beBytes 1 x.bits ++ beBytes 1 x.view ++ beBytes 8 x.start ++ beBytes 4 x.incl ++
    beBytes 4 x.excl ++ beBytes 8 (x.firstQ.getD (2 ^ 64 - 1)) ++ beBytes 2 x.logTp ++ beBytes 2 x.cols.length

/-- The dBq values that follow it. -/
def Trace.payload (x : Trace) : List Byte := ((x.pts ++ x.cols).map (fun v => beBytes 2 (uns 16 v))).flatten

/-- ENABLE = 1 performed at the present beat (R162): the first period runs from it. Hold values are carried until they are cleared (R157),
through a stop too; under another detector or Tp there are none to carry (DESIGN CHOICE, log entry 154). -/
def Block.trcStart (b : Block) (t : Nat) : Block :=
  let u := trcInst t
  let old := b.trc t
  let b := (b.setLife bXFM u lStarting).pv K.XFM_TRC_SEQ u 0
  let src := b.val (ki K.XFM_TRC_SRC u)
  let hold := if srcDet old.holdSrc = srcDet src ∧ srcTp old.holdSrc = srcTp src then old.hold else none
  let x : Trc := { startBeat := b.beat, hold := hold, holdSrc := old.holdSrc, clearBeat := old.clearBeat }
  b.setTrc t { x with periods := old.periods ++ [b.trcPeriod t b.beat x] }

/-- ENABLE = 0 performed at the present beat (R162): the period in progress ends here, PARTIAL. -/
def Block.trcStop (b : Block) (t : Nat) : Block :=
  let u := trcInst t
  let x := b.trc t
  let cut (p : Period) : Period := if b.beat < p.stop then { p with stop := b.beat, part := true } else p
  (b.setLife bXFM u lStopping).setTrc t { x with periods := (x.periods.filter (fun p => decide (p.start < b.beat))).map cut }

/-- The beat that begins opens a period of its own where one starts (R158). -/
def Block.trcBoundary (b : Block) (t : Nat) : Block :=
  let u := trcInst t
  if b.life bXFM u = lStarting then b.setLife bXFM u lOn
  else if b.life bXFM u = lStopping then b.setLife bXFM u lOff
  else b

/-- At each beat a unit that is not stopping holds the period in progress, empty or not. -/
def Block.trcOpen (b : Block) (t : Nat) : Block :=
  let u := trcInst t
  let x := b.trc t
  if b.isOff bXFM u || b.life bXFM u == lStopping then b
  else
    let p := b.trcPeriod t b.beat x
    if x.periods.any (fun q => q.start == p.start) then b else b.setTrc t { x with periods := x.periods ++ [p] }

/-- TRC_CLEAR at the present beat (R159): a period that has ended keeps the hold values of before, one in progress begins afresh. -/
def Block.trcClear (b : Block) (t : Nat) : Block :=
  let x := b.trc t
  let clear (p : Period) : Period :=
    if !srcHolds p.src then p
    else if p.stop ≤ b.beat then { p with base := some (p.base.getD x.hold) }
    else { p with pts := [] }
  b.setTrc t { x with hold := none, clearBeat := b.beat, periods := x.periods.map clear }

/-- A trace reaches the streams of its unit. -/
def Block.strTrace (b : Block) (x : Trace) : Block :=
  b.strOfferAll 3 x.unit x.start { kind := 5, index := x.start, hdr := x.descriptor, data := x.payload, part := 2 }

end Sys2Proof.Machine
end

