-- ==== Sys2Proof/Machine/Triggers.lean ====
section
/-! DEFINITION. Trigger units (R167 to R197, R511): arming, the sources, the qualifier, hold-off, test mode, and the TRIG_OUT
pins.  The destinations of a fire are joined in Fire.lean. -/
namespace Sys2Proof.Machine

def bTRG : Nat := 0x07

def Block.trg (b : Block) (u : Nat) : TrgUnit := tget {} b.trgs u
def Block.setTrg (b : Block) (u : Nat) (x : TrgUnit) : Block := { b with trgs := tset b.trgs u x }

def Block.tgSource (b : Block) (u : Nat) : Nat := b.f K.TRG_SRC u 3 0
def Block.tgLane (b : Block) (u : Nat) : Nat := b.f K.TRG_SRC u 8 4
def Block.tgView (b : Block) (u : Nat) : Nat := 4 * b.tgLane u + b.f K.TRG_SRC u 10 9
def Block.tgPlane (b : Block) (u : Nat) : Nat := b.f K.TRG_SRC u 14 11
def Block.tgAuto (b : Block) (u : Nat) : Bool := b.f K.TRG_SRC u 15 15 == 1
def Block.tgTest (b : Block) (u : Nat) : Bool := b.f K.TRG_SRC u 16 16 == 1
def Block.tgPlace (b : Block) (u : Nat) : Bool := b.f K.TRG_SRC u 17 17 == 1
def Block.tgSlope (b : Block) (u : Nat) : Nat := b.f K.TRG_SEL u 3 2

/-- Whether a unit is armed or draining, and the intervals it holds, oldest first. -/
def TrgUnit.intervals (x : TrgUnit) : List Arm := x.drains ++ x.arm.toList

/-! ## Configurations that a later ARM has replaced (R171) -/

/-- Run `f` with older parameter values in place, and put the present ones back. -/
def Block.underCfg {α : Type} (o : Tab Word) (b : Block) (f : Block → Block × α) : Block × α :=
  let keep := o.map (fun e => (e.1, tfind b.params e.1))
  let r := f { b with params := o.foldl (fun p e => tset p e.1 e.2) b.params }
  ({ r.1 with params := keep.foldl (fun p e => match e.2 with | some v => tset p e.1 v | none => tdel p e.1) r.1.params }, r.2)

/-! ## Times and indices (R180 to R182) -/

/-- A Fysiva time as a number of 2^-16 ns. -/
def Fysiva.units (t : Fysiva) : Int := ((t.sec * 1000000000 + t.ns) * 65536 + t.frac : Nat)

/-- A number of 2^-16 ns as a Fysiva time. -/
def unitsTime (t : Int) (q : Nat) : Fysiva := timeAt 0 t q

/-- The position, in 2^-32 input positions, at which the converter took what was there at a time in 2^-16 ps, as a fraction. -/
def Block.lnPosAt (b : Block) (i : Nat) (t : Int) : Int × Nat :=
  let x := b.lane i
  ((t - (b.lnEpoch i * 1280 * 65536000 : Nat)) * (x.finN * 2 ^ 32 : Nat), x.finD * 65536000000000000)

/-- n and FRAC of R180 for a time in 2^-16 ps. -/
def Block.lnAtTime (b : Block) (i : Nat) (t : Int) : Nat × Nat :=
  let (x, y) := b.lnPosAt i t
  let p := iceilDiv x y
  let n := max (b.lnIdxAt i p) 0
  let fr := rndEven (1024 * (b.lnP32 i n * y - x)) (y * b.lnStepAt i n)
  (n.toNat, if 1023 < fr then 1023 else fr.toNat)

/-- T(n) less FRAC/1,024 of a lane sample (R173). -/
def Block.lnTimeFrac (b : Block) (i n frac : Nat) : Fysiva :=
  let x := b.lane i
  let p := b.lnP32 i n * 1024 - (frac * b.lnStepAt i n : Nat)
  timeAt (b.lnEpoch i) (rndEven (p * x.finD * 1000000000) (x.finN * 67108864)) b.quality

/-- The flags of a lane sample as a report carries them in [7:4]: those it left the lane with, or, of a sample that has not
left, S as its settling run says and the others free (log entry 15). -/
def Block.sampleFlags (b : Block) (i n : Nat) : Nat :=
  let x := b.lane i
  match x.recent.find? (fun e => e.1 == n) with
  | some e => e.2
  | none =>
    8 * b2n (x.runs.any (fun r => decide (r.start ≤ n) && decide (n < r.start + r.count))) + (Config.unseenFlags b.fresh).toNat

/-! ## Arming (R169 to R172) -/

/-- ARM_STATE as the intervals give it (R169, R186): a hold-off by samples or beats shows until a decision index at or beyond its end
has been evaluated, though it goes on discarding earlier trigger points. -/
def Block.trgShow (b : Block) (u : Nat) : Block :=
  let x := b.trg u
  let code := match x.arm with
    | some a => (match a.hold with
      | .none => 1
      | .upTo e => if a.last.any (fun l => decide (e ≤ l)) then 1 else 2
      | .events _ => 2)
    | none => if x.drains.isEmpty then 0 else 3
  b.pf K.TRG_ARM_STATE u 1 0 code

/-- first(b), or the lane's first index while first(b) is not defined. -/
def Block.firstOr (b : Block) (i beat : Nat) : Nat := if (b.lane i).running ∧ b.lnEpoch i ≤ beat then b.lnFirst i beat else (b.lane i).startIdx

/-- The parameters of a unit that a held write waits for. -/
def Block.heldFor (b : Block) (blk i : Nat) : Tab Word := b.waiting.filter (fun e => decide (keyBlock e.1 = blk) && decide (keyInst e.1 = i))

/-- The held writes of a unit come into force (R8 ARM, R171). -/
def Block.takeHeld (b : Block) (blk i : Nat) : Block :=
  let h := b.heldFor blk i
  { b with params := h.foldl (fun p e => tset p e.1 e.2) b.params,
           waiting := b.waiting.filter (fun e => !(decide (keyBlock e.1 = blk) && decide (keyInst e.1 = i))) }

/-- ARM performed at the present beat: a unit already armed is left as it is (R62, R171). -/
def Block.trgArm (b : Block) (u : Nat) : Block :=
  let x := b.trg u
  if x.arm.isSome then b
  else
    let old : Tab Word := (b.heldFor bTRG u).map (fun e => (e.1, BitVec.ofNat 64 (b.val e.1)))
    let drains := x.drains.map (fun a => { a with cfg := old.foldl (fun c e => if (tfind c e.1).isSome then c else tset c e.1 e.2) a.cfg })
    let b := b.takeHeld bTRG u
    let n := b.firstOr (b.tgLane u) b.beat
    let b := (b.setTrg u { arm := some { lo := n, loBeat := b.beat }, drains := drains }).trgShow u
    b.raise (256 + 8 * u + 1) (beBytes 8 n)

/-- The end of an interval: EV_TRG_DISARMED (R195); the last index evaluated is free when none was. -/
def Block.trgEnded (b : Block) (u : Nat) (a : Arm) : Block :=
  b.raise (256 + 8 * u + 2) (beBytes 1 a.reason ++ zeros 7 ++ beBytes 8 (a.last.getD (Config.noDecision u).toNat))

/-- DISARM, or ENABLE = 0, performed at the present beat (R167, R169). -/
def Block.trgDisarm (b : Block) (u reason : Nat) : Block :=
  let x := b.trg u
  match x.arm with
  | none => b
  | some a =>
    let a := { a with hi := some (b.firstOr (b.tgLane u) b.beat), hiBeat := b.beat, reason := reason }
    (b.setTrg u { arm := none, drains := x.drains ++ [a] }).trgShow u

/-- View `j` has delivered every spectrum whose detection sample is below `hi`. -/
def Block.viewPast (b : Block) (j hi : Nat) : Bool :=
  let v := b.view j; let n := b.vwSize j
  b.isOff bXFM j || (decide (hi ≤ v.complete + n - 1) && v.ready.all (fun w => decide (hi ≤ w.s + n - 1)))

/-- Plane `p` has closed every frame whose last spectrum has its detection sample below `hi` (R179). -/
def Block.planePast (b : Block) (p hi : Nat) : Bool :=
  let x : Plane := tget {} b.planes p
  b.isOff 0x0A p || (b.viewPast (b.f K.DEN_SRC p 6 0) hi && (x.last.toList ++ (x.closing.bind (·.last)).toList).all (fun s => decide (hi ≤ s.det)) &&
    x.closing.all (·.last.isSome))

/-- Whether every condition of a draining interval has been evaluated (R169); of pins, reports and times only a command or the next
boundary can tell. -/
def Block.trgDrained (b : Block) (u : Nat) (a : Arm) : Bool :=
  let hi := a.hi.getD 0
  match b.tgSource u with
  | 0 | 1 | 2 | 9 => decide (hi ≤ (b.lane (b.tgLane u)).next) || b.isOff bLANE (b.tgLane u)
  | 3 => b.viewPast (b.tgView u) hi
  | 4 => b.planePast (b.tgPlane u) hi
  | _ => false

/-- The sources whose conditions are instants (R169), and FORCE, which has none of its own. -/
def Block.tgInstants (b : Block) (u : Nat) : Bool := decide (4 < b.tgSource u) && b.tgSource u != 9

/-- End the intervals that have drained; `all` also ends those whose last edge, report or instant has been seen. -/
def Block.trgDrain (b : Block) (u : Nat) (all : Bool) : Block :=
  let x := b.trg u
  let done (a : Arm) : Bool := (b.underCfg a.cfg (fun b => (b, b.trgDrained u a || (all && b.tgInstants u)))).2
  let b := (b.setTrg u { x with drains := x.drains.filter (fun a => !done a) }).trgShow u
  (x.drains.filter done).foldl (fun b a => b.trgEnded u a) b

/-! ## The qualifier (R185) and hold-off (R186) -/

def Block.qualified (b : Block) (u : Nat) : Bool :=
  let x := b.lane (b.tgLane u)
  let th := b.f K.TRG_QUAL_THRESH u 47 0
  let pin := bit (b.val (ki K.TRG_IN_LEVEL (0x30 + b.f K.TRG_QUAL u 5 3))) 0
  match b.f K.TRG_QUAL u 2 0 with
  | 0 => true
  | 1 => pin
  | 2 => !pin
  | 3 => decide (th ≤ x.rmsMean)
  | 4 => decide (x.rmsMean < th)
  | 5 => decide (th ≤ x.env)
  | 6 => decide (x.env < th)
  | _ => b.f K.TRG_QUAL_GATE u 0 0 == 1

/-- The hold-off that a fire starts (R186). -/
def Block.holdAfter (b : Block) (u point : Nat) : Hold :=
  let len := b.val (ki K.TRG_HOLD_LEN u)
  let i := b.tgLane u
  if len = 0 then .none
  else match b.f K.TRG_HOLD u 1 0 with
    | 0 => .none
    | 1 => .upTo (point + len)
    | 2 => .upTo (b.lnFirst i (b.lnBeatOf i point + len))
    | _ => .events len

/-- A decision index lies outside an armed interval. -/
def Arm.outside (a : Arm) (d : Nat) : Bool := decide (d < a.lo) || (match a.hi with | some h => decide (h ≤ d) | none => false)

/-- A decision index has been evaluated (R186, R195). -/
def Arm.saw (a : Arm) (d : Nat) : Arm := { a with last := some (match a.last with | some l => max l d | none => d) }

/-! ## Fires (R173, R187, R511) -/

/-- Whether a unit's path misses its bound (R190): never outside the span of the safe clock, and free within it. -/
def Block.misses (b : Block) (u : Nat) : Bool := b.lateSpan && Config.lateFire u b.fresh

/-- A fire: the report, the counters and EV_TRG_FIRED. -/
def Block.fire (b : Block) (u : Nat) (c : Cond) (forced test : Bool) : Block × Report :=
  let seq := (b.val (ki K.TRG_FIRE_SEQ u) + 1) % 2 ^ 32
  let fl := b2n forced + 2 * b2n c.noInterp + 4 * b2n c.late + 8 * b2n test + 16 * c.sogm
  let view := if c.q = 2 ^ 64 - 1 then none else match b.tgSource u with
    | 3 => some (b.tgView u)
    | 4 => some (b.f K.DEN_SRC (b.tgPlane u) 6 0)
    | _ => none
  let r : Report := ⟨u, b.tgSource u, b.tgLane u, fl, c.point, c.decision, c.frac, c.tp, c.q, c.bin, c.excess, seq, view⟩
  let b := (b.inc K.TRG_FIRES u 1).pv K.TRG_LAST_POINT u c.point
  let b := (b.pv K.TRG_LAST_DECISION u c.decision).pv K.TRG_FIRE_SEQ u seq
  let b := if b.lateSpan then b.tick else b
  let b := if bit (b.val (ki K.TRG_ACT u)) 8 then
      b.raiseAt (256 + 8 * u) (beBytes 8 c.point ++ beBytes 2 c.frac ++ beBytes 1 r.source ++ beBytes 1 fl ++ beBytes 4 seq) c.tp
    else b
  (b, r)

/-- A report with the actions that the configuration in force gives it. -/
def Block.withActions (b : Block) (u : Nat) (r : Report) (v : Option Violation) : Fire :=
  ⟨r, b.val (ki K.TRG_ACT_CAP u), b.val (ki K.TRG_ACT u), b.f K.TRG_ACT_JUMP u 11 0, v⟩

/-- A condition is judged (R178, R185, R186): the qualifier first, then the hold-off; a fire with AUTO = 0 ends the
interval. -/
def Block.judge (b : Block) (u : Nat) (a : Arm) (c : Cond) (forced : Bool) : Block × Option Arm × List Fire :=
  if !forced && !b.qualified u then (b.inc K.TRG_QUAL_BLOCKED u 1, some a, [])
  else
    let held : Bool := !forced && (match a.hold with
      | .none => false
      | .upTo e => decide (c.point < e)
      | .events n => decide (0 < n))
    if held then
      let a := match a.hold with
        | .events n => { a with hold := if n ≤ 1 then .none else .events (n - 1), hist := [] }
        | _ => a
      (b.inc K.TRG_HELD_OFF u 1, some a, [])
    else
      let (b, r) := b.fire u c forced false
      let f := b.withActions u r none
      if b.tgAuto u then (b, some { a with hist := [], hold := b.holdAfter u c.point }, [f])
      else (b.trgEnded u { a with reason := 1, last := some (max (a.last.getD 0) c.decision) }, none, [f])

/-- A failed test (R193, R194, R511): the first after an ARM is the violation, which is a fire in every other respect. -/
def Block.testFail (b : Block) (u : Nat) (a : Arm) (c : Cond) (v : Violation) : Block × Option Arm × List Fire :=
  let b := b.inc K.TRG_FAILS u 1
  if a.violated then (b, some a, [])
  else
    let b := b.raiseAt (256 + 8 * u + 3)
      (beBytes 8 v.index ++ beBytes 2 (uns 16 c.bin) ++ beBytes 2 (uns 16 c.excess) ++ beBytes 1 v.broken) c.tp
    let (b, r) := b.fire u c false true
    (b, some { a with violated := true }, [b.withActions u r (some v)])

/-! ## Time-domain sources (R174 to R176) -/

/-- The value that LEVEL, POWER or ENVELOPE compares, its threshold and its hysteresis. -/
def Block.tdValue (b : Block) (u : Nat) (o : LaneOut) : Int × Int × Int :=
  let th := b.f K.TRG_THRESH u 47 0; let hy := b.f K.TRG_HYST u 47 0
  let x := b.lane (b.tgLane u)
  match b.tgSource u with
  | 1 => (x.rmsMean, th, hy)
  | 2 => (x.env, th, hy)
  | _ =>
    match b.f K.TRG_SEL u 1 0 with
    | 0 => (o.i * o.i + o.q * o.q, th, hy)
    | 1 => (o.i, sgn 24 th, (hy % 2 ^ 24 : Nat))
    | _ => (o.q, sgn 24 th, (hy % 2 ^ 24 : Nat))

/-- Whether a unit evaluates a lane output (R174, R176). -/
def Block.tdEvaluates (b : Block) (u : Nat) (o : LaneOut) : Bool :=
  if b.tgSource u = 0 then
    o.valid && !(o.s && b.f K.TRG_SRC u 18 18 == 1) && !(o.o && b.f K.TRG_SRC u 19 19 == 1)
  else o.valid && !(o.s && b.f K.LANE_DET_CTRL (b.tgLane u) 15 15 == 1)

/-- FRAC of a crossing (R175); `up` for a rising one. -/
def crossFrac (x prev th : Int) (up : Bool) : Nat :=
  let num := if up then x - th else th - x
  let den := if up then x - prev else prev - x
  if num ≤ 0 ∨ den ≤ 0 then 0 else (min 1023 (rndEven (1024 * num) den.toNat)).toNat

/-- ENVELOPE in test mode: 1,280 log10(e / 2^46), rounded; of an envelope of 0 it is free (log entry 16). -/
def envDbq (e : Nat) : Int :=
  if e = 0 then Config.logOfZero
  else rndEven (((fxLog2 e : Int) - 46 * (2 ^ 40 : Nat)) * (423662055093639 : Nat)) (2 ^ 80)

/-- A lane output is evaluated in one interval of a time-domain unit. -/
def Block.tdStep (b : Block) (u : Nat) (a : Arm) (o : LaneOut) (late : Bool) : Block × Option Arm × List Fire :=
  let i := b.tgLane u
  if a.outside o.n then (b, some a, [])
  else
    let a := a.saw o.n
    if !b.tdEvaluates u o then (b, some { a with prev := none }, [])
    else if b.tgTest u then
      if !b.qualified u then (b.inc K.TRG_QUAL_BLOCKED u 1, some a, [])
      else
        let b := b.inc K.TRG_TESTS u 1
        let v := envDbq (b.lane i).env
        let up := sgn 16 (b.f K.TRG_TEST_LIM u 15 0); let dn := sgn 16 (b.f K.TRG_TEST_LIM u 31 16)
        if up < v ∨ v < dn then
          let high := decide (up < v)
          b.testFail u a { point := o.n, decision := o.n, sogm := o.sogm, tp := b.lnTime i o.n,
                           excess := satS 16 (if high then v - up else dn - v), late := late }
            ⟨1, b2n (!high), o.n, b.f K.TRG_TEST_CFG u 0 0 == 1, b.val (ki K.TRG_TEST_POST u)⟩
        else (b, some a, [])
    else
      let (x, th, hy) := b.tdValue u o
      let sl := b.tgSlope u
      let rise := a.primR && decide (th ≤ x) && sl != 1
      let fall := a.primF && decide (x ≤ th) && sl != 0
      let primR := if rise then false else a.primR || decide (x ≤ th - hy)
      let primF := if fall then false else a.primF || decide (th + hy ≤ x)
      let prev := match a.prev with | some (n, v) => if n + 1 = o.n then some v else none | none => none
      let a := { a with primR := primR, primF := primF, prev := some (o.n, x) }
      if rise ∨ fall then
        let level := b.tgSource u == 0
        let frac := match prev with | some v => if level then crossFrac x v th rise else 0 | none => 0
        b.judge u a { point := o.n, decision := o.n, frac := frac, noInterp := level && prev.isNone, sogm := o.sogm,
                      tp := b.lnTimeFrac i o.n frac, late := late } false
      else (b, some a, [])

/-! ## Frequency masks (R177, R178, R193) -/

/-- A point of a mask: its frequency and level. -/
def Block.maskPoint (b : Block) (u : Nat) (low : Bool) (k : Nat) : Int × Int :=
  let v := b.val (ki ((if low then K.TRG_MASK_L else K.TRG_MASK_U) + k) u)
  (sgn 21 (bits v 20 0), sgn 16 (bits v 47 32))

/-- The points of a mask. -/
def Block.maskPoints (b : Block) (u : Nat) (low : Bool) : List (Int × Int) :=
  (List.range (if low then b.f K.TRG_MASK_CFG u 29 16 else b.f K.TRG_MASK_CFG u 13 0)).map (b.maskPoint u low)

/-- The level of a mask at a frequency; none outside its span (R177). -/
def maskLevel : List (Int × Int) → Int → Option Int
  | [], _ => none
  | [(x, l)], f => if f = x then some l else none
  | (xa, la) :: (xb, lb) :: t, f =>
    if f < xa then none
    else if f ≤ xb then some (rndEven (la * (xb - xa) + (lb - la) * (f - xa)) (xb - xa).toNat)
    else maskLevel ((xb, lb) :: t) f

/-- The bin of greatest excess over the masks tested: bin, excess, and 0 for the upper mask, 1 for the lower (R173). -/
def worstBin (up lo : List (Int × Int)) (sp : Spectrum) : Option (Int × Int × Nat) :=
  let step : Int := (2 ^ (20 - sp.n) : Nat)
  (sp.bins.mapIdx (fun k p => ((sp.first + k : Int), p.dbq))).foldl (fun (best : Option (Int × Int × Nat)) (k, v) =>
    let better (best : Option (Int × Int × Nat)) (e : Int) (w : Nat) : Option (Int × Int × Nat) :=
      if e ≤ 0 then best else match best with
        | some (_, e0, _) => if e0 < e then some (k, e, w) else best
        | none => some (k, e, w)
    let best := match maskLevel up (k * step) with | some l => better best (v - l) 0 | none => best
    match maskLevel lo (k * step) with | some l => better best (l - v) 1 | none => best) none

/-- A spectrum is evaluated in one interval of an FMASK unit: answers also the verdict of a test (R193). -/
def Block.fmaskStep (b : Block) (u : Nat) (a : Arm) (sp : Spectrum) :
    Block × Option Arm × List Fire × Option (Bool × Int × Int × Nat) :=
  let i := b.tgLane u
  let det := sp.s + 2 ^ sp.n - 1
  if a.outside det then (b, some a, [], none)
  else
    let a := a.saw det
    let test := b.tgTest u
    let sel := b.f K.TRG_SEL u 1 0
    let up := if test ∨ sel ≠ 1 then b.maskPoints u false else []
    let lo := if test ∨ sel ≠ 0 then b.maskPoints u true else []
    let worst := if sp.exclTrg then none else worstBin up lo sp
    let point := if b.tgPlace u then det else sp.s
    let c (k e : Int) : Cond := { point := point, decision := det, sogm := sp.flags, tp := b.lnTime i point, q := sp.q, bin := k,
                                  excess := satS 16 e, late := b.misses u }
    if test then
      if sp.exclTrg then (b, some a, [], none)
      else if !b.qualified u then (b.inc K.TRG_QUAL_BLOCKED u 1, some a, [], none)
      else
        let b := b.inc K.TRG_TESTS u 1
        match worst with
        | none => (b, some a, [], some (true, -32768, 0, 0))
        | some (k, e, w) =>
          let (b, a, f) := b.testFail u a (c k e)
            ⟨0, w, sp.q, b.f K.TRG_TEST_CFG u 0 0 == 1, b.val (ki K.TRG_TEST_POST u)⟩
          (b, a, f, some (false, k, satS 16 e, w))
    else
      let m := b.f K.TRG_NM u 11 6 + 1; let n := b.f K.TRG_NM u 5 0 + 1
      let a := { a with hist := (worst.isSome :: a.hist).take m }
      match worst with
      | some (k, e, _) =>
        if n ≤ (a.hist.filter id).length then
          let (b, a, f) := b.judge u a (c k e) false
          (b, a, f, none)
        else (b, some a, [], none)
      | none => (b, some a, [], none)

/-! ## The intervals of a unit -/

/-- Run a step on every interval of a unit, each under its own configuration, and collect the fires. -/
def Block.eachArm (b : Block) (u : Nat) (f : Block → Arm → Block × Option Arm × List Fire) : Block × List Fire :=
  let x := b.trg u
  let run (b : Block) (a : Arm) : Block × Option Arm × List Fire := b.underCfg a.cfg (fun b => f b a)
  let (b, ds, fs) := x.drains.foldl (fun (acc : Block × List Arm × List Fire) a =>
    let (b, a, f) := run acc.1 a; (b, acc.2.1 ++ a.toList, acc.2.2 ++ f)) (b, [], [])
  match x.arm with
  | none => ((b.setTrg u { arm := none, drains := ds }).trgShow u, fs)
  | some a =>
    let (b, a, f) := run b a
    ((b.setTrg u { arm := a, drains := ds }).trgShow u, fs ++ f)

/-- Whether any interval of a unit takes a source, under its own configuration. -/
def Block.tgTakes (b : Block) (u : Nat) (p : Block → Bool) : Bool :=
  (b.trg u).intervals.any (fun a => (b.underCfg a.cfg (fun b => (b, p b))).2)

/-- The units for which `p` holds in some interval, ascending. -/
def Block.unitsFor (b : Block) (p : Block → Nat → Bool) : List Nat := which 16 (fun u => b.tgTakes u (fun b => p b u))

/-- The time-domain units of a lane evaluate an output; their fires share one core cycle (R189). -/
def Block.tdAll (b : Block) (i : Nat) (o : LaneOut) (late : Bool) : Block × List Fire :=
  let mine (b : Block) (u : Nat) : Bool := decide (b.tgSource u < 3) && b.tgLane u == i
  let late := late && b.lateSpan
  (b.unitsFor mine).foldl (fun (acc : Block × List Fire) u =>
    let (b, f) := acc.1.eachArm u (fun b a => if mine b u then b.tdStep u a o late else (b, some a, []))
    (b, acc.2 ++ f)) (b, [])

/-- The WEAVER units of a lane detect the requests whose samples have left it (R183). -/
def Block.reqAll (b : Block) (i : Nat) : Block × List Fire :=
  let mine (b : Block) (u : Nat) : Bool := b.tgSource u == 9 && b.tgLane u == i
  (b.unitsFor mine).foldl (fun (acc : Block × List Fire) u =>
    let (b, f) := acc.1.eachArm u (fun b a =>
      if !mine b u then (b, some a, [])
      else
        let due := a.reqs.filter (fun q => decide (q.1 < (b.lane i).next))
        due.foldl (fun (r : Block × Option Arm × List Fire) q =>
          match r.2.1 with
          | none => r
          | some a =>
            let n := q.1
            let a : Arm := { a with reqs := a.reqs.erase q }
            -- an interval may have ended below a request that it held
            if a.outside n then (r.1, some a, r.2.2)
            else
              let (b, a, f) := r.1.judge u (a.saw n)
                { point := n, decision := n, sogm := r.1.sampleFlags i n, tp := r.1.lnTime i n, late := q.2 || r.1.misses u } false
              (b, a, r.2.2 ++ f)) (b, some a, []))
    (b, acc.2 ++ f)) (b, [])

/-- A trigger request from a core (R183), with its LATE mark (R304): it is held until its sample has left the lane. -/
def Block.trgRequest (b : Block) (u n : Nat) (late : Bool) : Block × List Fire :=
  let (b, _) := b.eachArm u (fun b a =>
    (b, some (if b.tgSource u == 9 && !a.outside n then { a with reqs := a.reqs ++ [(n, late)] } else a), []))
  b.reqAll (b.tgLane u)

/-- The FMASK units of a view evaluate a spectrum; the tap queues take the verdicts of tests. -/
def Block.fmaskAll (b : Block) (sp : Spectrum) : Block × List Fire × List (Nat × Bool × Int × Int × Nat) :=
  let mine (b : Block) (u : Nat) : Bool := b.tgSource u == 3 && b.tgView u == sp.view
  (b.unitsFor mine).foldl (fun (acc : Block × List Fire × List (Nat × Bool × Int × Int × Nat)) u =>
    let x := acc.1.trg u
    let verdicts := x.intervals.filterMap (fun a => (acc.1.underCfg a.cfg (fun b =>
      (b, if mine b u then (b.fmaskStep u a sp).2.2.2 else none))).2)
    let (b, f) := acc.1.eachArm u (fun b a =>
      if mine b u then (let r := b.fmaskStep u a sp; (r.1, r.2.1, r.2.2.1)) else (b, some a, []))
    (b, acc.2.1 ++ f, acc.2.2 ++ verdicts.map (fun v => (u, v)))) (b, [], [])

/-- A condition of an instant `t` (in 2^-16 ns) that a pin, a report or the time base gives (R180 to R182): it lies in the
interval when its instant does (R169). -/
def Block.instantStep (b : Block) (u : Nat) (a : Arm) (t : Int) (offs : Int) (tp : Fysiva) (late : Bool) :
    Block × Option Arm × List Fire :=
  let beat : Nat := 1280 * 65536
  if t < (a.loBeat * beat : Nat) ∨ (a.hi.isSome ∧ ((a.hiBeat * beat : Nat) : Int) ≤ t) then (b, some a, [])
  else
    let i := b.tgLane u
    let (n, fr) := b.lnAtTime i (t * 1000 + offs * 65536)
    b.judge u (a.saw n) { point := n, decision := n, frac := fr, sogm := b.sampleFlags i n, tp := tp, late := late } false

/-- The EXT (5) or TIU (6) units of an input take a stamped edge. -/
def Block.edgeAll (b : Block) (src m : Nat) (rising : Bool) (t : Int) (q : Nat) (late : Bool) : Block × List Fire :=
  let mine (b : Block) (u : Nat) : Bool := b.tgSource u == src && b.f K.TRG_SEL u 6 4 == m &&
    (b.tgSlope u == 2 || (b.tgSlope u == 0) == rising)
  let late := late && b.lateSpan
  (b.unitsFor mine).foldl (fun (acc : Block × List Fire) u =>
    let (b, f) := acc.1.eachArm u (fun b a =>
      if mine b u then b.instantStep u a t (sgn 32 (b.val (ki K.TRG_OFFS u))) (unitsTime t q) late else (b, some a, []))
    (b, acc.2 ++ f)) (b, [])

/-- The PLAIT units of an event channel take a report (R181); `late` of a replayed one (R452). -/
def Block.plaitAll (b : Block) (ch : Nat) (tp : Fysiva) (late : Bool) : Block × List Fire :=
  let mine (b : Block) (u : Nat) : Bool := b.tgSource u == 7 && b.f K.TRG_SEL u 12 7 == ch
  (b.unitsFor mine).foldl (fun (acc : Block × List Fire) u =>
    let (b, f) := acc.1.eachArm u (fun b a =>
      if mine b u then b.instantStep u a tp.units (sgn 32 (b.val (ki K.TRG_OFFS u))) tp (late || b.misses u) else (b, some a, []))
    (b, acc.2 ++ f)) (b, [])

/-- A TIME unit's next instant (R182): instants before its interval are skipped; one beyond the beat in progress is not
due. -/
def Block.timeStep (b : Block) (u : Nat) (a : Arm) (late : Bool) : Block × Option Arm × List Fire :=
  let offs := sgn 32 (b.val (ki K.TRG_OFFS u))
  let p := b.val (ki K.TRG_TIME_PERIOD u)
  let t0 : Int := (b.val (ki K.TRG_TIME_AT u) * 1280000 * 65536 : Nat) + offs * 65536
  -- instants in 2^-16 ps
  let start : Int := (a.loBeat * 1280000 * 65536 : Nat)
  let per := p * 1280000 * 65536
  let skip := if p = 0 then 0 else (iceilDiv (start - t0) per).toNat
  let k := max a.timeK skip
  let t := t0 + (k * per : Nat)
  if (p = 0 ∧ 0 < k) ∨ t < start ∨ ((b.beat + 1) * 1280000 * 65536 : Nat) ≤ t ∨
      (a.hi.isSome ∧ ((a.hiBeat * 1280000 * 65536 : Nat) : Int) ≤ t) then (b, some a, [])
  else
    let i := b.tgLane u
    let (n, fr) := b.lnAtTime i t
    let c : Cond := { point := n, decision := n, frac := fr, sogm := b.sampleFlags i n,
                      tp := unitsTime (rndEven t 1000) b.quality, late := late }
    b.judge u (({ a with timeK := k + 1 } : Arm).saw n) c false

def Block.timeUnit (b : Block) (u : Nat) (late : Bool) : Block × List Fire :=
  b.eachArm u (fun b a => if b.tgSource u == 8 then b.timeStep u a (late && b.lateSpan) else (b, some a, []))

/-- FORCE at the present beat (R184): the trigger point is first(B); qualifier and hold-off are bypassed. -/
def Block.forceUnit (b : Block) (u : Nat) : Block × List Fire :=
  let x := b.trg u
  match x.arm with
  | none => (b, [])
  | some a =>
    let i := b.tgLane u
    let n := b.firstOr i b.beat
    let (b, a, f) := b.judge u a { point := n, decision := n, sogm := b.sampleFlags i n, tp := b.lnTime i n,
                                    late := b.misses u } true
    ((b.setTrg u { x with arm := a }).trgShow u, f)

/-! ## Checks of an ARM (R170) -/

/-- Whether the points of a mask rise strictly. -/
def ascending : List (Int × Int) → Bool
  | (x, _) :: (y, m) :: t => decide (x < y) && ascending ((y, m) :: t)
  | _ => true

/-- Every value of the configuration lies in this chapter's ranges. `planeOk` says that a region lies in a plane. -/
def Block.trgValuesOk (b : Block) (u : Nat) (planeOk : Nat → Nat → Bool) : Bool :=
  let s := b.tgSource u
  let high (v : Nat) : Bool := decide (v < 2 ^ 24)
  decide (s ≤ 10) && b.f K.TRG_SRC u 10 9 != 3 &&
  b.f K.TRG_SEL u 1 0 != 3 && b.tgSlope u != 3 &&
  (s != 0 || b.f K.TRG_SEL u 1 0 == 0 || (high (b.f K.TRG_THRESH u 47 0) && high (b.f K.TRG_HYST u 47 0))) &&
  decide (b.f K.TRG_NM u 5 0 ≤ b.f K.TRG_NM u 11 6) &&
  decide (b.f K.TRG_MASK_CFG u 13 0 ≤ 8192) && decide (b.f K.TRG_MASK_CFG u 29 16 ≤ 8192) &&
  ascending (b.maskPoints u false) && ascending (b.maskPoints u true) &&
  (!b.tgTest u || s == 2 || s == 3) &&
  (s != 4 || (List.range 8).all (fun r => b.f K.TRG_DEN u (16 + r) (16 + r) == 0 || planeOk (b.tgPlane u) (b.val (ki (K.TRG_REGION + r) u))))

/-- The check of a unit's ARM (R170), under the configuration that it will bring into force. -/
def Block.trgArmCheck (b : Block) (u : Nat) (planeOk : Nat → Nat → Bool) : Status :=
  let b := b.takeHeld bTRG u
  let i := b.tgLane u
  if b.tgSource u = 4 ∧ b.dev ≠ .flow then .notInThaw
  else if b.isOff bTRG u then .state
  else if b.moving bTRG u then .busy
  else if b.isOff bLANE i ∨ (b.tgSource u = 3 ∧ b.isOff bXFM (b.tgView u)) ∨ (b.tgSource u = 4 ∧ b.isOff 0x0A (b.tgPlane u)) then .state
  else need (b.trgValuesOk u planeOk) .paramRange

/-- Whether a unit that is armed or draining names a lane, a view or a plane (R137, R172). -/
def Block.trgUsesLane (b : Block) (i : Nat) : Bool := (List.range 16).any (fun u => b.tgTakes u (fun b => b.tgLane u == i))
def Block.trgUsesView (b : Block) (j : Nat) : Bool :=
  (List.range 16).any (fun u => (!b.isOff bTRG u && b.tgSource u == 3 && b.tgView u == j) ||
    b.tgTakes u (fun b => b.tgSource u == 3 && b.tgView u == j))
def Block.trgUsesPlane (b : Block) (p : Nat) : Bool :=
  (List.range 16).any (fun u => b.tgTakes u (fun b => b.tgSource u == 4 && b.tgPlane u == p))

/-! ## TRIG_OUT (R192) -/

def Block.outPin (b : Block) (k : Nat) : OutPin := tget {} b.outPins k
/-- Drive TRIG_OUT[k]: INVERT applies. -/
def Block.driveOut (b : Block) (k : Nat) (on : Bool) (x : OutPin) (ps : Int := 0) : Block :=
  let inv := b.f K.TRG_OUT_CFG (0x20 + k) 2 2 == 1
  let b := { b with outPins := tset b.outPins k { x with on := on } }
  if x.on = on then b else b.send (.pin "TRIG_OUT" k (on != inv) ps)

/-- A pulse of WIDTH begins, or is extended, at an instant given in ps after the start of the beat: that of a TIMED pulse, or the
present one. Its width runs from there. -/
def Block.pulseOut (b : Block) (k : Nat) (timed : Option Int := none) : Block :=
  let x := b.outPin k
  let b := if x.on then b else b.inc K.TRG_OUT_PULSES (0x20 + k) 1
  let at' : Int := match timed with
    | some ps => ((b.clock - b.cycle) * 625 : Nat) + ps
    | none => (b.clock * 625 : Nat)
  b.driveOut k true { x with stop := (at' + (b.f K.TRG_OUT_CFG (0x20 + k) 18 3 * 625 : Nat)).toNat } (timed.getD 0)

/-- The instants of a beat and cycle, in 2^-16 ns. -/
def Block.nowUnits (b : Block) : Int := (b.beat * 1280 * 65536 + cycleUnits b.cycle : Nat)

/-- A fire selects TRIG_OUT[k]. -/
def Block.fireOut (b : Block) (k : Nat) (tp : Fysiva) : Block :=
  match b.f K.TRG_OUT_CFG (0x20 + k) 1 0 with
  | 0 => b.pulseOut k
  | 1 =>
    let t := tp.units * 1000 + (b.val (ki K.TRG_OUT_DELAY (0x20 + k)) * 65536 : Nat)
    let x := b.outPin k
    if t < b.nowUnits * 1000 then (b.inc K.TRG_OUT_LATE (0x20 + k) 1).pulseOut k
    else if 16 ≤ x.pend.length then b.inc K.TRG_OUT_LATE (0x20 + k) 1
    else { b with outPins := tset b.outPins k { x with pend := x.pend ++ [t] } }
  | _ => b

/-- The earliest scheduled pulse is asserted, once its instant lies in the beat in progress or before. -/
def Block.timedPulse (b : Block) (k : Nat) : Block :=
  let x := b.outPin k
  match x.pend with
  | [] => b
  | t :: r =>
    let t := r.foldl min t
    if t < ((b.beat + 1) * 1280000 * 65536 : Nat) then
      ({ b with outPins := tset b.outPins k { x with pend := x.pend.erase t } }).pulseOut k
        (some (rndEven (t - (b.beat * 1280000 * 65536 : Nat)) 655360 * 10))
    else b

/-- A pulse ends when its width has passed. -/
def Block.outPulseEnd (b : Block) (k : Nat) : Block :=
  let x := b.outPin k
  if x.on ∧ b.f K.TRG_OUT_CFG (0x20 + k) 1 0 ≠ 2 ∧ x.stop ≤ b.clock * 625 then b.driveOut k false x else b

/-- OUT_CFG comes into force: PASS follows its pin, a pin that leaves PASS is released, and INVERT shows at once. -/
def Block.outConfigured (b : Block) (k old : Nat) : Block :=
  let new := b.val (ki K.TRG_OUT_CFG (0x20 + k))
  let x := b.outPin k
  if bits new 1 0 = 2 then
    let on := bit (b.val (ki K.TRG_IN_LEVEL (0x30 + bits new 21 19))) 0
    b.driveOut k on { x with on := if bit old 2 = bit new 2 then x.on else !on }
  else if bits old 1 0 = 2 then b.driveOut k false { x with on := if bit old 2 = bit new 2 then x.on else true }
  else if bit old 2 ≠ bit new 2 then b.driveOut k x.on { x with on := !x.on }
  else b

/-- TRIG_IN[m] takes a level: every PASS output on it follows (R192). -/
def Block.passPins (b : Block) (m : Nat) (level : Bool) : Block :=
  (List.range 8).foldl (fun b k =>
    if b.f K.TRG_OUT_CFG (0x20 + k) 1 0 = 2 ∧ b.f K.TRG_OUT_CFG (0x20 + k) 21 19 = m then b.driveOut k level (b.outPin k) else b) b

/-! ## Life of a unit (R167) -/

def Block.trgStart (b : Block) (u : Nat) : Block := (b.setLife bTRG u lStarting).pv K.TRG_FIRE_SEQ u 0
def Block.trgStop (b : Block) (u : Nat) : Block := (b.setLife bTRG u lStopping).trgDisarm u 2
def Block.trgBoundary (b : Block) (u : Nat) : Block :=
  -- an edge of an earlier beat has been seen by now
  let b := if (b.trg u).drains.any (fun a => decide (a.hiBeat < b.beat)) then b.trgDrain u true else b
  if b.life bTRG u = lStarting then b.setLife bTRG u lOn
  else if b.life bTRG u = lStopping ∧ (b.trg u).drains.isEmpty then b.setLife bTRG u lOff
  else b

end Sys2Proof.Machine
end

