-- ==== Sys2Proof/Machine/Hbm.lean ====
section
/-! DEFINITION. The capture memory controller (R229 to R247): the address map, units and owners, scheduling, refresh,
training, the failure ladder and sleep. -/
namespace Sys2Proof.Machine

def bMEM : Nat := 0x09
/-- The MEM instances of stack `s`, port `p` and pseudo-channel `P`. -/
def stackInst (s : Nat) : Nat := 0x10 + s
def portInst (p : Nat) : Nat := 0x40 + p
def pcInst (p : Nat) : Nat := 0x80 + p

def Block.pc (b : Block) (p : Nat) : Pc := tget {} b.pcs p
def Block.setPc (b : Block) (p : Nat) (x : Pc) : Block := { b with pcs := tset b.pcs p x }

/-! ## The DEGRADED condition (R476) -/

/-- A cause of DEGRADED is newly set: EV_DEGRADED (977). -/
def Block.setCause (b : Block) (c unit : Nat) : Block :=
  if bit (b.val K.SYS_DEGRADED_CAUSES) (c - 1) then b
  else (b.pf K.SYS_DEGRADED_CAUSES 0 (c - 1) (c - 1) 1).raise 977 (beBytes 2 c ++ beBytes 4 unit)

/-- A cause of DEGRADED clears: EV_DEGRADED_CLEARED (980). -/
def Block.clearCause (b : Block) (c unit : Nat) : Block :=
  if bit (b.val K.SYS_DEGRADED_CAUSES) (c - 1) then
    (b.pf K.SYS_DEGRADED_CAUSES 0 (c - 1) (c - 1) 0).raise 980 (beBytes 2 c ++ beBytes 4 unit)
  else b

/-! ## Organisation (R229, R230, R233) -/

/-- Pseudo-channel P is in service. -/
def Block.inService (b : Block) (p : Nat) : Bool := bit (b.val (ki K.MEM_PC_OK (stackInst (p / 32)))) (p % 32)
def Block.nPc (b : Block) : Nat := b.f K.MEM_N_PC 0 7 0

/-- svc_nat and svc_il (R233). -/
def Block.svcNat (b : Block) : List Nat := which 128 b.inService
def Block.svcIl (b : Block) : List Nat :=
  (List.range 128).filterMap (fun k =>
    -- key 8c + 4h + s
    let c := k / 8; let h := k % 8 / 4; let s := k % 4
    let p := 32 * s + 2 * c + h
    if b.inService p then some p else none)

/-! ## Units and owners (R231, R232, R264) -/

/-- U_p of the display buffer pool. -/
def poolUnits (n : Nat) : Nat := ceilDiv 96 (max 1 n)

/-- Every claim in force. -/
def Block.claims (b : Block) : List Claim :=
  let cap := (List.range 32).map (fun w => (⟨b.f K.CAP_RING w 7 0, b.f K.CAP_RING w 15 8, 1 + w, b.isOff 0x08 w⟩ : Claim))
  let spg := (List.range 16).map (fun s =>
    (⟨b.f K.DEN_SPG_RING (0x20 + s) 7 0, b2n (!b.isOff 0x0A (0x20 + s)), 0x30 + s, b.isOff 0x0A (0x20 + s)⟩ : Claim))
  let pool : Claim := ⟨b.f K.DEN_POOL 0x40 7 0, if b.f K.DEN_POOL 0x40 8 8 = 1 then b.poolSize else 0, 0x50, b.isOff 0x0A 0x40⟩
  let stm : Claim := ⟨b.f K.STM_STORE 0x10 7 0, b.f K.STM_STORE 0x10 15 8, 0x60,
    (List.range 4).all (fun c => b.isOff 0x0F c)⟩
  let wvr : Claim := ⟨b.f K.WVR_DMA_REGION 0x40 7 0, b.f K.WVR_DMA_REGION 0x40 15 8, 0x70,
    (List.range 64).all (fun c => b.isOff 0x0B c)⟩
  (cap ++ spg ++ [pool, stm, wvr]).filter (fun c => c.units != 0)

/-- The claim that holds a unit. -/
def Block.claimOf (b : Block) (u : Nat) : Option Claim :=
  b.claims.find? (fun c => decide (c.first ≤ u) && decide (u < c.first + c.units))

/-- Whether units `[u0, u0 + n)` are free of owners other than `owner` (R231). -/
def Block.unitsFree (b : Block) (u0 n owner : Nat) : Bool :=
  b.claims.all (fun c => c.owner == owner || decide (c.first + c.units ≤ u0) || decide (u0 + n ≤ c.first))

/-- The default order of an owner (R231). -/
def defaultOrder (owner : Nat) : Nat :=
  if owner = 0x70 then 3 else if owner = 0x50 ∨ (0x30 ≤ owner ∧ owner < 0x40) then 4 else 2

/-- The partition that a unit lies in: its first unit, its units, and its order (R232, R234). -/
def Block.partition (b : Block) (u : Nat) : Nat × Nat × Nat :=
  let (u0, n, owner) := match b.claimOf u with
    | some c => (c.first, c.units, c.owner)
    | none => (u, 1, 0)
  let o := b.f (K.MEM_UNIT + u0) 0 2 0
  (u0, n, if o = 0 then defaultOrder owner else o)

/-- The bytes of a partition of `u` units (R230). -/
def Block.capacity (b : Block) (u : Nat) : Nat := u * b.nPc * 8388608

/-- A partition's map: its first unit, its units, its order, and the pseudo-channels in service in the order that the
addresses take them (R233). -/
structure HbmMap where
  first : Nat
  units : Nat
  order : Nat
  svc : List Nat

/-- The map of the partition that a unit lies in. -/
def Block.hbmMap (b : Block) (u : Nat) : HbmMap :=
  let (u0, n, order) := b.partition u
  ⟨u0, n, order, if order = 1 then b.svcNat else b.svcIl⟩

/-- The pseudo-channel, slot and line of a byte at offset `o` of a partition (R233). -/
def HbmMap.place (x : HbmMap) (o : Nat) : Nat × Nat × Nat :=
  let l := o / 64
  let n := max 1 x.svc.length
  let gran (g : Nat) : Nat × Nat := let q := l / g; (x.svc.getD (q % n) 0, q / n * g + l % g)
  let (p, m) := match x.order with
    | 1 => (x.svc.getD (l / (x.units * 131072)) 0, l % (x.units * 131072))
    | 3 => gran 512
    | 4 => gran 16
    | _ => gran 4
  (p, x.first * 8192 + m / 16, m % 16)

/-- The address line's place of a line's first byte: pseudo-channel, slot, line. -/
def physical (p slot line : Nat) : Nat := ((p * 1098624 + slot) * 16 + line) * 64

/-- The pseudo-channel and the physical place of an address of memory space 0; none at or above its partition's capacity
(R234). -/
def HbmMap.at (x : HbmMap) (a : Nat) : Option (Nat × Nat) :=
  let o := a - x.first * 2 ^ 30
  if o < x.units * x.svc.length * 8388608 then
    let (p, slot, line) := x.place o
    some (p, spHbm (physical p slot line + o % 64))
  else none
def Block.hbmAt (b : Block) (a : Nat) : Option (Nat × Nat) := (b.hbmMap (a / 2 ^ 30)).at a

/-- The map of an address, kept while the addresses stay in its partition. -/
def Block.hbmStay (b : Block) (x : HbmMap) (a : Nat) : HbmMap :=
  let u := a / 2 ^ 30
  if x.first ≤ u ∧ u < x.first + x.units then x else b.hbmMap u

/-- Between the decision of a retirement and its boundary, writes are discarded and reads return zeros (R243). -/
def Block.retiring (b : Block) (p : Nat) : Bool := (b.pc p).retire.isSome

/-- Bytes of space 0 from an address. -/
def Block.hbmReads (b : Block) (m : Mem) (a n : Nat) : List Byte :=
  ((List.range n).foldl (fun (acc : HbmMap × List Byte) k =>
    let x := b.hbmStay acc.1 (a + k)
    (x, (match x.at (a + k) with
      | some (p, y) => if b.retiring p then 0 else b.rdByte m y
      | none => 0) :: acc.2)) (b.hbmMap (a / 2 ^ 30), [])).2.reverse
/-- Store bytes of space 0 from an address. -/
def Block.hbmStores (b : Block) (a : Nat) (l : List Byte) : Block :=
  let r := l.foldl (fun (acc : HbmMap × Nat × List MemOp) v =>
    let x := b.hbmStay acc.1 acc.2.1
    (x, acc.2.1 + 1, match x.at acc.2.1 with
      | some (p, y) => if b.retiring p then acc.2.2 else .byte y v :: acc.2.2
      | none => acc.2.2)) (b.hbmMap (a / 2 ^ 30), a, b.stores)
  { b with stores := r.2.2 }
/-- The byte at an address of space 0. -/
def Block.hbmRead (b : Block) (m : Mem) (a : Nat) : Byte := (b.hbmReads m a 1).headD 0
/-- Store a byte at an address of space 0. -/
def Block.hbmStore (b : Block) (a : Nat) (v : Byte) : Block := b.hbmStores a [v]

/-! ## Checks -/

/-- Step 8 for the MEM block: an ORDER is written only while its unit is free or its owner is OFF (R232). -/
def Block.memState (b : Block) (item : Nat) : Status :=
  if 0x1000 ≤ item then
    match b.claimOf (item - 0x1000) with
      | some c => need c.off .busy
      | none => .ok
  else .ok

/-! ## Ports (R235) -/

def portSize (p : Nat) : Nat := if p < 32 then 524288 else if p < 36 then 262144 else if p < 38 then 131072 else 1048576

/-- A port's FIFO takes a level: panic is entered at PANIC/64 of its size, and left 4/64 back on the safe side. -/
def Block.portLevel (b : Block) (p fill : Nat) (on : Bool) : Block :=
  let i := portInst p
  let lim := b.f K.MEM_PORT_CFG i 5 0
  let size := portSize p
  let was := bit (b.val (ki K.MEM_PORT_STAT i)) 0
  let now :=
    if p < 32 then (if was then decide ((lim - 4) * size < fill * 64) else decide (lim * size ≤ fill * 64))
    else on && (if was then decide (fill * 64 < (lim + 4) * size) else decide (fill * 64 ≤ lim * size))
  let b := (b.pv K.MEM_FIFO_BYTES i fill).pf K.MEM_PORT_STAT i 0 0 (b2n now)
  let b := if now ∧ !was then b.inc K.MEM_PANIC_COUNT i 1 else b
  if now then { b with ports := tset b.ports p ⟨true⟩ } else b

/-- At a boundary PANIC_BEATS counts each port that was in panic in the beat. -/
def Block.portBoundary (b : Block) : Block :=
  (List.range 42).foldl (fun b p =>
    let x := tget ({} : Port) b.ports p
    let still := bit (b.val (ki K.MEM_PORT_STAT (portInst p))) 0
    let b := if x.panicked then b.inc K.MEM_PANIC_BEATS (portInst p) 1 else b
    if x.panicked == still then b else { b with ports := tset b.ports p ⟨still⟩ }) b

/-! ## Scheduling (R236, R240, R245) -/

/-- The rank of a queued request. -/
def Block.hbmRank (b : Block) (x : Pc) (r : HbmReq) : Nat :=
  let panic := match r.port with | some p => bit (b.val (ki K.MEM_PORT_STAT (portInst p))) 0 | none => false
  if panic then 2
  else if r.since + 3200 < b.clock then 3
  else if tfind x.open' (r.slot % 48) = some (r.slot / 48) then 4
  else 5

/-- The candidate that is served next: the lowest rank, the oldest within it; a line's requests keep their order. -/
def Block.hbmPick (b : Block) (x : Pc) : Option HbmReq :=
  let blocked (r : HbmReq) : Bool :=
    ((x.queue.takeWhile (fun q => q != r)).any (fun q => q.slot == r.slot && q.line == r.line && (q.write || r.write)))
  (x.queue.filter (fun r => !blocked r)).foldl (fun (best : Option HbmReq) r => match best with
    | some q => if b.hbmRank x r < b.hbmRank x q then some r else some q
    | none => some r) none

/-- Neighbour-refresh pairs at an ACT of a row (R240): a neighbour outside the bank is skipped. -/
def Block.neighbours (b : Block) (p row draw : Nat) : Block :=
  if draw % 2 ^ b.f K.MEM_NR_CFG 0 4 0 = 0 then
    let up (d : Nat) : Nat := b2n (decide (row + d < 22888)) + b2n (decide (d ≤ row))
    b.inc K.MEM_NR_INSERTED (stackInst (p / 32)) (up 1 + if b.f K.MEM_NR_CFG 0 5 5 = 1 then up 2 else 0)
  else b

def Block.pcState (b : Block) (p : Nat) : Nat := b.f K.MEM_PC_STATE (pcInst p) 1 0
def Block.setPcState (b : Block) (p v : Nat) : Block := b.pf K.MEM_PC_STATE (pcInst p) 1 0 v
def Block.debt (b : Block) (p : Nat) : Nat := b.f K.MEM_PC_STATE (pcInst p) 6 3
def Block.setDebt (b : Block) (p v : Nat) : Block := b.pf K.MEM_PC_STATE (pcInst p) 6 3 v
def Block.spares (b : Block) (p : Nat) : Nat := b.f K.MEM_PC_STATE (pcInst p) 8 7
/-- The doubled region of a pseudo-channel's stack. -/
def Block.doubled (b : Block) (p : Nat) : Bool := b.f K.MEM_TEMP (stackInst (p / 32)) 16 16 == 1

/-! ## Training pauses (R239, R241, R242, R245) -/

/-- A pause of a pseudo-channel may start: it is awake, no burst is in progress nor ended within 2 µs, and no pseudo-channel of its stack is
paused. -/
def Block.pauseFree (b : Block) (p : Nat) : Bool :=
  let x := b.pc p
  b.inService p && b.pcState p == 0 && (x.burstEnd == 0 || decide (x.burstEnd + 3200 ≤ b.clock)) &&
    (List.range 32).all (fun k => decide ((b.pc (32 * (p / 32) + k)).pauseEnd ≤ b.clock))

/-- A pause of 600 ns starts, after a wake's exit latency; it retrains, and says whether a working setting was found. -/
def Block.pauseTrain (b : Block) (p : Nat) (found : Bool) : Block :=
  let x := b.pc p
  let b := b.setPc p { x with pauseEnd := max b.clock x.readyAt + 960, pauseOwed := none }
  if found then b.pv K.MEM_TRAIN_LAST_BEAT (pcInst p) b.beat
  else (b.inc K.MEM_TRAIN_FAIL (pcInst p) 1).raise 677 (beBytes 1 p)

/-- A pause that was owed starts once it may. -/
def Block.pauseOwed (b : Block) (p : Nat) : Block :=
  match (b.pc p).pauseOwed with
  | some found => if b.pauseFree p then b.pauseTrain p found else b
  | none => b

/-- A request wakes a sleeping pseudo-channel (R245): 40 ns or 700 ns pass before it is served. -/
def Block.pcWake (b : Block) (p : Nat) : Block :=
  match b.pcState p with
  | 1 => (b.setPcState p 0).setPc p { b.pc p with readyAt := b.clock + 64 }
  | 2 => ((b.setPcState p 0).setDebt p 0).setPc p { b.pc p with readyAt := b.clock + 1120, open' := [] }
  | _ => b

/-- A refresh is issued: 350 ns, once what is in progress has ended (R237). -/
def Block.refresh (b : Block) (p : Nat) : Block :=
  let x := b.pc p
  let e := max x.readyAt (b.clock + 560)
  b.setPc p { x with open' := [], readyAt := e, refreshEnd := e }

/-- Requests arrive at a pseudo-channel, and it serves one queued request by rank, or repays a postponed refresh when none is
queued (R236, R237). `draw` is the draw of the random number generator at an ACT. -/
def Block.hbmRequest (b : Block) (p : Nat) (new : List (Option Nat × Nat × Nat × Bool)) (draw : Nat) : Block :=
  if !b.inService p then b
  else
    let b := if new.isEmpty then b else (b.pcWake p).pauseOwed p
    let x := b.pc p
    let x := { x with queue := x.queue ++ new.map (fun r => ⟨r.1, r.2.1, r.2.2.1, r.2.2.2, b.clock⟩),
                      touched := x.touched || !new.isEmpty }
    let b := b.setPc p x
    if b.clock < max x.readyAt (max x.pauseEnd x.burstEnd) then b
    else match b.hbmPick x with
      | none => if x.queue.isEmpty ∧ b.pcState p ≤ 1 ∧ 0 < b.debt p then (b.setDebt p (b.debt p - 1)).refresh p else b
      | some r =>
        let bank := r.slot % 48; let row := r.slot / 48
        let hit := tfind x.open' bank = some row
        let b := b.send (.hbm p (b.hbmRank x r) r.slot r.line r.write)
        let b := b.setPc p { x with queue := x.queue.erase r, open' := tset x.open' bank row }
        if hit then b else b.neighbours p row draw

/-! ## Refresh (R237 to R239) -/

/-- A refresh falls due: postponed while requests are queued, issued at rank 1 when the debt would pass its limit. -/
def Block.refreshTick (b : Block) (p : Nat) : Block :=
  if !b.inService p || b.pcState p == 2 then b
  else
    let b := b.pauseOwed p
    if !(b.pc p).queue.isEmpty ∧ b.debt p < (if b.doubled p then 4 else 8) then b.setDebt p (b.debt p + 1) else b.refresh p

/-- The debt burst of one pseudo-channel (R238): it starts when a pause has ended and a refresh in progress has completed, which counts as
its first. -/
def Block.debtBurst (b : Block) (p : Nat) : Block :=
  let d := b.debt p
  if !b.inService p || d == 0 then b
  else
    let x := b.pc p
    let running := decide (b.clock < x.refreshEnd)
    let start := max (max b.clock x.pauseEnd) x.refreshEnd
    ((b.setDebt p 0).inc K.MEM_BURST_REFRESH (pcInst p) d).setPc p
      { x with open' := [], burstEnd := start + (d - b2n running) * 560 }

/-- A temperature reading of a stack, in 1/16 °C (R238). -/
def Block.stackReading (b : Block) (s : Nat) (t : Int) : Block :=
  let i := stackInst s
  let hot := b.f K.MEM_TEMP i 16 16 == 1
  let cool := tget false b.coolOnce s
  let b := b.pf K.MEM_TEMP i 15 0 (uns 16 t)
  let pcs := (List.range 32).map (fun k => 32 * s + k)
  if !hot ∧ 1360 < t then
    let d := pcs.foldl (fun a p => if b.inService p then max a (b.debt p) else a) 0
    let b := pcs.foldl Block.debtBurst b
    let b := ((b.pf K.MEM_TEMP i 16 16 1).inc K.MEM_HOT_ENTRIES i 1).raise 675 (beBytes 1 s ++ zeros 1 ++ beBytes 2 (uns 16 t) ++ beBytes 1 d)
    { b with coolOnce := tset b.coolOnce s false }
  else if hot ∧ t ≤ 1328 then
    if cool then
      { (b.pf K.MEM_TEMP i 16 16 0).raise 676 (beBytes 1 s ++ zeros 1 ++ beBytes 2 (uns 16 t)) with coolOnce := tset b.coolOnce s false }
    else { b with coolOnce := tset b.coolOnce s true }
  else { b with coolOnce := tset b.coolOnce s false }

/-! ## Training and the failure ladder (R241 to R243) -/

/-- A pseudo-channel's training slot comes: its pause starts, or is owed until it may (R241, R245). -/
def Block.retrain (b : Block) (p : Nat) (found : Bool) : Block :=
  if !b.inService p then b
  else if b.pauseFree p then b.pauseTrain p found
  else b.setPc p { b.pc p with pauseOwed := some found }

/-- A failure of a lane climbs the ladder: repair while a spare remains, else retirement. -/
def Block.ladder (b : Block) (p lane : Nat) : Block :=
  let x := b.pc p
  if x.repair.isSome ∨ x.retire.isSome then b
  else if 0 < b.spares p then b.setPc p { x with repair := some lane }
  else b.setPc p { x with retire := some b.clock, queue := [] }

/-- A transfer meets `n` parity errors on a lane, 1 to 4; with 4 it has failed all its attempts, and a write's line then
holds undefined data, which is free (R242). -/
def Block.parityError (b : Block) (p lane n slot line : Nat) (write : Bool) : Block :=
  if !b.inService p then b
  else
    let x := b.pc p
    let since := b.clock - 1600000
    let errs := (x.errs.filter (fun e => decide (since ≤ e.2))) ++ List.replicate n (lane, b.clock)
    let b := (b.inc K.MEM_LANE_ERR (pcInst p) n).setPc p { x with errs := errs }
    let failed := decide (4 ≤ n)
    let b := if failed then b.inc K.MEM_LINE_FAIL (pcInst p) 1 else b
    let b := if failed ∧ write then
        (b.stBytes (spHbm (physical p slot line)) ((List.range 64).map (fun k => Config.failedLine b.fresh k))).tick
      else b
    if failed ∨ b.f K.MEM_ERR_LIMIT 0 7 0 < (errs.filter (fun e => e.1 == lane)).length then b.ladder p lane else b

/-- The failing lane is moved onto a spare in a pause, in a free slot of the stack (R242); where a pause may not start the repair waits. -/
def Block.laneRepair (b : Block) (p : Nat) : Block :=
  let x := b.pc p
  match x.repair with
  | none => b
  | some lane =>
    if !b.pauseFree p then b
    else
    let sp := b.spares p - 1
    let b := (b.pf K.MEM_PC_STATE (pcInst p) 8 7 sp).setPc p
      { x with repair := none, errs := x.errs.filter (fun e => e.1 != lane), pauseEnd := b.clock + 960 }
    b.raise 678 (beBytes 1 p ++ beBytes 1 lane ++ beBytes 1 sp)

/-- A pseudo-channel leaves service (R243): N_PC, PC_OK and the maps follow, and every partition's content is lost. Its
owners act in their own chapters. -/
def Block.retirePc (b : Block) (p : Nat) : Block :=
  let n := b.nPc - 1
  let b := b.pf K.MEM_PC_OK (stackInst (p / 32)) (p % 32) (p % 32) 0
  let b := (b.setPcState p 3).pf K.MEM_N_PC 0 7 0 n
  let b := (b.pv K.MEM_UNIT_BYTES 0 (n * 8388608)).setPc p {}
  let b := b.stClear 0 (spHbm (128 * 1098624 * 1024))
  let b := b.raise 679 (beBytes 1 p ++ beBytes 1 n ++ zeros 6 ++ beBytes 8 b.beat)
  if b.dev = .flow then b.setCause 2 (mkKey bMEM (pcInst p) 0) else { b with firstRetired := some (b.firstRetired.getD p) }

/-! ## Sleep (R245) -/

/-- The sleep state that SLEEP and the smallest tolerance allow. -/
def Block.sleepState (b : Block) : Nat :=
  let t := b.val K.MEM_TOLERANCE
  let s := b.f K.MEM_SLEEP 0 1 0
  if s = 2 ∧ 4000 ≤ t then 2 else if s ≠ 0 ∧ 3000 ≤ t then 1 else 0

/-- Every pseudo-channel that had no request in the beat just ended takes the deepest state allowed; a pause that is owed starts where it
may. -/
def Block.pcBoundary (b : Block) : Block :=
  if b.dev ≠ .flow then b
  else b.svcNat.foldl (fun b p =>
    let b := b.pauseOwed p
    let x := b.pc p
    if x.touched ∨ !x.queue.isEmpty then b.setPc p { x with touched := false }
    else if b.pcState p < b.sleepState then (b.setPcState p b.sleepState).setPc p { x with open' := [] } else b) b

end Sys2Proof.Machine
end

