-- ==== Sys2Proof/Machine/Capture.lean ====
section
/-! DEFINITION. Capture writers and records (R198 to R223, R512): rings, items, records, triggers at the writer, endings,
evidence. -/
namespace Sys2Proof.Machine

def bCAP : Nat := 0x08

def Block.cap (b : Block) (w : Nat) : Cap := tget {} b.caps w
def Block.setCap (b : Block) (w : Nat) (x : Cap) : Block := { b with caps := tset b.caps w x }

/-! ## Settings -/

def Block.cpMode (b : Block) (w : Nat) : Nat := b.f K.CAP_CFG w 2 0
def Block.cpKind (b : Block) (w : Nat) : Nat := b.f K.CAP_CFG w 4 3
def Block.cpSrc (b : Block) (w : Nat) : Nat := b.f K.CAP_CFG w 11 5
def Block.cpPack (b : Block) (w : Nat) : Nat := b.f K.CAP_CFG w 13 12
def Block.cpWrap (b : Block) (w : Nat) : Bool := b.f K.CAP_CFG w 14 14 == 1
def Block.cpEvid (b : Block) (w : Nat) : Bool := b.f K.CAP_CFG w 15 15 == 1
def Block.cpMarkers (b : Block) (w : Nat) : Bool := b.f K.CAP_CFG w 16 16 == 1
def Block.cpStart (b : Block) (w : Nat) : Bool := b.f K.CAP_CFG w 17 17 == 1
def Block.cpPre (b : Block) (w : Nat) : Nat := b.f K.CAP_PRE w 47 0
def Block.cpPost (b : Block) (w : Nat) : Nat := b.f K.CAP_POST w 47 0
def Block.cpSegs (b : Block) (w : Nat) : Nat := b.f K.CAP_SEG_COUNT w 16 0
/-- A POST of all ones: unbounded. -/
def postAll : Nat := 2 ^ 48 - 1

/-- ARM_STATE (R226): 0 DISARMED, 1 WAITING, 2 POST, 3 RECORDING, 4 ENDING. -/
def Block.cpState (b : Block) (w : Nat) : Nat := b.f K.CAP_ARM_STATE w 2 0
def Block.setCpState (b : Block) (w s : Nat) : Block := b.pf K.CAP_ARM_STATE w 2 0 s

/-- Bytes per sample of a packing (R211). -/
def packBytes (p : Nat) : Nat := [3, 4, 6].getD p 6
/-- A length rounded up to a multiple of 64 (R213). -/
def round64 (n : Nat) : Nat := ceilDiv n 64 * 64
/-- B_blk (R204). -/
def blkBytes (p : Nat) : Nat := 64 + round64 (4096 * packBytes p)

/-- The lane that a source's items come from. -/
def Block.srcLane (b : Block) (kind src : Nat) : Nat :=
  match kind with
  | 0 => src
  | 1 => viewLane src
  | _ => viewLane (b.f K.XFM_TRC_SRC (trcInst src) 6 0)
def Block.cpLane (b : Block) (w : Nat) : Nat := b.srcLane (b.cpKind w) (b.cpSrc w)

/-- The data bytes of one spectrum or trace (R149, R161). -/
def Block.srcBytes (b : Block) (kind src : Nat) : Nat :=
  if kind = 1 then b.vwOutCount src * [6, 2, 8].getD (b.vwFormat src) 8
  else 2 * (2 ^ b.f K.XFM_TRC_SRC (trcInst src) 14 10 + b.f K.XFM_TRC_COLS (trcInst src) 11 0)

/-- B_item (R213), and B_blk for a lane. -/
def Block.unitBytes (b : Block) (w : Nat) : Nat :=
  if b.cpKind w = 0 then blkBytes (b.cpPack w) else 64 + round64 (b.srcBytes (b.cpKind w) (b.cpSrc w))

/-- The step from one item number to the next: trace periods are numbered by their first beats. -/
def Block.itemStep (b : Block) (w : Nat) : Nat := if b.cpKind w = 2 then b.trcP (b.cpSrc w) else 1

/-- The post-trigger storage of one arm with `post` items from its trigger (R204); none where it is not checked. -/
def Block.cpStorageOf (b : Block) (w post : Nat) : Option Nat :=
  let u := b.unitBytes w
  match b.cpMode w with
  | 0 => some ((ceilDiv post 4096 + 1) * u + 1024)
  | 1 => some (b.cpSegs w * (ceilDiv (b.cpPre w + post) 4096 * u + 512) + 512)
  | 3 => some (post * u + 1024)
  | _ => none
def Block.cpStorage (b : Block) (w : Nat) : Option Nat := b.cpStorageOf w (b.cpPost w)

/-! ## Rings (R199, R201) -/

/-- The capacity and base that RING, or THAW_RING in THAW, gives. -/
def Block.cpRing (b : Block) (w : Nat) : Nat × Nat :=
  if b.dev = .flow then (b.capacity (b.f K.CAP_RING w 15 8), b.f K.CAP_RING w 7 0 * 2 ^ 30)
  else (b.f K.CAP_THAW_RING w 12 6 * 2 ^ 20, b.f K.CAP_THAW_RING w 5 0 * 2 ^ 20)

/-- CAP_BYTES and BASE_ADDR follow the ring. -/
def Block.cpRingShow (b : Block) (w : Nat) : Block :=
  let (n, a) := b.cpRing w
  (b.pf K.CAP_CAP_BYTES w 47 0 n).pf K.CAP_BASE_ADDR w 47 0 a
def Block.cpBytes (b : Block) (w : Nat) : Nat := b.f K.CAP_CAP_BYTES w 47 0

/-- Store at a linear address of the ring's memory: space 5 in THAW, space 0 in FLOW. -/
def Block.ringStore (b : Block) (a : Nat) (l : List Byte) : Block :=
  if b.dev = .flow then b.hbmStores a l else b.stBytes (spThaw a) l
/-- Bytes at a ring offset, which wraps at the capacity. -/
def Block.ringRead (b : Block) (m : Mem) (w off n : Nat) : List Byte :=
  let base := b.f K.CAP_BASE_ADDR w 47 0
  let c := max 1 (b.cpBytes w)
  let get (a n : Nat) : List Byte := if b.dev = .flow then b.hbmReads m a n else b.rdBytes m (spThaw a) n
  let o := off % c
  if o + n ≤ c then get (base + o) n else get (base + o) (c - o) ++ get base (n - (c - o))

def usedBytes (l : List Rec) : Nat := l.foldl (fun a r => a + r.len) 0

/-- The oldest records go, while they may, until `n` bytes are free of `cap`. -/
def dropFor (keep : Rec → Bool) (cap n : Nat) : List Rec → List Rec
  | [] => []
  | r :: t => if usedBytes (r :: t) + n ≤ cap ∨ keep r then r :: t else dropFor keep cap n t

/-- A record that may not be overwritten (R205, R207 to R209). -/
def Block.cpKeeps (b : Block) (w : Nat) (r : Rec) : Bool :=
  let x := b.cap w
  let mine := r.arm == b.val (ki K.CAP_ARM_SEQ w)
  match b.cpMode w with
  | 4 => true
  | 1 => mine
  | 2 => mine && !b.cpWrap w
  | _ => mine && x.winFirst.isSome && decide (x.lo < r.hi)

/-- OLDEST_PTR and OLDEST_SEQ follow the records held (R223). -/
def Block.cpOldest (b : Block) (w : Nat) : Block :=
  match (b.cap w).recs with
  | r :: _ => (b.pf K.CAP_OLDEST_PTR w 47 0 r.off).pv K.CAP_OLDEST_SEQ w r.seq
  | [] => (b.pf K.CAP_OLDEST_PTR w 47 0 (b.f K.CAP_WR_PTR w 47 0)).pv K.CAP_OLDEST_SEQ w (b.val (ki K.CAP_NEXT_SEQ w))

/-- Header bytes 2 and 3 and the ARM_SEQ of a record: those of the arm that formed it. -/
def Block.draftOwn (b : Block) (w : Nat) (d : Draft) : Nat × Nat × Nat :=
  d.own.getD (b.cpKind w + 4 * (if d.type = 1 then b.cpPack w else 3), b.cpSrc w, b.val (ki K.CAP_ARM_SEQ w))

/-- The common header (R213). -/
def Block.recHeader (b : Block) (w : Nat) (d : Draft) (len : Nat) : List Byte :=
  let (kind, src, arm) := b.draftOwn w d
  beBytes 1 d.type ++ beBytes 1 w ++ beBytes 1 kind ++ beBytes 1 src ++ beBytes 4 len ++
    beBytes 8 (b.val (ki K.CAP_NEXT_SEQ w)) ++ beBytes 4 arm ++ beBytes 4 d.count ++ beBytes 8 d.index

/-- A writer in STREAM_THROUGH without a ring: its records pass from its FIFO share to the stream (R342). -/
def Block.cpDirect (b : Block) (w : Nat) : Bool :=
  b.cpMode w == 4 && b.dev == .flow && b.f K.CAP_RING w 15 8 == 0

/-- The modes that keep 512 bytes for the closing records (R512): SEGMENTS, STREAM_THROUGH, and CONTINUOUS without WRAP. -/
def Block.cpReserves (b : Block) (w : Nat) : Bool :=
  b.cpMode w == 1 || b.cpMode w == 4 || (b.cpMode w == 2 && !b.cpWrap w)

/-- Write one record; `false` when it finds no space. A record other than the closing ones leaves the reserve free (R512). -/
def Block.cpPut (b : Block) (w : Nat) (d : Draft) (closing : Bool) : Block × Bool :=
  let x := b.cap w
  let len := round64 (32 + d.body.length)
  if b.cpDirect w then
    let seq := b.val (ki K.CAP_NEXT_SEQ w)
    let r : Rec := ⟨seq, 0, len, d.type, d.lo, d.hi, (b.draftOwn w d).2.2⟩
    let bytes := b.recHeader w d len ++ fixLen (len - 32) d.body
    let b := b.setCap w { x with recs := x.recs ++ [r], pass := x.pass ++ [bytes] }
    ((b.pv K.CAP_NEXT_SEQ w (seq + 1)).cpOldest w, true)
  else
  let cap := b.cpBytes w
  let n := len + (if !closing && b.cpReserves w then 512 else 0)
  let recs := dropFor (b.cpKeeps w) cap n x.recs
  if usedBytes recs + n ≤ cap then
    let off := b.f K.CAP_WR_PTR w 47 0
    let base := b.f K.CAP_BASE_ADDR w 47 0
    let seq := b.val (ki K.CAP_NEXT_SEQ w)
    let bytes := b.recHeader w d len ++ fixLen (len - 32) d.body
    let room := cap - off
    let b := b.ringStore (base + off) (bytes.take room)
    let b := if room < len then b.ringStore base (bytes.drop room) else b
    let r : Rec := ⟨seq, off, len, d.type, d.lo, d.hi, (b.draftOwn w d).2.2⟩
    let b := b.setCap w { x with recs := recs ++ [r] }
    let b := (b.pf K.CAP_WR_PTR w 47 0 ((off + len) % cap)).pv K.CAP_NEXT_SEQ w (seq + 1)
    ((if d.mark then b.pf K.CAP_CAPTURE_PTR w 47 0 off else b).cpOldest w, true)
  else (b, false)

/-- Write a record, or let it wait for space in STREAM_THROUGH (R209). -/
def Block.cpWrite (b : Block) (w : Nat) (d : Draft) : Block × Bool :=
  let count (b : Block) : Block := b.setCap w { b.cap w with wrote := (b.cap w).wrote + 1 }
  let wait (b : Block) : Block × Bool :=
    let x := b.cap w
    (count (b.setCap w { x with drafts := x.drafts ++ [{ d with own := some (b.draftOwn w d) }], backlog := true }), true)
  if !(b.cap w).drafts.isEmpty then wait b
  else
    let (c, ok) := b.cpPut w d false
    if ok then (count c, true) else if b.cpMode w = 4 then wait b else (b, false)

/-- Write records in order, until one finds no space. -/
def Block.cpWrites (b : Block) (w : Nat) (l : List Draft) : Block × Bool :=
  l.foldl (fun a d => if a.2 then a.1.cpWrite w d else a) (b, true)

/-! ## Drafts of the records (R212 to R219) -/

/-- The time of an item (R216, R218): T(n), T of the window start, or a trace period's first beat. -/
def Block.itemTime (b : Block) (w idx : Nat) : Fysiva :=
  match b.cpKind w with
  | 0 => b.lnTime (b.cpSrc w) idx
  | 1 => b.lnTime (b.cpLane w) (b.vwAlign (b.cpSrc w) + idx * b.vwHop (b.cpSrc w))
  | _ => timeAt idx 0 b.quality

/-- The flag nibbles of a block's groups (R214). -/
def groupFlags (l : List Item) : List Byte :=
  let nib (g : Nat) : Nat := ((l.drop (64 * g)).take 64).foldl (fun a it => a ||| it.sogm) 0
  (List.range 32).map (fun k => BitVec.ofNat 8 (16 * nib (2 * k) + nib (2 * k + 1)))

/-- The SAMPLE_BLOCK of the open block. -/
def Block.blockDraft (b : Block) (w : Nat) : Option Draft :=
  let x := b.cap w
  if x.blk.isEmpty then none
  else
    let l := x.blk.reverse
    some { type := 1, count := l.length, index := x.blkAt, lo := x.blkAt, hi := x.blkAt + l.length,
           body := groupFlags l ++ (l.map (fun it => beBytes (packBytes (b.cpPack w)) it.code)).flatten }

def Block.gapDraft (b : Block) (w : Nat) (g : MissRun) : Draft :=
  { type := 0x11, count := 0, index := g.first, lo := g.first, hi := g.first + g.len * b.itemStep w,
    body := beBytes 8 g.len ++ beBytes 2 g.cause ++ beBytes 2 g.detail ++ zeros 4 ++ (b.itemTime w g.first).bytes ++ zeros 4 }

def Block.markDraft (b : Block) (w kind index cause rate count step : Nat) : Draft :=
  { type := 0x13, count := 0, index := index, mark := kind == 3,
    body := beBytes 1 kind ++ beBytes 1 cause ++ beBytes 2 rate ++ beBytes 4 count ++ beBytes 8 step ++
      (b.itemTime w index).bytes ++ zeros 4 }

/-- A GAP record, its counters and EV_CAP_GAP (672). -/
def Block.cpGap (b : Block) (w : Nat) (g : MissRun) : Block × Bool :=
  let (b, ok) := b.cpWrite w (b.gapDraft w g)
  if ok then
    let b := (b.inc K.CAP_GAP_RECORDS w 1).incSat K.CAP_GAP_ITEMS w g.len
    (b.raise 672 (beBytes 1 w ++ zeros 1 ++ beBytes 2 g.cause ++ beBytes 8 g.first ++ beBytes 4 (min g.len (2 ^ 32 - 1))), true)
  else (b, false)

/-- The compressors of a stream's mask. -/
def Block.strMask (b : Block) (s : Nat) : List Nat := which 4 (fun c => bit (b.f K.STR_CFG s 23 20) c)
/-- The compressor whose turn it is in a stream. -/
def Block.strTurn (b : Block) (s : Nat) : Nat :=
  let l := b.strMask s
  l.getD ((tget {} b.strs s).turn % max 1 l.length) 0

/-- A block that completes while the writer holds two for the compressor is dropped (R360). -/
def Block.cpBacklog (b : Block) (w : Nat) (d : Draft) : Option (Block × Bool) :=
  let s := b.f K.CAP_STREAM w 5 0
  let held := ((b.cap w).recs.filter (fun r => r.type == 1)).length
  if b.cpDirect w ∧ b.f K.STR_CFG s 17 17 = 1 ∧ 2 ≤ held then
    let c := b.strTurn s
    let (b, ok) := b.cpGap w ⟨d.index, d.count, 4, c⟩
    some ((b.inc K.CDC_DROPPED c 1).raise 799 (beBytes 1 c ++ beBytes 1 w ++ zeros 6 ++ beBytes 8 d.index), ok)
  else none

/-- The open block is written (R212, R221). -/
def Block.cpCloseBlock (b : Block) (w : Nat) : Block × Bool :=
  match b.blockDraft w with
  | some d =>
    match b.cpBacklog w d with
    | some (b, ok) => (b.setCap w { b.cap w with blk := [] }, ok)
    | none => let (b, ok) := b.cpWrite w d; (b.setCap w { b.cap w with blk := [] }, ok)
  | none => (b, true)

/-- The open block and the lost runs in progress are written (R212, R221). -/
def Block.cpClose (b : Block) (w : Nat) : Block × Bool :=
  let r := b.cpCloseBlock w
  let (b, ok) := (b.cap w).gaps.foldl (fun a g => if a.2 then a.1.cpGap w g else a) r
  (b.setCap w { b.cap w with gaps := [] }, ok)

/-! ## Endings (R210, R219, R220) -/

def violDraft (r : Report) (v : Violation) : Draft :=
  { type := 0x12, count := 0, index := v.index,
    body := beBytes 1 r.unit ++ beBytes 1 v.kind ++ beBytes 1 v.broken ++ zeros 1 ++
      beBytes 2 (if v.kind = 1 then 0x8000 else uns 16 r.bin) ++ beBytes 2 (uns 16 r.excess) ++ beBytes 8 r.decision ++
      beBytes 8 (if v.stop then r.decision + v.post else 2 ^ 64 - 1) ++ zeros 8 ++ r.tp.bytes ++ zeros 52 }

/-- The closing records: VIOLATION, then END; EVIDENCE stays pending (R210). The item after the last window is free when
there was none (log entry 18). -/
def Block.cpFinish (b : Block) (w reason : Nat) : Block :=
  let x := b.cap w
  let b := x.viols.foldl (fun b v => (b.cpPut w (violDraft v.1 v.2) true).1) b
  let seq := b.val (ki K.CAP_NEXT_SEQ w)
  let wins := b.f K.CAP_SEGMENTS w 16 0
  let d : Draft := {
    type := 0x1F, count := 0, index := x.winFirst.getD (2 ^ 64 - 1),
    body := beBytes 1 reason ++ zeros 3 ++ beBytes 4 wins ++
      beBytes 8 (x.last.getD (if x.winFirst.isSome then max x.lo x.cur else (Config.noWindowEnd b.fresh).toNat)) ++
      beBytes 8 (x.wrote + x.viols.length + 1) ++ zeros 8 }
  let b := if x.winFirst.isNone then b.tick else b
  let b := (b.cpPut w d true).1
  let b := b.raise (640 + w) (beBytes 1 reason ++ zeros 3 ++ beBytes 4 wins ++ beBytes 8 seq)
  let x := b.cap w
  let x := { x with viols := [], ending := none, marks := [], fifo := [] }
  if b.cpEvid w then
    let first := ((x.recs.find? (fun r => decide (x.armFirst ≤ r.seq))).map (·.seq)).getD seq
    { (b.setCap w { x with evid := some (first, seq) }).setCpState w 4 with evidence := b.evidence ++ [w] }
  else (b.setCap w x).setCpState w 0

/-- A recording ends (R210): what is open is written first; in STREAM_THROUGH records that wait for space go before the
closing ones. -/
def Block.cpEnd (b : Block) (w reason : Nat) : Block :=
  if b.cpState w = 0 ∨ b.cpState w = 4 then b
  else
    let (b, ok) := b.cpClose w
    let b := b.setCap w { b.cap w with blk := [], gaps := [] }
    let reason := if ok then reason else 2
    if (b.cap w).drafts.isEmpty then b.cpFinish w reason
    else (b.setCap w { b.cap w with ending := some reason }).setCpState w 4

/-- The window is complete, or cut at its end: in SEGMENTS the writer waits for the next trigger (R207). -/
def Block.cpWindowDone (b : Block) (w : Nat) : Block :=
  let x := b.cap w
  let full : Bool := match x.natural, x.hi with | some n, some h => decide (n ≤ h) | _, _ => false
  let b := if full then b.pf K.CAP_SEGMENTS w 16 0 (b.f K.CAP_SEGMENTS w 16 0 + 1) else b
  let h := x.hi.getD x.cur
  -- items beyond the end are not of the recording
  let gaps := (x.gaps.filter (fun g => decide (g.first < h))).map (fun g => { g with len := min g.len ((h - g.first) / b.itemStep w) })
  let b := b.setCap w { x with last := some h, blk := x.blk.filter (fun it => decide (it.idx < h)), gaps := gaps }
  if b.cpMode w = 1 ∧ x.reason = 0 ∧ b.f K.CAP_SEGMENTS w 16 0 < b.cpSegs w then
    let (b, ok) := b.cpClose w
    if ok then (b.setCap w { b.cap w with hi := none, natural := none, fifo := [] }).setCpState w 1 else b.cpEnd w 2
  else b.cpEnd w x.reason

/-! ## Items (R211, R212, R221, R222) -/

/-- The clock of the capture writers is the safe clock: PLL_CORE is neither LOCKED nor SLEWING (R414, R425). -/
def Block.coreSafe (b : Block) : Bool := decide (2 ≤ b.f K.CLK_STATUS 0 2 0)

/-- The FIFO share drains at 51.2 GB/s, 32 bytes a core cycle (R222), and resumes once it has drained to half. -/
def Block.cpDrain (b : Block) (w : Nat) : Block :=
  let x := b.cap w
  let fill := if b.cpDirect w then (x.pass.map (·.length)).foldl (· + ·) (x.blk.length * packBytes (b.cpPack w))
    else x.fill - 32 * (b.clock - x.fillAt)
  b.setCap w { x with fill := fill, fillAt := b.clock, ovf := x.ovf && decide (262144 < fill) }

/-- Run a step on an arm that is still to end beside the present one: under its own values, with the writer's ring. Answers it as it
stands then, none where it has ended. -/
def Block.onTail (b : Block) (w : Nat) (t : CapArm × Tab Word) (f : Block → Block) : Block × Option (CapArm × Tab Word) :=
  let mine := b.cap w
  let keep := t.2.map (fun (e : Nat × Word) => (e.1, tfind b.params e.1))
  let b := { b with params := t.2.foldl (fun p (e : Nat × Word) => tset p e.1 e.2) b.params }
  let b := f (b.setCap w { mine with toCapArm := t.1 })
  let x := b.cap w
  let t := if b.cpState w = 0 then none else some (x.toCapArm, t.2.map (fun (e : Nat × Word) => (e.1, BitVec.ofNat 64 (b.val e.1))))
  (({ b with params := keep.foldl (fun p (e : Nat × Option Word) => match e.2 with | some v => tset p e.1 v | none => tdel p e.1) b.params }).setCap w
    { x with toCapArm := mine.toCapArm }, t)

/-- Run a step on every such arm of a writer. -/
def Block.onTails (b : Block) (w : Nat) (f : Block → Block) : Block :=
  if (b.cap w).tails.isEmpty then b
  else
    let r := (b.cap w).tails.foldl (fun (r : Block × List (CapArm × Tab Word)) t => let (b, t) := r.1.onTail w t f; (b, r.2 ++ t.toList)) (b, [])
    r.1.setCap w { r.1.cap w with tails := r.2 }

/-- An end that waited for the records before it (R209). -/
def Block.cpEnded (b : Block) (w : Nat) : Block :=
  match (b.cap w).ending with
  | some r => b.cpFinish w r
  | none => b

/-- Records that waited are written once space allows, and a waiting end follows them; discarding stops when one full block
fits (R209). -/
def Block.cpResume (b : Block) (w : Nat) : Block :=
  let x := b.cap w
  if b.cpMode w ≠ 4 ∨ (!x.backlog && x.ending.isNone) then b
  else
    let (b, left) := x.drafts.foldl (fun (a : Block × List Draft) d =>
      if a.2.isEmpty then (let (c, ok) := a.1.cpPut w d false; if ok then (c, []) else (a.1, [d])) else (a.1, a.2 ++ [d]))
      (b.setCap w { x with drafts := [] }, [])
    let x := { b.cap w with drafts := left }
    let free := b.cpBytes w - usedBytes x.recs
    let b := b.setCap w { x with backlog := !(left.isEmpty && decide (b.unitBytes w + 512 ≤ free)) }
    if left.isEmpty then (b.onTails w (fun b => b.cpEnded w)).cpEnded w else b

/-- The markers that an item's arrival writes (R218): those due by their index, then the item's own. -/
def Block.cpMarks (b : Block) (w : Nat) (it : Item) : List Draft × Cap :=
  let x := b.cap w
  let lane := b.lane (b.cpLane w)
  let li := b.cpLane w
  let due := x.marks.filter (fun p => decide (p.index ≤ it.idx))
  let d0 := due.map (fun p => if p.kind = 3 then b.markDraft w 3 p.index 0 lane.rateSeq 0 (b.lnStep li)
                              else b.markDraft w p.kind p.index 0 0 p.count 0)
  let x := { x with marks := x.marks.filter (fun p => !decide (p.index ≤ it.idx)) }
  let from' := if b.cpMode w = 1 then x.lo else x.first
  if b.cpKind w ≠ 0 ∨ !b.cpMarkers w then (d0, x)
  else
    let rate := lane.rateSeq != x.rateSeen && decide (b.lnAnchorIdx li ≤ it.idx)
    let dr := if rate then [b.markDraft w 2 (b.lnAnchorIdx li) 0 lane.rateSeq 0 (b.lnStep li)] else []
    let x := if rate then { x with rateSeen := lane.rateSeq } else x
    let new := match it.run with
      | some r => if decide (from' ≤ r.start) && !x.shown.contains (r.start, r.count) then some r else none
      | none => none
    let ds := match new with | some r => [b.markDraft w 1 r.start r.cause 0 r.count 0] | none => []
    let x := match new with | some r => { x with shown := (r.start, r.count) :: x.shown } | none => x
    let dm := if it.sogm % 2 = 1 then [b.markDraft w 0 it.idx 0 0 0 0] else []
    (d0 ++ dr ++ ds ++ dm, x)

/-- What loses an item at present, and the cause that owns it: of several, the one detected first, which stays the owner while it lasts
(R222); of those that the same item shows, the order below (log entry 19). -/
def Block.cpLoses (b : Block) (w : Nat) (it : Item) : List (Nat × Nat) :=
  let x := b.cap w
  let now := (if x.ovf then [(3, 0)] else []) ++ (if x.backlog then [(7, b.f K.CAP_STREAM w 5 0)] else []) ++
    (if b.cpKind w ≠ 0 ∧ b.coreSafe then [(2, 0)] else []) ++ it.miss.toList
  let kept := x.causes.filter (fun c => now.contains c)
  kept ++ now.filter (fun c => !kept.contains c)

/-- The bytes that an item takes in the capture FIFO. -/
def Block.itemBytes (b : Block) (w : Nat) (it : Item) : Nat :=
  if b.cpKind w = 0 then packBytes (b.cpPack w) else 64 + round64 it.data.length

/-- An item joins the lost run of its cause, or begins one, which closes the open block; the runs stay until a delivered item follows
(R221). -/
def Block.cpLost (b : Block) (w : Nat) (it : Item) (c : Nat × Nat) : Block × Bool :=
  let (b, ok) := b.cpCloseBlock w
  let x := b.cap w
  let gaps := match x.gaps.getLast? with
    | some g => if g.cause = c.1 ∧ g.detail = c.2 then x.gaps.dropLast ++ [{ g with len := g.len + 1 }] else x.gaps ++ [⟨it.idx, 1, c.1, c.2⟩]
    | none => [⟨it.idx, 1, c.1, c.2⟩]
  (b.setCap w { x with gaps := gaps }, ok)

/-- An item is kept: a sample joins the open block, a spectrum or trace is written at once (R221). -/
def Block.cpKeep (b : Block) (w : Nat) (it : Item) : Block × Bool :=
  let (b, ok) := if (b.cap w).gaps.isEmpty then (b, true) else b.cpClose w
  let x := b.cap w
  let x := { x with fill := x.fill + b.itemBytes w it }
  if b.cpKind w = 0 then
    let x := { x with blkAt := if x.blk.isEmpty then it.idx else x.blkAt, blk := it :: x.blk }
    let b := b.setCap w x
    let b := if it.sat then b.inc K.CAP_PACK_SAT w 1 else b
    if !ok then (b, false)
    else if (it.idx + 1 - x.base) % 4096 = 0 then b.cpClose w else (b, true)
  else
    let d : Draft := { type := 2, count := it.data.length, index := it.idx, lo := it.idx, hi := it.idx + b.itemStep w,
                       body := it.descr ++ it.data }
    let (b, ok') := if ok then (b.setCap w x).cpWrite w d else (b, ok)
    (b, ok')

/-- An item of the recording is kept or lost, after the markers that it brings. -/
def Block.cpRecord (b : Block) (w : Nat) (it : Item) : Block :=
  let b := (b.cpDrain w).cpResume w
  if b.cpState w = 0 ∨ b.cpState w = 4 then b
  else
    let (ms, x) := b.cpMarks w it
    let (b, ok) := (b.setCap w x).cpWrites w ms
    let x := b.cap w
    -- an item must find its place in the FIFO
    let b := if it.miss.isNone ∧ x.fill + b.itemBytes w it > 524288 then b.setCap w { x with ovf := true } else b
    let causes := b.cpLoses w it
    let b := b.setCap w { b.cap w with causes := causes }
    let (b, ok) := if !ok then (b, ok) else match causes with
      | c :: _ => b.cpLost w it c
      | [] => b.cpKeep w it
    let b := b.setCap w { b.cap w with cur := it.idx + b.itemStep w }
    if !ok then b.cpEnd w 2
    else match (b.cap w).hi with
      | some h => if h ≤ (b.cap w).cur then b.cpWindowDone w else b
      | none => b

/-- What the FIFO holds for SEGMENTS between windows: the newest items that its share takes. -/
def Block.cpFifoItems (b : Block) (w : Nat) : Nat := 524288 / packBytes (b.cpPack w)

/-- An item of the source reaches the writer. -/
def Block.cpItem (b : Block) (w : Nat) (it : Item) : Block :=
  let x := b.cap w
  if b.cpState w = 0 ∨ b.cpState w = 4 ∨ it.idx < x.first then b
  else if b.cpMode w = 1 ∧ b.cpState w = 1 then
    if x.halt.any (fun h => decide (h ≤ it.idx)) then b.cpEnd w 4
    else b.setCap w { x with fifo := (it :: x.fifo).take (b.cpFifoItems w), cur := it.idx + 1 }
  else if b.cpMode w = 1 ∧ it.idx < x.lo then b.setCap w { x with cur := it.idx + 1 }
  else match x.hi with
    | some h => if h ≤ it.idx then b.cpWindowDone w else b.cpRecord w it
    | none => b.cpRecord w it

/-- A component rounded convergently to `w` bits of 24 and saturated (R211). -/
def packComp (v : Int) (w : Nat) : Nat × Bool :=
  let r := rndEven v (2 ^ (24 - w))
  (uns w (satS w r), satS w r != r)

/-- A lane output as a writer's item (R211). -/
def Block.laneItem (b : Block) (w : Nat) (o : LaneOut) : Item :=
  let n := 4 * packBytes (b.cpPack w)
  let (i, si) := packComp o.i n
  let (q, sq) := packComp o.q n
  { idx := o.n, code := i * 2 ^ n + q, sat := si || sq, sogm := o.sogm, run := o.run, miss := o.miss }

/-- A writer's arm takes the items of a source. -/
def Block.cpTakes (b : Block) (w kind src : Nat) : Bool := b.cpState w != 0 && b.cpKind w == kind && b.cpSrc w == src

/-- An item of a source reaches every writer's arms that take it, those that are still to end first. -/
def Block.capSource (b : Block) (kind src : Nat) (item : Block → Nat → Item) : Block :=
  let give (w : Nat) (b : Block) : Block := if b.cpTakes w kind src then b.cpItem w (item b w) else b
  (which 32 (fun w => b.cpState w != 0)).foldl (fun b w => give w (b.onTails w (give w))) b

/-- A lane output, a spectrum or a trace reaches its writers. -/
def Block.capLane (b : Block) (i : Nat) (o : LaneOut) : Block := b.capSource 0 i (fun b w => b.laneItem w o)
/-- A view source's spectra count from the first that belongs to the arm's beat. -/
def Block.capView (b : Block) (sp : Spectrum) : Block :=
  b.capSource 1 sp.view (fun _ _ => { idx := sp.q, descr := sp.descriptor, data := sp.payload })
def Block.capTrace (b : Block) (t : Trace) : Block :=
  b.capSource 2 t.unit (fun _ _ => { idx := t.start, descr := t.descriptor, data := t.payload })

/-! ## Arming (R203) -/

/-- The smallest q of a view whose detection sample is at or after lane sample `n`. -/
def Block.qDetect (b : Block) (j n : Nat) : Nat := ceilDiv (n - (b.vwAlign j + b.vwSize j - 1)) (b.vwHop j)
/-- The smallest q whose window starts at or after `n`. -/
def Block.qStart (b : Block) (j n : Nat) : Nat := ceilDiv (n - b.vwAlign j) (b.vwHop j)
/-- The trace period that a beat lies in, by its first beat. -/
def Block.periodOf (b : Block) (t beat : Nat) : Nat := max (b.trc t).startBeat (beat - beat % b.trcP t)

/-- The first item that belongs to a beat (R203). -/
def Block.firstItem (b : Block) (w beat : Nat) : Nat :=
  let src := b.cpSrc w
  match b.cpKind w with
  | 0 => b.firstOr src beat
  | 1 => b.qDetect src (b.firstOr (viewLane src) beat)
  | _ => if beat ≤ (b.trc src).startBeat then (b.trc src).startBeat else ceilDiv beat (b.trcP src) * b.trcP src

/-- A recording that a DISARM or ENABLE = 0 ends, but whose last items are still to come, or whose end waits for space. -/
def Block.cpTailing (b : Block) (w : Nat) : Bool :=
  let x := b.cap w
  ((b.cpState w == 2 || b.cpState w == 3) && (x.reason == 1 || x.reason == 5)) || (b.cpState w == 4 && x.ending.isSome)

/-- The present arm stays beside the next, with its own ARM_STATE, SEGMENTS and ARM_SEQ and the values that held writes replace
(R171, R203). -/
def Block.cpSetAside (b : Block) (w : Nat) : Block :=
  let x := b.cap w
  let old : Tab Word := (b.heldFor bCAP w).map (fun e => (e.1, BitVec.ofNat 64 (b.val e.1)))
  let add (t : Tab Word) : Tab Word := old.foldl (fun c e => if (tfind c e.1).isSome then c else tset c e.1 e.2) t
  let own : Tab Word := [K.CAP_ARM_STATE, K.CAP_SEGMENTS, K.CAP_ARM_SEQ].foldl (fun c k => tset c (ki k w) (BitVec.ofNat 64 (b.val (ki k w)))) []
  let tails := x.tails.map (fun t => (t.1, add t.2))
  if b.cpTailing w then (b.setCap w { x with tails := tails ++ [(x.toCapArm, add own)] }).setCpState w 0
  else b.setCap w { x with tails := tails }

/-- An ARM performed at the present beat; of an armed writer it is no act (R62). -/
def Block.cpArm (b : Block) (w : Nat) : Block :=
  if b.cpState w ≠ 0 ∧ !b.cpTailing w then b
  else
    let b := (b.cpSetAside w).takeHeld bCAP w
    let x := b.cap w
    let b := (b.inc K.CAP_ARM_SEQ w 1).pf K.CAP_SEGMENTS w 16 0 0
    let first := b.firstItem w b.beat
    let whole := b.cpMode w == 2 || (b.cpMode w == 4 && b.cpStart w)
    let nat := if b.cpMode w = 4 ∧ b.cpStart w ∧ b.cpPost w ≠ postAll then some (first + b.cpPost w * b.itemStep w) else none
    let rate := (b.lane (b.cpLane w)).rateSeq
    let y : Cap := { x with toCapArm := {
                     first := first, cur := first, lo := first, armFirst := b.val (ki K.CAP_NEXT_SEQ w), rateSeen := rate } }
    let y := if whole then { y with winFirst := some first, hi := nat, natural := nat } else y
    let y := if b.cpMode w = 2 ∨ b.cpMode w = 4 then { y with marks := [⟨3, first, 0⟩] } else y
    (b.setCap w y).setCpState w (if whole then 3 else 1)

/-- Whether a source of a writer is ON. -/
def Block.srcOn (b : Block) (kind src : Nat) : Bool :=
  match kind with
  | 0 => decide (src < 32) && b.isOn bLANE src
  | 1 => viewDefined src && b.isOn bXFM src
  | 2 => decide (src < 32) && b.isOn bXFM (trcInst src)
  | _ => false

/-- The stream of a writer is of kind RING with the writer as its source (R343), and VITA 49.2 takes IQ32 (R354). -/
def Block.streamFits (b : Block) (w s : Nat) : Bool :=
  b.f K.STR_CFG s 2 0 == 0 && b.f K.STR_CFG s 9 3 == w && (b.f K.STR_CFG s 10 10 == 0 || b.cpPack w == 1)

/-- The refusals of an ARM (R203), under the configuration it would bring into force, in the order of R54. `streamOn` says
that a stream is ON. -/
def Block.cpArmCheck (b : Block) (w : Nat) (streamOn : Nat → Bool) : Status :=
  -- a recording still to end that asks for EVIDENCE has its computation pending
  let evid := b.cpEvid w
  let b := b.takeHeld bCAP w
  let mode := b.cpMode w; let kind := b.cpKind w
  let accepts := match mode with
    | 0 | 1 => kind == 0
    | 2 | 4 => kind != 3
    | 3 => kind == 1 || kind == 2
    | _ => false
  if mode = 4 ∧ b.dev ≠ .flow then .notInThaw
  else if b.isOff bCAP w then .state
  else if b.moving bCAP w then .busy
  else if [1, 2, 3].contains (b.cpState w) ∧ !b.cpTailing w then .ok
  else if kind ≠ 3 ∧ !b.srcOn kind (b.cpSrc w) then .state
  else if mode = 4 ∧ !streamOn (b.f K.CAP_STREAM w 5 0) then .state
  else if (b.cap w).evid.isSome ∨ (evid ∧ (b.cpState w ≠ 0 ∨ !(b.cap w).tails.isEmpty)) then .busy
  else if !accepts ∨ b.cpPack w = 3 then .paramRange
  else if mode = 1 ∧ 32768 < b.cpPre w then .paramRange
  else if mode = 4 ∧ !b.streamFits w (b.f K.CAP_STREAM w 5 0) then .paramRange
  else if b.cpEvid w ∧ (mode = 4 ∨ (mode = 2 ∧ b.cpWrap w)) then .paramRange
  else if (b.cpPost w = postAll ∧ mode ≠ 4) ∨ (b.cpPost w = 0 ∧ (mode = 0 ∨ mode = 1 ∨ mode = 3)) then .paramRange
  else if mode = 1 ∧ (b.cpSegs w = 0 ∨ 65536 < b.cpSegs w) then .paramRange
  else match b.cpStorage w with
    | some n => need (decide (n ≤ b.cpBytes w)) .captureTooLong
    | none => .ok

/-- DISARM or ENABLE = 0 performed at the present beat (R210): the reason is its own also where the window's own end comes first. -/
def Block.cpStop (b : Block) (w reason : Nat) : Block :=
  if b.cpState w = 0 ∨ b.cpState w = 4 then b
  else if b.cpState w = 1 then b.cpEnd w reason
  else
    let x := b.cap w
    let e := b.firstItem w b.beat
    let h := match x.hi with | some h => min h e | none => e
    let x := { x with hi := some h, reason := if x.reason ≠ 0 ∧ x.hi = some h then x.reason else reason }
    let b := b.setCap w x
    if h ≤ x.cur then b.cpWindowDone w else b

/-! ## Triggers at the writer (R205, R206, R210) -/

/-- The trigger item of a report. -/
def Block.trigItem (b : Block) (w : Nat) (r : Report) : Nat :=
  let src := b.cpSrc w
  match b.cpKind w with
  | 0 => r.point
  | 1 => if r.view = some src then r.q else b.qStart src r.point
  | _ => b.periodOf src (b.lnBeatOf (b.cpLane w) r.point)

/-- The first item after stop index `x` (R210). -/
def Block.stopItem (b : Block) (w x : Nat) : Nat :=
  let src := b.cpSrc w
  match b.cpKind w with
  | 0 => x + 1
  | 1 => b.qDetect src (x + 1)
  | _ => b.periodOf src (b.lnBeatOf (b.cpLane w) x) + b.trcP src

/-- The TRIGGER record of a report (R215). -/
def trigDraft (r : Report) (flags coin pre stop seg item : Nat) : Draft :=
  { type := 0x10, count := 0, index := r.point, mark := bit flags 0, lo := item, hi := if bit flags 0 then item + 1 else 0,
    body := beBytes 1 (r.unit + 16 * r.source) ++ beBytes 1 r.lane ++ beBytes 1 r.flags ++ beBytes 1 flags ++ beBytes 2 coin ++
      beBytes 2 r.frac ++ beBytes 8 r.decision ++ beBytes 8 pre ++ beBytes 8 stop ++ r.tp.bytes ++ beBytes 4 r.seq ++
      beBytes 8 r.q ++ beBytes 2 (uns 16 r.bin) ++ beBytes 2 (uns 16 r.excess) ++ beBytes 4 seg ++ beBytes 8 item ++ zeros 24 }

/-- The oldest item of the arm that the writer still holds. -/
def Block.oldestItem (b : Block) (w : Nat) : Nat :=
  let x := b.cap w
  let arm := b.val (ki K.CAP_ARM_SEQ w)
  match x.recs.find? (fun r => r.arm == arm && decide (r.lo < r.hi) && r.type != 0x10) with
  | some r => r.lo
  | none =>
    match x.gaps with
    | g :: _ => if x.blk.isEmpty then g.first else min g.first x.blkAt
    | [] => if x.blk.isEmpty then x.cur else x.blkAt

/-- The violations that end a recording at a stop index, and the first item after the lowest of their indices (R194, R210). -/
def Block.stopsOf (b : Block) (w : Nat) (vs : List (Report × Violation)) : List (Report × Violation) × Option Nat :=
  let ends := vs.filter (·.2.stop)
  (ends, (ends.map (fun v => b.stopItem w (v.1.decision + v.2.post))).foldl (fun a n => some (match a with | some m => min m n | none => n)) none)

/-- The VIOLATION records of reports that end nothing: their stop index is all ones (R210). -/
def plainViols (vs : List (Report × Violation)) : List Draft := (vs.filter (fun v => !v.2.stop)).map (fun v => violDraft v.1 v.2)

/-- A waiting writer takes a report as its trigger (R205, R207); `vs` are the violations of the coincident units. -/
def Block.cpPrimary (b : Block) (w : Nat) (r : Report) (coin : Nat) (vs : List (Report × Violation)) : Block :=
  let x := b.cap w
  let mode := b.cpMode w
  let step := b.itemStep w
  let item := b.trigItem w r
  let back (old : Nat) : Nat := (item - old) / step
  let u := b.unitBytes w
  let per := if b.cpKind w = 0 then 4096 else 1
  let (ends, stop) := b.stopsOf w vs
  let nat := if b.cpPost w = postAll then none else some (item + b.cpPost w * step)
  -- a stop index takes the place of POST (R210); one that an earlier report left bounds the window (R206)
  let hi := match stop, nat, x.halt with
    | some s, _, some t => some (min s t)
    | some s, _, none => some s
    | none, some a, some t => some (min a t)
    | none, a, t => a.or t
  let post := match hi with | some h => (h - item) / step | none => b.cpPost w
  let held :=
    if mode = 1 then back (match x.fifo.getLast? with | some it => it.idx | none => x.cur)
    else back (b.oldestItem w)
  let room := match mode with
    | 1 | 4 => b.cpPre w
    | _ => (b.cpBytes w - (b.cpStorageOf w post).getD 0) / u * per
  let pre := min (b.cpPre w) (min held room)
  let lo := item - pre * step
  let free := b.cpBytes w - usedBytes (dropFor (b.cpKeeps w) (b.cpBytes w) (b.cpBytes w) x.recs)
  if mode = 1 ∧ free < ceilDiv (pre + post) 4096 * u + 512 + 512 then b.cpEnd w 2
  else
    let y : Cap := { x with lo := lo, hi := hi, natural := nat, winFirst := some (x.winFirst.getD lo), last := none, fifo := [],
                            viols := x.viols ++ ends }
    let y := if stop.isSome ∨ (x.halt.isSome ∧ hi = x.halt) then { y with reason := 4 } else y
    let y := if mode = 1 then { y with base := lo, cur := lo, marks := x.marks.filter (fun p => decide (lo ≤ p.index)) } else y
    let b := b.setCap w y
    let seg := if mode = 1 then b.f K.CAP_SEGMENTS w 16 0 + 1 else 0
    let d := trigDraft r (1 + 2 * b2n (decide (pre < b.cpPre w))) coin pre (hi.getD (2 ^ 64 - 1)) seg item
    let (b, ok) := (b.setCpState w 2).cpWrites w (d :: plainViols vs)
    if !ok then b.cpEnd w 2
    else if mode = 1 then
      (x.fifo.reverse.filter (fun it => decide (lo ≤ it.idx))).foldl (fun b it => b.cpItem w it) b
    else match hi with
      | some h => if h ≤ (b.cap w).cur then b.cpWindowDone w else b
      | none => b

/-- A report that is no trigger is stored (R206); a violation's stop index still ends the recording (R194, R210): between the windows of
SEGMENTS it also bounds every window to come. -/
def Block.cpSecondary (b : Block) (w : Nat) (r : Report) (coin : Nat) (vs : List (Report × Violation)) (soon : Bool) : Block :=
  let x := b.cap w
  let seg := if b.cpMode w = 1 then b.f K.CAP_SEGMENTS w 16 0 + b2n (b.cpState w == 2) else 0
  let d := trigDraft r (4 * b2n soon) coin 0 0 seg (b.trigItem w r)
  let b := if soon then b.inc K.CAP_TRG_TOO_SOON w 1 else b.inc K.CAP_TRG_SECONDARY w 1
  let (ends, stop) := b.stopsOf w vs
  let b := match stop with
    | some e =>
      let y := { x with viols := x.viols ++ ends }
      if soon then b.setCap w { y with halt := some (match x.halt with | some t => min t e | none => e) }
      else
        let h := match x.hi with | some h => min h e | none => e
        b.setCap w { y with hi := some h, reason := if x.reason ≠ 0 ∧ x.hi = some h then x.reason else 4 }
    | none => b
  let (b, ok) := b.cpWrites w (d :: plainViols vs)
  if !ok then b.cpEnd w 2
  else if soon then (if (b.cap w).halt.any (fun h => decide (h ≤ (b.cap w).cur)) then b.cpEnd w 4 else b)
  else match (b.cap w).hi with
    | some h => if h ≤ (b.cap w).cur then b.cpWindowDone w else b
    | none => b

/-- The report of the lowest coincident unit reaches a writer, with the mask and the violations of the others (R189, R194). -/
def Block.capReport (b : Block) (w : Nat) (f : Fire) (others : List Fire) : Block :=
  let b := (b.cpDrain w).cpResume w
  let x := b.cap w
  let coin := maskOf 16 (fun u => others.any (fun g => g.rep.unit == u) && u != f.rep.unit)
  let vs := (f :: others).filterMap (fun g => g.viol.map (fun v => (g.rep, v)))
  match b.cpState w with
  | 1 =>
    let soon := decide (b.cpMode w = 1) && (match x.last with
      | some e => decide (f.rep.point < e + b.cpPre w)
      | none => false)
    if soon then b.cpSecondary w f.rep coin vs true else b.cpPrimary w f.rep coin vs
  | 2 | 3 => b.cpSecondary w f.rep coin vs false
  | _ => b.inc K.CAP_TRG_IGNORED w 1

/-! ## Commands and life (R198, R209, R218, R220) -/

/-- CAP[w].MARK performed at the present beat (R218). -/
def Block.capMark (b : Block) (w : Nat) : Block :=
  let x := b.cap w
  if b.cpState w = 0 ∨ b.cpState w = 4 then b
  else
    let n := x.users + 1
    b.setCap w { x with users := n, marks := x.marks ++ [⟨4, b.firstItem w b.beat, n⟩] }

/-- The stream engine has sent the oldest record, which frees it (R209). -/
def Block.capFree (b : Block) (w : Nat) : Block :=
  let x := b.cap w
  (b.setCap w { x with recs := x.recs.drop 1, pass := x.pass.drop 1 }).cpOldest w

/-- The evidence chain of a writer is computed and signed (R220). -/
def Block.cpSign (b : Block) (m : Mem) (w : Nat) : Block :=
  let x := b.cap w
  match x.evid with
  | none => b
  | some (first, last) =>
    let fp := (List.range 48).map (fun k => Config.deviceFingerprint k)
    let recs := x.recs.filter (fun r => decide (first ≤ r.seq) && decide (r.seq ≤ last))
    let h0 := sha384 (fp ++ beBytes 4 (b.val (ki K.CAP_ARM_SEQ w)) ++ beBytes 1 w)
    let h := recs.foldl (fun h r => sha384 (h ++ b.ringRead m w r.off r.len)) h0
    let t := b.now.bytes
    let msg := sha384 (h ++ beBytes 8 first ++ beBytes 8 last ++ t ++ fp)
    let sig := (List.range 96).map (fun k => Config.identitySignature (beNat msg) k)
    let seq := b.val (ki K.CAP_NEXT_SEQ w)
    let b := (b.cpPut w { type := 0x1E, count := recs.length, index := first, body := beBytes 8 last ++ t ++ zeros 12 ++ h ++ sig ++ fp } true).1
    let b := (b.setCap w { b.cap w with evid := none }).setCpState w 0
    b.raise 673 (beBytes 1 w ++ zeros 7 ++ beBytes 8 seq)

/-- The evidence chain first in order completes. -/
def Block.capEvidence (b : Block) (m : Mem) : Block :=
  match b.evidence with
  | [] => b
  | w :: rest => { b with evidence := rest }.cpSign m w

/-- ENABLE = 1 performed: a fresh ring (R198, R213). -/
def Block.capStart (b : Block) (w : Nat) : Block :=
  let b := (b.setLife bCAP w lStarting).cpRingShow w
  let b := ((b.pf K.CAP_WR_PTR w 47 0 0).pv K.CAP_NEXT_SEQ w 1).pf K.CAP_CAPTURE_PTR w 47 0 0
  let b := ((b.pv K.CAP_ARM_SEQ w 0).pf K.CAP_SEGMENTS w 16 0 0).setCpState w 0
  (b.setCap w { fillAt := b.clock }).cpOldest w
def Block.capStop (b : Block) (w : Nat) : Block := (b.setLife bCAP w lStopping).cpStop w 5
def Block.capBoundary (b : Block) (w : Nat) : Block :=
  if b.life bCAP w = lStarting then b.setLife bCAP w lOn
  else if b.life bCAP w = lStopping ∧ b.cpState w = 0 ∧ (b.cap w).tails.isEmpty then b.setLife bCAP w lOff
  else b

/-- What an armed writer still has to write (R200), from the first item of its open block on. -/
def Block.cpNeed (b : Block) (w : Nat) : Option Nat :=
  let x := b.cap w
  let per := if b.cpKind w = 0 then 4096 else 1
  let from' := match x.gaps with
    | g :: _ => if x.blk.isEmpty then g.first else min g.first x.blkAt
    | [] => if x.blk.isEmpty then x.cur else x.blkAt
  let left := ((x.hi.getD x.cur) - from') / b.itemStep w
  match b.cpMode w with
  | 2 | 4 => none
  | mode =>
    if b.cpState w = 1 then b.cpStorage w
    else
      let more := if mode = 1 then (b.cpSegs w - b.f K.CAP_SEGMENTS w 16 0 - 1) *
        (ceilDiv (b.cpPre w + b.cpPost w) 4096 * b.unitBytes w + 512) else 0
      some (ceilDiv left per * b.unitBytes w + more + 512)

/-- An armed writer that no longer fits its ring ends there (R200). -/
def Block.cpFits (b : Block) (w : Nat) : Block :=
  if [1, 2, 3].contains (b.cpState w) then
    match b.cpNeed w with
    | some n => if b.cpBytes w < n then b.cpEnd w 3 else b
    | none => b
  else b

/-- Every ring loses its content when pseudo-channel `p` retires, that of a writer that is OFF too, and begins with the GAP (R200, R243);
records that wait for space follow it. -/
def Block.capRetire (b : Block) (w p : Nat) : Block :=
  if b.dev ≠ .flow ∨ b.f K.CAP_RING w 15 8 = 0 then b
  else
    let x := b.cap w
    let items := x.recs.filter (fun r => decide (r.lo < r.hi) && r.type != 0x10)
    let b := ((b.cpRingShow w).setCap w { x with recs := [], drafts := [] }).pf K.CAP_WR_PTR w 47 0 0 |>.cpOldest w
    let b := match items.head?, items.getLast? with
      | some a, some c => (b.cpGap w ⟨a.lo, (c.hi - a.lo) / b.itemStep w, 5, p⟩).1
      | _, _ => b
    let b := b.setCap w { b.cap w with drafts := x.drafts }
    (b.onTails w (fun b => b.cpFits w)).cpFits w

/-- The change to FLOW ends every writer that is not OFF, with reason STATE; what EVIDENCE owes is signed before the store is lost
(R201, R210). -/
def Block.capFlowEntry (m : Mem) (b : Block) : Block :=
  (List.range 32).foldl (fun b w =>
    if b.isOff bCAP w then b
    else
      let b := (b.onTails w (fun b => b.cpEnd w 6)).cpEnd w 6
      let b := b.cpSign m w
      let b := (((b.setCap w {}).setCpState w 0).setEnable bCAP w false).setLife bCAP w lOff
      { b.setHeld bCAP w 0 with evidence := b.evidence.filter (· != w) }) b

/-! ## Checks of writes (R199, R201) -/

/-- Two ranges `[a, a + n)` and `[c, c + k)` overlap. -/
def overlaps (a n c k : Nat) : Bool := decide (a < c + k) && decide (c < a + n) && n != 0 && k != 0

/-- A THAW ring of another writer that is not OFF overlaps (R201). -/
def Block.thawClash (b : Block) (w v : Nat) : Bool :=
  (List.range 32).any (fun u => u != w && !b.isOff bCAP u &&
    overlaps (bits v 5 0) (bits v 12 6) (b.f K.CAP_THAW_RING u 5 0) (b.f K.CAP_THAW_RING u 12 6))

/-- A replay source that is not OFF reads a writer's ring (R224). -/
def Block.replayReads (b : Block) (w : Nat) (except : Nat) : Bool :=
  (List.range 16).any (fun r => r != except && !b.isOff bCAP (0x20 + r) && b.f K.CAP_RPL_SRC (0x20 + r) 5 5 == 0 &&
    b.f K.CAP_RPL_SRC (0x20 + r) 4 0 == w)

/-- Whether a writer that is not DISARMED records a lane, a view or a trace unit, or a trace unit that a view feeds (R198). -/
def Block.capProtects (b : Block) (kind src : Nat) : Bool :=
  let uses (w : Nat) (b : Block) : Bool := (b.cpKind w == kind && b.cpSrc w == src) ||
    (kind == 1 && b.cpKind w == 2 && b.f K.XFM_TRC_SRC (trcInst (b.cpSrc w)) 6 0 == src)
  (List.range 32).any (fun w => (b.cpState w != 0 && uses w b) ||
    (b.cap w).tails.any (fun t => (b.underCfg t.2 (fun b => (b, uses w b))).2))

/-- Step 8: the states that a writer's or a replay source's keys and starts need. -/
def Block.capState (b : Block) (i item v : Nat) : Status :=
  if i < 0x20 then
    if (item = 0x11 ∨ item = 0x12) ∧ !b.isOff bCAP i then .state
    else if item = 1 ∧ v % 2 = 1 ∧ b.isOff bCAP i then
      if b.dev ≠ .flow ∧ 2 ≤ (which 32 (fun u => u != i && !b.isOff bCAP u)).length then .notInThaw
      else need (!b.replayReads i 99) .busy
    else .ok
  else
    if 0x10 ≤ item ∧ item ≤ 0x13 ∧ !b.isOff bCAP i then .state
    else if item = 1 ∧ v % 2 = 1 ∧ b.isOff bCAP i then
      if b.dev ≠ .flow then .notInThaw
      else if b.f K.CAP_RPL_SRC i 5 5 = 0 then
        let w := b.f K.CAP_RPL_SRC i 4 0
        need (b.isOff bCAP w && !b.replayReads w (i - 0x20)) .busy
      else .ok
    else .ok

/-- Step 9: values. -/
def Block.capValue (b : Block) (i item v : Nat) : Status :=
  if i < 0x20 then
    if item = 0x11 then need (bits v 15 8 == 0 || decide (bits v 7 0 + bits v 15 8 ≤ 134)) .paramRange
    else if item = 0x12 then need (bits v 12 6 == 0 || decide (bits v 5 0 + bits v 12 6 ≤ 64)) .paramRange
    else .ok
  else if item = 1 ∧ v % 2 = 1 ∧ b.f K.CAP_RPL_SRC i 5 5 = 0 then
    need (b.cpKind (b.f K.CAP_RPL_SRC i 4 0) == 0) .paramRange
  else .ok

/-- Step 10: memory. -/
def Block.capBudget (b : Block) (i item v : Nat) : Status :=
  if i < 0x20 then
    if item = 0x11 then need (bits v 15 8 == 0 || b.unitsFree (bits v 7 0) (bits v 15 8) (1 + i)) .budget
    else if item = 0x12 then need (!b.thawClash i v) .budget
    else if item = 1 ∧ v % 2 = 1 ∧ b.dev ≠ .flow then need (!b.thawClash i (b.val (ki K.CAP_THAW_RING i))) .budget
    else .ok
  else .ok

/-! ## Replay (R224, R225) -/

def Block.rpl (b : Block) (r : Nat) : Replay := tget {} b.replays r
def Block.setRpl (b : Block) (r : Nat) (x : Replay) : Block := { b with replays := tset b.replays r x }
def Block.rplWriter (b : Block) (r : Nat) : Nat := b.f K.CAP_RPL_SRC (0x20 + r) 4 0
def Block.setRplState (b : Block) (r s : Nat) : Block := b.pf K.CAP_RPL_STATE (0x20 + r) 1 0 s

/-- ENABLE = 1 performed: RPL_FIRST, and the buffering begins (R225). -/
def Block.replayStart (b : Block) (r : Nat) : Block :=
  let i := 0x20 + r
  let oldest := ((b.cap (b.rplWriter r)).recs.find? (fun x => x.type == 1 || x.type == 0x11)).map (·.lo)
  let first := if b.f K.CAP_RPL_SRC i 5 5 = 1 then 0 else max (b.val (ki K.CAP_RPL_FROM i)) (oldest.getD 0)
  ((((b.setLife bCAP i lStarting).pv K.CAP_RPL_FIRST i first).pv K.CAP_RPL_POS i 0).setRplState r 1).setRpl r { idx := first }
def Block.replayStop (b : Block) (r : Nat) : Block := b.setLife bCAP (0x20 + r) lStopping
/-- The first 4,096 samples are buffered. -/
def Block.replayBuffered (b : Block) (r : Nat) : Block :=
  let i := 0x20 + r
  if b.life bCAP i = lStarting then
    let b := (b.setLife bCAP i lOn).setRplState r 2
    match b.f K.CAP_RPL_SRC i 5 5, (b.dec (b.f K.CAP_RPL_SRC i 6 6)).out with
    | 1, d :: _ => b.pv K.CAP_RPL_FIRST i d.first
    | _, _ => b
  else b
/-- RPL_POS shows the position at the boundary; a stop completes there. -/
def Block.replayBoundary (b : Block) (r : Nat) : Block :=
  let i := 0x20 + r
  let b := if b.isOff bCAP i then b else b.pv K.CAP_RPL_POS i (b.rpl r).pos
  if b.life bCAP i = lStopping then ((b.setLife bCAP i lOff).setRplState r 0).setRpl r {} else b

/-- The stored sample of an index, restored to 24 bits, or the cause and detail of its gap; none where no held record holds
it. -/
def Block.storedAt (b : Block) (m : Mem) (w idx : Nat) : Option (Sum (Int × Int) (Nat × Nat)) :=
  match (b.cap w).recs.find? (fun r => (r.type == 1 || r.type == 0x11) && decide (r.lo ≤ idx) && decide (idx < r.hi)) with
  | none => none
  | some r =>
    if r.type = 1 then
      let pack := bits (beNat (b.ringRead m w (r.off + 2) 1)) 3 2
      let n := packBytes pack
      let v := beNat (b.ringRead m w (r.off + 64 + (idx - r.lo) * n) n)
      let c := 4 * n
      some (.inl (sgn 24 (v / 2 ^ c * 2 ^ (24 - c)), sgn 24 (v % 2 ^ c * 2 ^ (24 - c))))
    else some (.inr (beNat (b.ringRead m w (r.off + 40) 2), beNat (b.ringRead m w (r.off + 42) 2)))

/-- The index after the last that a replay delivers: RPL_TO, or after the newest stored sample. -/
def Block.replayEnd (b : Block) (r : Nat) : Nat :=
  let newest := (((b.cap (b.rplWriter r)).recs.filter (fun x => x.type == 1)).map (·.hi)).foldl max 0
  min (b.val (ki K.CAP_RPL_TO (0x20 + r))) newest

/-- A sample that a replay source does not deliver: counted, and one EV_REPLAY_DRY for each run. -/
def Block.replayDry (b : Block) (r : Nat) : Block × Sum (Int × Int) (Nat × Nat) :=
  let x := b.rpl r
  let b := b.inc K.CAP_RPL_DRY (0x20 + r) 1
  let b := if x.dry then b else b.raise 674 (beBytes 1 r ++ zeros 7 ++ beBytes 8 x.pos)
  (b.setRpl r { x with dry := true }, .inr (6, r))

/-- The sample at a replay's next position: a value, or a gap's cause and detail; `late` when it cannot be delivered in time. A missing sample
of a decompressor is one that the source cannot deliver (R225, R361). -/
def Block.replayMake (b : Block) (m : Mem) (r : Nat) (late : Bool) : Block × Sum (Int × Int) (Nat × Nat) :=
  let i := 0x20 + r
  let x := b.rpl r
  if b.f K.CAP_RPL_SRC i 5 5 = 1 then
    let (b, v) := if late then (b, none) else b.decTake (b.f K.CAP_RPL_SRC i 6 6)
    let (b, v) : Block × Sum (Int × Int) (Nat × Nat) := match v with
      | some (some p) => (b.setRpl r { x with dry := false }, .inl p)
      | _ => b.replayDry r
    (b.setRpl r { b.rpl r with pos := x.pos + 1 }, v)
  else
  let stop := b.replayEnd r
  let loop := b.f K.CAP_RPL_SRC i 7 7 == 1
  let first := b.val (ki K.CAP_RPL_FIRST i)
  let idx := if stop ≤ x.idx ∧ loop ∧ first < stop then first else x.idx
  let ended := decide (stop ≤ idx)
  let b := if ended ∧ b.f K.CAP_RPL_STATE i 1 0 = 2 then b.setRplState r 3 else b
  let (b, v) := match (if ended || late then none else b.storedAt m (b.rplWriter r) idx) with
    | some v => (b.setRpl r { x with dry := false }, v)
    | none => b.replayDry r
  (b.setRpl r { b.rpl r with pos := x.pos + 1, idx := if ended then idx else idx + 1 }, v)

/-- The lanes that take a replay source. -/
def Block.replayLanes (b : Block) (r : Nat) : List Nat := which 32 (fun j => (b.lane j).running && b.lnReplay j && b.lnLink j == r)

/-- The next sample of a replay for lane `i` (R225). Every lane on the source takes each of its positions, from the one at which it joined:
one that the source has passed is what it delivered there. -/
def Block.replayNext (b : Block) (m : Mem) (r i : Nat) (late : Bool) : Block × Sum (Int × Int) (Nat × Nat) :=
  let x := b.rpl r
  let k := min ((b.lane i).rplPos.getD x.pos) x.pos
  let (b, v) :=
    if k < x.pos then (b, x.given.getD (x.given.length - (x.pos - k)) (.inr (6, r)))
    else
      let (b, v) := b.replayMake m r late
      (b.setRpl r { b.rpl r with given := x.given ++ [v] }, v)
  let b := b.setLane i { b.lane i with rplPos := some (k + 1) }
  let y := b.rpl r
  let low := (b.replayLanes r).foldl (fun a j => min a ((b.lane j).rplPos.getD y.pos)) y.pos
  (b.setRpl r { y with given := y.given.drop (y.given.length - (y.pos - low)) }, v)

end Sys2Proof.Machine
end

