-- ==== Sys2Proof/Machine/Clock.lean ====
section
/-! DEFINITION. Clock synthesis (R414 to R426): the ADPLLs' own state. What a loss or a lock does to the domains is joined in
Domains.lean. -/
namespace Sys2Proof.Machine

def bCLK : Nat := 0x03

def Block.pll (b : Block) (n : Nat) : Pll := tget {} b.plls n
def Block.setPll (b : Block) (n : Nat) (x : Pll) : Block := { b with plls := tset b.plls n x }

/-- STATUS (R425): 0 LOCKED, 1 SLEWING, 2 SEARCHING, 3 LOCKING, 4 RELOCK_WAIT, 5 HALTED. -/
def Block.clkState (b : Block) (n : Nat) : Nat := b.f K.CLK_STATUS n 2 0
def Block.setClkState (b : Block) (n s : Nat) : Block := b.pf K.CLK_STATUS n 2 0 s
def Block.attempts (b : Block) (n : Nat) : Nat := b.f K.CLK_STATUS n 10 9
/-- LOCKED or SLEWING: the domain runs on its ADPLL. -/
def Block.clkLocked (b : Block) (n : Nat) : Bool := decide (b.clkState n ≤ 1)

/-- Core cycles of a number of microseconds. -/
def usCycles (us : Nat) : Nat := us * 1600

/-- The primary output that the owning chapter asks for, in kHz (R414). -/
def Block.clkTarget (b : Block) (n : Nat) : Nat :=
  match n with
  | 0 => 1600000
  | 1 => (rndEven b.baseRate 40).toNat
  | 2 => 156250
  | 3 => b.val (ki K.DEN_PCLK 0x80)
  | 4 => b.val (ki K.DEN_PCLK 0x81)
  | _ => 20480

/-- A target with |y| = 200 ppm lies within FMAX (R418). -/
def underFmax (target fmax : Nat) : Bool := decide (target * 1000200 ≤ fmax * 1000000)
/-- A base line rate's target, a 40th of it, with |y| = 200 ppm lies within FMAX. -/
def rateUnderFmax (rate fmax : Nat) : Bool := underFmax rate (40 * fmax)

/-- The domain moves to the safe clock (R419, R421). -/
def Block.toSafe (b : Block) (n : Nat) : Block :=
  (b.setPll n { b.pll n with down := true, safeBeat := true }).pv K.CLK_FREQ_OUT n 400000

/-- A lock sequence begins on the safe clock (R416, R417): LOOP and DITHER come into force, and the LFSR is loaded. -/
def Block.clkSequence (b : Block) (n : Nat) (change : Bool) : Block :=
  let b := (b.takeHeld bCLK n).toSafe n
  (b.setPll n { b.pll n with lfsr := b.f K.CLK_DITHER n 22 0, since := b.clock, change := change }).setClkState n 2

/-- Whether a new target lies in the present band. A lock leaves 400 ppm to either edge (R415); the edges themselves have no
values (log entry 20). -/
def inBand (band old new : Nat) : Bool :=
  decide ((max old new - min old new) * 1000000 ≤ 400 * old) || Config.inBand band old new

/-- A new target at the present beat (R419). -/
def Block.clkRetune (b : Block) (n : Nat) : Block :=
  let new := b.clkTarget n
  let old := (b.pll n).target.getD new
  let b := b.setPll n { b.pll n with target := some new }
  if !b.clkLocked n then b
  else if old = new then b
  else if inBand (b.f K.CLK_STATUS n 8 3) old new then (b.setClkState n 1).pv K.CLK_FREQ_OUT n new
  else b.clkSequence n true

/-- The ADPLL loses lock (R421, R424): during a sequence the sequence fails. -/
def Block.clkFail (b : Block) (n : Nat) : Block :=
  let b := b.inc K.CLK_RELOCK_FAIL n 1
  let x := b.pll n
  let b := b.setPll n { x with since := b.clock, change := false }
  let a := if x.change then 0 else b.attempts n
  if 3 ≤ a then (b.setClkState n 5).raise (864 + 4 * n + 2) (beBytes 1 a)
  else (b.setClkState n 4).pf K.CLK_STATUS n 10 9 a

def Block.clkLoss (b : Block) (n : Nat) : Block :=
  let st := b.clkState n
  if st ≤ 1 then
    let b := b.inc K.CLK_UNLOCKS n 1
    let b := b.raise (864 + 4 * n + 1) (beBytes 1 st ++ beBytes 1 (b.f K.CLK_STATUS n 8 3) ++ zeros 6 ++ beBytes 8 b.beat)
    (b.clkSequence n false).pf K.CLK_STATUS n 10 9 1
  else if st ≤ 3 then b.clkFail n
  else b

/-- Lock is indicated after `ns` nanoseconds in a band (R416, R423). -/
def Block.clkLock (b : Block) (n band ns : Nat) : Block :=
  if b.clkState n = 2 ∨ b.clkState n = 3 then
    let a := b.attempts n
    let b := ((b.setClkState n 0).pf K.CLK_STATUS n 8 3 band).pf K.CLK_STATUS n 10 9 0
    let b := (b.pf K.CLK_LAST_LOCK n 15 0 ns).pv K.CLK_FREQ_OUT n (b.clkTarget n)
    let b := b.setPll n { b.pll n with target := some (b.clkTarget n), change := false }
    b.raise (864 + 4 * n) (beBytes 1 band ++ beBytes 1 a ++ zeros 2 ++ beBytes 4 (bits ns 15 0) ++ beBytes 8 b.beat)
  else b

/-- A sequence that has not indicated lock after 60 µs fails (R416). -/
def Block.clkTimeout (b : Block) (n : Nat) : Block :=
  if (b.clkState n = 2 ∨ b.clkState n = 3) ∧ (b.pll n).since + usCycles 60 ≤ b.clock then b.clkFail n else b

/-- The next attempt starts 100 µs after a failed one (R423). -/
def Block.clkRetry (b : Block) (n : Nat) : Block :=
  if b.clkState n = 4 ∧ (b.pll n).since + usCycles 100 ≤ b.clock then
    (b.clkSequence n false).pf K.CLK_STATUS n 10 9 (b.attempts n + 1)
  else b

/-- RELOCK performed (R424). -/
def Block.clkRelock (b : Block) (n : Nat) : Block :=
  if b.clkLocked n then b.clkSequence n true
  else if b.clkState n = 5 then (b.clkSequence n false).pf K.CLK_STATUS n 10 9 1
  else b

/-- The NTO reaches its target. -/
def Block.clkSlewDone (b : Block) (n : Nat) : Block := if b.clkState n = 1 then b.setClkState n 0 else b

/-- A boundary (R423, R425): SAFE_BEATS counts the beat that ends; data parts resume at the first boundary after lock; a
search has ended after 12 µs. -/
def Block.clkBoundary (b : Block) (n : Nat) : Block :=
  let x := b.pll n
  let b := if x.safeBeat then b.inc K.CLK_SAFE_BEATS n 1 else b
  let b := if b.clkState n = 2 ∧ x.since + usCycles 12 ≤ b.clock then b.setClkState n 3 else b
  b.setPll n { x with down := x.down && !b.clkLocked n, safeBeat := !b.clkLocked n }

/-- Step 8 for CLK (R418, R420, R424). -/
def Block.clkCheckState (b : Block) (n item : Nat) : Status :=
  if item = 0x13 then
    if (List.range 16).any (fun k => !b.isOff bJRX k) ∨ (List.range 4).any (fun k => !b.isOff bJTX k) then .busy
    else need (b.clkLocked 1) .busy
  else if item = 0x14 then need (b.clkLocked n || b.clkState n == 5) .busy
  else .ok

/-- Step 9 for CLK. -/
def Block.clkValue (b : Block) (n item v : Nat) : Status :=
  if item = 0x13 then need (rateUnderFmax (bits v 24 0) (b.val (ki K.CLK_FMAX 1))) .paramRange
  else if item = 0x10 ∧ n = 1 then need (rateUnderFmax b.baseRate v) .paramRange
  else if item = 0x10 then need (underFmax (b.clkTarget n) v) .paramRange
  else .ok

end Sys2Proof.Machine
end

