-- ==== Sys2Proof/Machine/Planes.lean ====
section
/-! DEFINITION. Density and spectrogram planes, the display buffer pool and the compositor (R248 to R270), and the DENSITY source
of trigger units (R179). -/
namespace Sys2Proof.Machine

def bDEN : Nat := 0x0A
def spgInst (s : Nat) : Nat := 0x20 + s
def compInst : Nat := 0x40
def bufInst (k : Nat) : Nat := 0x50 + k
def outInst (o : Nat) : Nat := 0x80 + o

def Block.plane (b : Block) (p : Nat) : Plane := tget {} b.planes p
def Block.setPlane (b : Block) (p : Nat) (x : Plane) : Block := { b with planes := tset b.planes p x }

/-! ## Settings of a density plane (R268) -/

def Block.plView (b : Block) (p : Nat) : Nat := b.f K.DEN_SRC p 6 0
def Block.plC (b : Block) (p : Nat) : Nat := b.f K.DEN_GEOM p 11 0
def Block.plR (b : Block) (p : Nat) : Nat := b.f K.DEN_GEOM p 22 12
def Block.plF (b : Block) (p : Nat) : Nat := max 1 (b.f K.DEN_FRAME p 15 0)

/-- Tiles of 64 KiB (R249). -/
def Block.plTiles (b : Block) (p : Nat) : Nat := ceilDiv (2 * b.plC p * b.plR p * 3) 65536

/-- Increments per core clock (R26). -/
def Block.plCost (b : Block) (p : Nat) : Nat :=
  let j := b.plView p
  let (n, d) := b.lnFs (viewLane j)
  ceilDiv (b.plC p * n) (d * b.vwHop j * 1600000000)

/-- The sum of the enabled planes' increments, at the rates in force (R26, R28). -/
def Block.histUsed (b : Block) : Nat := ((which 16 (fun p => !b.isOff bDEN p)).map b.plCost).foldl (· + ·) 0

/-! ## The buffer pool (R264, R265, R281) -/

/-- Bytes of one buffer's range. -/
def bufRange : Nat := 48 * 2 ^ 20
def Block.poolClaimed (b : Block) : Bool := b.f K.DEN_POOL compInst 8 8 == 1
/-- A buffer lies in the pool and is in service. -/
def Block.bufOk (b : Block) (k : Nat) : Bool :=
  b.poolClaimed && !b.bufOut.contains k && decide ((k + 1) * bufRange ≤ b.capacity b.poolSize)
def Block.bufAddr (b : Block) (k : Nat) : Nat := b.f K.DEN_POOL compInst 7 0 * 2 ^ 30 + k * bufRange
def Block.bufW (b : Block) (k : Nat) : Nat := b.f K.DEN_BUF_CFG (bufInst k) 11 0
def Block.bufH (b : Block) (k : Nat) : Nat := b.f K.DEN_BUF_CFG (bufInst k) 23 12
def Block.bufFmt (b : Block) (k : Nat) : Nat := b.f K.DEN_BUF_CFG (bufInst k) 25 24

/-- A buffer is in service with a format and size. -/
def Block.bufIs (b : Block) (k fmt w h : Nat) : Bool :=
  b.bufOk k && b.bufFmt k == fmt && b.bufW k == w && b.bufH k == h && w != 0

/-- POOL performed: U_p units are claimed and every buffer returns to service (R264). -/
def Block.poolWrote (b : Block) : Block :=
  let b := { b with poolSize := if b.poolClaimed then poolUnits b.nPc else 0, bufOut := [] }
  (List.range 16).foldl (fun b k => b.pf K.DEN_BUF_ADDR (bufInst k) 47 0 (b.bufAddr k)) b

/-- The pool after a retirement: it claims the next unit if that is free, else buffers go out of service (R264). -/
def Block.poolRetire (b : Block) : Block :=
  if !b.poolClaimed then b
  else
    let first := b.f K.DEN_POOL compInst 7 0
    let next := first + b.poolSize
    let b := if b.poolSize < poolUnits b.nPc ∧ next < 134 ∧ (b.claimOf next).isNone then { b with poolSize := b.poolSize + 1 } else b
    { b with bufOut := which 16 (fun k => decide (b.capacity b.poolSize < (k + 1) * bufRange)) }

/-- A buffer holds a frame that an output has latched and not retired, or a layer of a composition in progress (R281). -/
def Block.bufReferenced (b : Block) (k : Nat) : Bool :=
  ([0, 1].any (fun o => let x := tget ({} : Out) b.outs o; x.refs && (match x.latched with | some l => l.1 == k | none => false))) ||
  (match b.comp.busy with | some c => c.reads.contains k | none => false)

/-- A deferred BUF_CFG comes into force once nothing references its buffer: EV_DISP_BUF_RELEASED (R281). -/
def Block.bufSettle (b : Block) (k : Nat) : Block :=
  match tfind b.bufWait k with
  | some v => if b.bufReferenced k then b else
      ({ b with bufWait := tdel b.bufWait k }.pv K.DEN_BUF_CFG (bufInst k) v).raise 903 (beBytes 1 k)
  | none => b
def Block.bufSettleAll (b : Block) : Block := (List.range 16).foldl Block.bufSettle b

/-- BUF_CFG takes a value: deferred while the buffer is referenced. -/
def Block.bufCfg (b : Block) (k v : Nat) : Block × Status :=
  if (tfind b.bufWait k).isSome then (b, .busy)
  else if b.bufReferenced k then ({ b with bufWait := tset b.bufWait k v }, .deferred)
  else (b.pv K.DEN_BUF_CFG (bufInst k) v, .ok)

/-- A role of buffer `k`, by what names it; `skip` is the key that a write would replace. A field that is not enabled names
none (log entry 23). -/
def Block.bufRoles (b : Block) (k : Nat) (skip : Nat) : List Nat :=
  let name (key : Nat) (on : Bool) (l : List Nat) : List Nat := if key != skip && on && l.contains k then [key] else []
  name (ki K.DEN_COMP_FB compInst) true [b.f K.DEN_COMP_FB compInst 3 0, b.f K.DEN_COMP_FB compInst 7 4, b.f K.DEN_COMP_FB compInst 11 8] ++
  (let key := ki K.DEN_LAYERS compInst
   let v := b.val key
   if key = skip then [] else
     ((if bit v 16 && bits v 3 0 == k then [key] else []) ++ (if bit v 17 && (bits v 7 4 == k || bits v 11 8 == k) then [key] else []) ++
      (if bit v 18 && bits v 15 12 == k then [key] else []))) ++
  ((List.range 16).map (fun p =>
    name (ki K.DEN_IMG_BUF p) (b.f K.DEN_IMG_BUF p 8 8 == 1) [b.f K.DEN_IMG_BUF p 3 0, b.f K.DEN_IMG_BUF p 7 4] ++
    name (ki K.DEN_DUMP p) (b.f K.DEN_DUMP p 1 0 != 0) [b.f K.DEN_DUMP p 5 2])).flatten

/-- The buffers that a key's value names, each once for each role that it gives. -/
def keyNames (key v : Nat) : List (List Nat) :=
  let it := keyItem key; let i := keyInst key
  if i = compInst ∧ it = 0x11 then [[bits v 3 0, bits v 7 4, bits v 11 8]]
  else if i = compInst ∧ it = 0x18 then
    (if bit v 16 then [[bits v 3 0]] else []) ++ (if bit v 17 then [[bits v 7 4, bits v 11 8]] else []) ++
      (if bit v 18 then [[bits v 15 12]] else [])
  else if i < 16 ∧ it = 0x16 then (if bit v 8 then [[bits v 3 0, bits v 7 4]] else [])
  else if i < 16 ∧ it = 0x17 then (if bits v 1 0 = 0 then [] else [[bits v 5 2]])
  else []

/-- A write names no buffer for a second role (R265), in force or waiting. -/
def Block.rolesFree (b : Block) (key v : Nat) : Bool :=
  let groups := keyNames key v
  let b' := { b with params := b.waiting.foldl (fun p (e : Nat × Word) => if keyBlock e.1 = bDEN then tset p e.1 e.2 else p) b.params }
  groups.flatten.all (fun k => (b.bufRoles k key).isEmpty && (b'.bufRoles k key).isEmpty) &&
  (List.range 16).all (fun k => decide ((groups.filter (fun g => g.contains k)).length ≤ 1))

/-! ## Counting (R250 to R252) -/

/-- The end of a frame that starts at or holds beat `s` (R253, R259). -/
def Block.frameEnd (b : Block) (p s : Nat) (x : Plane) : Nat :=
  let e := (s / b.plF p + 1) * b.plF p
  match x.stopAt with | some t => if t < e then t else e | none => e

/-- The row of a value, and whether it was clamped (R251). -/
def Block.plRow (b : Block) (p : Nat) (v : Int) : Nat × Bool :=
  let bottom := sgn 16 (b.f K.DEN_ROW_MAP p 15 0)
  let span := b.f K.DEN_ROW_MAP p 31 16
  let r := b.plR p
  if b.f K.DEN_GEOM p 23 23 = 0 then
    let n := ((v - bottom) * r).fdiv span
    if n < 0 then (0, true) else if (r : Int) ≤ n then (r - 1, true) else (n.toNat, false)
  else
    let i := (v - bottom).fdiv (2 ^ b.f K.DEN_GEOM p 26 24 : Nat)
    let j : Nat := if i < 0 then 0 else if 1023 < i then 1023 else i.toNat
    (b.f (K.DEN_ROW_TAB + j) p 9 0, decide (i < 0) || decide (1023 < i))

/-- COL_RED as a detector: MAX, MIN, and RMS. -/
def colDetector (c : Nat) : Nat := [0, 1, 3].getD c 0

/-- The value of each column (R250). -/
def Block.plColumns (b : Block) (p : Nat) (sp : Spectrum) : List Int :=
  let w := sp.bins.length / max 1 (b.plC p)
  (specPoints sp w).map (fun q => q.value (colDetector (b.f K.DEN_SRC p 8 7)) 1 w sp.sw sp.offs)

def satCount (n : Nat) : Nat := min 16777215 n

/-- One included spectrum (R252). -/
def Block.plCount (b : Block) (p : Nat) (sp : Spectrum) : Block :=
  let x := b.plane p
  if sp.beat < x.clearBeat then b
  else if sp.exclDen then (b.setPlane p { x with excl := x.excl + 1 }).inc K.DEN_EXCLUDED p 1
  else
    let vs := b.plColumns p sp
    let rows := vs.map (b.plRow p)
    let r := b.plR p
    let count := (rows.mapIdx (fun c y => c * r + y.1)).foldl (fun t k => tupd 0 t k (fun n => satCount (n + 1))) x.count
    let clip := (rows.filter (·.2)).length
    let seen : Seen := ⟨sp.q, sp.s, sp.s + 2 ^ sp.n - 1, sp.flags⟩
    ((b.setPlane p { x with count := count, incl := x.incl + 1, last := some seen }).inc K.DEN_SPECTRA p 1).inc K.DEN_CLIPPED p clip

/-! ## The close pass (R253 to R258) -/

def decayed (mode k fraction n : Nat) : Nat :=
  let d := match mode with | 0 => 65536 | 1 => 65536 - 2 ^ (16 - k) | _ => fraction
  n * d / 65536

/-- A density fraction (R255). -/
def fraction (c w : Nat) : Nat := if w = 0 then 0 else min 65535 (c * 65536 / w)

/-- A FRAME parameter as it governs the frame that ends at `stop` (R261). -/
def Block.plAt (b : Block) (k p stop hi lo : Nat) : Nat := bits (b.valAt (ki k p) stop) hi lo

/-- The colour index of a fraction (R256). -/
def colourIndex (scale gain frac : Nat) : Nat :=
  if scale = 1 then min 1023 (frac * gain / 65536)
  else min 1023 (rndEven (64 * fxLog2 (frac + 1) : Nat) (2 ^ 40)).toNat

/-- The image and the dump that a pass writes; a frame that a composition or a buffer out of service keeps from being written
counts in IMG_SKIPPED. -/
def Block.plWrite (b : Block) (p : Nat) (c : Closing) (w : Nat) (sat : Bool) : Block :=
  let x := b.plane p
  let nc := b.plC p; let nr := b.plR p
  let img := b.plAt K.DEN_IMG_BUF p c.stop 31 0
  let dump := b.plAt K.DEN_DUMP p c.stop 31 0
  let bufA := bits img 3 0; let bufB := bits img 7 4
  let target := if x.image = some bufA then bufB else bufA
  let reading := match b.comp.busy with | some y => y.reads.contains target | none => false
  let skipImg := bit img 8 && (reading || !b.bufIs target 0 nc nr)
  let cellAt (col row : Nat) : Nat := tget 0 x.closed (col * nr + row)
  let b :=
    if bit img 8 && !skipImg then
      let cm := b.plAt K.DEN_CMAP p c.stop 31 0
      let pix (y col : Nat) : List Byte :=
        beBytes 4 (b.valAt (ki (K.DEN_COLOUR + colourIndex (bits cm 0 0) (bits cm 16 1) (fraction (cellAt col (nr - 1 - y)) w)) p) c.stop)
      (b.hbmStores (b.bufAddr target) ((List.range nr).map (fun y => ((List.range nc).map (pix y)).flatten)).flatten).setPlane p
        { x with image := some target }
    else b
  let dk := bits dump 5 2
  let wants := bits dump 1 0 == 1 || bits dump 1 0 == 2
  let skipDump := wants && !b.bufIs dk 1 nc (nr + 1)
  let b :=
    if wants && !skipDump then
      let head := beBytes 8 (b.val (ki K.DEN_FRAME_SEQ p) + 1) ++ beBytes 8 c.start ++ beBytes 4 w ++ beBytes 4 c.incl ++
        beBytes 4 c.excl ++ beBytes 1 (b2n c.part + 2 * b2n sat)
      let rows := ((List.range nr).map (fun y => ((List.range nc).map (fun col => beBytes 4 (cellAt col (nr - 1 - y)))).flatten)).flatten
      let b := b.hbmStores (b.bufAddr dk) (fixLen (nc * 4) head ++ rows)
      if bits dump 1 0 = 2 then
        b.strOfferAll 4 p c.start { kind := 6, index := b.val (ki K.DEN_FRAME_SEQ p) + 1, part := 4, data := rows,
                                    hdr := (head.drop 8).take 21 ++ beBytes 2 nc ++ beBytes 2 nr ++ zeros 7 }
      else if b.f K.DEN_DUMP p 1 0 = 1 then b.pf K.DEN_DUMP p 1 0 0 else b
    else b
  if skipImg || skipDump then b.inc K.DEN_IMG_SKIPPED p 1 else b

/-- A condition of a DENSITY unit (R179): a cell of an enabled region at or above the threshold. -/
def Block.denMeets (b : Block) (u p w : Nat) (closed : Tab Nat) : Bool :=
  let d := b.val (ki K.TRG_DEN u)
  let nr := b.plR p
  (List.range 8).any (fun r =>
    let g := b.val (ki (K.TRG_REGION + r) u)
    bit d (16 + r) && (
      (closed.any (fun e => decide (bits g 10 0 ≤ e.1 / nr) && decide (e.1 / nr ≤ bits g 21 11) && decide (bits g 31 22 ≤ e.1 % nr) &&
        decide (e.1 % nr ≤ bits g 41 32) && decide (bits d 15 0 ≤ fraction e.2 w))) ||
      -- an empty cell's fraction is 0
      (bits d 15 0 == 0 && decide (bits g 10 0 ≤ bits g 21 11) && decide (bits g 31 22 ≤ bits g 41 32))))

/-- A plane frame is evaluated in one interval of a DENSITY unit; `late` where its command says whether the path misses its bound. -/
def Block.denStep (b : Block) (u : Nat) (a : Arm) (p : Nat) (c : Closing) (w : Nat) (closed : Tab Nat) (late : Option Bool) :
    Block × Option Arm × List Fire :=
  let i := b.tgLane u
  let n := b.fresh
  let free (k : Nat) : Nat := (Config.emptyFrame (4 * n + k)).toNat
  let (point, det, q, fl) := match c.last with
    | some s => (if b.tgPlace u then s.det else s.s, s.det, s.q, s.flags)
    | none => (free 0, free 1, free 2, free 3 % 16)
  if a.outside det then (b, some a, [])
  else
    let a := a.saw det
    if b.denMeets u p w closed then
      b.judge u a { point := point, decision := det, sogm := fl, tp := b.lnTime i point, q := q,
                     late := late.elim (b.misses u) (· && b.lateSpan) } false
    else (b, some a, [])

/-- The DENSITY units of a plane read it at the end of its frame. -/
def Block.denAll (b : Block) (p : Nat) (c : Closing) (w : Nat) (closed : Tab Nat) (late : Option Bool) : Block × List Fire :=
  let mine (b : Block) (u : Nat) : Bool := b.tgSource u == 4 && b.tgPlane u == p
  let b := if c.last.isNone then b.tick else b
  (b.unitsFor mine).foldl (fun (acc : Block × List Fire) u =>
    let (b, f) := acc.1.eachArm u (fun b a => if mine b u then b.denStep u a p c w closed late else (b, some a, []))
    (b, acc.2 ++ f)) (b, [])

/-- The close pass of a plane ends: fractions, image, dump, decay (R254). A frame without a spectrum before the one in progress
is closed next. -/
def Block.plPassEnd (b : Block) (p : Nat) (late : Option Bool) : Block × List Fire :=
  let x := b.plane p
  match x.closing with
  | none => (b, [])
  | some c =>
    let mode := b.plAt K.DEN_DECAY p c.stop 1 0
    let dec (n : Nat) : Nat := decayed mode (b.plAt K.DEN_DECAY p c.stop 6 2) (b.plAt K.DEN_DECAY p c.stop 31 16) n
    let w := satCount (x.wDecayed + c.incl)
    let sat := x.sat || (mode == 0 && w == 16777215)
    let b := b.plWrite p c w sat
    let b := b.inc K.DEN_SAT_CELLS p (x.closed.filter (fun e => e.2 == 16777215)).length
    let b := (b.pf K.DEN_WEIGHT p 23 0 w).pv K.DEN_FRAME_SEQ p (b.val (ki K.DEN_FRAME_SEQ p) + 1)
    let (b, fires) := b.denAll p c w x.closed late
    let y := b.plane p
    let left := if c.cleared then [] else (x.closed.map (fun e => (e.1, dec e.2))).filter (fun e => e.2 != 0)
    let wd := if c.cleared then 0 else dec w
    let y := { y with closing := none, closed := [], sat := sat, wDecayed := wd }
    let y :=
      if x.stopAt = some c.stop then { y with finished := true }
      else if c.stop < x.start then
        { y with closed := left, closing := some ⟨c.stop, b.frameEnd p c.stop x, false, 0, 0, none, false⟩ }
      else { y with count := left.foldl (fun t e => tupd 0 t e.1 (fun n => satCount (n + e.2))) y.count }
    (b.setPlane p y, fires)

/-- A spectrum reaches a plane (R253): the first of a new frame is the close instant of the one before. A pass that still runs
has ended by then. -/
def Block.plTake (b : Block) (p : Nat) (sp : Spectrum) : Block × List Fire :=
  let x := b.plane p
  if b.isOff bDEN p ∨ b.plView p ≠ sp.view ∨ sp.beat < x.start ∨ x.finished then (b, [])
  else
    let e := b.frameEnd p x.start x
    if sp.beat < e then (b.plCount p sp, [])
    else if x.stopAt = some x.start then (b, [])
    else
      let (b, f) := b.plPassEnd p none
      let x := b.plane p
      let c : Closing := ⟨x.start, e, x.part, x.incl, x.excl, x.last, false⟩
      let s := max e (sp.beat - sp.beat % b.plF p)
      let b := b.setPlane p { x with closing := some c, closed := x.count, count := [], start := if x.stopAt = some e then e else s,
                                     part := decide (x.clearBeat = s) && s != 0, incl := 0, excl := 0, last := none }
      (if x.stopAt = some e then b else b.plCount p sp, f)

/-- A spectrum reaches every plane of its view. -/
def Block.plTakeAll (b : Block) (sp : Spectrum) : Block × List Fire :=
  (List.range 16).foldl (fun (a : Block × List Fire) p => let (b, f) := a.1.plTake p sp; (b, a.2 ++ f)) (b, [])

/-! ## Life and CLEAR (R249, R259, R260) -/

def Block.tilesFree (b : Block) : Nat := b.f K.DEN_TILES_FREE compInst 10 0

def Block.plStart (b : Block) (p : Nat) : Block :=
  let t := b.plTiles p
  let b := (b.setLife bDEN p lStarting).pf K.DEN_TILES p 7 0 t
  let b := b.pf K.DEN_TILES_FREE compInst 10 0 (b.tilesFree - t)
  (b.pv K.DEN_FRAME_SEQ p 0).setPlane p { start := b.beat, part := true, image := (b.plane p).image }
def Block.plStop (b : Block) (p : Nat) : Block :=
  (b.setLife bDEN p lStopping).setPlane p { b.plane p with stopAt := some b.beat, part := true }
def Block.plBoundary (b : Block) (p : Nat) : Block :=
  if b.life bDEN p = lStarting ∧ (b.plane p).start < b.beat then b.setLife bDEN p lOn
  else if b.life bDEN p = lStopping ∧ (b.plane p).finished then
    let t := b.f K.DEN_TILES p 7 0
    let b := (b.pf K.DEN_TILES p 7 0 0).pf K.DEN_TILES_FREE compInst 10 0 (b.tilesFree + t)
    (b.setLife bDEN p lOff).setPlane p { image := (b.plane p).image }
  else b

/-- CLEAR performed at the present beat (R260). -/
def Block.plClear (b : Block) (p : Nat) : Block :=
  if b.isOff bDEN p then b
  else
    let x := b.plane p
    b.setPlane p { x with count := [], wDecayed := 0, clearBeat := b.beat, part := true, incl := 0, excl := 0, last := none,
                          closing := x.closing.map (fun c => { c with cleared := true }) }

/-- FRAME values of plane `p` come into force at its frame boundaries (R261). -/
def Block.plFrame (b : Block) (p : Nat) : Block :=
  if b.beat % b.plF p = 0 then ((b.heldFor bDEN p).foldl (fun b e => b.notePast e.1) b).takeHeld bDEN p else b

/-- Protection of a view by the planes that it feeds (R248). -/
def Block.plUsesView (b : Block) (j : Nat) : Bool := (List.range 16).any (fun p => !b.isOff bDEN p && b.plView p == j)

/-! ## Spectrograms (R262, R263) -/

def Block.spg (b : Block) (s : Nat) : Spg := tget {} b.spgs s
/-- The line width of a trace unit's traces (R262). -/
def Block.spgWidth (b : Block) (u : Nat) : Nat :=
  let c := b.f K.XFM_TRC_COLS (trcInst u) 11 0
  if c = 0 then 2 ^ b.f K.XFM_TRC_SRC (trcInst u) 14 10 else c
def Block.spgUnit (b : Block) (s : Nat) : Nat := b.f K.DEN_SPG_SRC (spgInst s) 4 0

def Block.spgStart (b : Block) (s : Nat) : Block :=
  let i := spgInst s
  let n := 64 + round64 (2 * b.spgWidth (b.spgUnit s))
  let b := ((b.setLife bDEN i lStarting).pv K.DEN_LINE_SEQ i 0).pv K.DEN_VALID_FROM i 0
  let b := (b.pf K.DEN_LINE_BYTES i 15 0 n).pf K.DEN_BASE_ADDR i 47 0 (b.f K.DEN_SPG_RING i 7 0 * 2 ^ 30)
  { b with spgs := tset b.spgs s {} }
def Block.spgStop (b : Block) (s : Nat) : Block := b.setLife bDEN (spgInst s) lStopping
def Block.spgBoundary (b : Block) (s : Nat) : Block :=
  let i := spgInst s
  if b.life bDEN i = lStarting then b.setLife bDEN i lOn
  else if b.life bDEN i = lStopping then { b.setLife bDEN i lOff with spgs := tdel b.spgs s }
  else b
/-- A trace delivered becomes a line of every plane that its unit feeds. -/
def Block.spgTake (b : Block) (t : Trace) : Block :=
  (List.range 16).foldl (fun b s =>
    if (b.life bDEN (spgInst s) = lStarting ∨ b.life bDEN (spgInst s) = lOn) ∧ b.spgUnit s = t.unit then
      { b with spgs := tset b.spgs s { pend := (b.spg s).pend ++ [t] } }
    else b) b
/-- The oldest trace delivered is written as a line. -/
def Block.spgLine (b : Block) (s : Nat) : Block :=
  let i := spgInst s
  match (b.spg s).pend with
  | [] => b
  | t :: rest =>
    let l := b.f K.DEN_SPG_RING i 21 8 + 1
    let n := b.val (ki K.DEN_LINE_SEQ i)
    let w := b.f K.DEN_LINE_BYTES i 15 0
    let vals := (if t.cols.isEmpty then t.pts else t.cols)
    let bytes := fixLen w (t.descriptor ++ beBytes 8 n ++ zeros 24 ++ (vals.map (fun v => beBytes 2 (uns 16 v))).flatten)
    let b := b.hbmStores (b.f K.DEN_BASE_ADDR i 47 0 + n % l * w) bytes
    let b := (b.pv K.DEN_LINE_SEQ i (n + 1)).pv K.DEN_VALID_FROM i (max (b.val (ki K.DEN_VALID_FROM i)) (n + 1 - l))
    { b with spgs := tset b.spgs s { pend := rest } }
/-- A retirement loses every stored line (R263). -/
def Block.spgRetire (b : Block) (s : Nat) : Block :=
  let i := spgInst s
  if b.isOff bDEN i then b else b.pv K.DEN_VALID_FROM i (b.val (ki K.DEN_LINE_SEQ i))

/-! ## The compositor (R266, R267) -/

/-- A rectangle: X, Y, DW, DH (R270). -/
def rect (v : Nat) : Nat × Nat × Nat × Nat := (bits v 11 0, bits v 23 12, bits v 35 24, bits v 47 36)

/-- A pixel of a buffer. -/
def Block.bufPixel (b : Block) (m : Mem) (k x y : Nat) : Nat := beNat (b.hbmReads m (b.bufAddr k + (y * b.bufW k + x) * 4) 4)

/-- One component of a blend, rounded convergently. -/
def blend1 (out layer a : Nat) : Nat := ((out : Int) + rndEven (((layer : Int) - out) * a) 3).toNat
/-- A layer pixel over a frame pixel; the frame's alpha stays 0b11. -/
def blend (out layer : Nat) : Nat :=
  let a := bits layer 31 30
  3 * 2 ^ 30 + blend1 (bits out 29 20) (bits layer 29 20) a * 2 ^ 20 + blend1 (bits out 19 10) (bits layer 19 10) a * 2 ^ 10 +
    blend1 (bits out 9 0) (bits layer 9 0) a

/-- ⌊(v − BOTTOM) × n / SPAN⌋; free where SPAN is 0 (log entry 21). -/
def spanRow (v bottom : Int) (n span : Nat) : Int :=
  if span = 0 then (Config.zeroSpan v).toNat else ((v - bottom) * n).fdiv span

/-- The pixel of layer L0 at a place of its rectangle. -/
def Block.l0Pixel (b : Block) (m : Mem) (dw dh x y : Nat) : Option Nat :=
  let n := b.f K.DEN_L0_SRC compInst 5 2
  match b.f K.DEN_L0_SRC compInst 1 0 with
  | 1 =>
    match (b.plane n).image with
    | some k => if b.bufIs k 0 (b.plC n) (b.plR n) then some (b.bufPixel m k (x * b.plC n / dw) (y * b.plR n / dh)) else none
    | none => none
  | 2 =>
    let i := spgInst n
    let seq := b.val (ki K.DEN_LINE_SEQ i)
    let w := (b.f K.DEN_LINE_BYTES i 15 0 - 64) / 2
    if b.isOff bDEN i ∨ seq < y + 1 + b.val (ki K.DEN_VALID_FROM i) then none
    else
      let l := b.f K.DEN_SPG_RING i 21 8 + 1
      let a := b.f K.DEN_BASE_ADDR i 47 0 + (seq - 1 - y) % l * b.f K.DEN_LINE_BYTES i 15 0 + 64 + x * w / dw * 2
      let v := sgn 16 (beNat (b.hbmReads m a 2))
      let c := spanRow v (sgn 16 (b.f K.DEN_SPG_MAP i 15 0)) 1024 (b.f K.DEN_SPG_MAP i 31 16)
      some (b.val (ki (K.DEN_COLOUR + (if c < 0 then 0 else if 1023 < c then 1023 else c.toNat)) i))
  | _ => none

/-- The row of a column of a trace drawn in a rectangle `dh` high. -/
def Block.l1Row (b : Block) (vals : List Int) (dw dh x : Nat) : Nat :=
  let u := vals.getD (x * vals.length / dw) (-32768)
  let y := (dh : Int) - 1 - spanRow u (sgn 16 (b.f K.DEN_L1_MAP compInst 15 0)) dh (b.f K.DEN_L1_MAP compInst 31 16)
  if y < 0 then 0 else min (dh - 1) y.toNat

/-- The pixel of the trace layer: the last enabled slot that draws there. -/
def Block.l1Pixel (b : Block) (dw dh x y : Nat) : Nat :=
  (List.range 8).foldl (fun pix k =>
    let v := b.val (ki (K.DEN_TRC + k) compInst)
    let t := bits v 4 0
    match (if bit v 5 && !b.isOff bXFM (trcInst t) then (b.trc t).latest else none) with
    | some tr =>
      if bit tr.bits 5 then pix
      else
        let vals := if tr.cols.isEmpty then tr.pts else tr.cols
        let y1 := b.l1Row vals dw dh x
        let y0 := if x = 0 then y1 else b.l1Row vals dw dh (x - 1)
        if min y0 y1 ≤ y ∧ y ≤ max y0 y1 then bits v 63 32 else pix
    | none => pix) 0

/-- The buffers that the layers in force read: the L0 image, the overlay and the cursor, and the trace layer. -/
def Block.layerBufs (b : Block) : List Nat :=
  let v := b.val (ki K.DEN_LAYERS compInst)
  (if b.f K.DEN_L0_SRC compInst 1 0 = 1 then (b.plane (b.f K.DEN_L0_SRC compInst 5 2)).image.toList else []) ++
  (if bit v 16 then [bits v 3 0] else []) ++ (if bit v 17 then [if bit v 19 then bits v 11 8 else bits v 7 4] else []) ++
  (if bit v 18 then [bits v 15 12] else [])

/-- The frame of a tick, pixel by pixel (R267). -/
def Block.composePixel (b : Block) (m : Mem) (x y : Nat) : Nat :=
  let v := b.val (ki K.DEN_LAYERS compInst)
  let out := 3 * 2 ^ 30 + b.f K.DEN_COMP_BG compInst 29 0
  let inside (r : Nat × Nat × Nat × Nat) : Bool :=
    decide (r.1 ≤ x) && decide (x < r.1 + r.2.2.1) && decide (r.2.1 ≤ y) && decide (y < r.2.1 + r.2.2.2)
  let r0 := rect (b.val (ki K.DEN_L0_RECT compInst))
  let out := if inside r0 then (match b.l0Pixel m r0.2.2.1 r0.2.2.2 (x - r0.1) (y - r0.2.1) with | some p => blend out p | none => out) else out
  let r1 := rect (b.val (ki K.DEN_L1_RECT compInst))
  let out := if bit v 16 && inside r1 && b.bufIs (bits v 3 0) 0 r1.2.2.1 r1.2.2.2 then
      blend out (b.l1Pixel r1.2.2.1 r1.2.2.2 (x - r1.1) (y - r1.2.1)) else out
  let k2 := if bit v 19 then bits v 11 8 else bits v 7 4
  let p2 := b.val (ki K.DEN_L2_POS compInst)
  let out := if bit v 17 && b.bufOk k2 && b.bufFmt k2 == 0 && inside (bits p2 11 0, bits p2 23 12, b.bufW k2, b.bufH k2) then
      blend out (b.bufPixel m k2 (x - bits p2 11 0) (y - bits p2 23 12)) else out
  let k3 := bits v 15 12
  let p3 := b.val (ki K.DEN_CURSOR_POS compInst)
  let cx := (x : Int) - sgn 16 (bits p3 15 0); let cy := (y : Int) - sgn 16 (bits p3 31 16)
  if bit v 18 && b.bufOk k3 && b.bufFmt k3 == 0 && decide (0 ≤ cx) && decide (0 ≤ cy) && decide (cx < (min 64 (b.bufW k3) : Nat)) &&
      decide (cy < (min 64 (b.bufH k3) : Nat)) then blend out (b.bufPixel m k3 cx.toNat cy.toNat)
  else out

/-- The frame buffers FB0, FB1, FB2. -/
def Block.compFbs (b : Block) : List Nat :=
  [b.f K.DEN_COMP_FB compInst 3 0, b.f K.DEN_COMP_FB compInst 7 4, b.f K.DEN_COMP_FB compInst 11 8]

/-- The frame buffer that a tick takes: the first after the latest complete one that no scan-out references. -/
def Block.compTarget (b : Block) : Option Nat :=
  let l := b.compFbs
  let order := match b.comp.latest with
    | some k => let i := l.findIdx (· == k); l.drop (i + 1) ++ l.take i
    | none => l
  order.find? (fun k => !b.bufReferenced k)

/-- Whether ticks fall on beats: SOURCE 0, or the output it names is OFF (R266). -/
def Block.tickByBeat (b : Block) : Bool :=
  let s := b.f K.DEN_COMP_TICK compInst 1 0
  s == 0 || b.isOff bDEN (outInst (s - 1))

/-- The instant of a composite tick (R266): the start of a beat, or that of the output's vertical blanking; each is one tick. -/
def Block.tickDue (b : Block) : Bool :=
  (if b.tickByBeat then b.cycle == 0 && b.beat % max 1 (b.f K.DEN_COMP_TICK compInst 17 2) == 0
   else (tget ({} : Out) b.outs (b.f K.DEN_COMP_TICK compInst 1 0 - 1)).boundAt == b.clock) && b.comp.tickAt != some b.clock

/-- A composite tick (R266, R267): FRAME values come into force, and the frame is built, or the tick is skipped. A tick while
a composition runs is skipped (log entry 24). -/
def Block.compTick (b : Block) (m : Mem) : Block :=
  if b.isOff bDEN compInst || !b.tickDue then b
  else
    let b := { b.takeHeld bDEN compInst with comp := { b.comp with tickAt := some b.clock } }
    match (if b.comp.busy.isSome then none else b.compTarget) with
    | none => b.inc K.DEN_COMP_SKIPPED compInst 1
    | some k =>
      if !b.bufOk k then b.inc K.DEN_COMP_SKIPPED compInst 1
      else
        let w := b.f K.DEN_COMP_OUT compInst 11 0; let h := b.f K.DEN_COMP_OUT compInst 23 12
        let v := b.val (ki K.DEN_LAYERS compInst)
        let r1 := rect (b.val (ki K.DEN_L1_RECT compInst))
        let kl := bits v 3 0
        let frame := ((List.range h).map (fun y => ((List.range w).map (fun x => beBytes 4 (b.composePixel m x y))).flatten)).flatten
        let trace := ((List.range r1.2.2.2).map (fun y => ((List.range r1.2.2.1).map (fun x =>
          beBytes 4 (b.l1Pixel r1.2.2.1 r1.2.2.2 x y))).flatten)).flatten
        let b := { b with comp := { b.comp with busy := some ⟨k, b.layerBufs⟩ } }
        let b := if bit v 16 && b.bufIs kl 0 r1.2.2.1 r1.2.2.2 then b.hbmStores (b.bufAddr kl) trace else b
        b.hbmStores (b.bufAddr k) frame

/-- The frame is marked complete (R267). -/
def Block.compDone (b : Block) : Block :=
  match b.comp.busy with
  | none => b
  | some c =>
    (({ b with comp := { b.comp with busy := none, latest := some c.fb } }).inc K.DEN_COMP_SEQ compInst 1).bufSettleAll

def Block.compStart (b : Block) : Block := b.setLife bDEN compInst lStarting
def Block.compStop (b : Block) : Block := b.setLife bDEN compInst lStopping
/-- ON at the next boundary; OFF once no composition runs. -/
def Block.compBoundary (b : Block) : Block :=
  if b.life bDEN compInst = lStarting then b.setLife bDEN compInst lOn
  else if b.life bDEN compInst = lStopping ∧ b.comp.busy.isNone then { b.setLife bDEN compInst lOff with comp := {} }
  else b

/-! ## Checks (R248, R262, R264 to R266) -/

/-- Step 8 for planes, spectrograms, compositor, pool and buffers. -/
def Block.denState (b : Block) (i item v : Nat) : Status :=
  let liveView (j : Nat) : Bool := viewDefined j && (b.life bXFM j == lStarting || b.life bXFM j == lOn)
  if i < 0x10 then
    if item = 1 then
      if v % 2 = 1 then need (!b.isOff bDEN i || liveView (b.plView i)) .state
      else need (!b.trgUsesPlane i) .busy
    else if item = 0x10 ∨ item = 0x11 ∨ item = 0x12 ∨ item = 0x13 ∨ (0x2000 ≤ item ∧ item < 0x2400) then need (b.isOff bDEN i) .state
    else need (b.rolesFree (mkKey bDEN i item) v) .busy
  else if 0x20 ≤ i ∧ i < 0x30 then
    if item = 1 ∧ v % 2 = 1 then
      let u := trcInst (b.spgUnit (i - 0x20))
      need (!b.isOff bDEN i || b.life bXFM u == lStarting || b.life bXFM u == lOn) .state
    else if item = 0x10 ∨ item = 0x11 then need (b.isOff bDEN i) .state
    else .ok
  else if i = compInst then
    if item = 1 ∧ v % 2 = 0 then need (b.isOff bDEN 0x80 && b.isOff bDEN 0x81) .busy
    else if item = 0x40 then need (b.isOff bDEN compInst && (List.range 16).all (fun p => b.isOff bDEN p)) .state
    else if (item = 0x10 ∨ item = 0x11) ∧ !b.isOff bDEN compInst then .state
    else if item = 0x12 ∧ !b.isOff bDEN compInst ∧ bits v 1 0 ≠ b.f K.DEN_COMP_TICK compInst 1 0 then .state
    else need (b.rolesFree (mkKey bDEN i item) v) .busy
  else if 0x50 ≤ i ∧ i < 0x60 then
    if b.bufOut.contains (i - 0x50) then .fault else need (tfind b.bufWait (i - 0x50)).isNone .busy
  else .ok

/-- Step 9. -/
def Block.denValue (b : Block) (i item v : Nat) : Status :=
  if i < 0x10 then
    if item = 1 ∧ v % 2 = 1 ∧ b.isOff bDEN i then
      let c := b.plC i; let r := b.plR i
      let n := b.vwOutCount (b.plView i)
      let img := b.val (ki K.DEN_IMG_BUF i); let dump := b.val (ki K.DEN_DUMP i)
      need (c % 16 == 0 && decide (64 ≤ c) && decide (c ≤ 2048) && decide (64 ≤ r) && decide (r ≤ 1024) && n % c == 0 &&
        (List.range 1024).all (fun k => decide (b.f (K.DEN_ROW_TAB + k) i 9 0 < r)) &&
        (!bit img 8 || (b.bufIs (bits img 3 0) 0 c r && b.bufIs (bits img 7 4) 0 c r && bits img 3 0 != bits img 7 4)) &&
        (bits dump 1 0 == 0 || b.bufIs (bits dump 5 2) 1 c (r + 1))) .paramRange
    else if item = 0x12 then need (bits v 31 16 != 0) .paramRange
    else if item = 0x14 then need (bits v 1 0 != 2 || bits v 31 16 != 0) .paramRange
    else .ok
  else if 0x20 ≤ i ∧ i < 0x30 then
    if item = 1 ∧ v % 2 = 1 then need (decide (b.spgWidth (b.spgUnit (i - 0x20)) ≤ 2048)) .paramRange else .ok
  else if i = compInst then
    if item = 1 ∧ v % 2 = 1 then
      let w := b.f K.DEN_COMP_OUT compInst 11 0; let h := b.f K.DEN_COMP_OUT compInst 23 12
      need (b.compFbs.all (fun k => b.bufIs k 0 w h)) .paramRange
    else if item = 0x16 ∨ item = 0x18 then
      let lay := if item = 0x18 then v else b.val (ki K.DEN_LAYERS compInst)
      let r := rect (if item = 0x16 then v else b.val (ki K.DEN_L1_RECT compInst))
      need (!bit lay 16 || (b.bufW (bits lay 3 0) == r.2.2.1 && b.bufH (bits lay 3 0) == r.2.2.2)) .paramRange
    else .ok
  else if 0x50 ≤ i ∧ i < 0x60 then
    let w := bits v 11 0; let h := bits v 23 12; let f := bits v 25 24
    need (decide (w * h * 4 ≤ bufRange) && (f == 0 || (w != 0 && h != 0))) .paramRange
  else .ok

/-- Step 10. -/
def Block.denBudget (b : Block) (i item v : Nat) : Status :=
  if i < 0x10 ∧ item = 1 ∧ v % 2 = 1 ∧ b.isOff bDEN i then
    need (decide (b.plTiles i ≤ b.tilesFree) && decide (b.histUsed + b.plCost i ≤ 128)) .budget
  else if 0x20 ≤ i ∧ i < 0x30 ∧ item = 1 ∧ v % 2 = 1 ∧ b.isOff bDEN i then
    let u := b.f K.DEN_SPG_RING i 7 0
    need (decide (u < 134) && b.unitsFree u 1 (0x10 + i)) .budget
  else if i = compInst ∧ item = 0x40 ∧ bit v 8 then
    let n := poolUnits b.nPc
    need (decide (bits v 7 0 + n ≤ 134) && b.unitsFree (bits v 7 0) n 0x50) .budget
  else .ok

end Sys2Proof.Machine
end

