-- ==== Sys2Proof/Machine/Display.lean ====
section
/-! DEFINITION. Display scan-out (R272 to R289): frames latched, command mode, starts and stops, staged mode changes, link
training, the side channel, and the tolerance stated. -/
namespace Sys2Proof.Machine

def Block.out (b : Block) (o : Nat) : Out := tget {} b.outs o
def Block.setOut (b : Block) (o : Nat) (x : Out) : Block := { b with outs := tset b.outs o x }
/-- The ADPLL of an output (R272). -/
def outPll (o : Nat) : Nat := 3 + o
/-- Output 0 in command mode. -/
def Block.outCmd (b : Block) (o : Nat) : Bool := o == 0 && b.f K.DEN_OUT_CFG 0x80 0 0 == 1
/-- LINK of STATUS: 0 down, 1 training, 2 up, 3 failed. -/
def Block.outLink (b : Block) (o : Nat) : Nat := b.f K.DEN_STATUS (outInst o) 1 0
def Block.setOutLink (b : Block) (o s : Nat) : Block := b.pf K.DEN_STATUS (outInst o) 1 0 s
def Block.outHpd (b : Block) (o : Nat) : Bool := b.f K.DEN_STATUS (outInst o) 2 2 == 1
def Block.setBlanking (b : Block) (o : Nat) (on : Bool) : Block := b.pf K.DEN_STATUS (outInst o) 4 4 (b2n on)
def Block.setModePending (b : Block) (o : Nat) (on : Bool) : Block := b.pf K.DEN_STATUS (outInst o) 3 3 (b2n on)

/-- EV_DISP_LINK, with the rate code and the lanes of DP_LINK for output 1 (log entry 25). -/
def Block.linkEvent (b : Block) (o reason : Nat) : Block :=
  let v := b.val (ki K.DEN_DP_LINK 0x81)
  b.raise (896 + 8 * o + 3) (if o = 1 then beBytes 1 reason ++ beBytes 1 (bits v 1 0) ++ beBytes 1 (2 ^ bits v 3 2) else beBytes 1 reason)

/-! ## Modes (R275) -/

/-- A timing mode of an output. -/
structure DispMode where
  h : Nat
  v : Nat
  pclk : Nat
  link : Nat
  cfg : Nat

/-- The mode that is in force, with every staged write in its place. -/
def Block.modeOf (b : Block) (o : Nat) (staged : Bool) : DispMode :=
  let i := outInst o
  let get (k : Nat) : Nat := match (if staged then tfind b.waiting (ki k i) else none) with
    | some v => v.toNat
    | none => b.val (ki k i)
  ⟨get K.DEN_H_TIMING, get K.DEN_V_TIMING, get K.DEN_PCLK, get K.DEN_DP_LINK, get K.DEN_OUT_CFG⟩

def DispMode.hTotal (x : DispMode) : Nat := bits x.h 11 0 + bits x.h 23 12 + bits x.h 35 24 + bits x.h 47 36
def DispMode.vBlank (x : DispMode) : Nat := bits x.v 23 12 + bits x.v 35 24 + bits x.v 47 36
def DispMode.vTotal (x : DispMode) : Nat := bits x.v 11 0 + x.vBlank
def DispMode.bpp (x : DispMode) : Nat := if bits x.cfg 1 1 = 1 then 30 else 24

/-- The checks of R275 for output `o` and a compositor frame `w` × `h`. -/
def DispMode.ok (x : DispMode) (o w h : Nat) : Bool :=
  let pos (v : Nat) : Bool := bits v 23 12 != 0 && bits v 35 24 != 0 && bits v 47 36 != 0
  let ha := bits x.h 11 0; let va := bits x.v 11 0
  let n := x.hTotal * x.vTotal
  -- the frame period in µs × PCLK in kHz is n × 1,000
  pos x.h && pos x.v && decide (w ≤ ha) && decide (h ≤ va) && x.pclk != 0 &&
  decide (8300 * x.pclk ≤ n * 1000) && decide (n * 1000 ≤ 16700 * x.pclk) &&
  (if o = 0 then
    let lanes := 2 ^ bits x.cfg 3 2
    decide (ha ≤ 1920) && decide (va ≤ 1200) && bits x.cfg 3 2 != 3 &&
      decide (80000 * lanes ≤ x.pclk * x.bpp) && decide (x.pclk * x.bpp ≤ 2500000 * lanes)
  else
    let rate := [1620000, 2700000, 5400000, 8100000].getD (bits x.link 1 0) 0
    decide (ha ≤ 3840) && decide (va ≤ 2160) && decide (x.pclk ≤ 600000) && bits x.link 3 2 != 3 &&
      decide (x.pclk * x.bpp * 10 ≤ 2 ^ bits x.link 3 2 * rate * 8))

/-! ## Pixels shown (R276) -/

/-- A component of a pixel for RGB888: 10 bits rounded convergently to 8, and saturated. -/
def round8 (c : Nat) : Nat := min 255 (rndEven c 4).toNat

/-- An ARGB2101010 pixel as an output shows it, its alpha ignored: RGB101010, or RGB888 where `fmt` is 0. -/
def shownPixel (fmt p : Nat) : Nat :=
  if fmt = 1 then bits p 29 0 else round8 (bits p 29 20) * 2 ^ 16 + round8 (bits p 19 10) * 2 ^ 8 + round8 (bits p 9 0)

def Block.outFormat (b : Block) (o : Nat) : Nat := b.f K.DEN_OUT_CFG (outInst o) 1 1
def Block.borderPixel (b : Block) (o : Nat) : Nat := shownPixel (b.outFormat o) (b.f K.DEN_BORDER (outInst o) 29 0)

/-- Active pixel `x` of active line `y` (R276): the frame stands at x0, y0 and every other pixel takes BORDER, as all do while no
frame is latched (R277) or its buffer is out of service (log entry 157). -/
def Block.scanPixel (b : Block) (m : Mem) (o x y : Nat) : Nat :=
  let i := outInst o
  let w := b.f K.DEN_COMP_OUT compInst 11 0; let h := b.f K.DEN_COMP_OUT compInst 23 12
  let x0 := (b.f K.DEN_H_TIMING i 11 0 - w) / 2; let y0 := (b.f K.DEN_V_TIMING i 11 0 - h) / 2
  match (b.out o).latched with
  | some l =>
    if (b.out o).refs ∧ x0 ≤ x ∧ x < x0 + w ∧ y0 ≤ y ∧ y < y0 + h then shownPixel (b.outFormat o) (b.bufPixel m l.1 (x - x0) (y - y0))
    else b.borderPixel o
  | none => b.borderPixel o

/-- The active lines of a frame, from the top. -/
def Block.scanLines (b : Block) (m : Mem) (o : Nat) : List (List Nat) :=
  (List.range (b.f K.DEN_V_TIMING (outInst o) 11 0)).map (fun y =>
    (List.range (b.f K.DEN_H_TIMING (outInst o) 11 0)).map (fun x => b.scanPixel m o x y))

/-! ## Latching (R277) -/

/-- A frame boundary latches the complete frame with the highest COMP_SEQ; the same frame again counts as a repeat. -/
def Block.outTake (b : Block) (o : Nat) : Block :=
  let x := b.out o
  match b.comp.latest with
  | none => b.setOut o { x with latched := none, refs := false }
  | some k =>
    let seq := b.val (ki K.DEN_COMP_SEQ compInst)
    let b := if x.latched = some (k, seq) then b.inc K.DEN_REPEATS (outInst o) 1 else b
    (b.setOut o { x with latched := some (k, seq), refs := b.bufOk k }).pv K.DEN_LATCHED_SEQ (outInst o) seq |>.bufSettleAll

/-- A frame boundary latches a frame (R277), and the output shows it from there (R276). -/
def Block.outLatch (b : Block) (m : Mem) (o : Nat) : Block :=
  let b := b.outTake o
  b.send (.scan o (b.outFormat o) (b.scanLines m o))

/-! ## Side channel (R286) -/

def Block.sideBusy (b : Block) (o : Nat) : Bool := b.f K.DEN_SIDE_STAT (outInst o) 0 0 == 1

/-- Send a waiting DSI packet at blanking or between transfers. -/
def Block.sideFlush (b : Block) (o : Nat) : Block :=
  match (b.out o).side with
  | some (c, a, l, d, r) => (b.setOut o { b.out o with side := none }).send (.side o c a l d r)
  | none => b

/-- GO starts a transaction (R286): a DSI packet of a running output waits for blanking. -/
def Block.sideGo (b : Block) (o v : Nat) : Block :=
  let i := outInst o
  let cmd := b.val (ki K.DEN_SIDE_CMD i)
  let t := (if o = 0 then bits cmd 7 0 else bits cmd 3 0, if o = 0 then bits cmd 9 8 else bits cmd 27 8, bits cmd 31 28,
            b.val (ki K.DEN_SIDE_DATA i), bit v 1)
  let b := b.pf K.DEN_SIDE_STAT i 2 0 1
  let b := b.setOut o { b.out o with side := some t }
  if o = 0 ∧ b.isOn bDEN i ∧ (!b.outCmd o || (b.out o).transfer) then b else b.sideFlush o

/-- The latched frame retires (R277): a command-mode transfer ends, so that a waiting DSI packet goes out (R286), and deferred
buffer changes may come into force. -/
def Block.outRetire (b : Block) (o : Nat) : Block :=
  let was := (b.out o).transfer
  let b := (b.setOut o { b.out o with refs := false, transfer := false }).bufSettleAll
  if was then b.sideFlush o else b

/-- A transaction completes: EV_DISP_CMD_DONE. -/
def Block.sideDone (b : Block) (o rx : Nat) (err timeout : Bool) : Block :=
  let i := outInst o
  if b.sideBusy o ∧ (b.out o).side.isNone then
    let st := 2 * b2n err + 4 * b2n timeout
    let b := (b.pf K.DEN_SIDE_STAT i 2 0 st).pv K.DEN_SIDE_RX i rx
    b.raise (896 + 8 * o + 4) (beBytes 1 st ++ zeros 7 ++ beBytes 8 rx)
  else b

/-! ## Starts, stops and mode changes (R280, R283 to R285) -/

/-- The link of DisplayPort trains while HPD is high; output 0 needs none. -/
def Block.outTrain (b : Block) (o : Nat) : Block :=
  if o = 0 then ((b.setOutLink 0 2).setOut 0 { b.out 0 with step := 3 }).send (.scanBlank 0)
  else if b.outHpd 1 then (b.setOutLink 1 1).setOut 1 { b.out 1 with step := 2 }
  else (b.setOutLink 1 0).setOut 1 { b.out 1 with step := 2 }

/-- ENABLE = 1 performed: the PLL locks under LOCK rules. -/
def Block.outStart (b : Block) (o : Nat) : Block :=
  let i := outInst o
  let b := (b.takeHeld bDEN i).setLife bDEN i lStarting
  let b := (b.pv K.DEN_FRAMES i 0).setOut o { step := 1, teAt := b.clock }
  let b := b.setPll (outPll o) { b.pll (outPll o) with target := some (b.clkTarget (outPll o)) }
  if b.clkState (outPll o) ≤ 1 then b.clkSequence (outPll o) true
  else if b.clkState (outPll o) = 5 then b.clkRelock (outPll o) else b

/-- ENABLE = 0 performed: the output goes on to its next frame boundary. -/
def Block.outStop (b : Block) (o : Nat) : Block := b.setLife bDEN (outInst o) lStopping

/-- The PLL of an output has reached its clock (R284, R285): training, or the frame that carries blanking only; command mode
omits it. -/
def Block.outPllDone (b : Block) (o : Nat) : Block :=
  let x := b.out o
  if x.step ≠ 1 then b
  else if b.outLink o = 2 ∧ !(o == 0) then (b.setOut o { x with step := 3 }).send (.scanBlank o)
  else if b.outCmd o then (b.setOutLink o 2).setOut o { x with step := 0 }
  else b.outTrain o

/-- Staged values come into force at a frame boundary (R283): a new pixel clock or link begins a transition. -/
def Block.outStage (b : Block) (o : Nat) : Block :=
  let i := outInst o
  let held := b.heldFor bDEN i
  if held.isEmpty then b
  else
    let old := b.modeOf o false
    let b := (b.takeHeld bDEN i).setModePending o false
    let new := b.modeOf o false
    let x := b.out o
    let relink := o == 1 && old.link != new.link
    let y := { x with resume := true, blank := if x.step = 0 then 0 else x.blank }
    if old.pclk = new.pclk ∧ !relink then b.setOut o y
    else
      let b := (b.setOut o { y with refs := false, step := 1 }).setBlanking o true
      let b := if relink then b.setOutLink o 0 else b
      let b := if old.pclk = new.pclk then b else b.clkRetune (outPll o)
      let b := if o = 1 then b.send (.scanIdle 1) else if b.outCmd o then b
        -- within one band the blanking lines go on; a band search holds the lanes
        else if b.clkLocked (outPll o) then b.send (.scanBlank o) else (b.send (.scanBlank o)).send (.scanIdle o)
      let b := b.bufSettleAll
      if b.clkState (outPll o) = 0 then b.outPllDone o else b

/-- A frame boundary of an output that runs or starts; `go` is false for one that latches nothing (R278). -/
def Block.outBoundary (b : Block) (m : Mem) (o : Nat) (go : Bool) : Block :=
  let i := outInst o
  let b := b.pv K.DEN_FRAMES i (b.val (ki K.DEN_FRAMES i) + 1)
  let b := b.setOut o { b.out o with under := false, boundAt := b.clock }
  if b.life bDEN i = lStopping then
    let b := ((b.setOut o { b.out o with refs := false, latched := none, transfer := false, ended := true }).setBlanking o true).bufSettleAll.sideFlush o
    (b.send (.scanBlank o)).send (.scanIdle o)
  else
    let b := (b.outStage o).sideFlush o
    let x := b.out o
    match x.step with
    | 1 | 2 => b.setOut o { x with blank := x.blank + 1 }
    | 3 => (b.setOut o { x with step := 0, first := true, blank := x.blank + 1 }).outLatch m o
    | _ => let b := b.setOut o { x with first := true }
           if go then b.outLatch m o else b

/-- The start of vertical blanking (R272, R277); command mode takes its boundaries from TE_IN, and no frame runs while the link
is down. -/
def Block.dispFrame (b : Block) (m : Mem) (o : Nat) : Block :=
  let i := outInst o
  if b.isOff bDEN i ∨ b.outCmd o then b
  else if (b.out o).step = 1 ∧ !(b.isOn bDEN i) ∧ b.life bDEN i ≠ lStopping then b
  else if o = 1 ∧ !b.outHpd 1 ∧ b.life bDEN i ≠ lStopping then b
  else if b.pll (outPll o) |>.down then (if b.life bDEN i = lStopping then b.outBoundary m o true else b)
  else b.outBoundary m o true

/-- An edge on TE_IN (R278): with REFRESH = 0, one without a newer frame sends and latches nothing. -/
def Block.teEdge (b : Block) (m : Mem) (rising : Bool) : Block :=
  let i := outInst 0
  let x := b.out 0
  if b.isOff bDEN i ∨ !b.outCmd 0 ∨ (b.f K.DEN_TE_CFG 0x80 0 0 = 0) ≠ rising then b
  else
    let b := b.setOut 0 { x with teAt := b.clock, teOut := false }
    if x.transfer then b.inc K.DEN_TE_MISSED 0x80 1
    else if b.life bDEN i = lStopping then b.outBoundary m 0 true
    else if b.life bDEN i = lStarting ∧ x.step = 1 then b
    else
      let newest := b.comp.latest.map (fun k => (k, b.val (ki K.DEN_COMP_SEQ compInst)))
      let go := b.f K.DEN_TE_CFG 0x80 1 1 == 1 || (newest.isSome && newest != x.latched)
      let b := b.outBoundary m 0 go
      if go ∧ (b.out 0).step = 0 then b.setOut 0 { b.out 0 with transfer := true } else b

/-- No edge for TE_TIMEOUT milliseconds: once (R278). -/
def Block.teTimeout (b : Block) : Block :=
  let x := b.out 0
  if b.isOff bDEN 0x80 ∨ !b.outCmd 0 ∨ x.teOut ∨ b.clock < x.teAt + usCycles (1000 * b.f K.DEN_TE_CFG 0x80 11 2) then b
  else (b.setOut 0 { x with teOut := true }).linkEvent 0 6

/-- The line buffer runs empty in an active line (R279). -/
def Block.dispUnderflow (b : Block) (o line : Nat) : Block :=
  let i := outInst o
  if b.isOff bDEN i then b
  else
    let b := (b.inc K.DEN_UNDERFLOW i 1).send (.scanBorder o line (b.borderPixel o))
    if (b.out o).under then b
    else (b.setOut o { b.out o with under := true }).raise (896 + 8 * o + 2) (beBytes 8 (b.val (ki K.DEN_FRAMES i)) ++ beBytes 2 line)

/-- The first frame of a new mode starts its active lines: EV_DISP_MODE (R283). -/
def Block.dispResume (b : Block) (o : Nat) : Block :=
  let x := b.out o
  let i := outInst o
  if x.resume ∧ x.step = 0 then
    ((b.setOut o { x with resume := false, blank := 0 }).setBlanking o false).raise (896 + 8 * o + 1)
      (beBytes 8 (b.val (ki K.DEN_FRAMES i)) ++ beBytes 1 x.blank)
  else b

/-- Link training succeeds, or has failed for 20 ms (R285). -/
def Block.dpTrained (b : Block) (ok : Bool) : Block :=
  let x := b.out 1
  if b.isOff bDEN 0x81 ∨ b.outLink 1 ≠ 1 then b
  else if ok then
    let b := ((b.setOutLink 1 2).setOut 1 { x with step := if x.step = 2 then 3 else x.step }).linkEvent 1 3
    if x.step = 2 then b.send (.scanBlank 1) else b
  else ((b.setOutLink 1 3).setOut 1 { x with failAt := b.clock }).linkEvent 1 4

/-- Training is tried again 100 ms after it failed. -/
def Block.dpRetry (b : Block) : Block :=
  if b.isOff bDEN 0x81 ∨ b.outLink 1 ≠ 3 ∨ b.clock < (b.out 1).failAt + usCycles 100000 then b else b.setOutLink 1 1

/-- HPD takes a level (R285): falling drops the frame and the link, rising retrains. -/
def Block.hpdEdge (b : Block) (high : Bool) : Block :=
  let was := b.outHpd 1
  let b := b.pf K.DEN_STATUS 0x81 2 2 (b2n high)
  if was = high ∨ b.isOff bDEN 0x81 then b
  else
    let x := b.out 1
    if high then
      let b := b.linkEvent 1 2
      if x.step = 1 then b else (b.setOutLink 1 1).setOut 1 { x with step := 2 }
    else (((b.setOutLink 1 0).setOut 1 { x with refs := false, latched := none, step := if x.step = 1 then 1 else 2 }).linkEvent 1 1).bufSettleAll
/-- IRQ_HPD: the link is retrained only if it was lost (R285). -/
def Block.irqHpd (b : Block) (lost : Bool) : Block :=
  if b.isOff bDEN 0x81 ∨ !b.outHpd 1 then b
  else
    let b := b.linkEvent 1 5
    if lost ∧ b.outLink 1 = 2 then (b.setOutLink 1 1).setOut 1 { b.out 1 with step := if (b.out 1).step = 1 then 1 else 2 } else b

/-- ON at the first beat boundary after the first frame boundary; OFF at the first after the last (R280). -/
def Block.outLifeBoundary (b : Block) (o : Nat) : Block :=
  let i := outInst o
  let x := b.out o
  if b.life bDEN i = lStarting ∧ x.first then b.setLife bDEN i lOn
  else if b.life bDEN i = lStopping ∧ x.ended then
    (((b.setLife bDEN i lOff).setOut o { side := x.side }).setOutLink o 0).pv K.DEN_RESERVE i 0xFFFFFFFF |>.setBlanking o false
  else b

/-! ## Tolerance (R287) -/

/-- The reserve that an output states, in ns; all ones when it states none. -/
def Block.outReserve (b : Block) (o : Nat) : Nat :=
  let i := outInst o
  if !b.isOn bDEN i ∨ (b.outCmd o ∧ !(b.out o).transfer) then 0xFFFFFFFF
  else
    let port := portInst (36 + o)
    let fill := b.val (ki K.MEM_FIFO_BYTES port)
    let panic := b.f K.MEM_PORT_CFG port 5 0 * portSize (36 + o) / 64
    let m := b.modeOf o false
    let pclk := max 1 m.pclk
    let held := (fill - panic) * 1000000 / (pclk * 4)
    let blank := m.vBlank * m.hTotal * 1000000 / pclk
    let gone := (b.clock - (b.out o).boundAt) * 5 / 8
    min 0xFFFFFFFE (held + (if b.outCmd o then 0 else blank - gone))

def Block.outTolerance (b : Block) : Block :=
  [0, 1].foldl (fun b o => b.pv K.DEN_RESERVE (outInst o) (b.outReserve o)) b

/-! ## Checks (R275, R280, R286) -/

def Block.outCheckState (b : Block) (o item v : Nat) : Status :=
  let i := outInst o
  if item = 0x10 then need (b.isOff bDEN i) .state
  else if item = 0x13 then need (b.clkLocked (outPll o)) .busy
  else if item = 0x42 then
    if v % 2 = 0 then .ok
    else if b.sideBusy o then .busy
    else need (o == 0 || b.outHpd 1) .state
  else if item = 0x41 then need (!b.sideBusy o) .busy
  else .ok

/-- R275, with the write and every staged write in place; FMAX bounds PCLK (R418). -/
def Block.outValue (b : Block) (o item v : Nat) : Status :=
  let i := outInst o
  let w := b.f K.DEN_COMP_OUT compInst 11 0; let h := b.f K.DEN_COMP_OUT compInst 23 12
  let mode := item == 0x11 || item == 0x12 || item == 0x13 || item == 0x15
  let k := match item with | 0x11 => K.DEN_H_TIMING | 0x12 => K.DEN_V_TIMING | 0x13 => K.DEN_PCLK | _ => K.DEN_DP_LINK
  let b' := if mode then { b with waiting := tset b.waiting (ki k i) (BitVec.ofNat 64 v) } else b
  let fmax := item != 0x13 || underFmax v (b.val (ki K.CLK_FMAX (outPll o)))
  if !fmax then .paramRange
  else if item = 1 ∧ v % 2 = 1 ∧ b.isOff bDEN i then need ((b.modeOf o true).ok o w h) .paramRange
  else if mode ∧ !b.isOff bDEN i then need ((b'.modeOf o true).ok o w h) .paramRange
  else .ok

end Sys2Proof.Machine
end

