-- ==== Sys2Proof/Machine/Net.lean ====
section
/-! DEFINITION. Network interfaces and their neighbours (R335 to R341). -/
namespace Sys2Proof.Machine

/-- The management port is NET instance 0x10. -/
def mgmtPort : Nat := 0x10
def Block.portMode (b : Block) (l : Nat) : Nat := b.f K.NET_CFG (0x20 + l / 4) 1 0
/-- Whether an interface exists in its port's mode (R335). -/
def Block.netExists (b : Block) (l : Nat) : Bool :=
  l == mgmtPort || (decide (l < 16) &&
    match b.portMode l with | 0 => l % 4 == 0 | 1 => l % 2 == 0 | 2 => true | _ => false)
/-- The link rate in Mbit/s, its code in STATUS, and the stream allowance (R340). -/
def Block.netRate (b : Block) (l : Nat) : Nat := [400000, 200000, 100000].getD (b.portMode l) 100000
def Block.netCode (b : Block) (l : Nat) : Nat :=
  if l = mgmtPort then (if b.f K.NET_CFG l 19 17 = 0 then 0 else 1) else [4, 3, 2].getD (b.portMode l) 2
def Block.netAllowance (b : Block) (l : Nat) : Nat := [385000, 192500, 96250].getD (b.portMode l) 96250

/-- The link is up and PLL_NET, which is PLL 2, does not run on the safe clock (R337). -/
def Block.netUsable (b : Block) (l : Nat) : Bool := b.linkUp l && decide (b.f K.CLK_STATUS 2 2 0 < 2)

def Block.netLink (b : Block) (l : Nat) (up : Bool) : Block :=
  if b.linkUp l = up then b
  else
    let code := b.netCode l
    ((b.pf K.NET_STATUS l 0 0 (b2n up)).pf K.NET_STATUS l 3 1 code).raise (780 + l) (beBytes 1 (b2n up) ++ beBytes 1 code)

/-- The link comes up with FEC lock, unless its interface is OFF or is stopping. -/
def Block.netUp (b : Block) (l : Nat) : Block :=
  if l = mgmtPort ∨ b.life bNET l = lStarting ∨ b.isOn bNET l then b.netLink l true else b
def Block.netDown (b : Block) (l : Nat) : Block := b.netLink l false
def Block.netStart (b : Block) (l : Nat) : Block := b.setLife bNET l lStarting
/-- ENABLE = 0 performed: the interface stops at once. -/
def Block.netStop (b : Block) (l : Nat) : Block := (b.setLife bNET l lStopping).netLink l false
/-- ON at the first boundary after the link comes up; a stop ends at the boundary after it. -/
def Block.netBoundary (b : Block) (l : Nat) : Block :=
  if b.life bNET l = lStarting ∧ b.linkUp l then b.setLife bNET l lOn
  else if b.life bNET l = lStopping then b.setLife bNET l lOff else b

/-- The IEEE 802.1Q tag of a sent frame (R336, R341): none while VLAN is 0, else the identifier, above it the priority of stream packets
(kinds 4 and 5). -/
def Block.netTag (b : Block) (l kind : Nat) : Nat :=
  let vid := b.f K.NET_CFG l 16 5
  if vid = 0 then 0 else vid + if kind = 4 ∨ kind = 5 then b.f K.NET_CFG l 4 2 * 2 ^ 13 else 0
/-- A frame leaves an interface, with its tag. -/
def Block.netSend (b : Block) (l kind : Nat) (fields : List Nat) (bytes : List Byte) : Block :=
  (b.inc K.NET_TX_FRAMES l 1).send (.frame l kind (fields ++ [b.netTag l kind]) bytes)
def Block.netRx (b : Block) (l : Nat) : Block := b.inc K.NET_RX_FRAMES l 1
def Block.netDrop (b : Block) (l : Nat) : Block := (b.netRx l).inc K.NET_RX_DROPPED l 1

/-- The address of an interface, and the prefix length. -/
def Block.netIp (b : Block) (l : Nat) (v6 : Bool) : Nat × Nat :=
  if v6 then (b.val (ki K.NET_IP6_HI l) * 2 ^ 64 + b.val (ki K.NET_IP6_LO l), b.f K.NET_IP6_CFG l 7 0)
  else (b.f K.NET_IP4 l 31 0, b.f K.NET_IP4 l 37 32)
/-- The neighbour that a destination is reached through (R336). -/
def Block.nextHop (b : Block) (l : Nat) (v6 : Bool) (dest : Nat) : Nat :=
  let (ip, p) := b.netIp l v6
  let w := if v6 then 128 else 32
  if ip / 2 ^ (w - p) = dest / 2 ^ (w - p) then dest
  else if v6 then b.val (ki K.NET_GW6_HI l) * 2 ^ 64 + b.val (ki K.NET_GW6_LO l) else b.f K.NET_GW4 l 31 0

def Neigh.is (x : Neigh) (l : Nat) (v6 : Bool) (ip : Nat) : Bool := x.iface == l && x.v6 == v6 && x.ip == ip
def Block.neigh (b : Block) (l : Nat) (v6 : Bool) (ip : Nat) : Option Neigh := b.neighs.find? (fun x => x.is l v6 ip)
def Block.setNeigh (b : Block) (x : Neigh) : Block :=
  { b with neighs := x :: b.neighs.filter (fun y => !y.is x.iface x.v6 x.ip) }
/-- Ask for a neighbour: an ARP request or a neighbour solicitation. -/
def Block.netAsk (b : Block) (l : Nat) (v6 : Bool) (ip : Nat) : Block :=
  if b.netUsable l then
    if v6 then b.netSend l 2 [135, b.val (ki K.NET_MAC l), (b.netIp l true).1, ip] []
    else b.netSend l 1 [1, b.val (ki K.NET_MAC l), (b.netIp l false).1, 0, ip] []
  else b
/-- A neighbour is wanted: one that is not known yet is asked for. Address 0 is no neighbour: a gateway of 0 means none (R341). -/
def Block.netWant (b : Block) (l : Nat) (v6 : Bool) (ip : Nat) : Block :=
  if ip = 0 then b else match b.neigh l v6 ip with
  | some _ => b
  | none => (b.netAsk l v6 ip).setNeigh { iface := l, v6 := v6, ip := ip, since := b.clock }
def Block.netResolved (b : Block) (l : Nat) (v6 : Bool) (ip : Nat) : Bool :=
  match b.neigh l v6 ip with | some x => x.mac.isSome | none => false

/-- An ARP reply or a neighbour advertisement for a neighbour that the engine asked for; any other answer is dropped. -/
def Block.netReply (b : Block) (l : Nat) (v6 : Bool) (ip mac : Nat) : Block :=
  if !b.linkUp l then b
  else match b.neigh l v6 ip with
    | some x => (b.netRx l).setNeigh { x with mac := some mac, asked := false, since := b.clock }
    | none => b.netDrop l
/-- An unanswered resolution is retried every 1 s; a resolved neighbour is refreshed every 60 s. -/
def Block.netRetry (b : Block) (l : Nat) (v6 : Bool) (ip : Nat) : Block :=
  match b.neigh l v6 ip with
  | some x => if x.asked ∧ x.since + 1600000000 ≤ b.clock then (b.netAsk l v6 ip).setNeigh { x with since := b.clock } else b
  | none => b
def Block.netRefresh (b : Block) (l : Nat) (v6 : Bool) (ip : Nat) : Block :=
  match b.neigh l v6 ip with
  | some x =>
    if !x.asked ∧ x.since + 96000000000 ≤ b.clock then (b.netAsk l v6 ip).setNeigh { x with asked := true, since := b.clock } else b
  | none => b

/-- An ARP request, a neighbour solicitation or an echo request: answered for the interface's own address, and dropped for any
other. -/
def Block.netArp (b : Block) (l mac ip target : Nat) : Block :=
  if !b.linkUp l then b
  else if target ≠ 0 ∧ target = (b.netIp l false).1 then
    (b.netRx l).netSend l 1 [2, b.val (ki K.NET_MAC l), target, mac, ip] []
  else b.netDrop l
def Block.netSolicit (b : Block) (l mac ip target : Nat) : Block :=
  if !b.linkUp l then b
  else if target ≠ 0 ∧ target = (b.netIp l true).1 then
    (b.netRx l).netSend l 2 [136, b.val (ki K.NET_MAC l), target, mac, ip] []
  else b.netDrop l
def Block.netEcho (b : Block) (l : Nat) (v6 : Bool) (ip target : Nat) (data : List Byte) : Block :=
  if !b.linkUp l then b
  else if target ≠ 0 ∧ target = (b.netIp l v6).1 then (b.netRx l).netSend l 3 [b2n v6, ip] data
  else b.netDrop l

/-- A PFC frame pauses the stream priority for a number of 512-bit times (IEEE 802.1Qbb, R336); without PFC it is dropped. -/
def Block.netPfc (b : Block) (l mask quanta : Nat) : Block :=
  if !b.linkUp l then b
  else if l ≠ mgmtPort ∧ b.f K.NET_CFG l 1 1 = 1 then
    let b := b.netRx l
    if bit mask (b.f K.NET_CFG l 4 2) then
      { b with pfc := tset b.pfc l (b.clock + ceilDiv (quanta * 512 * 1600) (b.netRate l)) }
    else b
  else b.netDrop l

/-- Frames that arrive and are dropped (R341), with the FEC codewords counted beside them. -/
def Block.netDropped (b : Block) (l corr uncorr : Nat) : Block :=
  if b.linkUp l then ((b.netDrop l).inc K.NET_FEC_CORR l corr).inc K.NET_FEC_UNCORR l uncorr else b

/-- A stream that is not OFF names the interface. -/
def Block.netNamed (b : Block) (l : Nat) : Bool := (List.range 64).any (fun s => !b.isOff bSTR s && b.strIface s == l)

/-- Step 1: a key that names an interface which does not exist in its port's mode. -/
def Block.netKey (b : Block) (i : Nat) : Status := need (decide (16 ≤ i) || b.netExists i) .paramKey

/-- Steps 5 and 8. -/
def Block.netState (b : Block) (i item v : Nat) : Status :=
  if 0x20 ≤ i then need (!(List.range 4).any (fun m => !b.isOff bNET (4 * (i - 0x20) + m))) .state
  else if i = mgmtPort then .ok
  else if item = 1 ∧ v % 2 = 1 ∧ b.dev ≠ .flow then .notInThaw
  else if item = 1 ∧ v % 2 = 0 ∧ b.netNamed i then .busy
  else if 0x11 ≤ item ∧ item ≤ 0x18 ∧ !b.isOff bNET i then .state
  else .ok

/-- Step 9. -/
def Block.netValue (_ : Block) (i item v : Nat) : Status :=
  if item = 0x10 ∧ i < 0x20 then need (bits v 19 17 ≤ 3 && (i == mgmtPort || bits v 19 17 == 0)) .paramRange
  else if item = 0x10 then need (bits v 1 0 != 3) .paramRange
  else if item = 0x12 then need (decide (bits v 37 32 ≤ 32)) .paramRange
  else if item = 0x16 then need (decide (bits v 7 0 ≤ 128)) .paramRange
  else .ok

end Sys2Proof.Machine
end

