-- ==== Sys2Proof/Machine/Streams.lean ====
section
/-! DEFINITION. Streams: their life, their packets, RoCEv2, VITA 49.2 (R342 to R354), the compressors (R356 to R360) and the
decompressors (R361, R362). -/
namespace Sys2Proof.Machine

/-! ## Loads and life -/

/-- The RATE sum of the streams that name an interface (R340), `skip` left out. -/
def Block.netLoad (b : Block) (l skip : Nat) : Nat :=
  ((which 64 (fun s => s != skip && !b.isOff bSTR s && b.strIface s == l)).map (fun s => b.f K.STR_RATE s 18 0)).foldl (· + ·) 0
/-- The charge of a stream on each compressor of its mask (R356), in 1/12 Mbit/s. -/
def Block.codecShare (b : Block) (s : Nat) : Nat := b.f K.STR_CODEC_RATE s 20 0 * 12 / max 1 (b.strMask s).length
/-- The charges on a compressor in 1/12 Mbit/s, `skip` left out. -/
def Block.codecLoad (b : Block) (c skip : Nat) : Nat :=
  ((which 64 (fun s => s != skip && !b.isOff bSTR s && b.strCoded s && (b.strMask s).contains c)).map b.codecShare).foldl (· + ·) 0
/-- The pages that enabled streams hold. -/
def Block.pagesUsed (b : Block) (skip : Nat) : Nat :=
  ((which 64 (fun s => s != skip && !b.isOff bSTR s)).map (fun s => b.f K.STR_BUF s 5 0)).foldl (· + ·) 0
/-- STREAM_LOAD and LOAD follow the streams enabled. -/
def Block.strLoads (b : Block) : Block :=
  let b := (List.range 16).foldl (fun b l => b.pf K.NET_STREAM_LOAD l 19 0 (b.netLoad l 64)) b
  (List.range 4).foldl (fun b c => b.pf K.CDC_LOAD c 19 0 (ceilDiv (b.codecLoad c 64) 12)) b

def Block.strDest (b : Block) (s : Nat) : Nat :=
  if b.strV6 s then b.val (ki K.STR_DEST6_HI s) * 2 ^ 64 + b.val (ki K.STR_DEST6_LO s) else b.f K.STR_DEST4 s 31 0
def Block.strHop (b : Block) (s : Nat) : Nat := b.nextHop (b.strIface s) (b.strV6 s) (b.strDest s)
def Block.setStrStatus (b : Block) (s v : Nat) : Block := b.pf K.STR_STATUS s 1 0 v

/-- ENABLE = 1 performed: pages and rate are held, the neighbour is asked for, and PKT_SEQ begins again. The starting PSN is a free
value of 24 bits. -/
def Block.strStart (b : Block) (s : Nat) : Block :=
  let w := b.strSrc s
  let last := b.val (ki K.STR_READ_TO s)
  let last := if last = 2 ^ 64 - 1 then b.val (ki K.CAP_NEXT_SEQ w) - 1 else last
  let x : Str := { next := if b.strKind s = 1 then b.val (ki K.STR_READ_FROM s) else 0, last := last, startBeat := b.beat,
                   psn := Config.random 24 b.fresh % 2 ^ 24 }
  let b := ((b.tick.setLife bSTR s lStarting).setStr s x).pv K.STR_PKT_SEQ s 0
  let b := (b.setStrStatus s 0).pf K.STR_STATUS s 25 2 (if b.strRoce s then 0x100 + s else 0)
  (b.netWant (b.strIface s) (b.strV6 s) (b.strHop s)).strLoads
def Block.strStop (b : Block) (s : Nat) : Block :=
  (b.setLife bSTR s lStopping).setStr s { b.str s with stopAt := some b.beat }

/-- The interface is ON and the neighbour is resolved (R344). -/
def Block.strReady (b : Block) (s : Nat) : Bool :=
  b.isOn bNET (b.strIface s) && b.netResolved (b.strIface s) (b.strV6 s) (b.strHop s)
/-- The start completes: the stream is ON from the next boundary. -/
def Block.strStarted (b : Block) (s : Nat) : Block :=
  if b.life bSTR s = lStarting ∧ b.strReady s then b.setStr s { b.str s with resolved := true } else b

/-- A context packet's item: its lane sample, and none for the one at ENABLE. -/
def ctxItem (idx : Nat) (frees : Bool) : StrItem := { kind := 17, index := idx, hdr := [], data := [], frees := frees }

/-- A boundary: losses of the beat are reported, a start completes, a stop that has sent all it holds ends (R344, R346). -/
def Block.strBoundary (b : Block) (s : Nat) : Block :=
  if b.isOff bSTR s then b
  else
    let x := b.str s
    let b := if x.lost = 0 then b
      else (b.raise 798 (beBytes 1 s ++ zeros 3 ++ beBytes 4 x.lost ++ beBytes 8 (b.val (ki K.STR_PKT_SEQ s) + 1))).setStr s
        { x with lost := 0 }
    let x := b.str s
    if b.life bSTR s = lStarting ∧ (x.resolved ∨ b.strReady s) then
      let x := if b.strVita s then { x with items := ctxItem (2 ^ 64 - 1) false :: x.items } else x
      (b.setLife bSTR s lOn).setStr s x
    else if b.life bSTR s = lStopping ∧ x.items.isEmpty ∧ x.unacked.isEmpty then
      ((b.setLife bSTR s lOff).setStr s {}).strLoads
    else b

/-- EV_STR_DOWN. -/
def Block.strDown (b : Block) (s reason : Nat) : Block :=
  b.raise 797 (beBytes 1 s ++ beBytes 1 reason ++ zeros 6 ++ beBytes 8 (b.val (ki K.STR_PKT_SEQ s)))

/-! ## Reading a ring (R345, R347, R360) -/

/-- The wire bytes of a packet with `n` payload bytes over UDP or RoCEv2 (R352, R355). -/
def Block.wireBytes (b : Block) (s n : Nat) (first last : Bool) : Nat :=
  38 + (if b.strV6 s then 40 else 20) + 8 + n + (if b.f K.NET_CFG (b.strIface s) 16 5 = 0 then 0 else 4) +
    (if b.strRoce s then 16 + (if first then 16 else 0) + (if last then 4 else 0) else 0)
/-- The wire bytes of `n` data bytes cut into packets of whole parts. -/
def Block.wireTotal (b : Block) (s n part : Nat) : Nat :=
  let per := max 1 (b.strMax s / max 1 part) * max 1 part
  let tag := if b.strEnc s then 80 else 64
  let k := max 1 (ceilDiv n per)
  n + k * (b.wireBytes s tag false false) + (if b.strRoce s then 20 else 0)

/-- A record as a stream item (R349, R354). -/
def Block.recItem (b : Block) (s w : Nat) (r : Rec) (bytes : List Byte) (frees : Bool) : StrItem :=
  let f (o n : Nat) : Nat := beNat ((bytes.drop o).take n)
  let pack := bits (f 2 1) 3 2
  let n := f 20 4
  if b.strVita s then
    if r.type = 1 then
      { kind := 16, index := f 24 8, hdr := [], flags := (bytes.drop 32).take 32, data := (bytes.drop 64).take (n * 4), part := 256,
        frees := frees, n := n }
    else if r.type = 0x13 ∧ (f 32 1 = 0 ∨ f 32 1 = 2 ∨ f 32 1 = 3) then ctxItem (f 24 8) frees
    else { kind := if r.type = 0x11 then 18 else 19, index := 0, hdr := [], data := [], frees := frees }
  else if r.type = 1 then
    { kind := if b.strCoded s then 2 else 1, index := f 24 8, flags := (bytes.drop 32).take 32,
      hdr := beBytes 8 r.seq ++ beBytes 4 n ++ beBytes 4 (f 16 4) ++ beBytes 1 (f 3 1) ++ beBytes 1 pack ++
        (if b.strCoded s then beBytes 1 (b.f K.STR_CFG s 19 18) ++ beBytes 1 (b.strTurn s) ++ zeros 12 else zeros 14),
      data := (bytes.drop 64).take (n * packBytes pack), part := 64 * packBytes pack, frees := frees, n := n }
  else { kind := 3, index := r.seq, hdr := beBytes 4 1 ++ beBytes 1 w ++ zeros 27, data := bytes, frees := frees }

/-- The next record of a RING or READOUT stream and its bytes; a READOUT counts the records overwritten before it read them. -/
def Block.strNextRec (b : Block) (m : Mem) (s : Nat) : Block × Option (Rec × List Byte) :=
  let x := b.str s
  let w := b.strSrc s
  let c := b.cap w
  let rd := b.strKind s == 1
  let x' := match c.recs.head? with
    | some r => if rd ∧ x.next < r.seq ∧ 0 < x.next then { x with next := r.seq, loss := true } else { x with next := max x.next (if rd then r.seq else 0) }
    | none => x
  let b := if rd ∧ x.next < x'.next ∧ 0 < x.next then (b.inc K.STR_DROPPED s (x'.next - x.next)).setStr s x' else b.setStr s x'
  if rd ∧ x'.last < x'.next then (b, none)
  else match c.recs.findIdx? (fun r => decide (x'.next ≤ r.seq)) with
    | none => (b, none)
    | some i =>
      match c.recs[i]? with
      | none => (b, none)
      | some r => (b, some (r, if b.cpDirect w then c.pass.getD i [] else b.ringRead m w r.off r.len))

/-- Read one record into the stream, if there is one and it finds room: a ring-backed stream waits, and a compressor reserves the
block's largest size before it takes it (R360). An item larger than the pages is read when nothing else is held. -/
def Block.strReadOne (b : Block) (m : Mem) (s : Nat) : Block × Bool :=
  let w := b.strSrc s
  let (b, r) := b.strNextRec m s
  match r with
  | none => (b, false)
  | some (r, bytes) =>
    let direct := b.cpDirect w
    let it := b.recItem s w r bytes (b.strKind s == 0 && !direct)
    let coded := it.kind == 2
    let it' := if coded then { it with data := it.data ++ zeros 48, part := 1, ready := false } else it
    let free := !coded || (tfind b.jobs (b.strTurn s)).isNone
    if free && (b.strRoom s (b.itemRoom s it') || (b.strHeld s == 0)) then
      let x := b.str s
      let b := if coded then
          { b with jobs := tset b.jobs (b.strTurn s) ⟨s, it.index, 4 * packBytes (bits (beNat ((bytes.drop 2).take 1)) 3 2),
                                                      b.f K.STR_CFG s 19 18, it.data⟩ }
        else b
      let b := b.setStr s { x with items := x.items ++ [it'], next := r.seq + 1, turn := if coded then x.turn + 1 else x.turn }
      (if direct then b.capFree w else b, true)
    else (b, false)

/-- Read records while they find room. -/
def Block.strReadN (b : Block) (m : Mem) (s : Nat) : Nat → Block
  | 0 => b
  | n + 1 => match b.strReadOne m s with | (b, true) => b.strReadN m s n | (b, false) => b
/-- A RING or READOUT stream that is ON reads on. -/
def Block.strRead (b : Block) (m : Mem) (s : Nat) : Block :=
  if b.strKind s ≤ 1 ∧ b.isOn bSTR s then b.strReadN m s 64 else b

/-! ## Packets (R347 to R354) -/

/-- The flag nibble of group `g`. -/
def nibble (flags : List Byte) (g : Nat) : Nat :=
  let v := (flags.getD (g / 2) 0).toNat
  if g % 2 = 0 then v / 16 else v % 16

/-- Bytes 24 to 63 of a native packet that holds `d` of an item from `off`: INDEX, and the fields by KIND (R349). -/
def StrItem.fields (it : StrItem) (off : Nat) (d : List Byte) : List Byte :=
  if it.kind = 1 then
    let pb := it.part / 64
    let g := off / it.part
    let nibs := (List.range 11).map (fun k =>
      let one (j : Nat) : Nat := if j * it.part < d.length then nibble it.flags (g + j) else 0
      BitVec.ofNat 8 (16 * one (2 * k) + one (2 * k + 1)))
    beBytes 8 (it.index + off / max 1 pb) ++ it.hdr.take 8 ++ beBytes 4 (d.length / max 1 pb) ++ (it.hdr.drop 12).take 6 ++ zeros 2 ++
      nibs ++ zeros 1
  else beBytes 8 it.index ++ fixLen 32 it.hdr

/-- Items that share a packet: whole records of RECORDS and EVENTS. -/
def batchOf (max : Nat) : Nat → List StrItem → Nat
  | _, [] => 0
  | used, it :: t => if used + it.data.length ≤ max ∧ it.off = 0 then 1 + batchOf max (used + it.data.length) t else 0

/-- The 64-byte header of a native packet. -/
def Block.strHeader (b : Block) (s kind flags seq off len : Nat) (fields : List Byte) : List Byte :=
  beBytes 3 0x465953 ++ beBytes 1 1 ++ beBytes 1 kind ++ beBytes 1 flags ++ beBytes 1 s ++ beBytes 1 (b.strSrc s) ++ beBytes 8 seq ++
    beBytes 4 off ++ beBytes 4 len ++ fields

/-- The stream data, encrypted and tagged under ENCRYPT (R350). -/
def Block.strSeal (b : Block) (s seq : Nat) (head data : List Byte) : List Byte :=
  if b.strEnc s then
    let (key, salt) := tget (0, 0) b.streamKeys (b.f K.STR_CFG s 27 25)
    (List.range (data.length + 16)).map (fun k => Config.gcmByte key (salt * 2 ^ 64 + seq) (beNat head) (beNat data) k)
  else data

/-- The VITA 49.2 words of a Fysiva time: TAI seconds, and picoseconds. -/
def vitaTime (t : Fysiva) : List Byte :=
  beBytes 4 t.sec ++ beBytes 8 (t.ns * 1000 + (rndEven ((t.frac : Int) * 1000) 65536).toNat)
/-- The stream identifier and the class identifier (R354). -/
def Block.vitaIds (b : Block) (s cls : Nat) : List Byte :=
  beBytes 4 (b.f K.PLT_NODE 0 17 0 * 64 + s) ++ beBytes 4 0x3CA791 ++ beBytes 4 (0x8516 * 65536 + cls)
/-- A signal data packet (R354) of samples `d` from `off` of a data run. -/
def Block.vitaData (b : Block) (s count : Nat) (it : StrItem) (off : Nat) (d : List Byte) (loss : Bool) : List Byte :=
  let t := b.lnTime (b.cpLane (b.strSrc s)) (it.index + off / 4 : Nat)
  let fl := (List.range (ceilDiv d.length 256)).foldl (fun a j => a ||| nibble it.flags (off / 256 + j)) 0
  let calibrated := decide (2 ≤ t.quality)
  let valid := decide (fl < 4)
  let trailer := 2 ^ 31 + 2 ^ 30 + 2 ^ 24 + b2n calibrated * 2 ^ 19 + b2n valid * 2 ^ 18 + b2n loss * 2 ^ 12
  beBytes 4 (1 * 2 ^ 28 + 2 ^ 27 + 2 ^ 26 + 3 * 2 ^ 22 + 2 * 2 ^ 20 + count % 16 * 2 ^ 16 + (8 + d.length / 4)) ++ b.vitaIds s 1 ++
    vitaTime t ++ d ++ beBytes 4 trailer
/-- A frequency in Hz with 20 fraction bits. -/
def vitaHz (n d : Nat) : List Byte := beBytes 8 (rndEven ((n : Int) * 1048576) (max 1 d)).toNat
/-- A context packet (R354): change indicator, bandwidth, IF reference frequency, sample rate and payload format. -/
def Block.vitaContext (b : Block) (s count idx : Nat) : List Byte :=
  let i := b.cpLane (b.strSrc s)
  let t := if idx = 2 ^ 64 - 1 then b.now else b.lnTime i (idx : Nat)
  let (n, d) := b.lnFs i
  let (fn, fd) := b.lnFin i
  let nco := b.val (ki K.LANE_NCO_FREQ i)
  let cif := 2 ^ 31 + 2 ^ 29 + 2 ^ 27 + 2 ^ 21 + 2 ^ 15
  beBytes 4 (4 * 2 ^ 28 + 2 ^ 27 + 3 * 2 ^ 22 + 2 * 2 ^ 20 + count % 16 * 2 ^ 16 + 16) ++ b.vitaIds s 2 ++ vitaTime t ++ beBytes 4 cif ++
    vitaHz (n * 4) (d * 5) ++ beBytes 8 (uns 64 (rndEven (sgn 48 nco * fn * 1048576) (max 1 (fd * 2 ^ 48)))) ++ vitaHz n d ++
    beBytes 8 ((2 ^ 31 + 2 ^ 29 + 15 * 2 ^ 6 + 15) * 2 ^ 32)

/-- The next PSN. -/
def psnNext (p : Nat) : Nat := (p + 1) % 2 ^ 24

/-- Where a RoCEv2 message of `len` bytes would go, if the host ring has room for it (R352). -/
def Block.roceRoom (b : Block) (s len : Nat) : Option Nat :=
  let ring := b.f K.STR_RDMA_RING s 31 0
  let credit := b.f K.STR_RDMA_CREDIT s 31 0
  let w := (b.str s).ring
  let at' := if ring < round64 w + len then 0 else round64 w
  let ahead := decide (credit ≤ w)
  let wrapped := decide (at' < w)
  -- the 64 bytes before the credit stay free
  let ok :=
    if ahead && !wrapped then decide (at' + len ≤ ring - (if credit < 64 then 64 - credit else 0))
    else if ahead then decide (at' + len + 64 ≤ credit)
    else !wrapped && decide (at' + len + 64 ≤ credit)
  if ok then some at' else none

/-- RATE spaces the packets of a stream: the next one waits for the wire time of this one at that rate (R340). -/
def Block.strPace (b : Block) (s wire : Nat) : Block :=
  b.setStr s { b.str s with readyAt := b.clock + ceilDiv (wire * 8 * 1600) (max 1 (b.f K.STR_RATE s 18 0)) }

/-- A packet goes out over UDP. -/
def Block.strUdp (b : Block) (s : Nat) (bytes : List Byte) : Block :=
  b.netSend (b.strIface s) 4 [s, b2n (b.strV6 s), b.strDest s, b.f K.STR_PORTS s 31 16, b.f K.STR_PORTS s 15 0] bytes
/-- A packet goes out over RoCEv2. -/
def Block.strWrite (b : Block) (s : Nat) (p : RocePkt) : Block :=
  b.netSend (b.strIface s) 5 [s, b.strDest s, b.f K.STR_RDMA_QP s 23 0, p.psn, p.op, b.val (ki K.STR_RDMA_ADDR s) + p.at', p.imm] p.bytes

/-- What a packet takes of the items: `n` whole items, or `d` bytes more of the first. -/
def Block.strTook (b : Block) (s n d : Nat) : Block :=
  let x := b.str s
  let gone := x.items.take n
  let rest := x.items.drop n
  let rest := match rest with | it :: t => if d = 0 then rest else { it with off := it.off + d } :: t | [] => []
  let b := b.setStr s { x with items := rest }
  gone.foldl (fun b it => if it.frees then b.capFree (b.strSrc s) else b) b

/-- Items that VITA 49.2 does not send are passed over; a gap marks the next packet. -/
def Block.strSkip (b : Block) (s : Nat) : Nat → Block
  | 0 => b
  | n + 1 =>
    let x := b.str s
    match x.items with
    | it :: _ => if it.kind = 18 ∨ it.kind = 19 then
        (b.setStr s { x with gap := x.gap || it.kind == 18 } |>.strTook s 1 0).strSkip s n
      else b
    | [] => b

/-- One VITA 49.2 packet. -/
def Block.sendVita (b : Block) (s : Nat) (it : StrItem) : Block :=
  let x := b.str s
  let per := b.itemMax s it
  let d := (it.data.drop it.off).take per
  let bytes := if it.kind = 17 then b.vitaContext s x.context it.index else b.vitaData s x.data it it.off d (x.gap || x.loss)
  let x := if it.kind = 17 then { x with context := x.context + 1 } else { x with data := x.data + 1, gap := false, loss := false }
  let last := decide (it.data.length ≤ it.off + d.length)
  let b := ((b.setStr s x).strUdp s bytes).strPace s (b.wireBytes s bytes.length true true)
  if last then b.strTook s 1 0 else b.strTook s 0 d.length

/-- One native packet: the fragment's bytes, with the number of items it takes whole and the bytes of the next. -/
def Block.nativePacket (b : Block) (s : Nat) (it : StrItem) : List Byte × Nat × Nat × Bool × Bool :=
  let x := b.str s
  let seq := b.val (ki K.STR_PKT_SEQ s) + 1
  let batch := if it.kind = 3 ∨ it.kind = 7 then batchOf (b.strMax s) 0 (x.items.takeWhile (fun y => y.kind == it.kind)) else 0
  let whole := x.items.take batch
  let d := if 2 ≤ batch then (whole.map (·.data)).flatten else (it.data.drop it.off).take (b.itemMax s it)
  let off := if 2 ≤ batch then 0 else it.off
  let len := if 2 ≤ batch then d.length else it.data.length
  let first := off == 0
  let last := decide (len ≤ off + d.length)
  let fields := if 2 ≤ batch then beBytes 8 it.index ++ beBytes 4 batch ++ (fixLen 32 it.hdr).drop 4 else it.fields off d
  let flags := b2n x.loss + 2 * b2n it.late + 4 * b2n (b.strEnc s) + 8 * b2n first + 16 * b2n last
  let head := b.strHeader s it.kind flags seq off len fields
  (head ++ b.strSeal s seq head d, if 2 ≤ batch then batch else if last then 1 else 0, if last then 0 else d.length, first, last)

/-- The packet is sent: counters, PKT_SEQ, and the room it leaves. -/
def Block.strSent (b : Block) (s n d wire : Nat) : Block :=
  let b := (b.inc K.STR_PACKETS s 1).pv K.STR_PKT_SEQ s (b.val (ki K.STR_PKT_SEQ s) + 1)
  ((b.setStr s { b.str s with loss := false }).strTook s n d).strPace s wire

/-- A closed event packet waits on an interface: it leaves before any stream packet (R83). -/
def Block.eventsWait (b : Block) (l : Nat) : Bool := b.sessions.any (fun s => s.iface == l && !s.closed.isEmpty)

/-- One stream packet is due (R340, R344, R348, R352): it is sent unless rate, link, PFC or credit hold it. -/
def Block.strSend (b : Block) (m : Mem) (s : Nat) : Block :=
  if !(b.isOn bSTR s || b.life bSTR s == lStopping) then b
  else
    let b := (b.strRead m s).strSkip s 64
    let x := b.str s
    let l := b.strIface s
    let held := !b.netUsable l || b.eventsWait l || !b.isOn bNET l || decide (b.clock < x.readyAt) || decide (b.clock < tget 0 b.pfc l)
    match x.items with
    | [] =>
      if 0 < x.resend ∧ !held then
        match x.unacked[x.unacked.length - x.resend]? with
        | some p =>
          let x := { x with resend := x.resend - 1,
                            unacked := x.unacked.map (fun q => if q.psn = p.psn then { q with since := b.clock } else q) }
          (((b.setStr s x).strWrite s p).inc K.STR_RETRANS s 1).strPace s (b.wireBytes s p.bytes.length true true)
        | none => b
      else if b.strKind s = 1 ∧ x.last < x.next then
        let b := if x.done then b else (b.setStr s { x with done := true }).strDown s 3
        b.setStrStatus s 3
      else b.setStrStatus s (if 0 < x.resend then 2 else 0)
    | it :: _ =>
      if held then b.setStrStatus s 2
      else if 0 < x.resend then
        match x.unacked[x.unacked.length - x.resend]? with
        | some p =>
          let x := { x with resend := x.resend - 1,
                            unacked := x.unacked.map (fun q => if q.psn = p.psn then { q with since := b.clock } else q) }
          (((b.setStr s x).strWrite s p).inc K.STR_RETRANS s 1).strPace s (b.wireBytes s p.bytes.length true true)
        | none => b
      else if !it.ready then b.setStrStatus s 0
      else if b.strVita s then
        ((b.setStrStatus s 1).inc K.STR_PACKETS s 1 |>.pv K.STR_PKT_SEQ s (b.val (ki K.STR_PKT_SEQ s) + 1)).sendVita s it
      else
        let (bytes, n, d, first, last) := b.nativePacket s it
        let wire := b.wireBytes s bytes.length first last
        if b.strRoce s then
          -- the message's place is fixed by its first packet
          let len := if first && last then bytes.length else b.itemRoom s { it with off := 0 }
          let place := if first then b.roceRoom s len else some x.ring
          match place with
          | none => b.setStrStatus s 2
          | some at' =>
            let stop := if first then at' + len else x.msgEnd
            let op := if first && last then 3 else if first then 0 else if last then 2 else 1
            let p : RocePkt := ⟨x.psn, op, at', if last then stop else 0, bytes, b.clock⟩
            let x := { x with psn := psnNext x.psn, ring := at' + bytes.length, msgEnd := stop, unacked := x.unacked ++ [p] }
            (((b.setStrStatus s 1).setStr s x).strWrite s p).strSent s n d wire
        else ((b.setStrStatus s 1).strUdp s bytes).strSent s n d wire

/-! ## RoCEv2 answers (R353) -/

/-- PSN `p` lies at or before PSN `q`. -/
def psnLe (p q : Nat) : Bool := decide ((q + 2 ^ 24 - p) % 2 ^ 24 < 2 ^ 23)

/-- An ACK of every packet up to a PSN. -/
def Block.roceAck (b : Block) (s psn : Nat) : Block :=
  if b.isOff bSTR s ∨ !b.strRoce s ∨ !b.linkUp (b.strIface s) then b
  else
    let b := b.netRx (b.strIface s)
    let x := b.str s
    let left := x.unacked.filter (fun p => !psnLe p.psn psn)
    if left.length = x.unacked.length then b
    else b.setStr s { x with unacked := left, retries := 0, resend := min x.resend left.length }

/-- Retransmission from a PSN, or the error state after 7 retries without progress: the stream then stops. -/
def Block.roceRetry (b : Block) (s psn : Nat) : Block :=
  let x := b.str s
  if 7 ≤ x.retries then
    let b := (b.setEnable bSTR s false).strDown s 1
    (b.strStop s).setStr s { x with items := [], unacked := [], resend := 0, stopAt := some b.beat }
  else b.setStr s { x with retries := x.retries + 1, resend := (x.unacked.filter (fun p => psnLe psn p.psn)).length }

/-- A NAK that names a PSN: the packets before it are acknowledged. -/
def Block.roceNak (b : Block) (s psn : Nat) : Block :=
  if b.isOff bSTR s ∨ !b.strRoce s ∨ !b.linkUp (b.strIface s) then b
  else
    let b := b.netRx (b.strIface s)
    let x := b.str s
    let left := x.unacked.filter (fun p => psnLe psn p.psn)
    let x := { x with retries := if left.length < x.unacked.length then 0 else x.retries, unacked := left }
    if left.isEmpty then b.setStr s x else (b.setStr s x).roceRetry s psn

/-- The oldest packet has waited 131 µs for its ACK. -/
def Block.roceTimeout (b : Block) (s : Nat) : Block :=
  match (b.str s).unacked with
  | p :: _ =>
    if p.since + 209600 ≤ b.clock then
      (b.setStr s { b.str s with unacked := (b.str s).unacked.map (fun q => { q with since := b.clock }) }).roceRetry s p.psn
    else b
  | [] => b

/-- Any other request that reaches a stream's queue pair is answered with a NAK for an invalid request (R352): opcode 4. -/
def Block.roceInvalid (b : Block) (s psn : Nat) : Block :=
  if b.isOff bSTR s ∨ !b.strRoce s ∨ !b.linkUp (b.strIface s) then b
  else (b.netRx (b.strIface s)).netSend (b.strIface s) 5 [s, b.strDest s, b.f K.STR_RDMA_QP s 23 0, psn, 4, 0, 0] []

/-! ## Weaver blocks and compressors -/

/-- A block that core `c` submits (R312, R342, R349); `false` when the stream refuses it. -/
def Block.strWeaver (b : Block) (s c : Nat) (data : List Byte) (late : Bool) : Block × Bool :=
  if b.strTakes s 6 b.beat then
    b.strOffer s { kind := 8, index := b.beat, hdr := beBytes 1 c ++ zeros 31, data := data, part := 6, late := late }
  else (b, false)

/-- A compressor releases its block (R359, R360): raw where coding gains nothing or the verifier finds a mismatch. WIRE_GAIN covers
the last 1,024 blocks. -/
def Block.codecDone (b : Block) (m : Mem) (c : Nat) (mismatch : Bool) : Block :=
  match tfind b.jobs c with
  | none => b
  | some j =>
    let (block, raw) := codeBlock j.w j.pred j.data mismatch
    let b := { b with jobs := tdel b.jobs c }
    let b := b.inc K.CDC_BLOCKS c 1
    let b := if raw then b.inc K.CDC_RAW_BLOCKS c 1 else b
    let b := if mismatch then
        (b.inc K.CDC_VERIFY_FAIL c 1).raise 800 (beBytes 1 c ++ beBytes 1 j.stream ++ zeros 6 ++ beBytes 8 j.index)
      else b
    let s := j.stream
    let x := b.str s
    let items := x.items.map (fun it =>
      if !it.ready && it.index == j.index then { it with data := it.flags ++ block, ready := true } else it)
    let plain := b.wireTotal s j.data.length (64 * (j.w / 4))
    let gains := ((plain, b.wireTotal s (32 + block.length) 1) :: x.gains).take 1024
    let u := (gains.map (·.1)).foldl (· + ·) 0
    let v := (gains.map (·.2)).foldl (· + ·) 0
    let b := b.setStr s { x with items := items, gains := gains }
    (b.pf K.STR_WIRE_GAIN s 15 0 (min 65535 (rndEven (u * 256) (max 1 v)).toNat)).strRead m s

/-! ## Decompressors (R361, R362) -/

def Block.decStart (b : Block) (d : Nat) : Block :=
  let i := 0x10 + d
  ((((b.setLife bCDC i lStarting).setDec d {}).pv K.CDC_OUT_COUNT i 0).pf K.CDC_DEC_STATUS i 15 0 0).pf K.CDC_DEC_STATUS i 18 16 0
def Block.decStop (b : Block) (d : Nat) : Block := b.setLife bCDC (0x10 + d) lStopping
def Block.decBoundary (b : Block) (d : Nat) : Block :=
  let i := 0x10 + d
  if b.life bCDC i = lStarting then b.setLife bCDC i lOn
  else if b.life bCDC i = lStopping then b.setLife bCDC i lOff else b

/-- A fragment of a coded block over UDP, in PKT_SEQ order: a block with a missing or out-of-order fragment is discarded whole. -/
def Block.decFragment (b : Block) (d : Nat) (bytes : List Byte) : Block :=
  let f (o n : Nat) : Nat := beNat ((bytes.drop o).take n)
  let x := b.dec d
  let seq := f 8 8
  let inOrder := match x.seq with | some e => e == seq | none => true
  let lostPart := x.part.isSome && (!inOrder || f 16 4 == 0)
  let b := if lostPart then b.inc K.CDC_LOST_BLOCKS (0x10 + d) 1 else b
  let part := if lostPart then none else x.part
  let data := bytes.drop 64
  let part := if f 16 4 = 0 then some (f 24 8, f 20 4, data)
    else match part with
      | some (i, n, l) => if f 16 4 = l.length ∧ f 24 8 = i then some (i, n, l ++ data) else none
      | none => none
  -- a fragment in the middle of a block whose start is missing
  let b := if part.isNone && !lostPart && (x.part.isSome || x.seq != some seq) then b.inc K.CDC_LOST_BLOCKS (0x10 + d) 1 else b
  match part with
  | some (i, n, l) =>
    if n ≤ l.length then b.setDec d { x with seq := some (seq + 1), part := none, blocks := x.blocks ++ [(i, (l.take n).drop 32)] }
    else b.setDec d { x with seq := some (seq + 1), part := some (i, n, l) }
  | none => b.setDec d { x with seq := some (seq + 1), part := none }

/-- A packet for the decompressors arrives on a host interface: one at each decompressor with its port, else it is dropped. -/
def Block.decPacket (b : Block) (l port : Nat) (bytes : List Byte) : Block :=
  let native := beNat (bytes.take 3) == 0x465953 && (bytes.getD 3 0) == 1 && (bytes.getD 4 0) == 2 && decide (64 ≤ bytes.length)
  let ds := which 2 (fun d => b.isOn bCDC (0x10 + d) && b.f K.CDC_DEC_CFG (0x10 + d) 16 16 == 0 && b.f K.CDC_DEC_CFG (0x10 + d) 15 0 == port)
  if !b.netUsable l ∨ 16 ≤ l then b
  else if ds.isEmpty ∨ !native then b.netDrop l
  else ds.foldl (fun b d => b.decFragment d bytes) (b.netRx l)

/-- The next block of a decompressor: the oldest received, or the next entry in memory space 0. -/
def Block.decNext (b : Block) (m : Mem) (d : Nat) : Option (Block × Nat × List Byte) :=
  let i := 0x10 + d
  let x := b.dec d
  if b.f K.CDC_DEC_CFG i 16 16 = 0 then
    match x.blocks with
    | (n, l) :: t => some (b.setDec d { x with blocks := t }, n, l)
    | [] => none
  else
    let len := b.f K.CDC_IN_LEN i 47 0
    let a := b.f K.CDC_IN_ADDR i 47 0 + x.pos
    if len < x.pos + 24 then none
    else
      let head := b.hbmReads m a 24
      let n := 16 + beNat ((head.drop 12).take 4) + beNat ((head.drop 16).take 4)
      let n := min n (len - x.pos - 8)
      some (b.setDec d { x with pos := x.pos + 8 + ceilDiv n 8 * 8 }, beNat (head.take 8), b.hbmReads m (a + 8) n)

/-- A violation stops the decompressor (R362). -/
def Block.decFail (b : Block) (d cause : Nat) : Block :=
  let i := 0x10 + d
  let b := (b.pf K.CDC_DEC_STATUS i 15 0 Status.codecLimit.num).pf K.CDC_DEC_STATUS i 18 16 cause
  (b.raise 801 (beBytes 1 i ++ beBytes 1 cause ++ zeros 6 ++ beBytes 8 (b.val (ki K.CDC_OUT_COUNT i)))).decStop d

/-- A block's samples leave in index order, after the missing run before them. -/
def Block.decEmit (b : Block) (d first : Nat) (vals : List (Int × Int)) : Block :=
  let i := 0x10 + d
  let x := b.dec d
  let gap := match x.next with | some e => first - e | none => 0
  let runs := (if 0 < gap then [(⟨first - gap, gap, none⟩ : DecRun)] else []) ++
    (if vals.isEmpty then [] else [⟨first, vals.length, some vals⟩])
  (b.setDec d { x with next := some (first + vals.length), out := x.out ++ runs }).pv K.CDC_OUT_COUNT i
    (b.val (ki K.CDC_OUT_COUNT i) + vals.length)

/-- The next block is checked and decoded (R362). -/
def Block.decBlock (b : Block) (m : Mem) (d : Nat) : Block :=
  let i := 0x10 + d
  if !b.isOn bCDC i then b
  else match b.decNext m d with
    | none => b
    | some (b, first, l) =>
      let n := beNat ((l.drop 2).take 2)
      let il := beNat ((l.drop 4).take 4)
      let ql := beNat ((l.drop 8).take 4)
      let limit := b.f K.CDC_OUT_LIMIT i 47 0
      let count := b.val (ki K.CDC_OUT_COUNT i)
      let early := match (b.dec d).next with | some e => decide (first < e) | none => false
      if n = 0 ∨ 4096 < n then b.decFail d 1
      else if b.f K.CDC_DEC_CFG i 28 17 * (16 + il + ql) < n * 16 then b.decFail d 2
      else match decodeBlock l with
        | none => b.decFail d 4
        | some vals =>
          if early then b.decFail d 5
          else if limit ≠ 0 ∧ limit < count + n then (b.decEmit d first (vals.take (limit - count))).decFail d 3
          else b.decEmit d first vals

/-! ## Checks (R343, R363, R364) -/

/-- A stream's source of kinds 2 to 4, by block and instance. -/
def strSource (kind src : Nat) : Option (Nat × Nat) :=
  match kind with
  | 2 => some (0x06, src)
  | 3 => some (0x06, 0x80 + src)
  | 4 => some (bDEN, src)
  | _ => none

/-- A stream that is not OFF uses the function (R343). -/
def Block.strUses (b : Block) (blk i : Nat) : Bool :=
  (List.range 64).any (fun s => !b.isOff bSTR s &&
    (match strSource (b.strKind s) (b.strSrc s) with
     | some (k, n) => k == blk && n == i
     | none => blk == bCAP && decide (b.strKind s ≤ 1) && b.strSrc s == i))

/-- Steps 1, 5 and 8 of a stream's write. -/
def Block.strState (b : Block) (s item v : Nat) : Status :=
  if b.dev ≠ .flow then .notInThaw
  else if item = 1 then
    if v % 2 = 1 ∧ b.isOff bSTR s then
      if !b.netExists (b.strIface s) then .paramKey
      else if b.strEnc s ∧ (tfind b.streamKeys (b.f K.STR_CFG s 27 25)).isNone then .state
      else match strSource (b.strKind s) (b.strSrc s) with
        | some (k, n) => need (b.life k n == lStarting || b.life k n == lOn) .state
        | none => .ok
    else .ok
  else if item = 0x1E then .ok
  else need (b.isOff bSTR s) .state

/-- Step 9. -/
def Block.strValue (b : Block) (s item v : Nat) : Status :=
  if item = 1 ∧ v % 2 = 1 ∧ b.isOff bSTR s then
    let ring := decide (b.strKind s ≤ 1)
    let ip := (b.netIp (b.strIface s) (b.strV6 s)).1
    need (!(b.strVita s && (!ring || b.strRoce s || b.strCoded s || b.strEnc s)) && ip != 0 &&
      !(b.strCoded s && (!ring || (b.strMask s).isEmpty)) && b.strKind s != 7) .paramRange
  else match item with
    | 0x10 => need (bits v 2 0 != 7 && decide (bits v 30 28 ≤ 4) && bits v 19 18 != 3) .paramRange
    | 0x15 => need (decide (1 ≤ bits v 18 0) && decide (bits v 18 0 ≤ 385000)) .paramRange
    | 0x16 => need (decide (bits v 20 0 ≤ 1600000)) .paramRange
    | 0x17 => need (decide (1 ≤ bits v 5 0) && decide (bits v 5 0 ≤ 32)) .paramRange
    | 0x1D => need (v % 4096 == 0 && decide (65536 ≤ v) && decide (v ≤ 0xFFFFF000)) .paramRange
    | _ => .ok

/-- Step 10. -/
def Block.strBudget (b : Block) (s item v : Nat) : Status :=
  if item = 1 ∧ v % 2 = 1 ∧ b.isOff bSTR s then
    let l := b.strIface s
    need (decide (b.netLoad l s + b.f K.STR_RATE s 18 0 ≤ b.netAllowance l) &&
      decide (b.pagesUsed s + b.f K.STR_BUF s 5 0 ≤ 96) &&
      (!b.strCoded s || (b.strMask s).all (fun c => decide (b.codecLoad c s + b.codecShare s ≤ 400000 * 12)))) .budget
  else .ok

/-- Steps 5 and 8 of a decompressor's write. -/
def Block.cdcState (b : Block) (i item : Nat) : Status :=
  if 0x10 ≤ item ∧ item ≤ 0x13 ∧ !b.isOff bCDC i then .state else .ok
def Block.cdcValue (_ : Block) (item v : Nat) : Status :=
  if item = 0x10 then need (decide (1 ≤ bits v 28 17)) .paramRange
  else if item = 0x11 then need (v % 8 == 0) .paramRange else .ok

end Sys2Proof.Machine
end

