-- ==== Sys2Proof/Machine/Stim.lean ====
section
/-! DEFINITION. Stimulus channels: store, segments, the sequence table, jumps, host streaming, under-run (R366 to R382); the vector
plane (R383 to R386). -/
namespace Sys2Proof.Machine

def bSTM : Nat := 0x0F
def bVEC : Nat := 0x10
def stmStore : Nat := 0x10
/-- LEAD (R375). -/
def stmLead : Nat := 32768

def Block.stim (b : Block) (c : Nat) : Stim := tget {} b.stims c
def Block.setStim (b : Block) (c : Nat) (x : Stim) : Block := { b with stims := tset b.stims c x }
def Block.stLink (b : Block) (c : Nat) : Nat := b.f K.STM_CFG c 1 0
def Block.stConv (b : Block) (c : Nat) : Nat := b.f K.STM_CFG c 4 2
def Block.stSlip (b : Block) (c : Nat) : Bool := b.f K.STM_CFG c 17 17 == 1
def Block.stPack (b : Block) (c : Nat) : Nat := b.f K.STM_CFG c 19 18
/-- f_b of a channel as a fraction in Sa/s (R366). -/
def Block.stFb (b : Block) (c : Nat) : Nat × Nat := b.fConv bJTX (b.stLink c)
/-- The decompressor of a channel. -/
def Block.stDec (b : Block) (c : Nat) : Option Nat :=
  match b.f K.STM_CFG c 21 20 with | 1 => some 0 | 2 => some 1 | _ => none
/-- The linear address of a store offset (R368). -/
def Block.storeAt (b : Block) (off : Nat) : Nat := b.f K.STM_STORE stmStore 7 0 * 2 ^ 30 + off
/-- The samples that a host FIFO of 64 MiB holds. -/
def Block.fifoLen (b : Block) (c : Nat) : Nat := 67108864 / packBytes (b.stPack c)
def Block.fifoAt (b : Block) (c n : Nat) : Nat := b.storeAt (c * 67108864 + n % b.fifoLen c * packBytes (b.stPack c))

/-! ## Plays (R369, R370) -/

def Play.kind (p : Play) : Nat := bits p.seg 1 0
def Play.pb (p : Play) : Nat := packBytes (bits p.seg 3 2)
/-- L. -/
def Play.len (p : Play) : Nat := 256 * bits p.seg 27 4
def Play.stop (p : Play) : Nat := p.start + p.d
/-- D of a segment of `len` samples at a ratio. -/
def playLen (len ratio : Nat) : Nat := if ratio = 0 then len else ceilDiv (len * 2 ^ 32) ratio
/-- The segment point of output `k`, in 2^-32 samples. -/
def Play.point (p : Play) (k : Nat) : Nat := if p.ratio = 0 then k * 2 ^ 32 else k * p.ratio
/-- The first output whose point reaches a segment sample. -/
def Play.reach (p : Play) (i : Nat) : Nat := if p.ratio = 0 then i else ceilDiv (i * 2 ^ 32) p.ratio

/-- A packed sample restored to 24 bits. -/
def restore (pb v : Nat) : Int × Int :=
  let w := 4 * pb
  (sgn 24 (v / 2 ^ w * 2 ^ (24 - w)), sgn 24 (v % 2 ^ w * 2 ^ (24 - w)))

/-- Sample `i` of a play; none where it is missing or not fetched. -/
def Block.playSample (b : Block) (m : Mem) (p : Play) (i : Nat) : Option (Int × Int) :=
  if p.kind = 0 then some (restore p.pb (beNat (b.hbmReads m (b.storeAt (bits p.seg 59 28 * 64 + i * p.pb)) p.pb)))
  else (p.vals.getD i none)

/-- Sample `i` counted from the first of the play at place `n`: before it lie the plays before, after its last the plays after; zero
where there is none (R370). -/
def Block.sampleAt (b : Block) (m : Mem) (ps : List Play) (n : Nat) (i : Int) : Int × Int :=
  match ps[n]? with
  | none => (0, 0)
  | some p =>
    if i < 0 then
      (match n with
       | 0 => (0, 0)
       | k + 1 => match ps[k]? with
         | some q => if 0 ≤ i + q.len then (b.playSample m q (i + q.len).toNat).getD (0, 0) else (0, 0)
         | none => (0, 0))
    else if i < p.len then (b.playSample m p i.toNat).getD (0, 0)
    else match ps[n + 1]? with
      | some q => (b.playSample m q (i - p.len).toNat).getD (0, 0)
      | none => (0, 0)

/-- Output `k` of the play at place `n` (R370, R371): interpolated unless r is 1, then the fine gain. -/
def Block.playOut (b : Block) (m : Mem) (c : Nat) (ps : List Play) (n k : Nat) : Int × Int :=
  match ps[n]? with
  | none => (0, 0)
  | some p =>
    let pt := p.point k
    let i : Int := (pt / 2 ^ 32 : Nat)
    let v :=
      if p.ratio = 0 then b.sampleAt m ps n i
      else
        let taps := (List.range 32).map (fun t => q117 (Config.resampTap (pt % 2 ^ 32 / 2 ^ 22) t).toNat)
        let xs := (List.range 32).map (fun t => b.sampleAt m ps n (i + 16 - (t : Nat)))
        let sum (f : Int × Int → Int) : Int := ((taps.zip xs).map (fun (t, x) => t * f x)).foldl (· + ·) 0
        (satS 24 (rndEven (sum (·.1)) 131072), satS 24 (rndEven (sum (·.2)) 131072))
    let g := q117 (b.f K.STM_GAIN c 17 0)
    (satS 24 (rndEven (v.1 * g) 131072), satS 24 (rndEven (v.2 * g) 131072))

/-! ## The sequencer (R372 to R378) -/

/-- Whether a host sample number has arrived. -/
def haveNum (l : List (Nat × Nat)) (n : Nat) : Bool := l.any (fun r => decide (r.1 ≤ n) && decide (n < r.2))

/-- The samples of a play up to segment sample `i` are fetched (R361, R380); `false` when SLIP stops the position for a sample that
has not arrived. -/
def Block.fetchTo (b : Block) (m : Mem) (c : Nat) (p : Play) (i : Nat) : Nat → Block × Play × Bool
  | 0 => (b, p, true)
  | fuel + 1 =>
    if p.kind = 0 ∨ i < p.vals.length then (b, p, true)
    else if p.kind = 1 then
      let x := b.stim c
      let n := x.hostNext
      if haveNum x.have' n then
        let v := restore (packBytes (b.stPack c)) (beNat (b.hbmReads m (b.fifoAt c n) (packBytes (b.stPack c))))
        (b.setStim c { x with hostNext := n + 1 }).fetchTo m c { p with vals := p.vals ++ [some v] } i fuel
      else if b.stSlip c then (b, p, false)
      else (b.setStim c { x with hostNext := n + 1 }).fetchTo m c { p with vals := p.vals ++ [none] } i fuel
    else
      let (b, v) := match b.stDec c with
        | some d => b.decTake d
        | none => (b, none)
      b.fetchTo m c { p with vals := p.vals ++ [v.getD none] } i fuel

/-- A play of the PLAY entry last reached begins at the sequencer's position. -/
def Block.playBegin (b : Block) (c e left : Nat) : Block :=
  let x := b.stim c
  let g := bits x.word 49 38
  let seg := b.val (K.STM_SEG + g + stmStore * 65536)
  let ratio := b.f (K.STM_SEG_RATIO + g) stmStore 31 0
  if bits seg 27 4 = 0 then b.setStim c { x with endAt := some (x.fed, 2, e) }
  else
    let p : Play := { entry := e, seg := seg, ratio := ratio, start := x.fed, d := playLen (256 * bits seg 27 4) ratio,
                      vec := x.vec, jumped := x.jump }
    b.setStim c { x with plays := x.plays ++ [p], idle := 0, jump := none, left := left - 1,
                         again := if 1 < left then some e else none, entry := bits x.word 13 2 }

/-- The sequencer reaches an entry, or begins the next play of a PLAY entry. -/
def Block.seqEntry (b : Block) (c : Nat) : Block :=
  let x := b.stim c
  match x.again with
  | some e => b.playBegin c e x.left
  | none =>
    let e := x.entry
    let s := b.val (K.STM_SEQ + e + stmStore * 65536)
    let count := bits s 37 14 + 1
    if 16 ≤ x.idle then b.setStim c { x with endAt := some (x.fed, 2, e) }
    else match bits s 1 0 with
      | 0 => (b.setStim c { x with word := s, vec := b.val (K.STM_SEQV + e + stmStore * 65536) }).playBegin c e count
      | 1 =>
        let n := tget 0 x.loops e + 1
        if n < count then b.setStim c { x with loops := tset x.loops e n, entry := bits s 49 38, idle := x.idle + 1 }
        else b.setStim c { x with loops := tset x.loops e 0, entry := bits s 13 2, idle := x.idle + 1 }
      | _ => b.setStim c { x with endAt := some (x.fed, 1, e) }

/-- Replace the last play. -/
def setLast (l : List Play) (p : Play) : List Play := l.dropLast ++ [p]

/-- The decision point of the last play: a request held is fixed to it (R377). -/
def Block.decide' (b : Block) (c : Nat) (p : Play) : Block :=
  let x := b.stim c
  (b.setStim c { x with plays := setLast x.plays { p with decided := true, fixed := x.held }, held := none }).pf K.STM_STATUS c 3 3 0

/-- The effect point of a fixed jump (R378). -/
def Block.jumpEffect (b : Block) (c : Nat) (j : JumpReq) : Block :=
  let x := b.stim c
  b.setStim c { x with loops := [], again := none, left := 0, idle := 0, entry := j.entry, jump := some j }

/-- The sequencer runs up to a position (R375). -/
def Block.stmFeed (b : Block) (m : Mem) (c target : Nat) : Nat → Block
  | 0 => b
  | fuel + 1 =>
    let x := b.stim c
    if target ≤ x.fed ∨ x.endAt.isSome then b
    else match x.plays.getLast? with
      | none => (b.seqEntry c).stmFeed m c target fuel
      | some p =>
        if p.stop ≤ x.fed then
          let b := match p.fixed with
            | some j => (b.setStim c { x with plays := setLast x.plays { p with fixed := none } }).jumpEffect c j
            | none => b
          (b.seqEntry c).stmFeed m c target fuel
        else
          let dp := p.start + p.reach (p.len - 256)
          if !p.decided ∧ dp ≤ x.fed then (b.decide' c p).stmFeed m c target fuel
          else
            let rto := min target (if p.decided then p.stop else min p.stop dp)
            let (b, p', ok) := b.fetchTo m c p (p.point (rto - 1 - p.start) / 2 ^ 32) (p.len + 1)
            let x := b.stim c
            -- under SLIP the position stops at the first output that needs the missing sample
            let fed := if ok then rto else max x.fed (p.start + p.reach p'.vals.length)
            let b := b.setStim c { x with plays := setLast x.plays p', fed := min fed rto }
            if ok then b.stmFeed m c target fuel else b

/-- The position that the sequencer stands at: LEAD ahead of the output, which before START_BEAT is a negative position. -/
def Block.stmTarget (b : Block) (c : Nat) : Nat :=
  let start := b.val (ki K.STM_START_BEAT c)
  if start ≤ b.beat then (b.stim c).pos + stmLead + 1
  else
    let (n, d) := b.stFb c
    let cycles := (start - b.beat) * 2048 - b.cycle
    stmLead + 1 - ceilDiv (cycles * n) (d * 1600000000)

/-- The sequencer of a channel that is not OFF comes up to date. -/
def Block.stmRun (b : Block) (m : Mem) (c : Nat) : Block :=
  if b.isOff bSTM c ∨ b.life bSTM c = lStopping ∨ (b.stim c).ended then b
  else
    let b := b.stmFeed m c (b.stmTarget c) 65536
    b.pv K.STM_HOST_NEXT c (b.stim c).hostNext

/-- A jump request reaches a channel (R376); `false` when another request of the same core cycle wins: a host request, or that of a
trigger unit with a lower number (R188). A trigger request that loses to a later one of its cycle counts in its unit's ACT_DROPPED. -/
def Block.stmJump (b : Block) (m : Mem) (c : Nat) (entry source unit : Nat) : Block × Bool :=
  let b := b.stmRun m c
  let x := b.stim c
  if source = 1 ∧ x.hostAt = some b.clock then (b, false)
  else if !b.isOn bSTM c ∨ x.ended then (b.inc K.STM_JUMP_DROPPED c 1, true)
  else
    let after := match x.plays.getLast? with | some p => p.decided | none => false
    let y := { x with held := some ⟨entry, source, unit, after⟩, hostAt := if source = 0 then some b.clock else x.hostAt,
                      trigAt := if source = 1 then some b.clock else x.trigAt }
    let put (b : Block) : Block := (b.setStim c y).pf K.STM_STATUS c 3 3 1
    match x.held with
    | none => (put b, true)
    | some h =>
      if h.source = 1 ∧ x.trigAt = some b.clock then
        if source = 1 ∧ h.unit < unit then (b, false) else (put (b.inc K.TRG_ACT_DROPPED h.unit 1), true)
      else (put (b.inc K.STM_JUMP_REPLACED c 1), true)

/-! ## Life (R366, R374, R382) -/

def Block.stmStart (b : Block) (c : Nat) : Block :=
  let (n, d) := b.stFb c
  let b := (b.setLife bSTM c lStarting).setStim c { entry := b.f K.STM_CFG c 16 5 }
  let b := ((b.pv K.STM_START_BEAT c (b.beat + 8)).pv K.STM_F_B c (n / d)).pv K.STM_LEAD c stmLead
  (((b.pv K.STM_POSITION c 0).pv K.STM_SLIP_TOTAL c 0).pv K.STM_HOST_NEXT c 0).pf K.STM_STATUS c 15 0 0
def Block.stmStop (b : Block) (c : Nat) : Block := b.setLife bSTM c lStopping

/-- Playback has ended at the output: EV_STM_END. -/
def Block.stmEnd (b : Block) (c reason entry : Nat) : Block :=
  let x := b.stim c
  ((b.setStim c { x with ended := true, plays := [] }).pf K.STM_STATUS c 1 0 2).raise (915 + 4 * c)
    (beBytes 1 reason ++ zeros 1 ++ beBytes 2 entry ++ zeros 4 ++ beBytes 8 x.pos)

/-- An under-run run ends: EV_STM_UNDERRUN (R381). -/
def Block.stmRunEnd (b : Block) (c : Nat) : Block :=
  let x := b.stim c
  match x.run with
  | some (first, n, cause) =>
    (((b.setStim c { x with run := none }).inc K.STM_UNDERRUN_RUNS c 1).pf K.STM_STATUS c 2 2 0).raise (913 + 4 * c)
      (beBytes 8 first ++ beBytes 4 (min n (2 ^ 32 - 1)) ++ beBytes 1 cause ++ zeros 3)
  | none => b
/-- An under-run sample. -/
def Block.stmUnder (b : Block) (c pos cause : Nat) : Block :=
  let x := b.stim c
  let run := match x.run with | some (f, n, k) => (f, n + 1, k) | none => (pos, 1, cause)
  ((b.setStim c { x with run := some run }).incSat K.STM_UNDERRUN_SAMPLES c 1).pf K.STM_STATUS c 2 2 1

/-- A boundary (R374, R382): POSITION, ON at START_BEAT, OFF after a stop. -/
def Block.stmBoundary (b : Block) (m : Mem) (c : Nat) : Block :=
  if b.isOff bSTM c then b
  else
    let b := b.stmRun m c
    let b := b.pv K.STM_POSITION c (b.stim c).pos
    if b.life bSTM c = lStarting ∧ b.val (ki K.STM_START_BEAT c) ≤ b.beat then
      (b.setLife bSTM c lOn).pf K.STM_STATUS c 1 0 (if (b.stim c).ended then 2 else 1)
    else if b.life bSTM c = lStopping then
      ((((b.stmRunEnd c).setLife bSTM c lOff).setStim c {}).pf K.STM_STATUS c 15 0 0).pv K.STM_LEAD c 0
    else b

/-- A retirement ends every channel that is not OFF, and the store is lost (R382). -/
def Block.stmRetire (b : Block) : Block :=
  (List.range 4).foldl (fun b c =>
    if b.isOff bSTM c ∨ (b.stim c).ended then b
    else (b.setStim c { b.stim c with endAt := none, have' := [] }).stmEnd c 3 (b.f K.STM_STATUS c 15 4)) b

/-! ## Vectors (R384 to R386) -/

def Block.vecDiv (b : Block) : Nat := max 1 (b.f K.VEC_CFG 0 17 2)
def Block.vecChan (b : Block) : Nat := b.f K.VEC_CFG 0 1 0
def Block.safeVec (b : Block) : Nat × Nat := (b.f K.VEC_SAFE_W0 0 47 0, b.f K.VEC_SAFE_W1 0 47 0)

/-- STATE of pin `p` in a vector. -/
def vecPin (w : Nat × Nat) (p : Nat) : Nat := if p < 24 then bits w.1 (2 * p + 1) (2 * p) else bits w.2 (2 * (p - 24) + 1) (2 * (p - 24))

/-- The pins take a vector: driven pins show in PINS. -/
def Block.vecDrive (b : Block) (w : Nat × Nat) (t : Fysiva) : Block :=
  let old := b.f K.VEC_PINS 0 31 0
  let pins := maskOf 32 (fun p => match vecPin w p with | 2 => false | 3 => true | _ => bit old p)
  ({ b with vec := { b.vec with w0 := w.1, w1 := w.2 } }.pf K.VEC_PINS 0 31 0 pins).send (.vec w.1 w.2 t)

/-- While the plane is OFF the safe vector is driven, from entry to THAW on (R386). -/
def Block.vecIdle (b : Block) : Block :=
  if b.isOff bVEC 0 ∧ (b.dev = .thaw ∨ b.dev = .flow) ∧ (b.vec.w0, b.vec.w1) ≠ b.safeVec then b.vecDrive b.safeVec b.now else b

/-- The drive instant of the tick at a position, SLIP zeros counted (R374, R384). -/
def Block.vecTime (b : Block) (pos : Nat) : Fysiva :=
  let c := b.vecChan
  let (n, d) := b.stFb c
  let samples := pos + b.val (mkKey bJTX (b.stLink c) 0x21)
  let delay := sgn 32 (b.f K.VEC_DRIVE_DELAY 0 31 0)
  let units := rndEven (((samples * d * 1000000000 * 65536 * 100 : Nat) : Int) + delay * 65536 * n) (max 1 (n * 100))
  timeAt (b.val (ki K.STM_START_BEAT c)) units b.quality

/-- A position that is a tick of the plane falls due with its vector. -/
def Block.vecAt (b : Block) (m : Mem) (c pos : Nat) (p : Option Play) (under : Bool) : Block :=
  if b.isOn bVEC 0 ∧ b.vecChan = c ∧ pos % b.vecDiv = 0 then
    let k := pos / b.vecDiv
    let words := match p with
      | none => none
      | some p =>
        let n := bits p.vec 47 32
        if n = 0 then none
        else
          let i := min (k - ceilDiv p.start b.vecDiv) (n - 1)
          let v := beNat (b.hbmReads m (b.storeAt (bits p.vec 31 0 * 64 + 12 * i)) 12)
          some (v / 2 ^ 48, v % 2 ^ 48)
    { b with vec := { b.vec with due := b.vec.due ++ [⟨k, pos + b.val (ki K.STM_SLIP_TOTAL c), under || p.isNone, words⟩] } }
  else b

/-- A vector tick (R384, R386). -/
def Block.vecTick (b : Block) : Block :=
  match b.vec.due with
  | [] => b
  | t :: rest =>
    let time := b.vecTime t.pos
    let b := { b with vec := { b.vec with due := rest } }
    if t.safe then
      let b := (b.vecDrive b.safeVec time).inc K.VEC_SAFE_TICKS 0 1
      { b with vec := { b.vec with cmp := none } }
    else
      let w := t.words.getD (b.vec.w0, b.vec.w1)
      let b := b.vecDrive w time
      { b with vec := { b.vec with cmp := some { t with words := some w } } }

/-- Pins in state C are compared with EXPECT (R385); `levels` are the pins as sampled. -/
def Block.vecCompare (b : Block) (levels : Nat) : Block :=
  match b.vec.cmp with
  | none => b
  | some t =>
    let now := (b.vec.w0, b.vec.w1)
    let w := t.words.getD now
    let b := { b with vec := { b.vec with cmp := none } }
    let pins := maskOf 32 (fun p => if vecPin now p < 2 then bit levels p else vecPin now p == 3)
    let b := b.pf K.VEC_PINS 0 31 0 pins
    let cs := which 32 (fun p => vecPin w p == 1)
    let bad := maskOf 32 (fun p => vecPin w p == 1 && bit levels p != bit w.2 (16 + p))
    let b := if cs.isEmpty then b else b.inc K.VEC_COMPARES 0 1
    if bad = 0 then b
    else
      let b := b.inc K.VEC_FAILS 0 1
      if b.val K.VEC_FIRST_TICK = 2 ^ 64 - 1 then
        let time := b.vecTime t.pos
        let b := (b.pv K.VEC_FIRST_TICK 0 t.tick).pf K.VEC_FIRST_PINS 0 31 0 bad
        let b := (b.pf K.VEC_FIRST_TIME_W0 0 47 0 time.w0).pf K.VEC_FIRST_TIME_W1 0 47 0 time.w1
        b.raise 928 (beBytes 8 t.tick ++ beBytes 4 bad ++ zeros 4)
      else b

/-- CLEAR performed: the first-failure record is armed again. -/
def Block.vecClear (b : Block) : Block :=
  ((b.pv K.VEC_FIRST_TICK 0 (2 ^ 64 - 1)).pf K.VEC_FIRST_PINS 0 31 0 0).pf K.VEC_FIRST_TIME_W0 0 47 0 0 |>.pf K.VEC_FIRST_TIME_W1 0 47 0 0

def Block.vecStart (b : Block) : Block := (b.setLife bVEC 0 lStarting).vecClear
def Block.vecStop (b : Block) : Block := b.setLife bVEC 0 lStopping
def Block.vecBoundary (b : Block) : Block :=
  let b := if b.isOff bVEC 0 then b else b.pv K.VEC_TICK 0 ((b.stim b.vecChan).pos / b.vecDiv)
  if b.life bVEC 0 = lStarting then b.setLife bVEC 0 lOn
  else if b.life bVEC 0 = lStopping then
    let b := b.setLife bVEC 0 lOff
    { b with vec := { b.vec with due := [], cmp := none } }.vecIdle
  else b

/-! ## The output (R374, R380, R381) -/

/-- A converter pair takes a sample: the top N bits of each component (R88). A link that resynchronises sends code groups alone (R102). -/
def Block.dacSend (b : Block) (c : Nat) (v : Int × Int) : Block :=
  let n := b.lkN bJTX (b.stLink c)
  if (b.lnk bJTX (b.stLink c)).resync then b else
  let top (x : Int) : Int := satS n (rndEven x (2 ^ (24 - n)))
  b.send (.dac c (top v.1) (top v.2))

/-- SLIP (R380): the position stops, and a zero that counts in SLIP_TOTAL and as an under-run sample of cause HOST (log entry 163) is
inserted. The ticks pause, and the safe vector holds (R386). -/
def Block.stmSlip (b : Block) (c : Nat) : Block :=
  let x := b.stim c
  let b := (b.pv K.STM_SLIP_TOTAL c (b.val (ki K.STM_SLIP_TOTAL c) + 1)).stmUnder c x.pos 1
  if b.isOn bVEC 0 ∧ b.vecChan = c ∧ (b.vec.w0, b.vec.w1) ≠ b.safeVec then
    b.vecDrive b.safeVec (b.vecTime (x.pos + b.val (ki K.STM_SLIP_TOTAL c)))
  else b

/-- One output position enters the transmit link, or under-runs (R374, R381); `late` says that the reader's STORE data is late;
on the safe clock zeros go out with cause 2 (R422). -/
def Block.stmOutput (b : Block) (m : Mem) (c : Nat) (late : Bool) : Block :=
  if b.isOff bSTM c then b
  else if !b.isOn bSTM c then b.dacSend c (0, 0)
  else
    let b := b.stmRun m c
    let x := b.stim c
    let lost := (b.lnk bJTX (b.stLink c)).resync
    let ovf := match x.endAt with | some (p, _, _) => decide (p ≤ x.pos) | none => false
    if ovf then
      let b := b.stmRunEnd c
      let b := if x.ended then b else match x.endAt with | some (_, r, e) => b.stmEnd c r e | none => b
      let b := (b.vecAt m c x.pos none false).dacSend c (0, 0)
      b.setStim c { b.stim c with pos := x.pos + 1 }
    else if x.ended then
      let b := (b.vecAt m c x.pos none false).dacSend c (0, 0)
      b.setStim c { b.stim c with pos := x.pos + 1 }
    else if x.fed ≤ x.pos + stmLead ∧ x.endAt.isNone then
      (b.stmSlip c).dacSend c (0, 0)
    else match x.plays.findIdx? (fun p => decide (p.start ≤ x.pos) && decide (x.pos < p.stop)) with
      | none => b
      | some n =>
        match x.plays[n]? with
        | none => b
        | some p =>
          let k := x.pos - p.start
          let missing := p.kind != 0 && (p.vals.getD (p.point k / 2 ^ 32) none).isNone
          let cause := if lost then 3 else if (b.pll 0).down then 2 else if missing then (if p.kind = 1 then 1 else 4) else if late && p.kind == 0 then 2 else 0
          let b := if cause = 0 then b.stmRunEnd c else b.stmUnder c x.pos cause
          let b := b.pf K.STM_STATUS c 15 4 p.entry
          let b := match (if k = 0 then p.jumped else none) with
            | some j => (b.inc K.STM_JUMPS c 1).raise (914 + 4 * c)
                (beBytes 8 x.pos ++ beBytes 2 j.entry ++ beBytes 1 j.source ++ beBytes 1 j.unit ++ beBytes 1 (b2n j.deferred) ++ zeros 3)
            | none => b
          let b := b.vecAt m c x.pos (some p) (cause != 0)
          let b := if lost then b else if cause ≠ 0 then b.dacSend c (0, 0) else b.dacSend c (b.playOut m c x.plays n k)
          let x := b.stim c
          -- the play before the one at the output stays for the interpolator
          let plays := if x.pos + 1 = p.stop then x.plays.drop n else x.plays
          b.setStim c { x with pos := x.pos + 1, plays := plays } |>.pf K.STM_STATUS c 3 3 (b2n x.held.isSome)

/-! ## Host datagrams (R379) -/

/-- A received range of sample numbers joins those held. -/
def addRange (lo hi : Nat) : List (Nat × Nat) → List (Nat × Nat)
  | [] => [(lo, hi)]
  | (a, z) :: t =>
    if z < lo then (a, z) :: addRange lo hi t
    else if hi < a then (lo, hi) :: (a, z) :: t
    else addRange (min a lo) (max z hi) t

/-- A datagram for a host port. -/
def Block.stmDatagram (b : Block) (m : Mem) (l port : Nat) (bytes : List Byte) : Block :=
  if 16 ≤ l ∨ !b.netUsable l ∨ !b.isOn bNET l then b
  else match (which 4 (fun c => !b.isOff bSTM c && b.f K.STM_HOST_PORT c 15 0 == port)).head? with
    | none => b.netDrop l
    | some c =>
      let b := b.netRx l
      let f (o n : Nat) : Nat := beNat ((bytes.drop o).take n)
      let pb := packBytes (b.stPack c)
      let data := bytes.drop 16
      if bytes.length < 16 ∨ f 0 4 ≠ 0x46594801 ∨ f 4 1 ≠ c ∨ f 5 1 ≠ b.stPack c ∨ f 6 2 ≠ 0 ∨ data.length % pb ≠ 0 then
        b.inc K.STM_HOST_DROPPED c 1
      else
        let b := b.stmRun m c
        let x := b.stim c
        let first := f 8 8
        let n := data.length / pb
        let early := min n (x.hostNext - first)
        let lo := first + early
        let hi := min (first + n) (x.hostNext + b.fifoLen c)
        let b := b.inc K.STM_LATE_SAMPLES c early
        let b := if hi < first + n ∧ lo < first + n then b.inc K.STM_HOST_DROPPED c 1 else b
        if hi ≤ lo then b
        else
          let b := (List.range (hi - lo)).foldl (fun b i =>
            b.hbmStores (b.fifoAt c (lo + i)) ((data.drop ((early + i) * pb)).take pb)) b
          b.setStim c { x with have' := addRange lo hi x.have' }

/-! ## Checks (R366, R369, R370, R384, R387 to R389) -/

/-- A raise of the rates on channel pairs (R366). -/
def Block.stmBudget (b : Block) (i item v : Nat) : Status :=
  let atMost (c n : Nat) : Bool := rateLe (b.stFb c) n
  if i < 4 ∧ item = 1 ∧ v % 2 = 1 ∧ b.isOff bSTM i then
    need (atMost i 6400000000 && (i % 2 == 0 || (atMost i 3200000000 && (b.isOff bSTM (i - 1) || atMost (i - 1) 3200000000))) &&
      (i % 2 == 1 || b.isOff bSTM (i + 1) || atMost i 3200000000)) .budget
  else if i = stmStore ∧ item = 0x10 then need (bits v 15 8 == 0 || b.unitsFree (bits v 7 0) (bits v 15 8) 0x60) .budget
  else .ok

/-- A decompressor is in use by a channel or a replay source that is not OFF. -/
def Block.decUsed (b : Block) (d except : Nat) : Bool :=
  (List.range 4).any (fun c => c != except && !b.isOff bSTM c && b.stDec c == some d) ||
  (List.range 16).any (fun r => !b.isOff bCAP (0x20 + r) && b.f K.CAP_RPL_SRC (0x20 + r) 5 5 == 1 && b.f K.CAP_RPL_SRC (0x20 + r) 6 6 == d)

def Block.stmState (b : Block) (i item v : Nat) : Status :=
  if b.dev ≠ .flow then .notInThaw
  else if i < 4 then
    if item = 1 ∧ v % 2 = 1 ∧ b.isOff bSTM i then
      if !b.isOn bJTX (b.stLink i) then .state
      else if (List.range 4).any (fun c => c != i && !b.isOff bSTM c && b.stLink c == b.stLink i && b.stConv c == b.stConv i) then .busy
      else if (match b.stDec i with | some d => b.decUsed d i | none => false) then .busy
      else need (decide (1 ≤ b.f K.STM_STORE stmStore 15 8)) .state
    else if item = 1 ∧ v % 2 = 0 ∧ !b.isOff bVEC 0 ∧ b.vecChan = i then .busy
    else if (item = 0x10 ∨ item = 0x12) ∧ !b.isOff bSTM i then .state
    else .ok
  else if item = 0x10 then need ((List.range 4).all (fun c => b.isOff bSTM c)) .state
  else .ok

def Block.stmValue (b : Block) (i item v : Nat) : Status :=
  if i < 4 then
    if item = 1 ∧ v % 2 = 1 ∧ b.isOff bSTM i then
      need (decide (b.stConv i + 1 < b.lkM bJTX (b.stLink i)) && b.stConv i % 2 == 0) .paramRange
    else if item = 0x10 then need (bits v 19 18 != 3 && bits v 21 20 != 3 && bits v 4 2 % 2 == 0) .paramRange
    else .ok
  else if item = 0x10 then need (bits v 15 8 == 0 || decide (bits v 7 0 + bits v 15 8 ≤ 134)) .paramRange
  else if 0x1000 ≤ item ∧ item < 0x1400 then
    let g := bits v 27 4
    need (bits v 1 0 != 3 && bits v 3 2 != 3 && (g == 0 || decide (8 ≤ g)) &&
      (bits v 1 0 != 0 || g == 0 ||
        (decide (2 ^ 28 ≤ bits v 59 28 * 64) &&
         decide (bits v 59 28 * 64 + 256 * g * packBytes (bits v 3 2) ≤ b.f K.STM_STORE_BYTES stmStore 47 0)))) .paramRange
  else if 0x1400 ≤ item ∧ item < 0x1800 then need (v == 0 || decide (0x4000000 ≤ v)) .paramRange
  else if 0x2000 ≤ item ∧ item < 0x3000 then need (bits v 1 0 != 3 && (bits v 1 0 != 0 || bits v 49 48 == 0)) .paramRange
  else .ok

/-- STORE performed: STORE_BYTES follows. -/
def Block.stmStored (b : Block) : Block := b.pf K.STM_STORE_BYTES stmStore 47 0 (b.capacity (b.f K.STM_STORE stmStore 15 8))

/-- A transmit link feeds a channel that is not OFF (R366). -/
def Block.stmUsesLink (b : Block) (t : Nat) : Bool := (List.range 4).any (fun c => !b.isOff bSTM c && b.stLink c == t)

def Block.vecState (b : Block) (item v : Nat) : Status :=
  if b.dev ≠ .flow ∧ item ≠ 0x11 ∧ item ≠ 0x12 then .notInThaw
  else if item = 1 ∧ v % 2 = 1 ∧ b.isOff bVEC 0 then
    need (b.life bSTM b.vecChan == lStarting || b.isOn bSTM b.vecChan) .state
  else if (item = 0x10 ∨ item = 0x13 ∨ item = 0x14) ∧ !b.isOff bVEC 0 then .state
  else .ok
def Block.vecValue (b : Block) (item v : Nat) : Status :=
  if item = 1 ∧ v % 2 = 1 ∧ b.isOff bVEC 0 then
    let (n, d) := b.stFb b.vecChan
    need (decide (n ≤ 125000000 * b.vecDiv * d) &&
      decide (b.f K.VEC_CMP_DELAY 0 31 0 * n < b.vecDiv * d * 100000000000)) .paramRange
  else if item = 0x10 then need (decide (1 ≤ bits v 17 2)) .paramRange
  else .ok

end Sys2Proof.Machine
end

