-- ==== Sys2Proof/Machine/TimeBase.lean ====
section
/-! DEFINITION. The time base: sources, servo, quality, steps (R391 to R398), outputs (R399 to R401) and PTP ports (R402, R403). -/
namespace Sys2Proof.Machine

def bTIM : Nat := 0x11
def sysrefInst (j : Nat) : Nat := 0x10 + j
def ppsInst (k : Nat) : Nat := 0x20 + k
def refInst : Nat := 0x28
def ptpInst (l : Nat) : Nat := 0x40 + l

/-- STATE codes of R404: FREE, DISCIPLINED, HOLDOVER, GRANDMASTER. -/
def Block.timState (b : Block) : Nat := b.f K.TIM_STATE 0 1 0
def Block.timLocked (b : Block) : Bool := b.f K.TIM_STATE 0 2 2 == 1
def Block.timMode (b : Block) : Nat := b.f K.TIM_CFG 0 1 0
def Block.timSrc (b : Block) : Nat := b.f K.TIM_CFG 0 4 2
def Block.timTau (b : Block) : Nat := b.f K.TIM_LOOP 0 13 0
def Block.setTim (b : Block) (x : TimeBase) : Block := { b with tim := x }

/-- Core cycles in a second of time-base time. -/
def secCycles : Nat := 1600000000

/-- An instant in 2^-16 ns: the present core cycle and a fraction of it. -/
def Block.instant (b : Block) (frac : Nat) : Int := (b.beat * (1280 * 65536) + cycleUnits b.cycle + frac % 40960 : Nat)
/-- The Fysiva time of an instant. -/
def Block.timeOf (b : Block) (t : Int) : Fysiva := timeAt 0 t b.quality

/-- The bounds of y (R392). -/
def yClamp (y : Int) : Int := max (-200000000) (min 200000000 y)
/-- y with the ageing term that has accrued (R393). -/
def Block.yNow (b : Block) : Int :=
  let x := b.tim
  if b.timState = 0 ∨ b.timState = 2 then
    yClamp (x.y + rndEven (sgn 32 (b.val K.TIM_AGEING) * (b.clock - x.ageAt : Nat)) (86400 * secCycles))
  else x.y
/-- The ageing term begins again from 0; y keeps what it has. -/
def Block.ageRestart (b : Block) : Block := b.setTim { b.tim with y := b.yNow, ageAt := b.clock }
/-- FREQ_CORR shows y, and the history of y takes its value. -/
def Block.setY (b : Block) (y : Int) : Block :=
  let y := yClamp y
  let x := b.tim
  let old := 7 * 86400 * secCycles
  (b.setTim { x with y := y, ageAt := b.clock, hist := (b.clock, y, b.timLocked) :: x.hist.filter (fun h => decide (b.clock < h.1 + old)) }).pf
    K.TIM_FREQ_CORR 0 31 0 (uns 32 y)

/-- The mean of y over the last TAU: each value weighted by how long it was held. -/
def meanY (now since : Nat) (y : Int) : List (Nat × Int × Bool) → Int × Nat
  | [] => (y * (now - since : Nat), now - since)
  | (t, v, _) :: rest =>
    if t ≤ since then (v * (now - since : Nat), now - since)
    else
      let (s, n) := meanY t since y rest
      (s + v * (now - t : Nat), n + (now - t))
def Block.yMean (b : Block) : Int :=
  let since := b.clock - b.timTau * secCycles
  let (s, n) := meanY b.clock since b.tim.y b.tim.hist
  if n = 0 then b.tim.y else rndEven s n

/-- The upstream source is traceable (R396): the grandmaster that the slave port hears, or the leader of the group. -/
def Block.timTraceable (b : Block) : Bool :=
  if b.timSrc = 3 then (match (tget {} b.ptps (b.f K.TIM_CFG 0 9 5)).ann with | some a => a.cls == 6 && a.time | none => false)
  else b.tim.traceable

/-- The quality of R396. -/
def Block.qualityOf (b : Block) (state : Nat) (locked : Bool) : Nat :=
  let src := b.timSrc
  match state with
  | 0 => 0
  | 2 => 1
  | 1 =>
    if src = 1 then 0
    else if !locked then min 1 b.tim.before
    else if src = 0 ∨ src = 2 then 2
    else if b.timTraceable then 3 else 2
  | _ => if !locked then min 1 b.tim.before else if b.f K.TIM_CFG 0 10 10 = 1 then 3 else 2

/-- REF_OUT runs while its output is enabled, and squelched only below quality 0b10 (R400). -/
def Block.refRuns (b : Block) : Bool :=
  let cfg := b.val (ki K.TIM_REF_CFG refInst)
  bit cfg 0 && (!bit cfg 2 || decide (2 ≤ b.quality))
/-- REF_OUT starts, or is held low. -/
def Block.refSettle (b : Block) : Block :=
  if b.refRuns = b.tim.refOn then b
  else (b.setTim { b.tim with refOn := b.refRuns }).send (.clockOut (b.f K.TIM_REF_CFG refInst 1 1) b.refRuns)

/-- The time base takes a state: quality follows, and a change of state or of LOCKED is reported (R395). -/
def Block.setTimState (b : Block) (state : Nat) (locked : Bool) : Block :=
  let old := b.f K.TIM_STATE 0 6 0
  let q := b.qualityOf state locked
  let was := (b.timState, b.timLocked)
  let b := if locked && !b.timLocked then b.setTim { b.tim with lockedAt := b.clock } else b
  let b := if locked = b.timLocked then b else b.setTim { b.tim with hist := (b.clock, b.tim.y, locked) :: b.tim.hist }
  let b := (((b.pf K.TIM_STATE 0 1 0 state).pf K.TIM_STATE 0 2 2 (b2n locked)).pf K.TIM_STATE 0 4 3 q).refSettle
  if was = (state, locked) then b
  else b.raise 832 (beBytes 1 (b.f K.TIM_STATE 0 6 0) ++ beBytes 1 old ++ zeros 6 ++ beBytes 8 (b.val K.TIM_OFFSET))

/-- A change into DISCIPLINED or GRANDMASTER, or a reference that is back, starts acquisition. -/
def Block.timAcquire (b : Block) : Block :=
  let b := if b.timState = 2 ∨ b.timState = 0 then b.ageRestart else b
  let b := b.setTim { b.tim with before := b.quality, good := 0, bad := 0, back := 0, lost := false, refAt := b.clock, acqAt := b.clock }
  b.setTimState (if b.timMode = 2 then 3 else 1) false

/-- The servo no longer wants a step. -/
def Block.stepDone (b : Block) : Block := (b.setTim { b.tim with step := false }).pf K.TIM_STATE 0 5 5 0
/-- CFG performed: a change of mode or source, the slave port of SRC 3 included (R395; log entry 115). A servo step that waits is given
up with its reference. -/
def Block.timConfigured (b : Block) (old : Nat) : Block :=
  if bits old 4 0 = b.f K.TIM_CFG 0 4 0 ∧ (b.timSrc ≠ 3 ∨ bits old 9 5 = b.f K.TIM_CFG 0 9 5) then b.setTimState b.timState b.timLocked
  else
    let b := b.stepDone.pf K.TIM_STATE 0 6 6 0
    if b.timMode = 0 then
      (match b.timState with | 0 => b | 2 => b.ageRestart | _ => b.setTim { b.tim with ageAt := b.clock }).setTimState 0 false
    else b.timAcquire

/-- The reference is lost (R395): HOLDOVER with y at its mean over TAU, or an acquisition that waits. -/
def Block.timLoss (b : Block) : Block :=
  if b.dev ≠ .flow ∨ b.tim.lost ∨ !(b.timState = 1 ∨ b.timState = 3) then b
  else
    let b := ((b.inc K.TIM_REF_LOSSES 0 1).raise 833 (beBytes 1 b.timSrc)).pf K.TIM_STATE 0 6 6 0
    let b := b.setTim { b.tim with lost := true, back := 0, good := 0, bad := 0 }
    if b.timLocked then
      let q := b.quality
      let b := b.setY b.yMean
      let b := b.setTim { b.tim with before := q, holdAt := b.clock, holdBase := 0 }
      (b.pf K.TIM_HOLD_SECONDS 0 31 0 0).setTimState 2 false
    else b

/-- An interval of 2^n seconds in core cycles. -/
def logInterval (n : Int) : Nat := if 0 ≤ n then secCycles * 2 ^ n.toNat else secCycles / 2 ^ (-n).toNat

/-- The silences that State can tell (R394): two seconds without a pulse, three Announce or three Sync intervals of the PTP port, or four
exchanges of the Plait upstream port (R454). An acquisition begins a new wait. -/
def Block.timGone (b : Block) : Bool :=
  match b.timSrc with
  | 0 => decide (b.tim.refAt + (2 * secCycles + 1600) ≤ b.clock)
  | 3 =>
    let cfg := b.val (ki K.TIM_PTP_CFG (ptpInst (b.f K.TIM_CFG 0 9 5)))
    let p := tget {} b.ptps (b.f K.TIM_CFG 0 9 5)
    let gone (last : Nat) (n : Int) : Bool := decide (max last b.tim.acqAt + 3 * logInterval n ≤ b.clock)
    gone p.syncAt (sgn 4 (bits cfg 8 5)) || gone p.annAt (sgn 4 (bits cfg 12 9))
  | 4 => decide (b.tim.refAt + 4 * 1024 * 2048 ≤ b.clock)
  | _ => false
/-- A loss by silence. The edges of REF_IN, for SRC 1 and 2, are seen outside the block: the command says that 10 µs have passed. -/
def Block.timSilent (b : Block) : Block := if b.timSrc = 1 ∨ b.timSrc = 2 ∨ b.timGone then b.timLoss else b

/-- HOLD_MAX seconds of HOLDOVER have passed: FREE, with y kept. -/
def Block.holdSeconds (b : Block) : Nat := b.tim.holdBase + (b.clock - b.tim.holdAt) / secCycles
def Block.holdExpire (b : Block) : Block :=
  if b.timState = 2 ∧ b.f K.TIM_HOLD_MAX 0 31 0 ≤ b.holdSeconds then
    (b.pf K.TIM_HOLD_SECONDS 0 31 0 b.holdSeconds).ageRestart.setTimState 0 false
  else b

/-- The part of y that corrects the time offset: what the loop asks for within SLEW_MAX, and the whole of SLEW_MAX against an offset whose
step is held (R392, R397). -/
def Block.timSlew (b : Block) (offset : Option Int) : Int :=
  let lim : Int := b.f K.TIM_LOOP 0 23 14 * 100000
  match offset with
  | none => 0
  | some o => if b.f K.TIM_STATE 0 5 5 = 1 then (if 0 < o then -lim else lim) else max (-lim) (min lim (Config.slew b.fresh o b.timTau))
/-- y moves toward what the loop asks for, by at most 0.1 ppm for each second since the last update (R392). -/
def Block.servoY (b : Block) (offset : Option Int) (freq : Int) : Block :=
  let lim := ((b.clock - b.tim.updAt) * 100000 / secCycles : Nat)
  let want := Config.servo b.fresh (offset.getD 0) freq b.timTau + b.timSlew offset
  let y := b.tim.y
  let b := b.tick.setY (max (y - lim) (min (y + lim) want))
  b.setTim { b.tim with updAt := b.clock }
/-- The update lies within the limits of R395, or not: LOCKED follows after 16, or 4, consecutive ones. -/
def Block.servoCount (b : Block) (good : Bool) : Block :=
  if good then
    let n := b.tim.good + 1
    let b := b.setTim { b.tim with good := n, bad := 0 }
    if !b.timLocked ∧ 16 ≤ n then b.setTimState b.timState true else b
  else
    let n := b.tim.bad + 1
    let b := b.setTim { b.tim with bad := n, good := 0 }
    if b.timLocked ∧ 4 ≤ n then (b.setTim { b.tim with before := b.quality, good := 0 }).setTimState b.timState false else b
/-- One update of the servo (R392, R395): `good` says that it lies within the limits of R395, `counts` whether these apply to it, and
`heard` whether it is one that R394 expects. -/
def Block.servoUpdate (b : Block) (offset : Option Int) (freq : Int) (good counts : Bool) (heard : Bool := true) : Block :=
  if b.dev ≠ .flow ∨ b.timMode = 0 then b
  else
    let gone := b.timGone
    let b := b.pf K.TIM_STATE 0 6 6 1
    let b := match offset with | some o => b.pv K.TIM_OFFSET 0 (uns 64 o) | none => b
    let b := if heard then b.setTim { b.tim with refAt := b.clock } else b
    if b.tim.lost then
      -- the reference is back after 4 consecutive updates
      let n := if gone then 1 else b.tim.back + 1
      if 4 ≤ n then b.timAcquire else b.setTim { b.tim with back := n }
    else
      let b := b.servoY offset freq
      let b := if counts then b.servoCount good else b
      match offset with
      | some o =>
        if b.f K.TIM_CFG 0 11 11 = 1 ∧ 5 * 1280 * 65536 ≤ o.natAbs ∧ b.timSrc ≠ 4 then b.setTim { b.tim with step := true } else b
      | none => b

/-- 100 ns in 2^-16 ns. -/
def lockLimit : Nat := 6553600

/-- An edge on PPS_IN (R394): the selected one is taken as a whole second. While LOCKED, one beyond 1 µs of the whole second is not the
pulse that is expected (log entry 164). -/
def Block.ppsEdge (b : Block) (rising : Bool) (frac : Nat) : Block :=
  if !(b.timSrc = 0 ∨ b.timSrc = 2) ∨ rising = (b.f K.TIM_PTP_DOMAIN 0 8 8 == 1) then b
  else
    let sec : Int := 1000000000 * 65536
    let t := b.instant frac - rndEven (sgn 32 (b.f K.TIM_IN_DELAY 0 31 0) * 65536) 1000
    let r := t.emod sec
    let offset := if 2 * r < sec then r else r - sec
    b.servoUpdate (some offset) 0 (decide (offset.natAbs < lockLimit)) true (!b.timLocked || decide (offset.natAbs ≤ 10 * lockLimit))

/-- The frequency of REF_IN over 1,024 beats, as an error in 10^-12 (R394): beyond 100 ppm the reference is lost. -/
def Block.refUpdate (b : Block) (err : Int) : Block :=
  if !(b.timSrc = 1 ∨ b.timSrc = 2) then b
  else if 100000000 < err.natAbs then b.timLoss
  else b.servoUpdate none err (decide (err.natAbs < 1000)) (b.timSrc == 1)

/-- The learned slope is written once a day (R393), and kept in the Firn store. -/
def Block.ageLearn (b : Block) : Block :=
  let day := 86400 * secCycles
  if b.f K.TIM_CFG 0 12 12 = 1 ∧ b.timLocked ∧ b.tim.lockedAt + day ≤ b.clock ∧ b.tim.learnAt + day ≤ b.clock then
    let a := (Config.ageFit b.tim.hist).toNat
    let b := b.ageRestart
    let b := b.pf K.TIM_AGEING 0 31 0 a
    { b.setTim { b.tim with learnAt := b.clock } with firn := tset b.firn K.TIM_AGEING (BitVec.ofNat 64 a) }
  else b

/-! ## Steps (R397) -/

/-- The engine is quiet. -/
def Block.quiet (b : Block) : Bool :=
  (List.range 32).all (fun i => b.isOff bLANE i) && (List.range 16).all (fun u => b.isOff 0x07 u) &&
  (List.range 32).all (fun w => b.isOff bCAP w) && (List.range 4).all (fun c => b.isOff bSTM c) &&
  (List.range 64).all (fun c => b.isOff 0x0B c) && b.accepted.isEmpty && b.sched.isEmpty && b.txns.isEmpty

/-- REF_OUT at 10 MHz holds its level for the shift of a step that is no multiple of 5 beats (R400). -/
def Block.refRephase (b : Block) (old new : Nat) : Block :=
  let cfg := b.val (ki K.TIM_REF_CFG refInst)
  let h := (((old : Int) - new) * 1280).emod 100
  if bits cfg 1 0 = 1 ∧ h ≠ 0 then b.send (.pin "REF_OUT" h.toNat (decide (old * 1280 % 100 < 50)) 0) else b

/-- The beat that starts at this boundary is numbered `v` (R397). -/
def Block.stepTo (b : Block) (v : Nat) : Block :=
  let old := b.beat
  let step := uns 64 ((v : Int) - old)
  let b := { b with beat := v }.epochsStep ((v : Int) - old)
  let b := (b.inc K.TIM_STEPS 0 1).pv K.TIM_LAST_STEP 0 step
  (b.refRephase old v).raise 834 (beBytes 8 step ++ beBytes 8 v)
/-- SET_BEAT performed in a quiet engine; the present number is no step. -/
def Block.setBeat (b : Block) (v : Nat) : Block := if v = b.beat then b else b.stepTo v

/-- A servo step at a boundary: held until the engine is quiet. -/
def Block.servoStep (b : Block) : Block :=
  if !b.tim.step ∨ b.cycle ≠ 0 then b
  else if b.f K.TIM_CFG 0 11 11 = 0 then b.stepDone
  else
    let unit : Int := 5 * 1280 * 65536
    let o := sgn 64 (b.val K.TIM_OFFSET)
    let beats := (o.tdiv unit) * 5
    if beats = 0 then b.stepDone
    else if b.quiet then
      let b := b.stepDone
      (b.pv K.TIM_OFFSET 0 (uns 64 (o - beats * (1280 * 65536)))).stepTo ((b.beat : Int) - beats).toNat
    else b.pf K.TIM_STATE 0 5 5 1

/-! ## Outputs (R399, R401) -/

/-- PPS_OUT[k] rises in this beat if a whole second plus PPS_DELAY falls in it; it stays high for WIDTH µs. -/
def Block.ppsPulse (b : Block) (k : Nat) : Block :=
  let cfg := b.val (ki K.TIM_PPS_CFG (ppsInst k))
  let delay := sgn 32 (b.f K.TIM_PPS_DELAY (ppsInst k) 31 0)
  let start : Int := b.beat * 1280000
  let sec : Int := 1000000000000
  let n := iceilDiv (start - delay) 1000000000000
  let at' := n * sec + delay - start
  if bit cfg 0 ∧ (!bit cfg 1 ∨ 2 ≤ b.quality) ∧ at' < 1280000 ∧ tget 0 b.tim.pps k ≠ n.toNat + 1 then
    let b := b.setTim { b.tim with pps := tset b.tim.pps k (n.toNat + 1) }
    (b.send (.pin "PPS_OUT" k true at')).send (.pin "PPS_OUT" k false (at' + bits cfg 20 2 * 1000000))
  else b

/-- SHOT performed: one pulse of WIDTH core cycles after DELAY. -/
def Block.sysrefShot (b : Block) (j : Nat) : Block :=
  let cfg := b.val (ki K.TIM_SYSREF_CFG (sysrefInst j))
  if bits cfg 1 0 = 2 then
    let d : Int := bits cfg 19 9 * 10
    let b := { (b.pv K.TIM_LAST_SHOT (sysrefInst j) b.beat) with shot := tset b.shot j b.beat }
    (b.send (.pin "SYSREF_OUT" j true d)).send (.pin "SYSREF_OUT" j false (d + bits cfg 27 20 * 625))
  else b

/-- SYSREF_OUT[j] in PERIODIC mode: the edges of the square wave of period beat/K in the beat that begins (R401), each at the picosecond
below its instant. -/
def Block.sysrefWave (b : Block) (j : Nat) : Block :=
  let cfg := b.val (ki K.TIM_SYSREF_CFG (sysrefInst j))
  let n := bits cfg 8 2
  if bits cfg 1 0 = 1 then
    (List.range n).foldl (fun b m =>
      (b.send (.pin "SYSREF_OUT" j true (bits cfg 19 9 * 10 + m * 1280000 / n : Nat))).send
        (.pin "SYSREF_OUT" j false (bits cfg 19 9 * 10 + (2 * m + 1) * 640000 / n : Nat))) b
  else b

/-- A boundary of the time base: y accrues, HOLD_SECONDS counts, and REF_OUT follows its parameters and the quality. -/
def Block.timBoundary (b : Block) : Block :=
  let b := b.refSettle
  let b := b.pf K.TIM_FREQ_CORR 0 31 0 (uns 32 b.yNow)
  if b.timState = 2 then b.pf K.TIM_HOLD_SECONDS 0 31 0 b.holdSeconds else b

/-! ## PTP (R402, R403) -/

def Block.ptp (b : Block) (l : Nat) : PtpPort := tget {} b.ptps l
def Block.setPtp (b : Block) (l : Nat) (x : PtpPort) : Block := { b with ptps := tset b.ptps l x }
def Block.ptpRole (b : Block) (l : Nat) : Nat := b.f K.TIM_PTP_CFG (ptpInst l) 1 0
def Block.setPtpState (b : Block) (l s : Nat) : Block :=
  let old := b.f K.TIM_PTP_STATE (ptpInst l) 2 0
  if old = s then b
  else (b.pf K.TIM_PTP_STATE (ptpInst l) 2 0 s).raise 835 (beBytes 1 l ++ beBytes 1 s ++ beBytes 1 old)
/-- PTP runs: in FLOW, over a link that is up (R402). -/
def Block.ptpRuns (b : Block) (l role : Nat) : Bool := b.dev == .flow && b.netUsable l && b.ptpRole l == role

/-- PTP_CFG performed, or the link or the lock of the time base has changed: the state that the role gives (log entry 27). -/
def Block.ptpSettle (b : Block) (l : Nat) : Block :=
  let role := b.ptpRole l
  let s :=
    if role = 0 ∨ b.dev ≠ .flow then 0
    else if !b.netUsable l then 5
    else if role = 1 then 2
    else if (b.ptp l).ann.isNone then 1
    else if b.timLocked ∧ b.timSrc = 3 ∧ b.f K.TIM_CFG 0 9 5 = l then 4 else 3
  b.setPtpState l s

/-- Send a PTP message: its type, and its fields. -/
def Block.ptpSend (b : Block) (l typ : Nat) (fields : List Nat) : Block :=
  (b.inc K.TIM_PTP_TX (ptpInst l) 1).netSend l 6
    (typ :: b.f K.TIM_PTP_CFG (ptpInst l) 3 2 :: b.f K.TIM_PTP_DOMAIN 0 7 0 :: fields) []
/-- A PTP message arrives. -/
def Block.ptpRx (b : Block) (l : Nat) : Block := (b.netRx l).inc K.TIM_PTP_RX (ptpInst l) 1

/-- A time stamp's fields: seconds and nanoseconds, and the fraction as a correction in 2^-16 ns. -/
def Block.stampFields (b : Block) (t : Int) : List Nat := let f := b.timeOf t; [f.sec, f.ns, f.frac]

/-- A slave computes its offset once t1 and t2 are known, and feeds the servo when CFG names it. -/
def Block.ptpOffset (b : Block) (l : Nat) (t1 t2 corr : Int) : Block :=
  let asym := rndEven (sgn 32 (b.f K.TIM_PTP_ASYM (ptpInst l) 31 0) * 65536) 1000
  let ms := t2 - t1 - corr - asym
  let b := b.setPtp l { b.ptp l with ms := some ms, syncAt := b.clock }
  let mpd := rndEven ((b.f K.TIM_PTP_MPD (ptpInst l) 31 0 : Nat) * 65536) 1000
  let offset := ms - mpd
  let b := if b.timSrc = 3 ∧ b.f K.TIM_CFG 0 9 5 = l then
      b.servoUpdate (some offset) 0 (decide (offset.natAbs < lockLimit)) true
    else b
  b.ptpSettle l

/-- Sync at a slave: one-step carries t1, two-step waits for its Follow_Up. -/
def Block.ptpSync (b : Block) (l seq : Nat) (twoStep : Bool) (t1 corr : Int) (frac : Nat) : Block :=
  if !b.ptpRuns l 2 then b
  else
    let b := b.ptpRx l
    let t2 := b.instant frac
    if twoStep then b.setPtp l { b.ptp l with waitSync := some (seq, t2, corr) }
    else b.ptpOffset l t1 t2 corr
def Block.ptpFollowUp (b : Block) (l seq : Nat) (t1 corr : Int) : Block :=
  if !b.ptpRuns l 2 then b
  else
    let b := b.ptpRx l
    match (b.ptp l).waitSync with
    | some (s, t2, c) =>
      if s = seq then (b.setPtp l { b.ptp l with waitSync := none }).ptpOffset l t1 t2 (c + corr) else b
    | none => b
/-- Delay_Resp at a slave: the mean path delay. -/
def Block.ptpDelayResp (b : Block) (l seq : Nat) (t4 corr : Int) : Block :=
  if !b.ptpRuns l 2 then b
  else
    let b := b.ptpRx l
    let x := b.ptp l
    match x.t3, x.ms with
    | some (s, t3), some ms =>
      if s = seq then
        let asym := rndEven (sgn 32 (b.f K.TIM_PTP_ASYM (ptpInst l) 31 0) * 65536) 1000
        let sm := t4 - t3 - corr + asym
        let mpd := rndEven ((ms + sm) * 1000) (2 * 65536)
        (b.setPtp l { x with t3 := none }).pf K.TIM_PTP_MPD (ptpInst l) 31 0 (satU 32 mpd.toNat)
      else b
    | _, _ => b
def Block.ptpAnnounce (b : Block) (l : Nat) (a : Announce) : Block :=
  if !b.ptpRuns l 2 then b
  else
    let b := (b.ptpRx l).setPtp l { b.ptp l with ann := some a, annAt := b.clock }
    let b := if b.timSrc = 3 ∧ b.f K.TIM_CFG 0 9 5 = l then
        b.setTimState b.timState b.timLocked
      else b
    b.ptpSettle l
/-- A master answers Delay_Req. -/
def Block.ptpDelayReq (b : Block) (l seq src : Nat) (frac : Nat) : Block :=
  if !b.ptpRuns l 1 then b else (b.ptpRx l).ptpSend l 9 ([seq, src] ++ b.stampFields (b.instant frac))

/-- The Announce data of a master (R403): grandmaster identity (none for its own), clockClass, timeTraceable, frequencyTraceable and
stepsRemoved. -/
def Block.ptpOwn (b : Block) : List Nat :=
  let slave := b.f K.TIM_CFG 0 9 5
  match b.timState, b.timLocked, b.timSrc, (b.ptp slave).ann with
  | 1, true, 3, some a => [1, a.gm, a.cls, b2n a.time, b2n a.freq, a.steps + 1]
  | 2, _, _, _ => [0, 0, if b.tim.before = 3 then 7 else 14, 0, 0, 0]
  | _, _, _, _ =>
    match b.quality with
    | 3 => [0, 0, 6, 1, 1, 0]
    | 2 => [0, 0, 13, 0, 0, 0]
    | _ => [0, 0, 248, 0, 0, 0]

/-- A master sends Sync, and Follow_Up in two-step operation, at its interval. -/
def Block.ptpSyncTx (b : Block) (l : Nat) : Block :=
  let cfg := b.val (ki K.TIM_PTP_CFG (ptpInst l))
  let x := b.ptp l
  if b.ptpRuns l 1 ∧ x.syncAt + logInterval (sgn 4 (bits cfg 8 5)) ≤ b.clock then
    let b := b.setPtp l { x with seq := (x.seq + 1) % 65536, syncAt := b.clock }
    let t := b.stampFields (b.instant 0)
    if bit cfg 4 then b.ptpSend l 0 ([x.seq, 0] ++ t)
    else (b.ptpSend l 0 [x.seq, 1]).ptpSend l 8 ([x.seq] ++ t)
  else b
def Block.ptpAnnounceTx (b : Block) (l : Nat) : Block :=
  let cfg := b.val (ki K.TIM_PTP_CFG (ptpInst l))
  let x := b.ptp l
  if b.ptpRuns l 1 ∧ x.annAt + logInterval (sgn 4 (bits cfg 12 9)) ≤ b.clock then
    (b.setPtp l { x with annSeq := (x.annSeq + 1) % 65536, annAt := b.clock }).ptpSend l 11 (x.annSeq :: 128 :: 128 :: b.ptpOwn)
  else b
def Block.ptpDelayReqTx (b : Block) (l : Nat) : Block :=
  let cfg := b.val (ki K.TIM_PTP_CFG (ptpInst l))
  let x := b.ptp l
  if b.ptpRuns l 2 ∧ x.reqAt + logInterval (sgn 4 (bits cfg 16 13)) ≤ b.clock then
    (b.setPtp l { x with reqSeq := (x.reqSeq + 1) % 65536, reqAt := b.clock, t3 := some (x.reqSeq, b.instant 0) }).ptpSend l 1
      [x.reqSeq]
  else b

/-! ## Checks (R394, R397, R401, R402, R404) -/

/-- Step 8. -/
def Block.timCheckState (b : Block) (i item v : Nat) : Status :=
  if 0x10 ≤ i ∧ i < 0x18 then
    let j := i - 0x10
    if item = 0x11 then need (v % 2 == 0 || b.sysrefMode j == 2) .state
    else if item = 0x10 ∧ bits v 1 0 = 1 then
      let clash (blk k : Nat) : Bool := b.isOn blk k && b.lkSel blk k == j && !b.dividesSysref blk k (bits v 8 2)
      need (!((List.range 16).any (clash bJRX) || (List.range 4).any (clash bJTX))) .busy
    else .ok
  else .ok

/-- Step 9. -/
def Block.timValue (b : Block) (i item v : Nat) : Status :=
  let rng (ok : Bool) : Status := need ok .paramRange
  if i = 0 then
    match item with
    | 0x10 =>
      let src := bits v 4 2
      rng (bits v 1 0 != 3 && decide (src ≤ 4) && decide (bits v 9 5 ≤ 16) && (bits v 1 0 != 2 || src == 0 || src == 2) &&
        (src != 3 || b.ptpRole (bits v 9 5) == 2))
    | 0x11 => rng (decide (1 ≤ bits v 13 0) && decide (bits v 13 0 ≤ 10000) && decide (1 ≤ bits v 23 14) && decide (bits v 23 14 ≤ 500))
    | 0x13 => rng (decide (1 ≤ v) && decide (v ≤ 2 ^ 31))
    | 0x16 => rng (decide (bits v 7 0 ≤ 239))
    | _ => .ok
  else if i < 0x18 then
    if item = 0x10 then rng (bits v 1 0 != 3 && decide (1 ≤ bits v 8 2) && decide (bits v 8 2 ≤ 64) && decide (bits v 19 9 ≤ 2000) &&
      decide (1 ≤ bits v 27 20)) else .ok
  else if i < 0x28 then
    if item = 0x10 then rng (decide (1 ≤ bits v 20 2) && decide (bits v 20 2 ≤ 500000))
    else rng (decide ((sgn 32 v).natAbs ≤ 1000000000))
  else if 0x40 ≤ i ∧ item = 0x10 then
    let s := sgn 4 (bits v 8 5); let a := sgn 4 (bits v 12 9); let d := sgn 4 (bits v 16 13)
    if bits v 1 0 ≠ 0 ∧ !b.netExists (i - 0x40) then .paramKey
    else rng (bits v 1 0 != 3 && bits v 3 2 != 3 && decide (-7 ≤ s) && decide (s ≤ 4) && decide (-3 ≤ a) && decide (a ≤ 4) &&
      decide (-7 ≤ d) && decide (d ≤ 5) && (i != 0x50 || bits v 17 17 == 0))
  else .ok

end Sys2Proof.Machine
end

