-- ==== Sys2Proof/Machine/Tiu.lean ====
section
/-! DEFINITION. The time-interval unit: stampers, calibration, measurements and statistics (R405 to R410). -/
namespace Sys2Proof.Machine

def bTIU : Nat := 0x12
def Block.setTiu (b : Block) (x : Tiu) : Block := { b with tiu := x }

/-- The middle of code `c` in a histogram of 2^22 hits, in 2^-16 ns from the start of the cycle (R407). -/
def codeMiddle (h : List Nat) (c : Nat) : Int :=
  rndEven (((2 * (h.take c).foldl (· + ·) 0 + h.getD c 0) * 40960 : Nat) : Int) (2 ^ 23)

/-- The stamp of an edge caught in the present cycle at a code of pin `p` (TIU_IN 0 to 7, TRIG_IN 8 to 15), and its UNCAL: before a table
has passed since the reset, and on the safe clock. -/
def Block.tiuStamp (b : Block) (p code : Nat) : Block × Int × Bool :=
  let skew := sgn 32 (b.f K.TIU_SKEW (0x10 + p) 31 0)
  let start := b.instant 0
  match b.tiu.table with
  | some t => (b, start - codeMiddle (t.getD p []) code - skew, b.coreSafe || !b.tiu.passed)
  | none => (b.tick, start - (Config.uncalPosition b.fresh).toNat % 40960 - skew, true)

/-- 2.5 ns, or 40 ns in the cases of R406. -/
def Block.deadTime (b : Block) : Int :=
  if b.dev ≠ .flow ∨ b.tiu.running ∨ b.tiu.owed then 40 * 65536 else 163840

/-- An edge is accepted, or lost in the dead time (R405). The dead time runs in core clock: a step of the beat number and SKEW, which the
stamp holds, do not touch it. -/
def Block.tiuAccept (b : Block) (p : Nat) (t : Int) : Block × Bool :=
  let x := b.tiu
  let t := t + sgn 32 (b.f K.TIU_SKEW (0x10 + p) 31 0) - b.instant 0 + ((b.clock * 40960 : Nat) : Int)
  let free := match tget none x.last p with | some l => decide (l + b.deadTime ≤ t) | none => true
  if free then
    let b := b.setTiu { x with last := tset x.last p (some t) }
    (if p < 8 then b.inc K.TIU_EDGES (0x10 + p) 1 else b.inc K.TRG_IN_EDGES (0x30 + (p - 8)) 1, true)
  else
    let b := b.setTiu { x with lostMask := x.lostMask ||| 2 ^ p, lostCount := x.lostCount + 1 }
    (if p < 8 then b.inc K.TIU_LOST (0x10 + p) 1 else b.inc K.TRG_IN_LOST (0x30 + (p - 8)) 1, false)

/-! ## Measurements (R408, R409) -/

def Block.tiuBefore (b : Block) : Int := b.f K.TIU_WIN_BEFORE 0 31 0 * 65536
def Block.tiuAfter (b : Block) : Int := b.f K.TIU_WIN_AFTER 0 31 0 * 65536
def Block.tiuIn (b : Block) (ms : Int) (t : Int) : Bool := decide (ms - b.tiuBefore ≤ t) && decide (t < ms + b.tiuAfter)

/-- The place of the measurement that an edge at `t` belongs to: the nearest start whose window contains it, the earlier on a tie. -/
def Block.tiuNearest (b : Block) (t : Int) : Option Nat :=
  let l := (b.tiu.meas.mapIdx (fun i m => (i, m.s))).filter (fun e => b.tiuIn e.2 t)
  (l.foldl (fun (a : Option (Nat × Int)) e => match a with
    | some best => if (t - e.2).natAbs < (t - best.2).natAbs then some e else a
    | none => some e) none).map (·.1)

/-- Every later edge of TIU_IN[i] has a stamp above this: the start of the present cycle less one cycle, less SKEW (R405). -/
def Block.tiuLeast (b : Block) (i : Nat) : Int := b.instant 0 - 40960 - sgn 32 (b.f K.TIU_SKEW (0x10 + i) 31 0)
/-- Stop edges that no later start can be nearer to are assigned, in order. A service that is not ON takes no later start. -/
def Block.tiuSweep (b : Block) : Block :=
  let x := b.tiu
  let now := b.tiuLeast (b.f K.TIU_MEAS 0 2 0)
  let isRipe (t : Int) : Bool := !b.isOn bTIU 0 || decide (t + b.tiuBefore ≤ now)
  let ripe := x.edges.filter (fun e => isRipe e.2.1)
  let b := b.setTiu { x with edges := x.edges.filter (fun e => !isRipe e.2.1) }
  ripe.foldl (fun b e => match b.tiuNearest e.2.1 with
    | some i => b.setTiu { b.tiu with meas := b.tiu.meas.mapIdx (fun j m => if j = i then { m with stops := m.stops ++ [e] } else m) }
    | none => b.inc K.TIU_UNMATCHED (0x10 + e.1) 1) b

/-- An accepted edge enters the measurements of a service that is ON. -/
def Block.tiuEdge (b : Block) (i : Nat) (rising : Bool) (t : Int) (uncal : Bool) : Block :=
  let sel := match b.f K.TIU_IN_CFG (0x10 + i) 1 0 with | 0 => rising | 1 => !rising | _ => true
  if !b.isOn bTIU 0 ∨ !sel then b
  else
    let x := b.tiu
    if i = b.f K.TIU_MEAS 0 2 0 then b.setTiu { x with meas := x.meas ++ [{ s := t, uncal := uncal }] }
    else if bit (b.f K.TIU_MEAS 0 10 3) i then b.setTiu { x with edges := x.edges ++ [(i, t, uncal)] }
    else b

/-- The standard deviation of R410, rounded convergently to the unit. -/
def sdOf (n : Nat) (sum : Int) (sq : Nat) : Nat :=
  if n ≤ 1 then 0
  else
    let p := n * sq - sum.natAbs * sum.natAbs
    let q := n * (n - 1)
    let s := isqrt (4 * p / q)
    if s % 2 = 1 ∧ s * s * q = 4 * p then (s / 2 + s / 2 % 2) else (s + 1) / 2

/-- An interval joins the statistic set of input `i`, which is latched after N intervals (R410). -/
def Block.tiuStat (b : Block) (i : Nat) (v : Int) : Block :=
  let x : StatSet := tget {} b.tiu.stats i
  if x.done then b
  else
    let x : StatSet := { x with
      n := x.n + 1, sum := x.sum + v, sq := x.sq + v.natAbs * v.natAbs,
      min := if x.n = 0 then v else min x.min v, max := if x.n = 0 then v else max x.max v,
      order := x.order + b2n (decide (v < 0)), close := x.close + b2n (decide (v.natAbs < 98)) }
    let set (b : Block) (y : StatSet) : Block := b.setTiu { b.tiu with stats := tset b.tiu.stats i y }
    if x.n < b.f K.TIU_STAT_N 0 24 0 then set b x
    else
      let k := 0x10 + i
      let mean := uns 64 (rndEven x.sum x.n)
      let b := ((b.pv K.TIU_STAT_MEAN k mean).pv K.TIU_STAT_SD k (sdOf x.n x.sum x.sq)).pv K.TIU_STAT_MIN k (uns 64 x.min)
      let b := ((b.pv K.TIU_STAT_MAX k (uns 64 x.max)).pf K.TIU_STAT_FLAGS k 24 0 x.order).pf K.TIU_STAT_FLAGS k 56 32 x.close
      let b := b.raise 836 (beBytes 1 i ++ zeros 7 ++ beBytes 8 mean)
      set b { done := b.f K.TIU_STAT_N 0 25 25 == 0 }

/-- The results of one stop input of a closed measurement. -/
def Block.tiuResults (b : Block) (m : Meas) (i : Nat) : Block :=
  let stops := b.f K.TIU_MEAS 0 16 11 + 1
  let l := (m.stops.filter (fun e => e.1 == i))
  let base := l.foldl (fun a e => min a (e.2.1 - m.s)) 0
  let l := (sortBy (fun (e : Nat × Int × Bool) => (e.2.1 - m.s - base).toNat) l).take stops
  let b := if l.length < stops then
      (b.inc K.TIU_MISSED (0x10 + i) 1).raise 839 (beBytes 1 i ++ zeros 3 ++ beBytes 4 (b.val K.TIU_MEASUREMENTS))
    else b
  let b := match l.getLast? with
    | some e =>
      let v := e.2.1 - m.s
      let fl := b2n (decide (v < 0)) + 2 * b2n (decide (v.natAbs < 98)) + 4 * b2n (m.uncal || e.2.2)
      (b.pv K.TIU_LAST_INTERVAL (0x10 + i) (uns 64 v)).pf K.TIU_LAST_FLAGS (0x10 + i) 2 0 fl
    | none => b
  match l[b.f K.TIU_STAT_SEL (0x10 + i) 5 0]? with
  | some e => b.tiuStat i (e.2.1 - m.s)
  | none => b

/-- No later edge of a stop input can belong to a measurement that starts at `s`. -/
def Block.tiuOver (b : Block) (s : Int) : Bool :=
  !b.isOn bTIU 0 || (which 8 (fun i => bit (b.f K.TIU_MEAS 0 10 3) i)).all (fun i => decide (s + b.tiuAfter ≤ b.tiuLeast i))
/-- The oldest measurement closes when no later edge can change what belongs to it (R408). -/
def Block.tiuClose (b : Block) : Block :=
  let b := b.tiuSweep
  match b.tiu.meas with
  | [] => b
  | m :: rest =>
    if b.tiuOver m.s ∧ !b.tiu.edges.any (fun e => b.tiuIn m.s e.2.1) then
      let b := (b.setTiu { b.tiu with meas := rest }).inc K.TIU_MEASUREMENTS 0 1
      (which 8 (fun i => bit (b.f K.TIU_MEAS 0 10 3) i)).foldl (fun b i => b.tiuResults m i) b
    else b

def Block.tiuStart (b : Block) : Block := (b.setLife bTIU 0 lStarting).setTiu { b.tiu with meas := [], edges := [], stats := [] }
def Block.tiuStop (b : Block) : Block := b.setLife bTIU 0 lStopping

/-! ## Calibration (R407) -/

/-- A calibration run starts. -/
def Block.tiuCalStart (b : Block) : Block := (b.setTiu { b.tiu with running := true }).pf K.TIU_CAL_STATE 0 1 0 1
/-- The die temperature has moved more than CAL_DT from that of the last run. -/
def Block.tiuCalTemp (b : Block) (temp : Int) : Block :=
  if b.dev = .flow ∧ b.f K.TIU_CAL_CFG 0 7 0 * 8 < (temp - b.tiu.temp).natAbs then b.tiuCalStart else b

/-- How many codes a histogram uses, and whether it passes: 400 to 440 codes, none wider than 4 ps. -/
def codesUsed (h : List Nat) : Nat := (h.filter (fun n => n != 0)).length
def histPass (h : List Nat) : Bool :=
  decide (400 ≤ codesUsed h) && decide (codesUsed h ≤ 440) && h.all (fun n => decide (n * 625 ≤ 4 * 2 ^ 22))

/-- A run ends with the hits of every interpolator and the die temperature. -/
def Block.tiuCalEnd (b : Block) (hists : List (List Nat)) (temp : Int) : Block :=
  if !b.tiu.running ∧ b.dev ≠ .thaw then b
  else
    let bad := (hists.take 16).find? (fun h => !histPass h)
    let pass := bad.isNone && decide (16 ≤ hists.length)
    let used := codesUsed (bad.getD (hists.headD []))
    let x := b.tiu
    let b := b.setTiu { x with running := b.dev == .thaw, temp := temp, owed := x.owed && b.coreSafe,
                               next := if pass then some (hists.take 16, temp) else x.next }
    let b := if pass then b else b.inc K.TIU_CAL_FAIL 0 1
    let valid := x.passed || b.tiu.next.isSome
    let b := b.pf K.TIU_CAL_STATE 0 1 0 (if b.dev = .thaw then 1 else if valid then 2 else 0)
    b.raise 838 (beBytes 1 (b2n (!pass)) ++ beBytes 2 used ++ zeros 5 ++ beBytes 8 (if pass then b.beat + 1 else 0))

/-- A boundary: a table that passed comes into force, lost edges are reported, and the life of the service moves. -/
def Block.tiuBoundary (b : Block) : Block :=
  let x := b.tiu
  let b := if x.lostMask = 0 then b
    else (b.raise 837 (beBytes 2 x.lostMask ++ zeros 2 ++ beBytes 4 x.lostCount)).setTiu { x with lostMask := 0, lostCount := 0 }
  let b := match b.tiu.next with
    | some (h, t) =>
      ((b.setTiu { b.tiu with table := some h, next := none, passed := true }).pv K.TIU_CAL_BEAT 0 b.beat).pf K.TIU_CAL_TEMP 0 15 0 (uns 16 t)
    | none => b
  if b.life bTIU 0 = lStarting then b.setLife bTIU 0 lOn
  else if b.life bTIU 0 = lStopping then b.setLife bTIU 0 lOff
  else b

/-! ## Edges -/

/-- An edge on TIU_IN[i] (R405, R408), for the measurements and the TIU trigger units. -/
def Block.tiuInEdge (b : Block) (i : Nat) (rising : Bool) (code : Nat) (late : Bool) : Block × List Fire :=
  let (b, t, uncal) := b.tiuStamp i code
  let (b, ok) := b.tiuAccept i t
  if ok then (b.tiuEdge i rising t uncal).edgeAll 6 i rising t b.quality late else (b, [])
/-- An edge on TRIG_IN[m] (R191): the level and PASS outputs follow every edge (R192). -/
def Block.trigInEdge (b : Block) (m : Nat) (rising : Bool) (code : Nat) (late : Bool) : Block × List Fire :=
  let b := (b.pf K.TRG_IN_LEVEL (0x30 + m) 0 0 (b2n rising)).passPins m rising
  let (b, t, _) := b.tiuStamp (8 + m) code
  let (b, ok) := b.tiuAccept (8 + m) t
  if ok then b.edgeAll 5 m rising t b.quality late else (b, [])

/-! ## Checks (R408, R412) -/

def Block.tiuState (b : Block) (i item : Nat) : Status :=
  if i = 0 ∧ 0x10 ≤ item ∧ item ≤ 0x12 then need (b.isOff bTIU 0) .state else .ok
def Block.tiuValue (_ : Block) (i item v : Nat) : Status :=
  let rng (ok : Bool) : Status := need ok .paramRange
  if i = 0 then
    match item with
    | 0x10 => rng (!bit (bits v 10 3) (bits v 2 0))
    | 0x11 => rng (decide (1 ≤ v) && decide (v ≤ 1000000000))
    | 0x12 => rng (decide (v ≤ 1000000000))
    | 0x13 => rng (decide (1 ≤ bits v 24 0) && decide (bits v 24 0 ≤ 16777216))
    | 0x14 => rng (decide (1 ≤ bits v 7 0) && decide (bits v 7 0 ≤ 40))
    | _ => .ok
  else if item = 0x10 then rng (bits v 1 0 != 3) else .ok

end Sys2Proof.Machine
end

