-- ==== Sys2Proof/Machine/AuxAdc.lean ====
section
/-! DEFINITION. The auxiliary converter (R440 to R446). -/
namespace Sys2Proof.Machine

def bAUX : Nat := 0x14
def auxCh (i : Nat) : Nat := 0x10 + i
def Block.setAux (b : Block) (x : Aux) : Block := { b with aux := x }
def Block.auxReady (b : Block) : Bool := b.f K.AUX_STATUS 0 0 0 == 1
def Block.auxRunning (b : Block) : Bool := b.f K.AUX_STATUS 0 3 3 == 1
def Block.auxTriggered (b : Block) : Bool := b.f K.AUX_CFG 0 29 29 == 1
def Block.auxN (b : Block) : Nat := b.f K.AUX_CFG 0 3 2 + 3
def Block.auxD (b : Block) : Nat := b.f K.AUX_CFG 0 16 4 + 1
def Block.auxL (b : Block) : Nat := b.f K.AUX_CFG 0 28 17 + 1

/-- A value that the Firn store keeps comes into force and is stored. -/
def Block.firnSet (b : Block) (k v : Nat) : Block := { b.setVal k v with firn := tset b.firn k (BitVec.ofNat 64 v) }

/-- Whether `mods` clocks of 20.48 MHz have passed since a core cycle count: each lasts 625/8 core cycles. -/
def Block.auxPassed (b : Block) (since mods : Nat) : Bool := decide (since * 8 + mods * 625 ≤ b.clock * 8)

/-- The filter stops, and the conversion in progress is discarded. -/
def Block.auxStopFilter (b : Block) : Block :=
  ((b.setAux { b.aux with start := none, results := 0 }).pf K.AUX_STATUS 0 3 2 0)
/-- REF_READY takes a value (R441). -/
def Block.setAuxReady (b : Block) (on : Bool) : Block :=
  if b.auxReady = on then b
  else (b.pf K.AUX_STATUS 0 0 0 (b2n on)).raise 960 (beBytes 1 (b2n on) ++ beBytes 1 (b.f K.AUX_CFG 0 1 0))

/-- Phase 1 of self-calibration begins once it is wanted and the reference is ready (R445). -/
def Block.auxCalBegin (b : Block) : Block :=
  if b.aux.want ∧ b.auxReady ∧ b.aux.phase = 0 ∧ b.clkLocked 5 then
    (b.auxStopFilter.setAux { b.aux with start := none, results := 0, want := false, phase := 1, phaseAt := b.clock, codes := [] }).pf
      K.AUX_STATUS 0 1 1 1
  else b

/-- The reference has settled (R441). -/
def Block.auxRefReady (b : Block) : Block :=
  let wait := match b.f K.AUX_CFG 0 1 0 with | 0 => usCycles 4000 | 1 => usCycles 1000 | _ => 0
  if (b.dev = .thaw ∨ b.dev = .flow) ∧ !b.auxReady ∧ b.aux.refAt + wait ≤ b.clock then (b.setAuxReady true).auxCalBegin else b

/-- The reference is selected or powered up. -/
def Block.auxRefStart (b : Block) : Block :=
  let b := (b.setAuxReady false).setAux { b.aux with refAt := b.clock }
  if b.f K.AUX_CFG 0 1 0 = 2 then b.auxRefReady else b

/-- START performed at this boundary: the filter starts now, or when the reference is ready. -/
def Block.auxBegin (b : Block) : Block :=
  if b.isOn bAUX 0 ∧ b.auxReady ∧ b.aux.phase = 0 ∧ b.aux.start.isNone ∧ b.clkLocked 5 ∧
      (if b.auxTriggered then b.auxRunning = true else b.beat % 625 = 0) then
    b.setAux { b.aux with start := some (b.beat, b.clock), results := 0 }
  else b
/-- CFG performed at this boundary (R441, R443): the filter of a converter that is ON starts afresh as the mode says. -/
def Block.auxConfigured (b : Block) (old : Nat) : Block :=
  let b := if b.isOn bAUX 0 then b.auxStopFilter else b
  (if bits old 1 0 ≠ b.f K.AUX_CFG 0 1 0 then b.auxRefStart else b).auxBegin
def Block.auxStart (b : Block) : Block := (b.pf K.AUX_STATUS 0 3 3 1).auxBegin
/-- SELFCAL performed. -/
def Block.auxSelfcal (b : Block) : Block :=
  if b.aux.phase ≠ 0 then b else (b.setAux { b.aux with want := true }).auxCalBegin

/-- A raw reading in 2^-16 codes becomes a code: offset and gain where APPLY_SC says so, rounded and clamped (R444). -/
def Block.auxCode (b : Block) (i : Nat) (raw : Int) : Int × Bool :=
  let c := auxCh i
  let v := if b.f K.AUX_CH_CFG c 0 0 = 1 then
      rndEven ((raw - sgn 24 (b.f K.AUX_SC_OFFSET c 23 0) * 65536) * b.f K.AUX_SC_GAIN c 17 0) (2 ^ 33)
    else rndEven raw 65536
  let d := max (-8388607) (min 8388607 v)
  (d, d != v)

/-- A conversion result: the readings of all channels (R442, R444). It counts only once the filter has settled and the next result
is due. -/
def Block.auxResult (b : Block) (raws : List Int) : Block :=
  match b.aux.start with
  | none => b
  | some (beat, at') =>
    let outs := b.auxN + b.auxL - 1 + b.aux.results * b.auxL
    if !b.isOn bAUX 0 ∨ !b.auxPassed at' (outs * b.auxD + 4) then b
    else
      let codes := (List.range 8).map (fun i => b.auxCode i (raws.getD i 0))
      let b := (codes.zipIdx).foldl (fun b ((c, o), i) =>
        let b := (b.pf K.AUX_DATA (auxCh i) 23 0 (uns 24 c)).pf K.AUX_DATA (auxCh i) 24 24 (b2n o)
        if o then b.inc K.AUX_OVR_COUNT (auxCh i) 1 else b) b
      let seq := (b.val K.AUX_DATA_SEQ + 1) % 2 ^ 64
      let t := timeAt beat (outs * b.auxD * 3200000 : Nat) b.quality
      let b := ((b.pv K.AUX_DATA_SEQ 0 seq).pf K.AUX_DATA_TIME_W0 0 47 0 t.w0).pf K.AUX_DATA_TIME_W1 0 47 0 t.w1
      let mask := maskOf 8 (fun i => (codes.getD i (0, false)).2)
      let b := if mask = 0 then b else b.raise 962 (beBytes 1 mask ++ zeros 7 ++ beBytes 8 seq)
      if b.auxTriggered then b.auxStopFilter
      else (b.setAux { b.aux with results := b.aux.results + 1 }).pf K.AUX_STATUS 0 2 2 1

/-- A phase of self-calibration completes with the mean reading of each channel (R445): 0, +V_ref, then -V_ref. -/
def Block.auxPhaseDone (b : Block) (raws : List Int) : Block :=
  let x := b.aux
  if x.phase = 0 ∨ !b.clkLocked 5 ∨ !b.auxPassed x.phaseAt ((b.auxN + 16) * b.auxD + 4) then b
  else
    let codes := x.codes ++ [raws]
    if x.phase < 3 then b.setAux { x with phase := x.phase + 1, phaseAt := b.clock, codes := codes }
    else
      let get (p i : Nat) : Int := (codes.getD p []).getD i 0
      let res := (List.range 8).map (fun i =>
        let off := rndEven (get 0 i) 65536
        let span := get 1 i - get 2 i
        let gain := if 0 < span then rndEven (2 ^ 57) span.toNat else 0
        (off, gain, decide (off.natAbs ≤ 2 ^ 20) && decide (122880 ≤ gain) && decide (gain ≤ 139264)))
      let bad := maskOf 8 (fun i => !(res.getD i (0, 0, false)).2.2)
      let b := if bad ≠ 0 then b
        else (res.zipIdx).foldl (fun b ((off, gain, _), i) =>
          (b.firnSet (ki K.AUX_SC_OFFSET (auxCh i)) (uns 24 off)).firnSet (ki K.AUX_SC_GAIN (auxCh i)) gain.toNat) b
      let b := (b.setAux { b.aux with phase := 0, codes := [] }).pf K.AUX_STATUS 0 1 1 0
      b.raise 961 (beBytes 1 (b2n (bad != 0)) ++ beBytes 1 bad)

/-- ENABLE performed (R446). -/
def Block.auxEnable (b : Block) : Block := (b.setLife bAUX 0 lStarting).pv K.AUX_DATA_SEQ 0 0
def Block.auxDisable (b : Block) : Block := b.setLife bAUX 0 lStopping
/-- A boundary: ON once the reference is ready and no self-calibration runs or waits; a filter start (R443). -/
def Block.auxBoundary (b : Block) : Block :=
  let b := if b.life bAUX 0 = lStopping then b.auxStopFilter.setLife bAUX 0 lOff
    else if b.life bAUX 0 = lStarting ∧ b.auxReady ∧ b.aux.phase = 0 ∧ !b.aux.want then b.setLife bAUX 0 lOn else b
  b.auxBegin

/-- PLL_AUX loses lock: the conversion is discarded, and self-calibration restarts from its first phase after relock. -/
def Block.auxClockLoss (b : Block) : Block :=
  let b := b.auxStopFilter
  if b.aux.phase = 0 then b else (b.setAux { b.aux with phase := 0, want := true, codes := [] }).pf K.AUX_STATUS 0 1 1 0

/-- Step 8 (R443, R445). -/
def Block.auxState (b : Block) (i item v : Nat) : Status :=
  if i ≠ 0 then .ok
  else if item = 0x11 then
    if v % 2 = 0 then .ok
    else if !b.auxTriggered ∨ !b.isOn bAUX 0 then .state
    else need (!b.auxRunning && b.aux.phase == 0) .busy
  else if item = 0x10 then need (b.aux.phase == 0) .busy
  else .ok
/-- Step 9. -/
def Block.auxValue (_ : Block) (i item v : Nat) : Status :=
  if i = 0 ∧ item = 0x10 then need (bits v 1 0 != 3 && bits v 3 2 != 3 && decide (31 ≤ bits v 16 4)) .paramRange else .ok

end Sys2Proof.Machine
end

