-- ==== Sys2Proof/Machine/Plait.lean ====
section
/-! DEFINITION. Plait links (R448 to R465): ports, the group and its time, trigger fan-out, lane export and import, outcomes. -/
namespace Sys2Proof.Machine

def bPLT : Nat := 0x15
def pltPort (p : Nat) : Nat := 0x10 + p
def pltExp (x : Nat) : Nat := 0x20 + x
def pltImp (m : Nat) : Nat := 0x30 + m
def Block.setPlt (b : Block) (x : Plait) : Block := { b with plt := x }
def Block.pPort (b : Block) (p : Nat) : PltPort := tget {} b.pltPorts p
def Block.setPPort (b : Block) (p : Nat) (x : PltPort) : Block := { b with pltPorts := tset b.pltPorts p x }
def Block.imp (b : Block) (m : Nat) : Import := tget {} b.imports m
def Block.setImp (b : Block) (m : Nat) (x : Import) : Block := { b with imports := tset b.imports m x }

/-! ## Topology (R449, R453) -/

def Block.topology (b : Block) : Nat := b.f K.PLT_CFG 0 1 0
def Block.grpSize (b : Block) : Nat := b.f K.PLT_CFG 0 5 2 + 1
def Block.member (b : Block) : Nat := b.sys.member
def Block.leader (b : Block) : Bool := b.topology != 0 && b.member == 0
def Block.node (b : Block) : Nat := b.f K.PLT_CFG 0 19 6 * 16 + b.member
/-- PORT_STATE: 0 DOWN, 1 TRAINING, 2 CALIBRATING, 3 UP, 4 WIRING_FAULT. -/
def Block.portState (b : Block) (p : Nat) : Nat := b.f K.PLT_PORT_STATE (pltPort p) 2 0
def Block.upPorts (b : Block) : List Nat := which 4 (fun p => b.portState p == 3)

/-- The member and port that the wiring puts at port `p` of member `m`. -/
def Block.wiring (b : Block) (m p : Nat) : Option (Nat × Nat) :=
  if b.topology = 1 then
    if b.grpSize ≤ m then none
    else match p with
      | 0 => some ((m + 1) % b.grpSize, 1)
      | 1 => some ((m + b.grpSize - 1) % b.grpSize, 0)
      | _ => none
  else if b.topology = 2 then
    let r := m / 4; let c := m % 4
    match p with
    | 0 => some (4 * r + (c + 1) % 4, 2)
    | 1 => some (4 * ((r + 1) % 4) + c, 3)
    | 2 => some (4 * r + (c + 3) % 4, 0)
    | _ => some (4 * ((r + 3) % 4) + c, 1)
  else none

/-- The member at the far end of a port that is UP: this engine's ports by PORT_STATE, the others' by what the group has told. -/
def Block.pltEdge (b : Block) (m p : Nat) : Option Nat :=
  match b.wiring m p with
  | none => none
  | some (n, q) =>
    let up (m p : Nat) : Bool := if m = b.member then b.portState p == 3 else !b.plt.cut.contains (m, p)
    if up m p && up n q then some n else none

/-- The hops from every member to a member, by one round of relaxation after another. -/
def Block.hopsRound (b : Block) (d : List (Option Nat)) : List (Option Nat) :=
  (List.range 16).map (fun m =>
    let near := (List.range 4).filterMap (fun p => (b.pltEdge m p).bind (fun n => (d.getD n none).map (· + 1)))
    let best := near.foldl (fun a n => match a with | some x => some (min x n) | none => some n) none
    match d.getD m none, best with
    | some x, some y => some (min x y)
    | some x, none => some x
    | none, o => o)
def Block.hopsTo (b : Block) (target : Nat) : List (Option Nat) :=
  (List.range 16).foldl (fun d _ => b.hopsRound d) ((List.range 16).map (fun m => if m = target then some 0 else none))

/-- The upstream port and its hops to the leader. -/
def Block.upstream (b : Block) : Option (Nat × Nat) :=
  if b.topology = 0 ∨ b.leader then none
  else
    let d := b.hopsTo 0
    (List.range 4).foldl (fun a p =>
      match (b.pltEdge b.member p).bind (fun n => d.getD n none) with
      | none => a
      | some h => match a with | some (_, g) => if h + 1 < g then some (p, h + 1) else a | none => some (p, h + 1)) none

/-- JOINED (R455). -/
def Block.joinedNow (b : Block) : Bool :=
  if b.leader then true
  else b.topology != 0 && b.timLocked && b.timSrc == 4 && b.timMode == 1 && b.plt.toward == some 0

/-- NODE and STATE follow the configuration, the ports and the time base; a change of JOINED is reported. -/
def Block.pltSettle (b : Block) : Block :=
  let was := b.f K.PLT_STATE 0 0 0 == 1
  let up := b.upstream
  let d := b.hopsTo b.member
  let hops := match up with | some (_, h) => h | none => 0
  let port := match up with | some (p, _) => p | none => 7
  let reach := if b.topology = 0 then 0 else maskOf 16 (fun m => (d.getD m none).isSome)
  let now := b.joinedNow
  let b := (b.pf K.PLT_NODE 0 17 0 b.node).pf K.PLT_STATE 0 24 0 (b2n now + 2 * b2n b.leader + 4 * hops + 64 * port + 512 * reach)
  if was = now then b
  else b.raise 812 (beBytes 1 (b2n now) ++ beBytes 1 hops ++ beBytes 1 port ++ zeros 5 ++ beBytes 8 b.beat)

/-- A message on every port that is UP but one. Kinds: 1 beat number, 2 quiet report, 3 step notice, 4 trigger report, 5 outcome
report, 6 export context, 7 export frame, 8 end of an export. -/
def Block.pltFlood (b : Block) (except kind : Nat) (fields : List Nat) : Block :=
  (b.upPorts.filter (· != except)).foldl (fun b p => b.send (.plait p kind fields)) b

/-! ## Ports (R450, R452) -/

/-- PORT_STATE takes a value: the change is reported, and the group's paths follow. -/
def Block.setPortState (b : Block) (p s : Nat) : Block :=
  let old := b.portState p
  if old = s then b
  else
    let b := b.pf K.PLT_PORT_STATE (pltPort p) 2 0 s
    (b.raise (808 + p) (beBytes 1 s ++ beBytes 1 old ++ zeros 2 ++ beBytes 4 (b.f K.PLT_PORT_STATE (pltPort p) 20 3))).pltSettle

def Block.portStart (b : Block) (p : Nat) : Block :=
  ((b.setLife bPLT (pltPort p) lStarting).setPPort p { step := 1, since := b.clock }).setPortState p 1
def Block.portStop (b : Block) (p : Nat) : Block :=
  ((b.setLife bPLT (pltPort p) lStopping).setPPort p {}).setPortState p 0

/-- Steps 1 to 5: the exchange names the partner's node and port, the calibration the two directions' delays in ps. `cut` lists the
ports of other members that are not UP. -/
def Block.portUp (b : Block) (p node port : Nat) (out back : Int) (cut : List (Nat × Nat)) : Block :=
  let life := b.life bPLT (pltPort p)
  if (life ≠ lStarting ∧ life ≠ lOn) ∨ b.portState p = 3 ∨ !b.clkLocked 2 then b
  else
    let b := b.setPlt { b.plt with cut := cut }
    let b := (b.pf K.PLT_PORT_STATE (pltPort p) 20 3 node).pf K.PLT_PORT_STATE (pltPort p) 22 21 port
    if b.wiring b.member p ≠ some (node % 16, port) then (b.setPPort p { b.pPort p with step := 3, since := b.clock }).setPortState p 4
    else
      let b := if b.portState p = 0 then b else b.setPortState p 2
      let b := (b.pv K.PLT_DELAY (pltPort p) (uns 32 (rndEven (out + back) 2))).pv K.PLT_ASYM (pltPort p) (uns 32 (rndEven (out - back) 2))
      (b.setPPort p { step := 0, since := b.clock, exchangeAt := b.clock }).setPortState p 3
/-- Step 3 is repeated every 100 ms after a wiring fault. -/
def Block.portRetry (b : Block) (p node port : Nat) (out back : Int) (cut : List (Nat × Nat)) : Block :=
  if b.portState p = 4 ∧ (b.pPort p).since + usCycles 100000 ≤ b.clock then b.portUp p node port out back cut else b

/-- Loss of CDR lock, or 64 consecutive flits failing their CRC: back to step 1, DOWN, without leaving ON. -/
def Block.portFault (b : Block) (p : Nat) (crc : Bool) (cut : List (Nat × Nat)) : Block :=
  let life := b.life bPLT (pltPort p)
  if life ≠ lStarting ∧ life ≠ lOn then b
  else
    let b := (b.setPlt { b.plt with cut := cut }).setPPort p { step := 1, since := b.clock }
    let b := if crc then b.inc K.PLT_CRC_ERR (pltPort p) 64 else b
    b.setPortState p (if life = lOn then 0 else 1)

/-- A message of a replayed class arrives after a replay (R452). -/
def Block.replayed (b : Block) (p : Nat) (yes : Bool) : Block :=
  if yes then (b.inc K.PLT_CRC_ERR (pltPort p) 1).inc K.PLT_REPLAYS (pltPort p) 1 else b
/-- A message can arrive on a port only while it is UP and its clock runs. -/
def Block.portHears (b : Block) (p : Nat) : Bool := b.portState p == 3 && b.clkLocked 2

/-! ## Time and beats (R454, R455) -/

/-- A two-way exchange, stamps in ps: the offset of the partner's time base. The servo takes it as OFFSET stands, the own time base
less its reference (R404). -/
def Block.timeExchange (b : Block) (p : Nat) (t1 t2 t3 t4 : Int) (crcError : Bool) : Block :=
  if !b.portHears p then b
  else if crcError then b.inc K.PLT_CRC_ERR (pltPort p) 1
  else
    let b := b.setPPort p { b.pPort p with exchangeAt := b.clock }
    let asym := sgn 32 (b.val (ki K.PLT_ASYM (pltPort p)))
    let offset := rndEven (((t2 - t1) - (t4 - t3) - 2 * asym) * 65536) 2000
    if b.timSrc = 4 ∧ b.timMode = 1 ∧ (b.upstream.map (·.1)) = some p then
      (b.servoUpdate (some (-offset)) 0 (decide (offset.natAbs < lockLimit)) true).pltSettle
    else b

/-- The leader's beat number for the beat in progress, and the leader's quality, arrive (R396, R455). -/
def Block.beatMessage (b : Block) (p n quality : Nat) (again : Bool) : Block :=
  if !b.portHears p ∨ b.topology = 0 ∨ b.leader ∨ (b.upstream.map (·.1)) ≠ some p then b
  else
    let b := (b.replayed p again).pltFlood p 1 [n, quality]
    let b := b.setPlt { b.plt with toward := some ((n : Int) - b.beat) }
    let b := if b.timSrc = 4 then (b.setTim { b.tim with traceable := quality == 3 }).setTimState b.timState b.timLocked else b
    b.pltSettle

/-- A quiet report arrives: the leader keeps those of JOINED members, any other member passes it upstream. -/
def Block.quietReport (b : Block) (p m : Nat) (joined quiet again : Bool) : Block :=
  if !b.portHears p then b
  else
    let b := b.replayed p again
    if b.leader then b.setPlt { b.plt with quiets := if joined then tset b.plt.quiets m quiet else tdel b.plt.quiets m }
    else match b.upstream with
      | some (q, _) => b.send (.plait q 2 [m, b2n joined, b2n quiet])
      | none => b
/-- The leader and every JOINED member are quiet. -/
def Block.groupQuiet (b : Block) : Bool := b.quiet && b.plt.quiets.all (·.2)

/-- The leader sends a step notice for the boundary 64 beats ahead. -/
def Block.stepNotice (b : Block) (d : Int) : Block :=
  (b.setPlt { b.plt with notice := some (b.beat + 64, d) }).pltFlood 4 3 [b.beat + 64, uns 64 d]
/-- A step notice arrives. -/
def Block.noticeArrives (b : Block) (p at' : Nat) (d : Int) (again : Bool) : Block :=
  if !b.portHears p ∨ b.leader ∨ (b.upstream.map (·.1)) ≠ some p then b
  else
    let b := (b.replayed p again).pltFlood p 3 [at', uns 64 d]
    if b.joinedNow then b.setPlt { b.plt with notice := some (at', d) } else b

/-- A servo step (R397): the engine alone steps when it is quiet; a leader sends a notice once its group is; a member never does. -/
def Block.pltServoStep (b : Block) : Block :=
  if b.topology = 0 then b.servoStep
  else if !b.leader ∨ !b.tim.step ∨ b.cycle ≠ 0 ∨ b.plt.notice.isSome then b
  else
    let beats := ((sgn 64 (b.val K.TIM_OFFSET)).tdiv (5 * 1280 * 65536)) * 5
    if beats = 0 ∨ b.f K.TIM_CFG 0 11 11 = 0 then b.stepDone
    else if b.groupQuiet then
      let b := b.stepDone
      (b.pv K.TIM_OFFSET 0 (uns 64 (sgn 64 (b.val K.TIM_OFFSET) - beats * (1280 * 65536)))).stepNotice (-beats)
    else b.pf K.TIM_STATE 0 5 5 1

/-- SET_BEAT performed (R397, R455): `none` where the quiet rule fails. -/
def Block.pltSetBeat (b : Block) (v : Nat) : Option Block :=
  if v = b.beat then some b
  else if b.leader then (if b.groupQuiet ∧ b.plt.notice.isNone then some (b.stepNotice ((v : Int) - b.beat)) else none)
  else if b.quiet then some (b.setBeat v) else none

/-- The boundary of a notice, and a member's step toward the leader's numbering. -/
def Block.pltStep (b : Block) : Block :=
  match b.plt.notice with
  | some (at', d) =>
    if at' ≤ b.beat then
      let b := b.setPlt { b.plt with notice := none }
      if b.joinedNow then ((b.stepTo ((b.beat : Int) + d).toNat).setPlt { b.plt with notice := none, toward := b.plt.toward }).pltSettle
      else b
    else b
  | none =>
    match b.plt.toward with
    | some d =>
      if d ≠ 0 ∧ !b.leader ∧ b.topology ≠ 0 ∧ b.timLocked ∧ b.timSrc = 4 ∧ b.timMode = 1 ∧ b.quiet then
        ((b.stepTo ((b.beat : Int) + d).toNat).setPlt { b.plt with toward := some 0 }).pltSettle
      else b
    | none => b

/-! ## Trigger reports (R456) -/

def sentReport (ch node unit seq : Nat) (tp : Fysiva) : List Nat := [ch, node, unit, seq, tp.sec, tp.ns, tp.frac, tp.quality]
/-- A report is remembered among the latest 256. -/
def Block.sawReport (b : Block) (r : Nat × Nat × Nat) : Block := b.setPlt { b.plt with seen := (r :: b.plt.seen).take 256 }
/-- A fire with ACT.PLAIT sends its report. -/
def Block.plaitSend (b : Block) (ch : Nat) (r : Report) : Block :=
  (b.sawReport (b.node, r.unit, r.seq)).pltFlood 4 4 (sentReport ch b.node r.unit r.seq r.tp)
/-- A report arrives: one not yet seen goes on, and to the PLAIT units of its channel. -/
def Block.plaitArrives (b : Block) (p ch node unit seq : Nat) (tp : Fysiva) (again : Bool) : Block × List Fire :=
  if !b.portHears p then (b, [])
  else
    let b := b.replayed p again
    if b.plt.seen.contains (node, unit, seq) then (b, [])
    else (((b.sawReport (node, unit, seq)).pltFlood p 4 (sentReport ch node unit seq tp))).plaitAll ch tp again

/-! ## Exports (R457) -/

def Block.expLane (b : Block) (x : Nat) : Nat := b.f K.PLT_EXP_CFG (pltExp x) 4 0
def Block.expPort (b : Block) (x : Nat) : Nat := b.f K.PLT_EXP_CFG (pltExp x) 6 5
def Block.expChan (b : Block) (x : Nat) : Nat := b.f K.PLT_EXP_CFG (pltExp x) 9 7
def Block.expBits (b : Block) (x : Nat) : Nat := 4 * packBytes (b.f K.PLT_EXP_CFG (pltExp x) 11 10)
/-- A charge in bit/s as a fraction. -/
def Block.expCharge (b : Block) (x : Nat) : Nat × Nat :=
  let (n, d) := b.lnFs (b.expLane x); (n * (2 * b.expBits x + 5) * 102, d * 100)
def addFrac (x y : Nat × Nat) : Nat × Nat := (x.1 * y.2 + y.1 * x.2, x.2 * y.2)
/-- The charges on a port of the exports that are not OFF, and of `also`. -/
def Block.portCharge (b : Block) (p : Nat) (also : Option Nat) : Nat × Nat :=
  (which 8 (fun x => b.expPort x == p && (!b.isOff bPLT (pltExp x) || also == some x))).foldl (fun a x => addFrac a (b.expCharge x)) (0, 1)
/-- The charges as EXP_RATE and DATA_LOAD show them, in Mbit/s rounded up. -/
def Block.expShow (b : Block) : Block :=
  let mbit (r : Nat × Nat) : Nat := if r.2 = 0 then 0 else ceilDiv r.1 (r.2 * 1000000)
  let b := (List.range 8).foldl (fun b x =>
    b.pf K.PLT_EXP_RATE (pltExp x) 17 0 (if b.isOff bPLT (pltExp x) then 0 else mbit (b.expCharge x))) b
  (List.range 4).foldl (fun b p => b.pf K.PLT_DATA_LOAD (pltPort p) 17 0 (mbit (b.portCharge p none))) b

/-- The context message of an export. -/
def Block.expContext (b : Block) (x : Nat) : Block :=
  let i := b.expLane x
  let l := b.lane i
  b.send (.plait (b.expPort x) 6 [b.expChan x, b.node, i, b.f K.LANE_CFG i 1 0, b.f K.PLT_EXP_CFG (pltExp x) 11 10, b.lnEpoch i, b.lnAnchorIdx i,
    b.lnAnchorIn i, b.lnStep i, l.finN, l.finD])
def Block.expStart (b : Block) (x : Nat) : Block := ((b.setLife bPLT (pltExp x) lStarting).expContext x).expShow
def Block.expStop (b : Block) (x : Nat) : Block := b.setLife bPLT (pltExp x) lStopping
/-- A lane that exports has its positions, or has been re-anchored: a context goes out, and the charges follow its rate. -/
def Block.expReanchor (b : Block) (i : Nat) : Block :=
  match which 8 (fun x => (b.isOn bPLT (pltExp x) || b.life bPLT (pltExp x) == lStarting) && b.expLane x == i) with
  | [] => b
  | xs => (xs.foldl Block.expContext b).expShow
/-- A lane that waits for its source may begin, and tells the imports of its exports. -/
def Block.laneReleaseBegin (b : Block) (i : Nat) : Block :=
  if (b.lane i).waitRelease && b.lnReleased i then (b.laneReleaseStart i).expReanchor i else b

/-- A lane output leaves on every export of its lane: frames of one index. -/
def Block.expTake (b : Block) (i : Nat) (o : LaneOut) : Block :=
  (which 8 (fun x => b.isOn bPLT (pltExp x) && b.expLane x == i)).foldl (fun b x =>
    let w := b.expBits x
    let (vi, si) := packComp o.i w
    let (vq, sq) := packComp o.q w
    let b := if o.valid && (si || sq) then b.inc K.PLT_EXP_SAT (pltExp x) 1 else b
    if b.portState (b.expPort x) = 3 then
      let (c, d) := o.miss.getD (0, 0)
      b.send (.plait (b.expPort x) 7 [b.expChan x, o.n, 1, (b.lane i).rateSeq, c, d, vi, vq, 16 * b2n o.valid + o.sogm])
    else b) b

/-! ## Imports (R458, R459) -/

def Block.impLane (b : Block) (m : Nat) : Nat := b.f K.PLT_IMP_CFG (pltImp m) 4 0
def Block.impPort (b : Block) (m : Nat) : Nat := b.f K.PLT_IMP_CFG (pltImp m) 6 5
/-- EV_PLT_IMPORT. -/
def Block.impEvent (b : Block) (m reason missing first : Nat) : Block :=
  b.raise 813 (beBytes 1 m ++ beBytes 1 reason ++ zeros 2 ++ beBytes 4 missing ++ beBytes 8 first)
def Block.impStart (b : Block) (m : Nat) : Block := (b.setLife bPLT (pltImp m) lStarting).setImp m {}
/-- An import stops, and its lane with it. -/
def Block.impStop (b : Block) (m : Nat) : Block :=
  let i := b.impLane m
  let b := b.setLife bPLT (pltImp m) lStopping
  if b.isOff bLANE i then b else b.setLife bLANE i lStopping
/-- A context message arrives: the lane takes the exporter's positions. -/
def Block.impContext (b : Block) (m : Nat) (c : ExportContext) (slotsFree : Bool) : Block :=
  let i := b.impLane m
  let life := b.life bPLT (pltImp m)
  if !b.portHears (b.impPort m) ∨ (life ≠ lStarting ∧ life ≠ lOn) ∨ (b.imp m).stopped then b
  else if c.kind ≠ b.f K.LANE_CFG i 1 0 then (b.impEvent m 1 0 0).impStop m
  else if !(b.imp m).context && !slotsFree then (b.impEvent m 2 0 0).impStop m
  else
    let b := b.setImp m { b.imp m with pack := c.pack }
    let b := b.pf K.PLT_IMP_SRC (pltImp m) 22 0 (c.node % 2 ^ 18 + c.lane % 32 * 2 ^ 18)
    let b := (if (b.imp m).context then b.setAnchor i c.anchorIndex c.anchorInput
              else (b.pv K.LANE_ANCHOR_INDEX i c.anchorIndex).pv K.LANE_ANCHOR_INPUT i c.anchorInput).pv K.LANE_EPOCH_BEAT i c.epoch
    let b := (b.pv K.LANE_STEP_Q i c.stepQ).pf K.LANE_F_IN i 39 0 (rndEven (c.finN : Int) (max 1 c.finD)).toNat
    if (b.imp m).context then b.setLane i { b.lane i with finN := c.finN, finD := c.finD, rateSeq := ((b.lane i).rateSeq + 1) % 65536 }
    else
      let b := (b.setImp m { b.imp m with context := true }).setLane i { running := true, finN := c.finN, finD := c.finD }
      b.setLife bLANE i lStarting

/-- One output of an imported lane: the detectors take it. -/
def Block.impOut (b : Block) (i : Nat) (o : LaneOut) : Block :=
  let x := b.lane i
  (b.setLane i { x with next := o.n + 1, recent := ((o.n, o.sogm) :: x.recent).take 1024 }).detect i o
/-- Missing samples of R459: the outputs that stand for them. Those of a lost frame are reported at the boundary; those that follow the
end of the export are not. -/
def Block.impLost (b : Block) (m first count : Nat) : Block × List LaneOut :=
  let x := b.imp m
  let b := (b.setImp m (if x.stopped then { x with left := true }
    else { x with firstLost := if x.lost = 0 then first else x.firstLost, lost := x.lost + count, left := true })).inc
    K.PLT_IMP_MISSING (pltImp m) count
  (b, (List.range count).map (fun k => ⟨first + k, 0, 0, false, some (1, 0x10 + b.impPort m), false, false, false, false, none⟩))

/-- A DATA frame is lost on its port. -/
def Block.frameLost (b : Block) (m : Nat) (crc : Bool) : Block :=
  let p := pltPort (b.impPort m)
  let b := b.inc K.PLT_DATA_LOST p 1
  if crc then b.inc K.PLT_CRC_ERR p 1 else b

/-- A data frame arrives or is lost, or the export stops: the outputs of the imported lane. After the end of the export every sample is
missing, until the import is stopped. -/
def Block.impFrame (b : Block) (m : Nat) (fr : ExportFrame) : Block × List LaneOut :=
  let i := b.impLane m
  let life := b.life bPLT (pltImp m)
  if (life ≠ lStarting ∧ life ≠ lOn) ∨ !(b.imp m).context then (b, [])
  else match fr with
    | .stopped => if (b.imp m).stopped then (b, []) else ((b.setImp m { b.imp m with stopped := true }).impEvent m 4 0 0, [])
    | .lost first count crc => (if (b.imp m).stopped then b else b.frameLost m crc).impLost m first count
    | .data first seq cause detail samples =>
      if (b.imp m).stopped then b.impLost m first samples.length
      else if !b.portHears (b.impPort m) then (b.frameLost m false).impLost m first samples.length
      else
        let b := b.setLane i { b.lane i with rateSeq := seq % 65536 }
        let b := b.setImp m { b.imp m with left := true }
        let w := 4 * packBytes (b.imp m).pack
        (b, (samples.zipIdx).map (fun (s, k) =>
          let fl := s.flags.toNat
          let up (v : Int) : Int := sgn w (uns w v) * (2 ^ (24 - w) : Nat)
          ⟨first + k, up s.i, up s.q, bit fl 4, if bit fl 4 then none else some (cause, detail), bit fl 3, bit fl 2, bit fl 1,
            bit fl 0, none⟩))

/-! ## Outcomes (R462) -/

/-- The leader records a member's outcome. -/
def Block.outcome (b : Block) (m seq status : Nat) : Block :=
  if b.val K.PLT_OUT_SEQ ≠ seq then b
  else
    let all := 2 ^ b.grpSize - 1
    let was := b.f K.PLT_OUT_DONE 0 15 0 &&& all
    let b := (b.pf K.PLT_OUT_DONE 0 m m 1).pf K.PLT_OUT_OK 0 m m (b2n (status == 0 || status == 1))
    let b := b.setVal (K.PLT_OUT_STATUS + m) (status % 65536)
    if was ≠ all ∧ b.f K.PLT_OUT_DONE 0 15 0 &&& all = all then
      b.raise 814 (beBytes 4 seq ++ beBytes 2 (b.f K.PLT_OUT_OK 0 15 0) ++ beBytes 2 (b.f K.PLT_OUT_DONE 0 15 0))
    else b
/-- An outcome report arrives over CTRL: the leader takes it, a member passes it on. -/
def Block.outcomeArrives (b : Block) (p m seq status : Nat) (again : Bool) : Block :=
  if !b.portHears p then b
  else
    let b := b.replayed p again
    if b.leader then b.outcome m seq status
    else match b.upstream with
      | some (q, _) => b.send (.plait q 5 [m, seq, status])
      | none => b
/-- This engine accepts a group-session request (R462). -/
def Block.gathered (b : Block) (seq target status : Nat) : Block :=
  if b.topology = 0 ∨ b.f K.PLT_CFG 0 21 21 = 0 then b
  else if b.leader then
    let b := ((b.pv K.PLT_OUT_SEQ 0 seq).pv K.PLT_OUT_BEAT 0 target).pf K.PLT_OUT_DONE 0 15 0 0 |>.pf K.PLT_OUT_OK 0 15 0 0
    b.outcome 0 seq status
  else match b.upstream with
    | some (q, _) => b.send (.plait q 5 [b.member, seq, status])
    | none => b

/-! ## Boundaries -/

/-- The life of a port, an export or an import at a boundary (R450, R458, R459). An import reports the losses of the beat. -/
def Block.pltLife (b : Block) (i : Nat) : Block :=
  if i < 0x20 then
    let p := i - 0x10
    if b.life bPLT i = lStopping then b.setLife bPLT i lOff
    else if b.life bPLT i = lStarting ∧ b.portState p = 3 then b.setLife bPLT i lOn else b
  else if i < 0x30 then
    let x := i - 0x20
    if b.life bPLT i = lStopping then
      ((b.setLife bPLT i lOff).send (.plait (b.expPort x) 8 [b.expChan x])).expShow
    else if b.life bPLT i = lStarting then b.setLife bPLT i lOn else b
  else
    let m := i - 0x30
    let x := b.imp m
    let l := b.impLane m
    let b := if x.lost = 0 then b else (b.impEvent m 3 (min x.lost (2 ^ 32 - 1)) x.firstLost).setImp m { x with lost := 0, firstLost := 0 }
    if b.life bPLT i = lStopping then
      let b := (b.setLife bPLT i lOff).setImp m {}
      if b.life bLANE l = lStopping then (b.setLife bLANE l lOff).setLane l {} else b
    else
      let b := if b.life bPLT i = lStarting ∧ x.context then b.setLife bPLT i lOn else b
      if x.left && b.life bLANE l == lStarting && b.importOf l == some m then b.setLife bLANE l lOn else b

/-- What a boundary sends over the links (R455): the leader's beat, and a member's quiet report. -/
def Block.pltBeat (b : Block) : Block :=
  if b.topology = 0 then b
  else
    let b := if b.leader ∧ b.beat % 1024 = 0 then b.pltFlood 4 1 [b.beat, b.quality] else b
    let b := match b.upstream with
      | some (q, _) => b.send (.plait q 2 [b.member, b2n b.joinedNow, b2n b.quiet])
      | none => b
    b.pltSettle

/-! ## Checks (R450, R451, R454, R455, R457, R458, R460, R465) -/

/-- An export or an import that is not OFF names a port. -/
def Block.pltUsesPort (b : Block) (p : Nat) : Bool :=
  (List.range 8).any (fun x => (!b.isOff bPLT (pltExp x) && b.expPort x == p) || (!b.isOff bPLT (pltImp x) && b.impPort x == p))
/-- An export that is not OFF sends a lane. -/
def Block.pltUsesLane (b : Block) (i : Nat) : Bool := (List.range 8).any (fun x => !b.isOff bPLT (pltExp x) && b.expLane x == i)

/-- Another export or import uses the same port and channel. -/
def Block.expClash (b : Block) (x : Nat) : Bool :=
  (List.range 8).any (fun y => y != x && !b.isOff bPLT (pltExp y) && b.expPort y == b.expPort x && b.expChan y == b.expChan x)
def Block.impChan (b : Block) (m : Nat) : Nat := b.f K.PLT_IMP_CFG (pltImp m) 9 7
def Block.impClash (b : Block) (m : Nat) : Bool :=
  (List.range 8).any (fun y => y != m && !b.isOff bPLT (pltImp y) && b.impPort y == b.impPort m && b.impChan y == b.impChan m)

/-- ENABLE = 1 of an export and of an import. -/
def Block.expMay (b : Block) (x : Nat) : Status :=
  let l := b.life bLANE (b.expLane x)
  if b.dev ≠ .flow then .notInThaw
  else if l ≠ lStarting ∧ l ≠ lOn then .state
  else need (!b.expClash x) .busy
def Block.impMay (b : Block) (m : Nat) : Status :=
  if b.dev ≠ .flow then .notInThaw else need (b.isOff bLANE (b.impLane m) && !b.impClash m) .busy

/-- Steps 5 and 8. -/
def Block.pltState (b : Block) (i item v : Nat) : Status :=
  match item with
  | 0x10 =>
    if i = 0 then need ((List.range 4).all (fun p => b.isOff bPLT (pltPort p))) .state
    else if 0x40 ≤ i then need ((List.range 32).all (fun l => b.lnGroup l != i - 0x40 || b.isOff bLANE l)) .state
    else need (b.isOff bPLT i) .state
  | 1 =>
    if i < 0x20 then (if v = 0 then need (!b.pltUsesPort (i - 0x10)) .busy else .ok)
    else if v = 0 then .ok
    else if i < 0x30 then b.expMay (i - 0x20) else b.impMay (i - 0x30)
  | _ => .ok
/-- Step 9. -/
def Block.pltValue (_ : Block) (i item v : Nat) : Status :=
  if i = 0 ∧ item = 0x10 then
    let size := bits v 5 2
    need (match bits v 1 0 with | 0 => true | 1 => size != 0 | 2 => size == 15 | _ => false) .paramRange
  else if 0x20 ≤ i ∧ i < 0x28 ∧ item = 0x10 then need (bits v 11 10 != 3) .paramRange
  else .ok
/-- Step 10. -/
def Block.pltBudget (b : Block) (i item v : Nat) : Status :=
  if 0x20 ≤ i ∧ i < 0x28 ∧ item = 1 ∧ v = 1 then
    let (n, d) := b.portCharge (b.expPort (i - 0x20)) (some (i - 0x20))
    need (decide (n ≤ 200000000000 * d)) .budget
  else .ok

end Sys2Proof.Machine
end

