-- ==== Sys2Proof/Machine/Domains.lean ====
section
/-! DEFINITION. What the safe clock and a lock do to the domains (R422, R423, R476). -/
namespace Sys2Proof.Machine

/-- Unit reference of ADPLL `n`. -/
def clkUnit (n : Nat) : Nat := mkKey bCLK n 0

/-- Domain `n` has moved to the safe clock (R422): every cause it has. -/
def Block.domDown (b : Block) (n : Nat) : Block :=
  match n with
  | 0 => (if b.dev = .flow then b.setCause 3 (clkUnit 0) else b).setTiu { b.tiu with owed := true }
  | 1 => (List.range 16).foldl (fun b k =>
      let x := b.lnk bJRX k
      if b.linkLive k && b.released bJRX k then
        (b.setVal (mkKey bJRX k 0x20) (setBits (b.val (mkKey bJRX k 0x20)) 9 9 0)).setLnk bJRX k
          { x with step := 4, lost := some (x.lost.getD 0) }
      else b) b
  | 2 =>
    let b := (List.range 17).foldl (fun b l => if b.ptpRole l = 0 then b else b.ptpSettle l) b
    (List.range 4).foldl (fun b p => b.portFault p false b.plt.cut) b
  | 3 => if b.isOff bDEN (outInst 0) then b else b.setBlanking 0 true
  | 4 => if b.isOff bDEN (outInst 1) then b else b.setBlanking 1 true
  | _ => b.auxClockLoss

/-- Domain `n` indicates lock (R423): its causes of DEGRADED clear, and what waited for it begins. -/
def Block.domUp (b : Block) (n : Nat) : Block :=
  let b := if b.sys.flowPlls.contains n then
      let left := b.sys.flowPlls.filter (· != n)
      let b := { b with sys := { b.sys with flowPlls := left } }
      if left.isEmpty then b.clearCause 6 (clkUnit n) else b
    else b
  match n with
  | 0 => (b.clearCause 3 (clkUnit 0)).tiuCalStart
  | 2 => (List.range 17).foldl (fun b l => if b.ptpRole l = 0 then b else b.ptpSettle l) b
  | 3 => b.outPllDone 0
  | 4 => b.outPllDone 1
  | _ => b.auxCalBegin

/-- A boundary of domain `n`: its data parts resume at the first one after lock, and so does the picture of an output. -/
def Block.pllBoundary (b : Block) (n : Nat) : Block :=
  let was := (b.pll n).down
  let b := b.clkBoundary n
  if was && !(b.pll n).down && (n == 3 || n == 4) then
    let o := n - 3
    if (b.out o).step = 0 ∧ !(b.out o).resume then b.setBlanking o false else b
  else b

/-- Any ADPLL HALTED is a cause of DEGRADED; it clears when none is (R476). -/
def Block.haltedCause (b : Block) (n : Nat) : Block :=
  if b.dev ≠ .flow then b
  else if (List.range 6).any (fun k => b.clkState k == 5) then b.setCause 4 (clkUnit n)
  else b.clearCause 4 (clkUnit n)

/-- An ADPLL's own change, and what it does to its domain. -/
def Block.pllAct (b : Block) (n : Nat) (act : Block → Block) : Block :=
  let was := b.clkLocked n
  let halted := b.clkState n
  let b := act b
  let now := b.clkLocked n
  let b := if was && !now then b.domDown n else if !was && now then b.domUp n else b
  -- a successful RELOCK clears PLL_HALTED, a new series does not
  if b.clkState n = 5 ∨ (halted ≠ 0 ∧ now) then b.haltedCause n else b

def Block.pllUnlock (b : Block) (n : Nat) : Block := b.pllAct n (·.clkLoss n)
def Block.pllLock (b : Block) (n band ns : Nat) : Block := b.pllAct n (·.clkLock n band ns)
def Block.pllTimeout (b : Block) (n : Nat) : Block := b.pllAct n (·.clkTimeout n)
def Block.pllRelock (b : Block) (n : Nat) : Block := b.pllAct n (·.clkRelock n)
def Block.pllRetune (b : Block) (n : Nat) : Block := b.pllAct n (·.clkRetune n)
/-- An in-band retune reaches its target: an output that waits for it goes on. -/
def Block.pllSlewDone (b : Block) (n : Nat) : Block :=
  let was := b.clkState n
  let b := b.clkSlewDone n
  if was = 1 ∧ (n = 3 ∨ n = 4) then b.outPllDone (n - 3) else b

end Sys2Proof.Machine
end

