-- ==== Sys2Proof/Machine/Cal.lean ====
section
/-! DEFINITION. Self-calibration (R427 to R438). A set of values is a list: g_0 to g_7, o_0 to o_7, s_0 to s_7, d_I, d_Q, g, p. -/
namespace Sys2Proof.Machine

def bCAL : Nat := 0x13
def Block.cal (b : Block) (t : Nat) : Cal := tget {} b.cals t
def Block.setCal (b : Block) (t : Nat) (x : Cal) : Block := { b with cals := tset b.cals t x }
/-- RUN_STATE: 0 IDLE, 1 WAITING_FOR_SIGNAL, 2 GATHERING, 3 COMPUTING, 4 READY. -/
def Block.calRun (b : Block) (t : Nat) : Nat := b.f K.CAL_RUN_STATE t 2 0
def Block.setCalRun (b : Block) (t s : Nat) : Block := b.pf K.CAL_RUN_STATE t 2 0 s
/-- The targets of a lock group; a lane of group 0 stands alone. -/
def Block.calGroup (b : Block) (t : Nat) : List Nat :=
  if b.lnGroup t = 0 then [t] else which 32 (fun j => b.lnGroup j == b.lnGroup t)

/-- The identity values (R427). -/
def calIdentity : List Int := List.replicate 8 131072 ++ List.replicate 18 0 ++ [131072, 0]
/-- The values in force. -/
def Block.calNow (b : Block) (t : Nat) : List Int :=
  (List.range 8).map (fun k => (b.f (K.CAL_IL_NOW + k) t 17 0 : Int)) ++
  (List.range 8).map (fun k => b.calS (K.CAL_IL_NOW + k) t 41 18) ++
  (List.range 8).map (fun k => b.calS (K.CAL_IL_NOW + k) t 57 42) ++
  [b.calS K.CAL_DC_NOW t 23 0, b.calS K.CAL_DC_NOW t 47 24, (b.f K.CAL_IQ_NOW t 17 0 : Int), q117 (b.f K.CAL_IQ_NOW t 35 18)]

/-- The values at a temperature (R436). -/
def calAt : List (Int × List Int) → Int → List Int
  | [], _ => calIdentity
  | [(_, v)], _ => v
  | (ta, va) :: (tb, vb) :: rest, t =>
    if t ≤ ta then va
    else if t < tb then (va.zip vb).map (fun (x, y) => rndEven (x * (tb - ta) + (y - x) * (t - ta)) (tb - ta).toNat)
    else calAt ((tb, vb) :: rest) t

/-- The points as POINT_j and RUN_STATE show them. -/
def Block.calShow (b : Block) (t : Nat) : Block :=
  let ps := (b.cal t).points
  let b := (List.range 8).foldl (fun b j => b.firnSet (ki (K.CAL_POINT + j) t)
    (match ps[j]? with | some (x, _) => uns 16 x + 65536 | none => 0)) b
  b.pf K.CAL_RUN_STATE t 9 6 ps.length

/-! ## Temperatures (R434) -/

/-- The present reading of a target's source, in 1/16 °C. -/
def Block.calSource (b : Block) (t : Nat) : Int :=
  let src := b.f K.CAL_CFG t 8 5
  if src = 0 then sgn 16 (b.f K.THM_DIE_TEMP 0 15 0)
  else sgn 16 (b.f K.CAL_TEMP_SCALE t 47 32) +
    rndEven (sgn 24 (b.f K.AUX_DATA (auxCh (src - 1)) 23 0) * sgn 32 (b.f K.CAL_TEMP_SCALE t 31 0)) (2 ^ 20)
def Block.calTemp (b : Block) (t : Nat) : Int := sgn 16 (b.f K.CAL_TEMP t 15 0)

/-! ## Commits (R436, R437) -/

/-- The furthest stage whose values differ; 4 when none does. -/
def calFar (old new : List Int) : Nat :=
  let differs (lo n : Nat) : Bool := (old.drop lo).take n != (new.drop lo).take n
  if differs 26 2 then 4 else if differs 24 2 then 2 else if differs 0 24 then 1 else 4

/-- Values come into force as a correction update (R114). -/
def Block.calTake (b : Block) (t : Nat) (v : List Int) : Block :=
  let far := calFar (b.calNow t) v
  let at' (n : Nat) : Int := v.getD n 0
  let b := (List.range 8).foldl (fun b k => b.pv (K.CAL_IL_NOW + k) t
    (uns 18 (at' k) + uns 24 (at' (8 + k)) * 2 ^ 18 + uns 16 (at' (16 + k)) * 2 ^ 42)) b
  let b := (b.pv K.CAL_DC_NOW t (uns 24 (at' 24) + uns 24 (at' 25) * 2 ^ 24)).pv K.CAL_IQ_NOW t (uns 18 (at' 26) + uns 18 (at' 27) * 2 ^ 18)
  b.setLane t { b.lane t with chgCorr := (b.lane t).chgCorr ||| 2 ^ far }

/-- A run starts afresh from the values now in force (R433). -/
def Block.calRebase (b : Block) (t : Nat) : Block :=
  if b.calRun t = 1 ∨ b.calRun t = 2 then
    (b.setCal t { b.cal t with base := b.calNow t, sums := {} }).pf K.CAL_BLOCKS t 6 0 0
  else b

/-- A commit of the members named: cause 0 run, 1 interpolation, 2 clear. -/
def Block.calCommitAll (b : Block) (ts : List Nat) (cause : Nat) : Block :=
  let b := ts.foldl (fun b t =>
    let x := b.cal t
    let b := b.calTake t (calAt x.points (b.calTemp t))
    let b := (b.setCal t { x with ended := false, interpDue := false, go := false, commitAt := some (b.calTemp t) }).calRebase t
    if b.calRun t = 4 then b.setCalRun t 0 else b) b
  b.raise 946 (beBytes 1 (b.lnGroup (ts.headD 0)) ++ beBytes 1 cause ++ zeros 2 ++ beBytes 4 (maskOf 32 (fun t => ts.contains t)) ++
    beBytes 8 b.beat)

/-- A run of any member is in progress. -/
def Block.calBusy (b : Block) (ts : List Nat) : Bool := ts.any (fun t => 1 ≤ b.calRun t && b.calRun t ≤ 3)
/-- A run's commit comes into force at this boundary if it is due: every member's run has ended, one passed, and no READY member
holds it, or COMMIT has released it. -/
def Block.calCommitRun (b : Block) (t : Nat) : Block :=
  let ts := b.calGroup t
  let ready := ts.filter (fun j => b.calRun j == 4)
  if b.calBusy ts ∨ ready.isEmpty then b
  else if ready.any (fun j => b.f K.CAL_CFG j 1 1 == 1) ∧ !ts.any (fun j => (b.cal j).go) then b
  else b.calCommitAll ts 0
/-- An interpolation commit comes into force at this boundary if it is due: no member's run is in progress or READY. -/
def Block.calCommitInterp (b : Block) (t : Nat) : Block :=
  let ts := b.calGroup t
  if ts.any (fun j => (b.cal j).interpDue) ∧ ts.all (fun j => b.calRun j == 0) then b.calCommitAll ts 1 else b

/-! ## Runs (R429 to R433) -/

/-- A target's run begins at this boundary. -/
def Block.calBegin (b : Block) (t : Nat) : Block :=
  let heat := b.calSource t
  let b := b.pf K.CAL_TEMP t 15 0 (uns 16 heat)
  let x := b.cal t
  ((b.setCal t { x with base := b.calNow t, sums := {}, heats := [], first := heat, ended := false, runDue := false,
                        waited := 0, told := false }).setCalRun t 2).pf K.CAL_BLOCKS t 6 0 0
/-- Whether a run of the lane may start. -/
def Block.calMay (b : Block) (t : Nat) : Bool := b.isOn bLANE t && !b.lnReplay t
/-- A run starts on a member, and with it on every member that is ON. -/
def Block.calStart (b : Block) (t : Nat) : Block :=
  if !b.calMay t ∨ b.calRun t ≠ 0 then b
  else (b.calGroup t).foldl (fun b j => if b.calMay j ∧ b.calRun j = 0 then b.calBegin j else b) b

/-- A run ends with a result (1 PASS, 2 FAIL, 3 ABORTED, 4 NO_SIGNAL). -/
def Block.calEnd (b : Block) (t result : Nat) (temp : Int) : Block :=
  let b := (b.setCalRun t (if result = 1 then 4 else 0)).pf K.CAL_RUN_STATE t 5 3 result
  let b := b.setCal t { b.cal t with ended := true }
  b.raise 944 (beBytes 1 t ++ beBytes 1 result ++ beBytes 1 (b.cal t).points.length ++ zeros 1 ++ beBytes 2 (uns 16 temp) ++ zeros 2 ++
    beBytes 4 (b.val (ki K.CAL_RUNS t)) ++ beBytes 4 (b.val (ki K.CAL_FAILS t)))
/-- The run temperature (R434). -/
def Cal.runTemp (x : Cal) : Int := if x.heats.isEmpty then x.first else rndEven (x.heats.foldl (· + ·) 0) x.heats.length
/-- The lane stops, or changes its input link. -/
def Block.calAbort (b : Block) (t : Nat) : Block :=
  if 1 ≤ b.calRun t ∧ b.calRun t ≤ 3 then b.calEnd t 3 (b.cal t).runTemp else b

/-- A target reads its temperature (R429, R436): with AUTO, at a beat that is a multiple of 1,024. -/
def Block.calReading (b : Block) (t : Nat) : Block :=
  let x := b.cal t
  if b.f K.CAL_CFG t 0 0 = 0 ∨ b.beat % 1024 ≠ 0 ∨ x.readAt = b.beat + 1 then b
  else
    let heat := b.calSource t
    let b := b.pf K.CAL_TEMP t 15 0 (uns 16 heat)
    let far (o : Option Int) (d : Nat) : Bool := match o with | some l => decide (d < (heat - l).natAbs) | none => true
    let run := b.calMay t && b.calRun t == 0 && far x.last (8 * b.f K.CAL_CFG t 14 9)
    let interp := match x.commitAt with
      | some c => decide (b.f K.CAL_INTERP_DT 0x40 5 0 ≤ (heat - c).natAbs)
      | none => !x.points.isEmpty
    b.setCal t { x with readAt := b.beat + 1, runDue := x.runDue || run, interpDue := x.interpDue || interp,
                        heats := if b.calRun t = 1 ∨ b.calRun t = 2 then heat :: x.heats else x.heats }

def addLists (x y : List Int) : List Int := if x.isEmpty then y else (x.zip y).map (fun (p, q) => p + q)

/-- A block of 2^16 samples completes (R430). -/
def Block.calBlock (b : Block) (t : Nat) (s : CalStats) : Block :=
  if b.calRun t ≠ 1 ∧ b.calRun t ≠ 2 then b
  else
    let counts := !s.bad && decide (2 ^ 62 ≤ s.power * 10000)
    let x := b.cal t
    let x := if b.calRun t = 1 then { x with waited := x.waited + (b.clock - x.since), since := b.clock } else { x with since := b.clock }
    if counts then
      let n := b.f K.CAL_BLOCKS t 6 0 + 1
      let sums : CalSums :=
        { il := if x.sums.il.isEmpty then s.il else (x.sums.il.zip s.il).map (fun (p, q) => addLists p q),
          dc := addLists x.sums.dc s.dc, iq := addLists x.sums.iq s.iq }
      ((b.setCal t { x with sums := sums }).pf K.CAL_BLOCKS t 6 0 n).setCalRun t (if 64 ≤ n then 3 else 2)
    else
      let b := b.setCalRun t 1
      if x.told then b.setCal t x
      else (b.setCal t { x with told := true }).raise 945 (beBytes 1 t ++ beBytes 1 (b.f K.CAL_BLOCKS t 6 0))

/-- A run that has spent WAIT_MAX seconds waiting for signal ends NO_SIGNAL (R430). -/
def Block.calTimeout (b : Block) (t : Nat) : Block :=
  let max := b.f K.CAL_WAIT_MAX 0x40 15 0
  let x := b.cal t
  if b.calRun t = 1 ∧ max ≠ 0 ∧ max * secCycles ≤ x.waited + (b.clock - x.since) then b.calEnd t 4 x.runTemp else b

/-- g times the root of a ratio, rounded. -/
def scaleRoot (g : Int) (num den : Nat) : Int := ((isqrt (4 * g.toNat * g.toNat * num / den) + 1) / 2 : Nat)
/-- A quotient, or the free value of place `k` where the divisor is 0 (log entry 28). -/
def Block.quot (b : Block) (k : Nat) (n d : Int) : Int :=
  if d = 0 then Config.zeroStatistic b.fresh k else if 0 < d then rndEven n d.toNat else rndEven (-n) (-d).toNat

/-- The values that the statistics of a run give (R431). -/
def Block.calEstimate (b : Block) (t : Nat) : List Int :=
  let x := b.cal t
  let est := b.f K.CAL_CFG t 4 2
  let v (n : Nat) : Int := x.base.getD n 0
  let il := bit est 0 && b.f K.LANE_SOURCE t 10 9 != 0
  let iq := bit est 2 && b.lnCplx t
  let row (k j : Nat) : Int := (x.sums.il.getD k []).getD j 0
  let tot (j : Nat) : Int := ((List.range 8).map (fun k => row k j)).foldl (· + ·) 0
  -- n, sum, sum of squares, lag before, lag after, neighbours' product, neighbours' squares
  let spread (n s q : Int) : Int := n * q - s * s
  let has (k : Nat) : Bool := il && row k 0 != 0
  let g (k : Nat) : Int :=
    let vk := spread (row k 0) (row k 1) (row k 2)
    let va := spread (tot 0) (tot 1) (tot 2)
    if !has k then v k
    else if vk ≤ 0 then Config.zeroStatistic b.fresh k
    else scaleRoot (v k) (va.toNat * (row k 0 * row k 0).toNat) (vk.toNat * (tot 0 * tot 0).toNat)
  let o (k : Nat) : Int :=
    if has k then v (8 + k) + rndEven (row k 1 * tot 0 - tot 1 * row k 0) (row k 0 * tot 0).toNat else v (8 + k)
  let s (k : Nat) : Int :=
    if has k then v (16 + k) + b.quot (16 + k) (131072 * (row k 3 - row k 4)) (2 * row k 5 - row k 6) else v (16 + k)
  let n : Nat := 64 * 65536
  let dc (j : Nat) : Int := if bit est 1 ∧ (j = 0 ∨ b.lnCplx t) then v (24 + j) + rndEven (x.sums.dc.getD j 0) n else v (24 + j)
  let ii := x.sums.iq.getD 0 0; let qq := x.sums.iq.getD 1 0
  let bal := if !iq then v 26 else if qq ≤ 0 then Config.zeroStatistic b.fresh 26 else scaleRoot (v 26) ii.toNat qq.toNat
  let cross := if !iq then v 27 else v 27 - b.quot 27 (131072 * x.sums.iq.getD 2 0) ii
  (List.range 8).map g ++ (List.range 8).map o ++ (List.range 8).map s ++ [dc 0, dc 1, bal, cross]

/-- The plausibility bounds (R432). -/
def calPlausible (base new : List Int) (change : Bool) : Bool :=
  (List.range 28).all (fun n =>
    let x := new.getD n 0
    let d := (x - base.getD n 0).natAbs
    let gain := n < 8 ∨ n = 26
    let within (lo hi : Int) (most : Nat) : Bool := decide (lo ≤ x) && decide (x ≤ hi) && (!change || decide (d ≤ most))
    if gain then within 114688 147456 1310
    else if n < 16 then within (-1048576) 1048576 16384
    else if n < 24 then within (-16384) 16384 655
    else if n < 26 then within (-1048576) 1048576 65536
    else within (-16384) 16384 1310)

/-- A point joins the set (R435). -/
def calStore (ps : List (Int × List Int)) (half : Nat) (t : Int) (v : List Int) : List (Int × List Int) :=
  let dist (p : Int × List Int) : Nat := (p.1 - t).natAbs
  let insert (l : List (Int × List Int)) : List (Int × List Int) :=
    l.filter (fun p => decide (p.1 < t)) ++ [(t, v)] ++ l.filter (fun p => decide (t ≤ p.1))
  match sortBy dist ps with
  | [] => [(t, v)]
  | near :: _ => if dist near ≤ half ∨ 8 ≤ ps.length then insert (ps.filter (fun p => p.1 != near.1)) else insert ps

/-- The values of a run are computed and checked (R431, R432, R435). -/
def Block.calComputed (b : Block) (t : Nat) : Block :=
  if b.calRun t ≠ 3 then b
  else
    let x := b.cal t
    let v := b.calEstimate t
    let heat := x.runTemp
    let b := b.tick.firnSet (ki K.CAL_RUNS t) ((b.val (ki K.CAL_RUNS t) + 1) % 2 ^ 32)
    let b := b.setCal t { x with last := some heat }
    if calPlausible x.base v (!x.points.isEmpty) then
      let b := (b.setCal t { b.cal t with points := calStore x.points (4 * b.f K.CAL_CFG t 14 9) heat v }).calShow t
      let b := ((b.firnSet (ki K.CAL_LAST_OK_W0 t) b.now.w0).firnSet (ki K.CAL_LAST_OK_W1 t) b.now.w1).firnSet
        (ki K.CAL_LAST_OK_TEMP t) (uns 16 heat)
      b.calEnd t 1 heat
    else (b.firnSet (ki K.CAL_FAILS t) ((b.val (ki K.CAL_FAILS t) + 1) % 2 ^ 32)).calEnd t 2 heat

/-! ## Requests (R429, R437) -/

/-- CAL_RUN for one target at acceptance. -/
def Block.calRunCheck (b : Block) (t : Nat) : Status :=
  match b.calRun t with
  | 0 => need (b.calMay t) .state
  | 4 => .busy
  | _ => .ok
/-- COMMIT performed: a READY run of the group is committed at this boundary. -/
def Block.calCommit (b : Block) (t : Nat) : Block :=
  if b.calRun t ≠ 4 then b else (b.setCal t { b.cal t with go := true }).calCommitRun t
/-- CLEAR_SETS performed. -/
def Block.calClear (b : Block) (t : Nat) : Block :=
  let b := (b.setCal t { b.cal t with points := [], last := none }).calShow t
  b.calCommitAll [t] 2
/-- Step 8. -/
def Block.calState (b : Block) (t item v : Nat) : Status :=
  if item = 0x13 ∧ t < 32 then need (v % 2 == 0 || b.calRun t == 0) .busy else .ok
/-- Step 9. -/
def Block.calValue (_ : Block) (t item v : Nat) : Status :=
  if t < 32 ∧ item = 0x10 then need (decide (bits v 8 5 ≤ 8) && decide (1 ≤ bits v 14 9) && decide (bits v 14 9 ≤ 40)) .paramRange
  else if t = 0x40 ∧ item = 0x10 then need (bits v 5 0 != 0) .paramRange else .ok

/-- A boundary: runs whose temperature reading asked for them, then commits (R429, R436, R437). -/
def Block.calBoundary (b : Block) : Block :=
  let b := (List.range 32).foldl (fun b t => if (b.cal t).runDue then (b.setCal t { b.cal t with runDue := false }).calStart t else b) b
  let b := (List.range 32).foldl (fun b t => if b.calRun t = 4 then b.calCommitRun t else b) b
  (List.range 32).foldl (fun b t => if (b.cal t).interpDue then b.calCommitInterp t else b) b

end Sys2Proof.Machine
end

