-- ==== Sys2Proof/Machine/Reset.lean ====
section
/-! DEFINITION. Reset, boot, THAW, FLOW, HALT and the keys (R467 to R484). -/
namespace Sys2Proof.Machine

def bSEC : Nat := 0x16
def Block.setSys (b : Block) (x : SysUnit) : Block := { b with sys := x }
/-- The engine offers service: THAW or FLOW. -/
def Block.live (b : Block) : Bool := b.dev == .thaw || b.dev == .flow
/-- DEGRADED (R476). -/
def Block.degraded (b : Block) : Bool := b.dev == .flow && b.f K.SYS_DEGRADED_CAUSES 0 5 0 != 0
/-- SYS[0].STATE (R10, R32). -/
def Block.stateWord (b : Block) : Nat :=
  (match b.dev with | .reset => 0 | .boot => 1 | .thaw => 2 | .flow => 3 | .halt => 7) + 8 * b2n b.degraded

/-! ## Resets (R467 to R469) -/

/-- A parameter that takes effect at BOOT (R8); the addresses of the management port are such too (R335). -/
def bootKey (k : Nat) : Bool := (rowOf k).any (fun r => r.eff == .boot)

/-- Whether a parameter holds over a warm reset (R5, R469): those of CLK and TIM, the memory's training and retirements, the TIU table's
and the straps' reports, the management port's addresses, and what the Reset column takes from the Firn store. Another parameter of code
BOOT returns to its Reset column, and what the Firn store holds for it waits for the next BOOT (DEDUCED, log entry 145). -/
def warmKeeps (firn : Tab Word) (k : Nat) : Bool :=
  let blk := keyBlock k; let it := keyItem k; let i := keyInst k
  blk == bCLK || blk == bTIM || (blk == bNET && i == mgmtPort && decide (0x11 ≤ it) && decide (it ≤ 0x18)) ||
  ((tfind firn k).isSome && !bootKey k && !(blk == bNET && i == mgmtPort)) ||
  (blk == bMEM && ((i == 0 && (it == 0x14 || it == 0x15)) || (0x10 ≤ i && i < 0x14 && it == 0x21) || (0x80 ≤ i && (it == 0x20 || it == 0x21)))) ||
  (blk == bTIU && (it == 0x21 || it == 0x22)) || k == K.SEC_IMAGE || k == K.SEC_FUSE_STATE || k == K.SYS_FW_VERSION || k == K.SYS_DEGRADED_CAUSES

/-- The calibration points come from the Firn store (R435). -/
def Block.keptCals (b : Block) : Tab Cal := b.cals.map (fun (t, c) => (t, ({ points := c.points, last := c.last } : Cal)))

/-- The weaver memories and the THAW capture store are cleared (R469). -/
def clearWeaver : List MemOp := [.clear (2 ^ 48) (2 ^ 50 + 2 ^ 27)]

/-- The pins that a reset takes back (R468, R477): TRIG_OUT deasserted, EVT_OUT_N released, VEC at high impedance, PPS_OUT, SYSREF_OUT and
REF_OUT low. -/
def Block.resetPins (b : Block) : List Sent :=
  (which 8 (fun k => (b.outPin k).on != (b.f K.TRG_OUT_CFG (0x20 + k) 2 2 == 1))).map (fun k => Sent.pin "TRIG_OUT" k false 0) ++
  (which 2 (fun k => bit (b.f K.EVT_OUT_STATE 0 1 0) k)).map (fun k => Sent.pin "EVT_OUT_N" k true 0) ++
  (if (b.vec.w0, b.vec.w1) = (0, 0) then [] else [Sent.vec 0 0 b.now]) ++
  (which 2 (fun k => bit (b.val (ki K.TIM_PPS_CFG (ppsInst k))) 0)).map (fun k => Sent.pin "PPS_OUT" k false 0) ++
  (which 8 (fun j => b.sysrefMode j != 0)).map (fun j => Sent.pin "SYSREF_OUT" j false 0) ++
  (if b.tim.refOn then [Sent.clockOut (b.f K.TIM_REF_CFG refInst 1 1) false] else [])

/-- A cold or power-on reset keeps the fuses and the Firn store. -/
def Block.coldBlock (b : Block) (kind : Nat) : Block :=
  { dev := .reset, cycle := b.cycle, ticks := b.ticks, fresh := b.fresh, firn := b.firn, params := b.firn, streamKeys := b.streamKeys, cals := b.keptCals,
    sent := b.sent ++ b.resetPins, stores := .clear 0 (2 ^ 51) :: b.stores,
    sys := { held := b.sys.held, kind := kind, host := b.sys.host, group := b.sys.group } }

/-- A warm reset keeps what R469 lists. -/
def Block.warmBlock (b : Block) : Block :=
  let x := b.tim
  let hold := b.timState = 2 ∨ ((b.timState = 1 ∨ b.timState = 3) ∧ b.timLocked)
  let base : Block :=
    { dev := .reset, beat := b.beat, cycle := b.cycle, ticks := b.ticks, fresh := b.fresh, firn := b.firn,
      params := b.params.filter (fun e => warmKeeps b.firn e.1), streamKeys := b.streamKeys, cals := b.keptCals, plls := b.plls,
      pcs := (b.pcs.map (fun (p, c) => (p, ({ repair := c.repair, retire := c.retire.map (fun _ => 0) } : Pc)))),
      firstRetired := b.firstRetired, neighs := b.neighs.filter (fun n => n.iface == mgmtPort),
      tim := { y := b.yNow, ageAt := b.clock, lost := true, before := if b.timState = 2 then x.before else if hold then b.quality else 0, traceable := x.traceable,
               holdAt := b.clock, holdBase := if b.timState = 2 then b.holdSeconds else 0 },
      tiu := { table := b.tiu.table, temp := b.tiu.temp },
      aux := { want := false },
      sent := b.sent ++ b.resetPins, stores := clearWeaver ++ b.stores,
      sys := { member := b.sys.member, bootMode := b.sys.bootMode, held := b.sys.held, kind := 2, trained := b.sys.trained,
               wdogs := b.sys.wdogs, host := b.sys.host, group := b.sys.group } }
  let base := base.pf K.SYS_DEGRADED_CAUSES 0 5 0 (b.f K.SYS_DEGRADED_CAUSES 0 1 0)
  let base := (base.pv K.NET_STATUS mgmtPort (b.val (ki K.NET_STATUS mgmtPort)))
  let st := if hold then 2 else 0
  (((base.pf K.TIM_STATE 0 1 0 st).pf K.TIM_STATE 0 2 2 0).pf K.TIM_STATE 0 4 3 (if hold then 1 else 0)).pf K.TIM_STATE 0 6 5 0

/-- A reset of a kind (0 power-on, 1 cold, 2 warm) begins with a cause. One that arrives during another restarts the sequence with
the deeper kind. -/
def Block.resetBegin (b : Block) (kind cause : Nat) : Block :=
  let busy := b.dev == .reset || b.dev == .boot
  let deeper := if busy then min kind b.sys.kind else kind
  let keepCause := busy && decide (b.sys.kind < kind)
  let old := b.f K.SYS_RESET_CAUSE 0 2 0
  let b := if deeper = 2 then b.warmBlock else b.coldBlock deeper
  b.pf K.SYS_RESET_CAUSE 0 2 0 (if keepCause then old else cause)

/-- The engine enters HALT (R477): the cause goes to the Firn store, both EVT_OUT_N pins are asserted and held. -/
def Block.enterHalt (b : Block) (cause : Nat) : Block :=
  let b := ((b.pf K.EVT_OUT_STATE 0 1 0 0).coldBlock b.sys.kind).firnSet K.SYS_LAST_HALT cause
  let b := ({ b with dev := .halt }.pf K.EVT_OUT_STATE 0 1 0 3).setSys { b.sys with halt := cause }
  (b.send (.pin "EVT_OUT_N" 0 false 0)).send (.pin "EVT_OUT_N" 1 false 0)

/-- A reset pin is asserted (bit 0 PORESET_N, bit 1 RESET_N). -/
def Block.pinReset (b : Block) (pin : Nat) : Block :=
  let b := b.resetBegin pin pin
  b.setSys { b.sys with held := b.sys.held ||| 2 ^ pin }
def Block.pinRelease (b : Block) (pin : Nat) : Block := b.setSys { b.sys with held := setBits b.sys.held pin pin 0 }

/-- The watchdog expires: a third reset within 10 s of the first enters HALT instead. -/
def Block.watchdog (b : Block) : Block :=
  if !b.live then b
  else
    let recent := b.sys.wdogs.filter (fun t => decide (b.clock < t + 10 * secCycles))
    if 2 ≤ recent.length then b.enterHalt 3
    else
      let b := b.firnSet K.SYS_WDOG_RESETS ((b.val K.SYS_WDOG_RESETS + 1) % 2 ^ 32)
      (b.setSys { b.sys with wdogs := recent ++ [b.clock] }).resetBegin 2 4

/-- The crystal is qualified: RESET ends, and the straps are sampled (R470, R471, R489). -/
def Block.resetEnd (b : Block) (member bootMode : Nat) : Block :=
  if b.dev ≠ .reset ∨ b.sys.held ≠ 0 ∨ b.sys.kind = 2 then b
  else
    let b := b.setSys { b.sys with member := member % 16, bootMode := bootMode % 4, booted := false, rejected := 0,
                                   slots := [[0, 1], [1, 0], [0], []].getD (bootMode % 4) [] }
    if bootMode % 4 = 3 then b.enterHalt 2 else { b with dev := .boot }

/-! ## Boot (R471, R472) -/

/-- The first boot check that fails, or 0. -/
def Block.bootCheck (b : Block) (s : BootSlot) : Nat :=
  let h := s.header
  let num (off n : Nat) : Nat := beNat ((h.drop off).take n)
  let key := num 16 1
  let len := num 12 4
  let pub := (h.drop 32).take 97
  let zero (off n : Nat) : Bool := num off n == 0
  if !s.answers ∨ h.length ≠ 256 then 7
  else if num 0 4 ≠ 0x53544E52 ∨ num 4 2 ≠ 1 ∨ !zero 17 15 ∨ !zero 129 31 then 1
  else if len < 64 ∨ 6291456 < len ∨ len % 64 ≠ 0 then 2
  else if num 6 2 < b.f K.SEC_FUSE_STATE 0 5 0 then 3
  else if 3 < key ∨ bit (b.f K.SEC_FUSE_STATE 0 9 6) key then 4
  else if sha384 pub ≠ (List.range 48).map (Config.fusedKeyHash key) then 5
  else if !Config.signatureVerifies pub (sha384 (h.take 160 ++ s.body)) ((h.drop 160).take 96) ∨ s.body.length ≠ len then 6
  else 0

/-- The boot ROM checks the next slot (R471, R472). -/
def Block.bootSlot (b : Block) (s : BootSlot) : Block :=
  match b.sys.slots with
  | [] => b
  | slot :: rest =>
    if b.dev ≠ .boot ∨ b.sys.booted then b
    else
      let c := b.bootCheck s
      if c = 0 then
        let num (off n : Nat) : Nat := beNat ((s.header.drop off).take n)
        let first := b.sys.rejected
        let image := num 6 2 % 64 + slot * 64 + b2n (first != 0) * 128 + num 16 1 % 4 * 256 + first * 1024
        ((b.pv K.SEC_IMAGE 0 image).pv K.SYS_FW_VERSION 0 (num 8 4)).setSys { b.sys with slots := rest, booted := true }
      else
        let b := b.setSys { b.sys with slots := rest, rejected := c }
        if rest.isEmpty then b.enterHalt 1 else b

/-! ## THAW and FLOW (R470, R474 to R476) -/

/-- A group session exists for every installed group key (R45, R480). -/
def Block.groupSession (b : Block) (id : Nat) (h2e e2h : List Byte) : Block :=
  let s : Session := { id := id, h2e := h2e, e2h := e2h, nextSeq := 1, lastAccept := b.clock }
  { b with sessions := b.sessions.filter (fun x => x.id != id) ++ [s] }

/-- A PLL that is not locked starts a series of attempts (R423, R470). -/
def Block.pllSeries (b : Block) (n : Nat) : Block :=
  if b.clkLocked n ∧ (b.pll n).target.isSome then b
  else ((b.clkSequence n false).pf K.CLK_STATUS n 10 9 1)

/-! ## PMBus (R495 to R497) -/

/-- PMBus command codes (log entry 29). -/
def pmVoutMode : Nat := 0x20
def pmVoutCommand : Nat := 0x21
def pmReadVout : Nat := 0x8B
def pmReadIout : Nat := 0x8C
def pmStatusWord : Nat := 0x79
def pmClearFaults : Nat := 0x03

def Block.avsMode (b : Block) : Nat := b.f K.THM_AVS_CFG 0 1 0
def Block.avsTarget (b : Block) : Nat := b.f K.THM_AVS_STATE 0 11 2
/-- AVS_STATE[1:0]: 0 OFF, 1 ADAPTIVE, 2 FIXED, 3 FAULT. -/
def Block.avsFault (b : Block) : Bool := b.f K.THM_AVS_STATE 0 1 0 == 3
def Block.avsShow (b : Block) : Block := b.pf K.THM_AVS_STATE 0 1 0 ([1, 2, 0].getD b.avsMode 0)

/-- A transaction leaves for the regulator at PMBUS_ADDR. -/
def Block.pmSend (b : Block) (c : Nat × Nat) : Block :=
  (b.setSys { b.sys with pmBus := some c }).send (.pmbus (b.f K.THM_PMBUS_ADDR 0 6 0) c.1 (if c.1 = pmVoutCommand then beBytes 2 c.2 else []))
/-- The next transaction leaves when the bus is free; in FAULT only retries do. -/
def Block.pmNext (b : Block) : Block :=
  if b.avsFault ∨ b.sys.pmBus.isSome then b
  else match b.sys.pmQueue with
    | [] => b
    | c :: rest => (b.setSys { b.sys with pmQueue := rest }).pmSend c
/-- Transactions join the queue, at its front or its end. -/
def Block.pmQueue (b : Block) (front : Bool) (l : List (Nat × Nat)) : Block :=
  (b.setSys { b.sys with pmQueue := if front then l ++ b.sys.pmQueue else b.sys.pmQueue ++ l }).pmNext

/-- Entry to THAW (R470 step 3); the regulator's VOUT_MODE is read once (R495). -/
def Block.thawEntry (b : Block) : Block :=
  let cold := b.dev == .boot && b.sys.booted
  let warm := b.dev == .reset && b.sys.kind == 2 && b.sys.held == 0
  if !cold && !warm then b
  else if !Config.firnReadable b.fresh then b.tick.enterHalt 6
  else
    let b := { b with dev := .thaw }
    let b := if cold then { b with beat := 0, tim := { b.tim with ageAt := b.clock } } else b
    let b := [0, 1, 2, 5].foldl Block.pllSeries b
    let b := b.sys.group.foldl (fun b (_, id, h2e, e2h) => b.groupSession id h2e e2h) b
    let b := b.tiuCalStart
    let b := b.cals.foldl (fun b (t, _) => b.calShow t) b
    let b := (b.setAux { b.aux with want := cold }).auxRefStart
    (b.tick.pltSettle).pmQueue false [(pmVoutMode, 0)]

/-- HBM3E training ends (R243, R246, R470): the pseudo-channels without a working setting are retired. -/
def Block.hbmTrained (b : Block) (bad : List Nat) : Block :=
  if b.dev ≠ .thaw ∨ b.sys.trained then b
  else
    let ok (p : Nat) : Bool := !bad.contains p
    let n := (which 128 ok).length
    let b := (List.range 4).foldl (fun b s => b.pv K.MEM_PC_OK (stackInst s) (maskOf 32 (fun c => ok (32 * s + c)))) b
    let b := (b.pf K.MEM_N_PC 0 7 0 n).pv K.MEM_UNIT_BYTES 0 (n * 8388608)
    let gone := which 128 (fun p => !ok p)
    let b := (gone.mapIdx (fun k p => (k, p))).foldl (fun b e =>
      (b.setPcState e.2 3).raise 679 (beBytes 1 e.2 ++ beBytes 1 (127 - e.1) ++ zeros 6 ++ beBytes 8 b.beat)) b
    let b := { b with firstRetired := gone.head? }
    let b := b.setSys { b.sys with trained := true }
    if n = 0 then b.pf K.SYS_FLOW_PENDING 0 0 0 0 else b

/-- Every receive link with ENABLE = 1 is RELEASED; else the first that is not. -/
def Block.unreleased (b : Block) : Option Nat := (List.range 16).find? (fun k => b.enabled bJRX k && !b.released bJRX k)
/-- The conditions for FLOW (R475): requested, automatic. -/
def Block.flowRequested (b : Block) : Bool := b.f K.SYS_FLOW_PENDING 0 0 0 == 1 && decide (1 ≤ b.nPc) && b.clkState 0 == 0
def Block.flowAuto (b : Block) : Bool :=
  b.f K.SYS_FLOW_CFG 0 0 0 == 1 && decide (max 1 (b.f K.SYS_FLOW_CFG 0 8 1) ≤ b.nPc) && b.clkState 0 == 0 && b.clkState 1 == 0 &&
  b.clkState 2 == 0 && b.unreleased.isNone

/-- The engine enters FLOW at this boundary where the conditions hold. A time base with MODE not FREE acquires once its reference has been
present for 4 updates in FLOW (R395, R398; log entry 170). -/
def Block.flowEntry (m : Mem) (b : Block) : Block :=
  if b.dev ≠ .thaw ∨ !b.sys.trained ∨ !(b.flowAuto || b.flowRequested) then b
  else
    let old := b.stateWord
    let b := Block.capFlowEntry m b
    let b := { b with dev := .flow, stores := .clear (spThaw 0) (spThaw (2 ^ 26)) :: b.stores }
    let b := (List.range 32).foldl Block.cpRingShow (b.pf K.SYS_FLOW_PENDING 0 0 0 0)
    let b := if b.nPc < 128 then b.setCause 1 (mkKey bMEM (pcInst (b.firstRetired.getD 0)) 0) else b
    let b := match b.unreleased with | some k => b.setCause 5 (mkKey bJRX k 0) | none => b
    let late := [1, 2].filter (fun n => b.clkState n != 0)
    let b := b.setSys { b.sys with flowPlls := late }
    let b := match late with | [] => b | n :: _ => b.setCause 6 (clkUnit n)
    let b := match (List.range 6).find? (fun n => b.clkState n == 5) with | some n => b.setCause 4 (clkUnit n) | none => b
    let b := [3, 4].foldl Block.pllSeries b
    let b := b.tiuCalStart
    b.raise 976 (beBytes 4 b.stateWord ++ beBytes 4 old)

/-- LINKS clears when every such link has released or been disabled (R476). -/
def Block.linksCause (b : Block) : Block :=
  if b.unreleased.isNone then b.clearCause 5 (mkKey bJRX 0 0) else b

/-- ENTER_FLOW in THAW. -/
def Block.enterFlow (b : Block) : Block × Status :=
  if b.sys.trained ∧ b.nPc = 0 then (b, .fault) else (b.pf K.SYS_FLOW_PENDING 0 0 0 1, .ok)

/-! ## Keys (R479 to R481) -/

/-- EV_SEC_KEY: kind 0 host, 1 group, 2 stream; action 0 install, 1 remove. -/
def Block.keyEvent (b : Block) (kind i action session : Nat) : Block :=
  b.raise 982 (beBytes 1 kind ++ beBytes 1 i ++ beBytes 1 action ++ beBytes 2 0 ++ zeros 3 ++ beBytes 4 session)
/-- The bytes of `n` staging words. -/
def Block.staged (b : Block) (inst n : Nat) : List Byte := ((List.range n).map (fun k => beBytes 8 (b.val (mkKey bSEC inst (0x10 + k))))).flatten
/-- Every commit clears its staging words. -/
def Block.unstage (b : Block) (inst n : Nat) : Block := (List.range n).foldl (fun b k => b.setVal (mkKey bSEC inst (0x10 + k)) 0) b
/-- How many staging words an instance has. -/
def stagingOf (inst : Nat) : Nat := if inst < 0x20 then 13 else if inst < 0x30 then 10 else 7
/-- A wrapped key opens under the wrap key of the session that carries the commit. -/
def Block.unwrap (b : Block) (inst n : Nat) (key session seq : Nat) : Option (List Byte) :=
  match b.sessions.find? (fun s => s.id == session) with
  | none => none
  | some s => Config.gcmOpen s.wrap (beBytes 4 key ++ beBytes 8 seq) (beBytes 4 key) ((b.staged inst 13).take n)

/-- A stream that is not OFF names a key slot. -/
def Block.slotUsed (b : Block) (slot : Nat) : Bool :=
  (List.range 64).any (fun s => !b.isOff bSTR s && b.strEnc s && b.f K.STR_CFG s 27 25 == slot)

/-- The key of a commit, by its instance and item. -/
def isCommit (inst item : Nat) : Bool :=
  (0x10 ≤ inst && inst < 0x18 && item == 0x20) || (0x20 ≤ inst && inst < 0x24 && item == 0x21) || (0x30 ≤ inst && inst < 0x38 && item == 0x20)
/-- A commit that is refused clears its staging words too (R480); a write by one who may not write the key is no commit. -/
def Block.commitRefused (b : Block) (key v : Nat) (s : Status) : Block :=
  if keyBlock key = bSEC ∧ isCommit (keyInst key) (keyItem key) = true ∧ v % 4 ≠ 0 ∧ s ≠ .paramKey then b.unstage (keyInst key) (stagingOf (keyInst key))
  else b

/-- Step 8 for SEC: REVOKE, REMOVE of the last host key, a stream slot in use. -/
def Block.secState (b : Block) (inst item v : Nat) : Status :=
  if inst = 0 ∧ item = 0x12 then
    let rev := bits v 4 1
    let all := rev ||| b.f K.SEC_FUSE_STATE 0 9 6
    need (!(rev != 0 && (bit rev (b.f K.SEC_IMAGE 0 9 8) || all == 15))) .state
  else if 0x10 ≤ inst ∧ inst < 0x18 ∧ item = 0x20 ∧ v % 4 = 2 then
    need (!(bit (b.val K.SEC_HOST_KEYS) (inst - 0x10) && b.val K.SEC_HOST_KEYS == 2 ^ (inst - 0x10))) .state
  else if 0x20 ≤ inst ∧ inst < 0x24 ∧ item = 0x21 ∧ v % 4 = 1 then
    let id := b.val (ki K.SEC_GROUP_ID inst)
    let gone := (tfind b.sys.group (inst - 0x20)).elim id (·.1)
    need (decide ((b.sessions.filter (fun s => s.id != id && s.id != gone)).length + b.shakes.length < 16)) .sessions
  else if 0x30 ≤ inst ∧ item = 0x20 ∧ v % 4 ≠ 0 then need (!b.slotUsed (inst - 0x30)) .busy
  else .ok
/-- Step 9 for SEC, in the session and sequence that carry the write. -/
def Block.secValue (b : Block) (inst item v session seq : Nat) : Status :=
  let key := mkKey bSEC inst item
  if 0x10 ≤ inst ∧ inst < 0x18 ∧ item = 0x20 then
    if v % 4 = 3 then .paramRange
    else if v % 4 = 1 then
      let w := b.staged inst 13
      need ((w.drop 97).all (· == 0) && Config.onCurve (w.take 97)) .paramRange
    else .ok
  else if 0x20 ≤ inst ∧ inst < 0x24 ∧ item = 0x21 then
    if v % 4 = 3 then .paramRange
    else if v % 4 = 1 then need (bit (b.val (ki K.SEC_GROUP_ID inst)) 31 && (b.unwrap inst 80 key session seq).isSome) .paramRange
    else .ok
  else if 0x30 ≤ inst ∧ item = 0x20 then
    if v % 4 = 3 then .paramRange
    else if v % 4 = 1 then
      need (((b.staged inst 7).drop 52).all (· == 0) && (b.unwrap inst 52 key session seq).isSome) .paramRange
    else .ok
  else .ok

/-- ZEROISE: every host, group and stream key is erased, and a cold reset follows (R481). -/
def Block.zeroise (b : Block) : Block :=
  let b := { b with streamKeys := [] }.setSys { b.sys with host := [], group := [] }
  let b := b.firnSet K.SEC_HOST_KEYS 0
  let b := (List.range 4).foldl (fun b g => b.firnSet (ki K.SEC_GROUP_STATE (0x20 + g)) 0) b
  let b := (List.range 8).foldl (fun b s => b.firnSet (ki K.SEC_STREAM_STATE (0x30 + s)) 0) b
  b.resetBegin 1 5

/-- A SEC write is performed. -/
def Block.secWrote (b : Block) (inst item v session seq : Nat) : Block :=
  let key := mkKey bSEC inst item
  if inst = 0 then
    if item = 0x12 then
      let fuse := b.val K.SEC_FUSE_STATE
      let fuse := if bit v 0 then setBits fuse 5 0 (max (bits fuse 5 0) (b.f K.SEC_IMAGE 0 5 0)) else fuse
      let fuse := setBits fuse 9 6 (bits fuse 9 6 ||| bits v 4 1)
      b.firnSet K.SEC_FUSE_STATE fuse
    else if item = 0x13 ∧ bit v 0 then b.zeroise
    else b
  else if v % 4 = 0 then b
  else if inst < 0x20 ∧ item = 0x20 then
    let i := inst - 0x10
    let b :=
      if bit v 0 then
        ((b.setSys { b.sys with host := tset b.sys.host i (beNat ((b.staged inst 13).take 97)) }).firnSet K.SEC_HOST_KEYS
          (setBits (b.val K.SEC_HOST_KEYS) i i 1)).keyEvent 0 i 0 session
      else if bit v 1 ∧ bit (b.val K.SEC_HOST_KEYS) i then
        ((b.setSys { b.sys with host := tdel b.sys.host i }).firnSet K.SEC_HOST_KEYS (setBits (b.val K.SEC_HOST_KEYS) i i 0)).keyEvent 0 i 1
          session
      else b
    b.unstage inst 13
  else if 0x20 ≤ inst ∧ inst < 0x30 ∧ item = 0x21 then
    let g := inst - 0x20
    let gone (b : Block) : Block := match tfind b.sys.group g with
      | some (id, _, _) => { b with sessions := b.sessions.filter (fun s => s.id != id) }
      | none => b
    let b :=
      if bit v 0 then
        match b.unwrap inst 80 key session seq with
        | none => b
        | some keys =>
          let id := b.val (ki K.SEC_GROUP_ID inst)
          let b := ((gone b).groupSession id (keys.take 32) ((keys.drop 32).take 32))
          ((b.setSys { b.sys with group := tset b.sys.group g (id, keys.take 32, (keys.drop 32).take 32) }).firnSet
            (ki K.SEC_GROUP_STATE inst) 1).keyEvent 1 g 0 session
      else if bit v 1 ∧ (tfind b.sys.group g).isSome then
        let b := gone b
        ((b.setSys { b.sys with group := tdel b.sys.group g }).firnSet (ki K.SEC_GROUP_STATE inst) 0).keyEvent 1 g 1 session
      else b
    b.unstage inst 10
  else if 0x30 ≤ inst ∧ item = 0x20 then
    let s := inst - 0x30
    let b :=
      if bit v 0 then
        match b.unwrap inst 52 key session seq with
        | none => b
        | some key =>
          ({ b with streamKeys := tset b.streamKeys s (beNat (key.take 32), beNat ((key.drop 32).take 4)) }.firnSet
            (ki K.SEC_STREAM_STATE inst) 1).keyEvent 2 s 0 session
      else if bit v 1 ∧ (tfind b.streamKeys s).isSome then
        ({ b with streamKeys := tdel b.streamKeys s }.firnSet (ki K.SEC_STREAM_STATE inst) 0).keyEvent 2 s 1 session
      else b
    b.unstage inst 7
  else b

/-! ## JTAG (R478) -/

/-- HALT_CAUSE as the instruction shifts it out. -/
def Block.haltWord (b : Block) : Nat := (if b.dev = .halt then b.sys.halt else 0) + b.stateWord % 8 * 256
/-- An instruction other than EXTEST releases the boundary register's pins. -/
def Block.jtagShift (b : Block) (v len : Nat) : Block := (b.setSys { b.sys with extest := false }).send (.tdo v len)

/-- SAMPLE/PRELOAD: the pins are captured and shifted out, and `tdi` is preloaded. -/
def Block.jtagSample (b : Block) (pins tdi len : Nat) : Block :=
  (b.setSys { b.sys with boundary := tdi % 2 ^ len }).jtagShift (pins % 2 ^ len) len
/-- EXTEST: the boundary register drives the pins; the pins are captured and shifted out, and `tdi` becomes what it drives. -/
def Block.jtagExtest (b : Block) (pins tdi len : Nat) : Block :=
  (b.setSys { b.sys with boundary := tdi % 2 ^ len, extest := true }).send (.tdo (pins % 2 ^ len) len)
/-- BYPASS: one bit of delay. -/
def Block.jtagBypass (b : Block) (tdi len : Nat) : Block := b.jtagShift (tdi * 2 % 2 ^ len) len

end Sys2Proof.Machine
end

