-- ==== Sys2Proof/Machine/Thm.lean ====
section
/-! DEFINITION. Temperatures, thermal shutdown, the adaptive core voltage and its PMBus master (R490, R495 to R499, R504). -/
namespace Sys2Proof.Machine

def bTHM : Nat := 0x18

/-! ## Temperatures (R498, R499) -/

/-- A reading of the sixteen die sensors, in 1/16 °C: two in a row above TSHUT enter HALT. -/
def Block.dieReading (b : Block) (temps : List Int) : Block :=
  match temps with
  | [] => b
  | t :: rest =>
    let top := rest.foldl max t
    let b := b.pf K.THM_DIE_TEMP 0 15 0 (uns 16 top)
    let b := if sgn 16 (b.f K.THM_DIE_MAX 0 15 0) < top then b.pf K.THM_DIE_MAX 0 15 0 (uns 16 top) else b
    let hot := decide (sgn 16 (b.f K.THM_TSHUT 0 15 0) < top)
    if hot && b.sys.hot then b.enterHalt 5 else b.setSys { b.sys with hot := hot }
/-- A stack's reading: the regions of R238, and two in a row above 105 °C enter HALT. -/
def Block.stackRead (b : Block) (s : Nat) (t : Int) : Block :=
  let b := b.stackReading s t
  let hot := decide (1680 < t)
  if hot && b.sys.stackHot.contains s then b.enterHalt 5
  else b.setSys { b.sys with stackHot := if hot then s :: b.sys.stackHot else b.sys.stackHot.filter (· != s) }
/-- PEAK_CLEAR performed. -/
def Block.peakClear (b : Block) : Block := b.pf K.THM_DIE_MAX 0 15 0 (b.f K.THM_DIE_TEMP 0 15 0)

/-! ## The adaptive core voltage (R496, R497) -/

/-- The target takes a value, and VOUT_COMMAND is sent in place of one that still waits. -/
def Block.avsCommand (b : Block) (mv : Nat) (front : Bool) : Block :=
  let b := b.setSys { b.sys with pmQueue := b.sys.pmQueue.filter (fun c => c.1 != pmVoutCommand) }
  (b.pf K.THM_AVS_STATE 0 11 2 mv).pmQueue front [(pmVoutCommand, mv)]

/-- Every 1,024 beats (R490, R496): `lowest` is the lowest voltage in mV that leaves the required margin, `dev` the frequencies of
DEVCLK_IN in Hz. -/
def Block.avsUpdate (b : Block) (lowest : Nat) (dev : List Nat) : Block :=
  let b := (List.range 4).foldl (fun b k => b.pv K.THM_DEVCLK (0x10 + k) (dev.getD k 0 % 2 ^ 32)) b
  if b.avsFault then b
  else
    let b := if b.avsMode = 0 then
        let want := max 720 (min 800 lowest)
        (b.avsShow).avsCommand (max want (b.avsTarget - 5)) false
      else b
    b.pmQueue false [(pmReadVout, 0), (pmReadIout, 0), (pmStatusWord, 0)]
/-- The margin falls below the requirement between updates. -/
def Block.avsRaise (b : Block) : Block :=
  if b.avsFault ∨ b.avsMode ≠ 0 then b else b.avsCommand (min 800 (b.avsTarget + 10)) true
/-- AVS_CFG comes into force. -/
def Block.avsConfigured (b : Block) : Block :=
  match b.avsMode with
  | 1 => b.avsShow.avsCommand (b.f K.THM_AVS_CFG 0 11 2) false
  | 2 => b.avsShow.avsCommand 800 false
  | _ => b.avsShow
/-- PMB_ALERT_N is asserted: the status is read and cleared before what waits, but for a voltage that leaves first. -/
def Block.pmAlert (b : Block) : Block :=
  let volts (c : Nat × Nat) : Bool := c.1 == pmVoutCommand
  let q := b.sys.pmQueue
  (b.setSys { b.sys with pmQueue := q.takeWhile volts ++ [(pmStatusWord, 0), (pmClearFaults, 0)] ++ q.dropWhile volts }).pmNext

/-- A transaction ends (R497). -/
def Block.pmEnd (b : Block) (r : PmbusEnd) : Block :=
  match b.sys.pmBus with
  | none => b
  | some (c, v) =>
    match r with
    | .failed =>
      let n := b.sys.pmFails + 1
      let b := (b.inc K.THM_AVS_ERR 0 1).setSys { b.sys with pmFails := n, pmAgain := b.sys.pmAgain || (c == pmVoutCommand && v == 800 && b.avsMode == 2) }
      if b.avsFault then b.setSys { b.sys with pmRetryAt := b.clock, pmBus := some (c, v) }
      else if 3 ≤ n then (b.setSys { b.sys with pmRetryAt := b.clock }).pf K.THM_AVS_STATE 0 1 0 3
      else (b.setSys { b.sys with pmBus := none }).pmNext
    | .ok w =>
      let b := match c with
        | 0x8B => b.pf K.THM_VCORE 0 11 0 w.toNat
        | 0x8C => b.pf K.THM_VCORE 0 27 12 w.toNat
        | 0x79 => b.pf K.THM_AVS_STATE 0 27 12 w.toNat
        | _ => b
      let was := b.avsFault
      let again := b.sys.pmAgain && c != pmVoutCommand
      let b := b.setSys { b.sys with pmBus := none, pmFails := 0, pmAgain := false }
      let b := if was then b.avsShow else b
      -- a write made in FAULT comes into force, and OFF's command that failed is sent again
      let b := match tfind b.waiting K.THM_AVS_CFG with
        | some n => if was then ({ b with waiting := tdel b.waiting K.THM_AVS_CFG }.setVal K.THM_AVS_CFG n.toNat).avsConfigured else b
        | none => if again ∧ b.avsMode = 2 then b.avsCommand 800 false else b
      b.pmNext
/-- In FAULT the last command is retried every 1 s. -/
def Block.pmRetry (b : Block) : Block :=
  match b.sys.pmBus with
  | some c =>
    if b.avsFault ∧ b.sys.pmRetryAt + secCycles ≤ b.clock then (b.setSys { b.sys with pmRetryAt := b.clock }).pmSend c else b
  | none => b

/-- Step 9. -/
def Block.thmValue (_ : Block) (item v : Nat) : Status :=
  if item = 0x11 then need (bits v 1 0 != 3 && decide (720 ≤ bits v 11 2) && decide (bits v 11 2 ≤ 800)) .paramRange else .ok

end Sys2Proof.Machine
end

