-- ==== Sys2Proof/Machine/Reply.lean ====
section
/-! DEFINITION. The packets that Stenor sends: replies with their tag and their place in the reply cache (R35, R43, R337), packets back
over the Plait CTRL class (R44), and the replies that wait for service answers (R314). -/
namespace Sys2Proof.Machine

/-- The bytes of a packet before its tag (R35). -/
def BcpMsg.bytes (m : BcpMsg) : List Byte :=
  [0x42, 0x43, 0x50, 3] ++ beBytes 2 m.flags ++ beBytes 2 m.opcode ++ beBytes 4 m.session ++ beBytes 4 m.seq ++
    beBytes 4 m.payload.length ++ beBytes 2 m.status ++ zeros 2 ++ beBytes 8 m.target ++ m.payload

/-- A packet with the tag of a key. -/
def BcpMsg.signed (m : BcpMsg) (key : List Byte) : BcpMsg := { m with tag := tagOf key m.bytes }

/-- The arrival port that stands for packets over the Plait CTRL class (R461): 17 and the Plait port. -/
def ctrlPort (p : Nat) : Nat := 17 + p

/-- A packet leaves a port toward an address: a network interface whose link is up, or the Plait port that its request came over. One that
falls due on a link that is down is not sent (R337). -/
def Block.sendMsg (b : Block) (port addr dport : Nat) (m : BcpMsg) : Block :=
  if 17 ≤ port then
    if b.portState (port - 17) = 3 then b.send (.ctrl (port - 17) (m.bytes ++ m.tag) addr dport) else b
  else if b.netUsable port then (b.inc K.NET_TX_FRAMES port 1).send (.bcp port addr dport m)
  else b

/-- Bit 31 of a group session's identifier (R45). -/
def isGroup (id : Nat) : Bool := decide (2 ^ 31 ≤ id)

def Block.session (b : Block) (id : Nat) : Option Session := b.sessions.find? (fun s => s.id == id)

/-- The reply to a request that has passed step 6 (R37): tagged with the session's reply key, kept in the reply cache, and sent unless
NO_REPLY withholds it (R507). -/
def Block.reply (b : Block) (rto : ReplyTo) (status target : Nat) (payload : List Byte) : Block :=
  match b.session rto.session with
  | none => b
  | some s =>
    let m := ({ flags := 1, opcode := rto.opcode, session := rto.session, seq := rto.seq, status := status, target := target,
                payload := payload, tag := [] } : BcpMsg).signed s.e2h
    let b := b.setSession { s with cache := s.cache.map (fun e => if e.1 = rto.seq then (e.1, some m) else e) }
    if rto.noReply then b else b.sendMsg rto.port rto.addr rto.dport m

/-- A reply made before step 6: its tag is all zero. -/
def Block.replyBare (b : Block) (port addr dport opcode session seq status target : Nat) (payload : List Byte) : Block :=
  b.sendMsg port addr dport ⟨1, opcode, session, seq, status, target, payload, zeros 16⟩

/-- A record of a reply (R46). -/
def recordBytes (key status : Nat) (value : List Byte) : List Byte :=
  beBytes 4 key ++ beBytes 2 value.length ++ beBytes 2 status ++ value

/-- The packet STATUS of records (R57, R508). -/
def packetStatus (l : List Nat) : Nat :=
  if l.all (fun s => s == 0) then 0 else if l.all (fun s => s == 0 || s == 1) then 1 else 2

/-- The reply to a core's request block: over the block from word 4, and to REQ_STAT (R313). -/
def Block.coreReply (b : Block) (c status : Nat) (payload : List Byte) : Block :=
  let x := b.core c
  let b := b.setCore c { x with reqBusy := false, reqStatus := status }
  (List.range (ceilDiv payload.length 6)).foldl (fun b k =>
    b.stWord48 c 0 ((x.reqAddr + 4 + k) % 16384) (beNat (fixLen 6 ((payload.drop (6 * k)).take 6)))) b

/-- This engine tells the group the outcome of a group session's request (R462), and then replies. -/
def Block.groupReply (b : Block) (rto : ReplyTo) (field status target : Nat) (payload : List Byte) : Block :=
  (if isGroup rto.session then b.gathered rto.seq field status else b).reply rto status target payload

/-- A held reply leaves once every service record in it is answered: to its session, or, for a core's request block, over the block
(R313, R314). -/
def Block.heldDone (b : Block) (h : HeldReply) : Block :=
  if !h.waiting.isEmpty then { b with heldReplies := b.heldReplies.map (fun x => if x.id = h.id then h else x) }
  else
    let status := packetStatus (h.recs.map (fun r => r.2.1))
    let payload := (h.recs.map (fun r => recordBytes r.1 r.2.1 r.2.2)).flatten
    let b := { b with heldReplies := b.heldReplies.filter (fun x => x.id != h.id) }
    match h.core with
    | none => b.groupReply h.rto 0 status h.target payload
    | some c => b.coreReply c status payload

/-- A place of a held reply is filled with a status and value bytes. -/
def Block.heldFill (b : Block) (id place status : Nat) (value : List Byte) : Block :=
  match b.heldReplies.find? (fun h => h.id == id) with
  | none => b
  | some h =>
    b.heldDone { h with recs := h.recs.mapIdx (fun k r => if k = place then (r.1, status, value) else r),
                        waiting := h.waiting.erase place }

end Sys2Proof.Machine
end

