-- ==== Sys2Proof/Machine/Flags.lean ====
section
/-! DEFINITION. The condition codes and the saturation rules of a Weaver core (R293 to R296, R325 to R327). -/
namespace Sys2Proof.Machine

/-- Bits of CC (R325). -/
def ccZ : Nat := 1
def ccN : Nat := 2
def ccV : Nat := 4
def ccC : Nat := 8
def ccL : Nat := 16

/-- Whether a condition code holds of CC (R326); codes 13 to 15 are illegal and never tested. -/
def condHolds (cond cc : Nat) : Bool :=
  let z := bit cc 0; let n := bit cc 1; let v := bit cc 2; let c := bit cc 3; let l := bit cc 4
  match cond with
  | 0 => true | 1 => z | 2 => !z | 3 => n | 4 => !n | 5 => !n && !z | 6 => n || z
  | 7 => v | 8 => !v | 9 => c | 10 => !c | 11 => l | 12 => !l
  | _ => false

/-- What an operation sets in CC: the bits it names and their values (R327). -/
structure CcOut where
  mask : Nat
  val : Nat
deriving DecidableEq, Repr

/-- A result fitted to `w` bits under the saturation bit S (R294): its bits, and whether it overflowed. -/
def fit (w : Nat) (s : Bool) (v : Int) : Nat × Bool :=
  let ovf := decide (satS w v ≠ v)
  (if s then uns w (satS w v) else uns w v, ovf)

/-- The component at `k` of a word of `n` components of `w` bits, the highest first. -/
def comp (w n k v : Nat) : Int := sgn w (v / 2 ^ (w * (n - 1 - k)))

/-- A word of two `w`-bit components, the first in the upper half. -/
def pair (w hi lo : Nat) : Nat := hi * 2 ^ w + lo

/-- Apply a signed operation to a whole `w`-bit word, or to each half in complex mode, and fit the result under S: the
result's bits and whether any part overflowed. -/
def lanes1 (w : Nat) (cplx s : Bool) (f : Int → Int) (x : Nat) : Nat × Bool :=
  if cplx then
    let a := fit (w / 2) s (f (comp (w / 2) 2 0 x)); let b := fit (w / 2) s (f (comp (w / 2) 2 1 x))
    (pair (w / 2) a.1 b.1, a.2 || b.2)
  else fit w s (f (sgn w x))

/-- As `lanes1`, of two operands. -/
def lanes2 (w : Nat) (cplx s : Bool) (f : Int → Int → Int) (x y : Nat) : Nat × Bool :=
  if cplx then
    let a := fit (w / 2) s (f (comp (w / 2) 2 0 x) (comp (w / 2) 2 0 y))
    let b := fit (w / 2) s (f (comp (w / 2) 2 1 x) (comp (w / 2) 2 1 y))
    (pair (w / 2) a.1 b.1, a.2 || b.2)
  else fit w s (f (sgn w x) (sgn w y))

/-- Z and N of a `w`-bit result: Z when the whole is zero; N the sign of the whole word or of the real part, which both lie
in its top bit (R327). -/
def znOf (w v : Nat) : Nat := b2n (v == 0) * ccZ + b2n (bit v (w - 1)) * ccN

/-- Z, N, V and L of a `w`-bit result (R294, R327). -/
def znvl (w : Nat) (s : Bool) (r : Nat × Bool) : CcOut :=
  ⟨ccZ + ccN + ccV + ccL, znOf w r.1 + b2n (r.2 && !s) * ccV + b2n (r.2 && s) * ccL⟩

/-- Z and N only. -/
def znOnly (w v : Nat) : CcOut := ⟨ccZ + ccN, znOf w v⟩

/-- The SR bits an overflow sets, sticky: SAT with S = 1, OVF with S = 0 (R294, R295). -/
def stickyOf (s ovf : Bool) : Nat := if ovf then (if s then 128 else 256) else 0

/-- The leading-sign count of a `w`-bit word (R296): the bits below the sign bit that equal it. -/
def lscAux (w : Nat) (sign : Bool) (v : Nat) : Nat → Nat
  | 0 => 0
  | n + 1 => if bit v n == sign then 1 + lscAux w sign v n else 0

/-- The leading-sign count of a `w`-bit word (R296). -/
def lsc (w v : Nat) : Nat := lscAux w (bit v (w - 1)) v (w - 1)

/-- The leading-sign count in the mode in force: in complex mode the smaller of the two components' (R296). -/
def lscMode (cplx : Bool) (v : Nat) : Nat :=
  if cplx then min (lsc 24 (v / 2 ^ 24 % 2 ^ 24)) (lsc 24 (v % 2 ^ 24)) else lsc 48 v

/-- The bits of an accumulator that a store, MVA or MVAR takes (R293), not yet fitted: real [94:47], or [46:23] of each
half; `rnd` rounds convergently at the bit below. -/
def accTake (rnd : Bool) (sh : Nat) (x : Int) : Int := if rnd then rndEven x (2 ^ sh) else x.fdiv ((2 ^ sh : Nat) : Int)

/-- A 48-bit word from an accumulator in the mode in force (R293), fitted under S. -/
def accStore (cplx rnd s : Bool) (a : Nat) : Nat × Bool :=
  if cplx then
    let x := fit 24 s (accTake rnd 23 (comp 52 2 0 a)); let y := fit 24 s (accTake rnd 23 (comp 52 2 1 a))
    (pair 24 x.1 y.1, x.2 || y.2)
  else fit 48 s (accTake rnd 47 (sgn 104 a))

end Sys2Proof.Machine
end

