-- ==== Sys2Proof/Machine/Operands.lean ====
section
/-! DEFINITION. The operand forms of a Weaver instruction word (R319 to R326): its fields, its operation, the registers as
they are visible at issue (R297), its two moves (R321, R322), and which words are illegal encodings (R319). -/
namespace Sys2Proof.Machine

/-- The operations of the instruction set, one for each row of R328 to R331. -/
inductive WOp where
  | nop | add | sub | neg | abs | max | min | sel | cmp | tst | and | or | xor | not | asr | lsr | asl | ash | mov | conj
  | swap | unpk | vmax | iadd | isub | bexp | exp | norm | bxr | mva | mvar
  | mpy | mac | msu | mpyj | macj | mag2 | clr | adda | lda | asra | asla | nega | rnd | cmpa
  | mvfs | mvts | ldi | ldis | iaddi | andi | ori | xori | cmpi | addp
  | br | call | jmp | rti | loop | loopd | rep | repd | waitb | crd | cwr
deriving DecidableEq, Repr

/-- The operation of a PAR opcode (R328 to R330). -/
def parOp : Nat → Option WOp
  | 0x00 => some .nop | 0x01 => some .add | 0x02 => some .sub | 0x03 => some .neg | 0x04 => some .abs | 0x05 => some .max
  | 0x06 => some .min | 0x07 => some .sel | 0x08 => some .cmp | 0x09 => some .tst | 0x0A => some .and | 0x0B => some .or
  | 0x0C => some .xor | 0x0D => some .not | 0x0E => some .asr | 0x0F => some .lsr | 0x10 => some .asl | 0x11 => some .ash
  | 0x12 => some .mov | 0x13 => some .conj | 0x14 => some .swap | 0x15 => some .unpk | 0x16 => some .vmax
  | 0x17 => some .iadd | 0x18 => some .isub | 0x19 => some .bexp | 0x1A => some .exp | 0x1B => some .norm
  | 0x1C => some .bxr | 0x1D => some .mva | 0x1E => some .mvar | 0x20 => some .mpy | 0x21 => some .mac | 0x22 => some .msu
  | 0x23 => some .mpyj | 0x24 => some .macj | 0x25 => some .mag2 | 0x26 => some .clr | 0x27 => some .adda
  | 0x28 => some .lda | 0x29 => some .asra | 0x2A => some .asla | 0x2B => some .nega | 0x2C => some .rnd
  | 0x2D => some .cmpa | 0x30 => some .mvfs | 0x31 => some .mvts
  | _ => none

/-- The operation of an IMM opcode (R330). -/
def immOp : Nat → Option WOp
  | 0x01 => some .ldi | 0x02 => some .ldis | 0x03 => some .iaddi | 0x04 => some .andi | 0x05 => some .ori
  | 0x06 => some .xori | 0x07 => some .cmpi | 0x08 => some .addp
  | _ => none

/-- The operation of a CTL opcode (R331). -/
def ctlOp : Nat → Option WOp
  | 0x01 => some .br | 0x02 => some .call | 0x03 => some .jmp | 0x04 => some .rti | 0x05 => some .loop | 0x06 => some .loopd
  | 0x07 => some .rep | 0x08 => some .repd | 0x09 => some .waitb | 0x0A => some .crd | 0x0B => some .cwr
  | _ => none

/-- The operation of a word, by its format and opcode (R319). -/
def wordOp (w : Nat) : Option WOp :=
  match bits w 63 62 with
  | 0 => parOp (bits w 61 56)
  | 1 => immOp (bits w 61 56)
  | 2 => ctlOp (bits w 61 56)
  | _ => none

/-- Whether a word is a control word (R324). -/
def isCtl (w : Nat) : Bool := bits w 63 62 == 2

/-- How an operation uses a register field of R320. -/
inductive RegUse where
  | none | d | a
deriving DecidableEq, Repr

/-- How an operation uses field X of R320. -/
inductive XUse where
  /-- Unused: must be 0. -/
  | none
  /-- A shift count: at most 47, or 23 in complex mode. -/
  | shiftC
  /-- A shift count of at most 47. -/
  | shift48
  /-- A condition in [3:0]. -/
  | cond
  /-- A position 0 to 2 in [1:0]. -/
  | third
  /-- A position 0 to 3 in [1:0]. -/
  | quarter
  /-- NORM's count source. -/
  | norm
  /-- A shift count 0 to 63 in [5:0]. -/
  | shift64
  /-- A special-register code in [4:0] (R325). -/
  | sreg
deriving DecidableEq, Repr

/-- The fields a PAR operation uses: R1, R2, R3, X, and whether its row shows S. -/
def parForm : WOp → RegUse × RegUse × RegUse × XUse × Bool
  | .nop => (.none, .none, .none, .none, false)
  | .add | .sub | .iadd | .isub => (.d, .d, .d, .none, true)
  | .neg | .abs | .conj => (.d, .d, .none, .none, true)
  | .max | .min | .and | .or | .xor => (.d, .d, .d, .none, false)
  | .sel => (.d, .d, .d, .cond, false)
  | .cmp => (.none, .d, .d, .none, false)
  | .tst | .bexp => (.none, .d, .none, .none, false)
  | .not | .mov | .swap | .exp => (.d, .d, .none, .none, false)
  | .asr => (.d, .d, .none, .shiftC, false)
  | .lsr => (.d, .d, .none, .shift48, false)
  | .asl => (.d, .d, .none, .shiftC, true)
  | .ash => (.d, .d, .d, .none, true)
  | .unpk => (.d, .d, .none, .third, false)
  | .vmax => (.d, .d, .d, .quarter, false)
  | .norm => (.d, .d, .d, .norm, true)
  | .bxr => (.none, .none, .none, .none, false)
  | .mva | .mvar => (.d, .a, .none, .none, true)
  | .mpy | .mac | .msu | .mpyj | .macj => (.a, .d, .d, .none, true)
  | .mag2 => (.a, .d, .none, .none, true)
  | .clr => (.a, .none, .none, .none, false)
  | .adda => (.a, .a, .none, .none, true)
  | .lda => (.a, .d, .none, .none, false)
  | .asra => (.a, .none, .none, .shift64, false)
  | .asla => (.a, .none, .none, .shift64, true)
  | .nega | .rnd => (.a, .none, .none, .none, true)
  | .cmpa => (.a, .a, .none, .none, false)
  | .mvfs => (.d, .none, .none, .sreg, false)
  | .mvts => (.none, .d, .none, .sreg, false)
  | _ => (.none, .none, .none, .none, false)

/-- Whether a register field is legal for its use: unused must be 0, an accumulator lies in its low two bits. -/
def regFieldOk (u : RegUse) (v : Nat) : Bool :=
  match u with
  | .none => v == 0
  | .d => true
  | .a => decide (v < 4)

/-- Whether field X is legal for its use (R320, R328, R330). -/
def xFieldOk (u : XUse) (cplx : Bool) (x : Nat) : Bool :=
  match u with
  | .none => x == 0
  | .shiftC => decide (x ≤ if cplx then 23 else 47)
  | .shift48 => decide (x ≤ 47)
  | .cond => decide (x ≤ 12)
  | .third => decide (x ≤ 2)
  | .quarter => decide (x ≤ 3)
  | .norm => bit x 6 || x == 0
  | .shift64 => decide (x ≤ 63)
  | .sreg => decide (x ≤ 0x17)

/-- One data move of a PAR word (R321). -/
structure Move where
  kind : Nat
  bank : Nat
  p : Nat
  mod : Nat
  m : Nat
  acc : Bool
  rnd : Bool
  reg : Nat
deriving DecidableEq, Repr

/-- The move in an 18-bit field (R321). -/
def moveOf (f : Nat) : Move :=
  ⟨bits f 17 16, bits f 15 15, bits f 14 12, bits f 11 10, bits f 9 7, bit f 6, bit f 5, bits f 4 1⟩

/-- The two moves of a PAR word. -/
def move0 (w : Nat) : Move := moveOf (bits w 35 18)
def move1 (w : Nat) : Move := moveOf (bits w 17 0)

/-- Whether a move field is legal on its own (R321). -/
def moveOk (f : Nat) : Bool :=
  let v := moveOf f
  bits f 0 0 == 0 &&
  (match v.kind with
   | 0 => v.bank == 0 && !v.acc && !v.rnd && v.reg == 0 && (v.mod != 0 || v.p == 0)
   | 1 => !v.acc && !v.rnd
   | 2 => if v.acc then decide (v.reg < 4) else !v.rnd
   | _ => false) &&
  (v.mod == 3 || v.m == 0)

/-- Whether the two moves of a word go together (R322): two accesses to one bank, and two modifications of one pointer, are
illegal. -/
def movesOk (a b : Move) : Bool :=
  !(a.kind != 0 && b.kind != 0 && a.bank == b.bank) && !(a.mod != 0 && b.mod != 0 && a.p == b.p)

/-- Whether a PAR word is legal (R319 to R322, R327, R328). -/
def parLegal (cplx : Bool) (w : Nat) : Bool :=
  match parOp (bits w 61 56) with
  | none => false
  | some op =>
    let (u1, u2, u3, ux, s) := parForm op
    (s || !bit w 55) && regFieldOk u1 (bits w 54 51) && regFieldOk u2 (bits w 50 47) && regFieldOk u3 (bits w 46 43) &&
    xFieldOk ux cplx (bits w 42 36) &&
    !((op == .norm || op == .vmax) && bits w 54 51 == bits w 46 43) &&
    moveOk (bits w 35 18) && moveOk (bits w 17 0) && movesOk (move0 w) (move1 w)

/-- Whether an IMM word is legal (R323, R330). -/
def immLegal (w : Nat) : Bool :=
  match immOp (bits w 61 56) with
  | none => false
  | some op =>
    bits w 49 48 == 0 && (!bit w 55 || op == .iaddi) &&
    (match op with
     | .ldis => decide (bits w 54 50 ≤ 0x17)
     | .addp => decide (bits w 54 50 ≤ 0x0F)
     | _ => decide (bits w 54 50 ≤ 15))

/-- Whether a CTL word at `addr` is legal by its own fields (R324, R331). -/
def ctlLegal (addr w : Nat) : Bool :=
  let cond := bits w 55 52; let t := bits w 51 38; let b := bits w 37 24; let n := bits w 23 8
  let p := bits w 7 5; let d := bits w 4 1
  !bit w 0 &&
  (match ctlOp (bits w 61 56) with
   | some .br => decide (cond ≤ 12) && b == 0 && n == 0 && p == 0 && d == 0
   | some .call => decide (cond ≤ 12) && b == 0 && n == 0 && d == 0
   | some .jmp => decide (cond ≤ 12) && t == 0 && b == 0 && n == 0 && d == 0
   | some .rti | some .waitb => cond == 0 && t == 0 && b == 0 && n == 0 && p == 0 && d == 0
   | some .loop => cond == 0 && p == 0 && d == 0 && decide (addr + 3 ≤ t) && decide (addr < b) && decide (b ≤ t)
   | some .loopd => cond == 0 && n == 0 && p == 0 && decide (addr + 3 ≤ t) && decide (addr < b) && decide (b ≤ t)
   | some .rep => cond == 0 && t == 0 && b == 0 && p == 0 && d == 0 && n != 0
   | some .repd => cond == 0 && t == 0 && b == 0 && n == 0 && p == 0
   | some .crd | some .cwr => cond == 0 && decide (t < 64) && b == 0 && n == 0 && p == 0
   | _ => false)

/-- Whether complex arithmetic mode is in force (R295). -/
def Core.cplx (c : Core) : Bool := bit c.sr.toNat 6

/-- Register reads, as visible at issue (R297). -/
def Core.dreg (c : Core) (i : Nat) : Nat := (tget 0 c.d i).toNat
def Core.areg (c : Core) (i : Nat) : Nat := (tget 0 c.a i).toNat
def Core.preg (c : Core) (i : Nat) : Nat := (tget 0 c.p i).toNat
def Core.mreg (c : Core) (i : Nat) : Nat := (tget 0 c.m i).toNat

/-- An accumulator as the accumulate input of an operation that reads and writes it: the newest result, though it is still
in flight (R297, R329). -/
def Core.chain (c : Core) (i : Nat) : Nat :=
  (c.flight.filter (fun f => f.reg == .a i)).foldl (fun _ f => f.val) (c.areg i)

/-- A special register by its code (R325). -/
def Core.sreg (c : Core) (code : Nat) : Nat :=
  if code < 8 then c.preg code else if code < 16 then c.mreg (code - 8)
  else match code with
    | 0x10 => c.lc.toNat | 0x11 => c.lb.toNat | 0x12 => c.le.toNat | 0x13 => c.sr.toNat | 0x14 => c.bx.toNat
    | 0x15 => c.cc.toNat | 0x16 => c.ira.toNat | 0x17 => c.isr.toNat | _ => 0

/-- The results of writing a special register by its code, `wait` words later (R297, R325): LC, LB and LE also reach the
copies that loop ends use, one word later (R298); CC is written whole. -/
def sregResults (code v wait : Nat) : List Flight :=
  if code < 8 then [⟨.p code, v % 2 ^ 16, wait⟩]
  else if code < 16 then [⟨.m (code - 8), v % 2 ^ 16, wait⟩]
  else match code with
    | 0x10 => [⟨.lc, v % 2 ^ 16, wait⟩, ⟨.clc, v % 2 ^ 16, wait + 1⟩]
    | 0x11 => [⟨.lb, v % 2 ^ 14, wait⟩, ⟨.clb, v % 2 ^ 14, wait + 1⟩]
    | 0x12 => [⟨.le, v % 2 ^ 14, wait⟩, ⟨.cle, v % 2 ^ 14, wait + 1⟩]
    | 0x13 => [⟨.sr, v % 2 ^ 9, wait⟩]
    | 0x14 => [⟨.bx, v % 2 ^ 6, wait⟩]
    | 0x15 => [⟨.cc, 31 * 32 + v % 32, wait⟩]
    | 0x16 => [⟨.ira, v % 2 ^ 14, wait⟩]
    | 0x17 => [⟨.isr, v % 2 ^ 16, wait⟩]
    | _ => []

/-- A result lands in its register. A write to SR leaves BH unchanged (R325). -/
def Core.land (c : Core) (f : Flight) : Core :=
  match f.reg with
  | .d i => { c with d := tset c.d i (BitVec.ofNat 48 f.val) }
  | .a i => { c with a := tset c.a i (BitVec.ofNat 104 f.val) }
  | .p i => { c with p := tset c.p i (BitVec.ofNat 16 f.val) }
  | .m i => { c with m := tset c.m i (BitVec.ofNat 16 f.val) }
  | .lc => { c with lc := BitVec.ofNat 16 f.val }
  | .lb => { c with lb := BitVec.ofNat 14 f.val }
  | .le => { c with le := BitVec.ofNat 14 f.val }
  | .clc => { c with clc := BitVec.ofNat 16 f.val }
  | .clb => { c with clb := BitVec.ofNat 14 f.val }
  | .cle => { c with cle := BitVec.ofNat 14 f.val }
  | .sr => { c with sr := BitVec.ofNat 16 (setBits f.val 5 5 (bits c.sr.toNat 5 5)) }
  | .bx => { c with bx := BitVec.ofNat 6 f.val }
  | .ira => { c with ira := BitVec.ofNat 14 f.val }
  | .isr => { c with isr := BitVec.ofNat 16 f.val }
  | .cc => { c with cc := BitVec.ofNat 5 (Nat.lor (Nat.land c.cc.toNat (31 - f.val / 32)) (Nat.land (f.val / 32) (f.val % 32))) }
  | .srSet => { c with sr := BitVec.ofNat 16 (Nat.lor c.sr.toNat f.val) }
  | .cw i => { c with cw := tset c.cw i f.val }

/-- Every result in flight lands (R301, R304, R315). -/
def Core.landAll (c : Core) : Core := { c.flight.foldl Core.land c with flight := [] }

/-- One core cycle passes after a word that adds `new` results: those whose wait ends land, in order of issue (R297). -/
def Core.advance (c : Core) (new : List Flight) : Core :=
  let fl := (c.flight ++ new).map (fun f => { f with wait := f.wait - 1 })
  let done := fl.filter (fun f => f.wait == 0)
  { done.foldl Core.land c with flight := fl.filter (fun f => f.wait != 0) }

end Sys2Proof.Machine
end

