-- ==== Sys2Proof/Machine/Weaver.lean ====
section
/-! DEFINITION. What each Weaver operation computes (R327 to R331), as the results it puts in flight, and the issue of one
instruction word by a core (R297, R298, R319, R322, R332, R333). -/
namespace Sys2Proof.Machine

/-- Field R1, R2, R3 and X of a PAR word, and its S bit (R320). -/
def fR1 (w : Nat) : Nat := bits w 54 51
def fR2 (w : Nat) : Nat := bits w 50 47
def fR3 (w : Nat) : Nat := bits w 46 43
def fX (w : Nat) : Nat := bits w 42 36
def fS (w : Nat) : Bool := bit w 55
/-- The two source operands of a PAR word. -/
def s1 (c : Core) (w : Nat) : Nat := c.dreg (fR2 w)
def s2 (c : Core) (w : Nat) : Nat := c.dreg (fR3 w)

/-- A CC result, visible `wait` words later. -/
def ccRes (o : CcOut) (wait : Nat) : Flight := ⟨.cc, o.mask * 32 + o.val, wait⟩
/-- The sticky SR bits of an overflow, with the latency of the result's CC. -/
def stickyRes (s ovf : Bool) (wait : Nat) : List Flight :=
  if ovf then [⟨.srSet, stickyOf s ovf, wait⟩] else []
/-- A D result under S with its Z, N, V and L, 1 word later (R297, R328). -/
def dRes (w : Nat) (r : Nat × Bool) : List Flight :=
  ⟨.d (fR1 w), r.1, 1⟩ :: ccRes (znvl 48 (fS w) r) 1 :: stickyRes (fS w) r.2 1
/-- A D result that sets Z and N only. -/
def dResZN (w v : Nat) : List Flight := [⟨.d (fR1 w), v, 1⟩, ccRes (znOnly 48 v) 1]
/-- An accumulator result under S, 3 words later (R329). -/
def aRes (w : Nat) (r : Nat × Bool) : List Flight :=
  ⟨.a (fR1 w), r.1, 3⟩ :: ccRes (znvl 104 (fS w) r) 3 :: stickyRes (fS w) r.2 3

/-! The data operations of R328. -/
def opNop (_ : Core) (_ : Nat) : List Flight := []
def opAdd (c : Core) (w : Nat) : List Flight := dRes w (lanes2 48 c.cplx (fS w) (· + ·) (s1 c w) (s2 c w))
def opSub (c : Core) (w : Nat) : List Flight := dRes w (lanes2 48 c.cplx (fS w) (· - ·) (s1 c w) (s2 c w))
def opNeg (c : Core) (w : Nat) : List Flight := dRes w (lanes1 48 c.cplx (fS w) (fun x => -x) (s1 c w))
def opAbs (c : Core) (w : Nat) : List Flight :=
  dRes w (lanes1 48 c.cplx (fS w) (fun x => (x.natAbs : Int)) (s1 c w))
/-- Signed MAX: C = (s2 > s1). -/
def opMax (c : Core) (w : Nat) : List Flight :=
  let t := decide (sgn 48 (s2 c w) > sgn 48 (s1 c w)); let v := if t then s2 c w else s1 c w
  [⟨.d (fR1 w), v, 1⟩, ccRes ⟨ccZ + ccN + ccC, znOf 48 v + b2n t * ccC⟩ 1]
/-- Signed MIN: C = (s2 < s1). -/
def opMin (c : Core) (w : Nat) : List Flight :=
  let t := decide (sgn 48 (s2 c w) < sgn 48 (s1 c w)); let v := if t then s2 c w else s1 c w
  [⟨.d (fR1 w), v, 1⟩, ccRes ⟨ccZ + ccN + ccC, znOf 48 v + b2n t * ccC⟩ 1]
def opSel (c : Core) (w : Nat) : List Flight :=
  [⟨.d (fR1 w), if condHolds (bits w 39 36) c.cc.toNat then s1 c w else s2 c w, 1⟩]
/-- The flags of an exact comparison x − y (CMP, CMPI): C is the unsigned borrow; V = L = 0. -/
def cmpFlags (x y : Nat) : CcOut :=
  ⟨31, b2n (x == y) * ccZ + b2n (decide (sgn 48 x < sgn 48 y)) * ccN + b2n (decide (x < y)) * ccC⟩
def opCmp (c : Core) (w : Nat) : List Flight := [ccRes (cmpFlags (s1 c w) (s2 c w)) 1]
def opTst (c : Core) (w : Nat) : List Flight := [ccRes ⟨31, znOf 48 (s1 c w)⟩ 1]
def opAnd (c : Core) (w : Nat) : List Flight := dResZN w (Nat.land (s1 c w) (s2 c w))
def opOr (c : Core) (w : Nat) : List Flight := dResZN w (Nat.lor (s1 c w) (s2 c w))
def opXor (c : Core) (w : Nat) : List Flight := dResZN w (Nat.xor (s1 c w) (s2 c w))
def opNot (c : Core) (w : Nat) : List Flight := dResZN w (2 ^ 48 - 1 - s1 c w)
/-- C of a right shift by `k`: the last bit shifted out. A shift by 0 shifts none out, and a complex shift shifts one out of
each component: both are free values (log entry 10). -/
def shiftCarry (cplx : Bool) (x k : Nat) : Bool :=
  if k = 0 then Config.shiftByZeroCarry (BitVec.ofNat 48 x)
  else if cplx then Config.complexShiftCarry (BitVec.ofNat 48 x) k
  else bit x (k - 1)
def opAsr (c : Core) (w : Nat) : List Flight :=
  let k := bits w 41 36
  let v := (lanes1 48 c.cplx false (fun x => x.fdiv ((2 ^ k : Nat) : Int)) (s1 c w)).1
  [⟨.d (fR1 w), v, 1⟩, ccRes ⟨ccZ + ccN + ccC, znOf 48 v + b2n (shiftCarry c.cplx (s1 c w) k) * ccC⟩ 1]
def opLsr (c : Core) (w : Nat) : List Flight :=
  let k := bits w 41 36
  let v := s1 c w / 2 ^ k
  [⟨.d (fR1 w), v, 1⟩, ccRes ⟨ccZ + ccN + ccC, znOf 48 v + b2n (shiftCarry false (s1 c w) k) * ccC⟩ 1]
def opAsl (c : Core) (w : Nat) : List Flight :=
  dRes w (lanes1 48 c.cplx (fS w) (fun x => x * ((2 ^ bits w 41 36 : Nat) : Int)) (s1 c w))
/-- ASH: n = sext(s2[6:0]); a left shift by n, or a sign-filled right shift by −n. -/
def ashOf (n x : Int) : Int :=
  if 0 ≤ n then x * ((2 ^ n.toNat : Nat) : Int) else x.fdiv ((2 ^ (-n).toNat : Nat) : Int)
def opAsh (c : Core) (w : Nat) : List Flight :=
  dRes w (lanes1 48 c.cplx (fS w) (ashOf (sgn 7 (s2 c w))) (s1 c w))
def opMov (c : Core) (w : Nat) : List Flight := [⟨.d (fR1 w), s1 c w, 1⟩]
/-- CONJ: (I, −Q), always as a pair. -/
def opConj (c : Core) (w : Nat) : List Flight :=
  let q := fit 24 (fS w) (-(comp 24 2 1 (s1 c w)))
  dRes w (pair 24 (s1 c w / 2 ^ 24) q.1, q.2)
def opSwap (c : Core) (w : Nat) : List Flight := [⟨.d (fR1 w), pair 24 (s1 c w % 2 ^ 24) (s1 c w / 2 ^ 24), 1⟩]
def opUnpk (c : Core) (w : Nat) : List Flight :=
  let k := bits w 37 36
  dResZN w (uns 48 (sgn 16 (bits (s1 c w) (47 - 16 * k) (32 - 16 * k))))
/-- VMAX: the running maximum and its tag (lc << 2) | j; LC is read at issue. -/
def opVmax (c : Core) (w : Nat) : List Flight :=
  if sgn 48 (s1 c w) > sgn 48 (c.dreg (fR1 w)) then
    [⟨.d (fR1 w), s1 c w, 1⟩, ⟨.d (fR3 w), c.lc.toNat * 4 + bits w 37 36, 1⟩, ccRes ⟨ccC, ccC⟩ 1]
  else [ccRes ⟨ccC, 0⟩ 1]
/-- Integer addition: C is the carry out. -/
def iaddOf (s : Bool) (x y : Nat) : (Nat × Bool) × CcOut :=
  let r := fit 48 s (sgn 48 x + sgn 48 y); let z := znvl 48 s r
  (r, ⟨z.mask + ccC, z.val + b2n (decide (2 ^ 48 ≤ x + y)) * ccC⟩)
def opIadd (c : Core) (w : Nat) : List Flight :=
  let r := iaddOf (fS w) (s1 c w) (s2 c w)
  ⟨.d (fR1 w), r.1.1, 1⟩ :: ccRes r.2 1 :: stickyRes (fS w) r.1.2 1
/-- Integer subtraction: C is the borrow. -/
def opIsub (c : Core) (w : Nat) : List Flight :=
  let r := fit 48 (fS w) (sgn 48 (s1 c w) - sgn 48 (s2 c w)); let z := znvl 48 (fS w) r
  ⟨.d (fR1 w), r.1, 1⟩ :: ccRes ⟨z.mask + ccC, z.val + b2n (decide (s1 c w < s2 c w)) * ccC⟩ 1 :: stickyRes (fS w) r.2 1
def opBexp (c : Core) (w : Nat) : List Flight := [⟨.bx, min c.bx.toNat (lscMode c.cplx (s1 c w)), 1⟩]
def opExp (c : Core) (w : Nat) : List Flight := [⟨.d (fR1 w), lscMode c.cplx (s1 c w), 1⟩]
/-- NORM: a left shift by n, and de − n, in one cycle. -/
def opNorm (c : Core) (w : Nat) : List Flight :=
  let n := if bit w 42 then bits w 41 36 else c.bx.toNat
  dRes w (lanes1 48 c.cplx (fS w) (fun x => x * ((2 ^ n : Nat) : Int)) (s1 c w)) ++
    [⟨.d (fR3 w), uns 48 (sgn 48 (c.dreg (fR3 w)) - n), 1⟩]
def opBxr (_ : Core) (_ : Nat) : List Flight := [⟨.bx, 47, 1⟩]
def opMva (c : Core) (w : Nat) : List Flight := dRes w (accStore c.cplx false (fS w) (c.areg (bits w 48 47)))
def opMvar (c : Core) (w : Nat) : List Flight := dRes w (accStore c.cplx true (fS w) (c.areg (bits w 48 47)))

/-! The accumulator operations of R329. -/

/-- The exact product of two data words in the mode in force, as one signed value per half (real: one value); `conj` negates
the second operand's imaginary part. -/
def prodParts (cplx conj : Bool) (x y : Nat) : Int × Int :=
  if cplx then
    let i1 := comp 24 2 0 x; let q1 := comp 24 2 1 x; let i2 := comp 24 2 0 y
    let q2 := if conj then -(comp 24 2 1 y) else comp 24 2 1 y
    (i1 * i2 - q1 * q2, i1 * q2 + q1 * i2)
  else (0, sgn 48 x * sgn 48 y)
/-- An accumulator's parts: the two halves in complex mode, else the whole. -/
def accParts (cplx : Bool) (a : Nat) : Int × Int :=
  if cplx then (comp 52 2 0 a, comp 52 2 1 a) else (0, sgn 104 a)
/-- An accumulator word from its parts, fitted under S. -/
def accJoin (cplx s : Bool) (v : Int × Int) : Nat × Bool :=
  if cplx then
    let x := fit 52 s v.1; let y := fit 52 s v.2
    (pair 52 x.1 y.1, x.2 || y.2)
  else fit 104 s v.2
/-- Part by part. -/
def parts2 (f : Int → Int → Int) (x y : Int × Int) : Int × Int := (f x.1 y.1, f x.2 y.2)
def opMpy (c : Core) (w : Nat) : List Flight := aRes w (accJoin c.cplx (fS w) (prodParts c.cplx false (s1 c w) (s2 c w)))
def opMac (c : Core) (w : Nat) : List Flight :=
  aRes w (accJoin c.cplx (fS w) (parts2 (· + ·) (accParts c.cplx (c.chain (fR1 w))) (prodParts c.cplx false (s1 c w) (s2 c w))))
def opMsu (c : Core) (w : Nat) : List Flight :=
  aRes w (accJoin c.cplx (fS w) (parts2 (· - ·) (accParts c.cplx (c.chain (fR1 w))) (prodParts c.cplx false (s1 c w) (s2 c w))))
def opMpyj (c : Core) (w : Nat) : List Flight := aRes w (accJoin c.cplx (fS w) (prodParts c.cplx true (s1 c w) (s2 c w)))
def opMacj (c : Core) (w : Nat) : List Flight :=
  aRes w (accJoin c.cplx (fS w) (parts2 (· + ·) (accParts c.cplx (c.chain (fR1 w))) (prodParts c.cplx true (s1 c w) (s2 c w))))
/-- MAG2: I² + Q² of a Q1.23 pair, added to one 104-bit real Q10.94 value in either mode. -/
def opMag2 (c : Core) (w : Nat) : List Flight :=
  let i := comp 24 2 0 (s1 c w); let q := comp 24 2 1 (s1 c w)
  aRes w (fit 104 (fS w) (sgn 104 (c.chain (fR1 w)) + (i * i + q * q) * ((2 ^ 48 : Nat) : Int)))
def opClr (_ : Core) (w : Nat) : List Flight := [⟨.a (fR1 w), 0, 3⟩, ccRes ⟨ccZ + ccN + ccV + ccL, ccZ⟩ 3]
def opAdda (c : Core) (w : Nat) : List Flight :=
  aRes w (accJoin c.cplx (fS w) (parts2 (· + ·) (accParts c.cplx (c.chain (fR1 w))) (accParts c.cplx (c.areg (bits w 48 47)))))
/-- LDA: s1 placed at the bits of R293, sign-extended, lower bits 0. -/
def opLda (c : Core) (w : Nat) : List Flight :=
  let v := if c.cplx then pair 52 (uns 52 (comp 24 2 0 (s1 c w) * ((2 ^ 23 : Nat) : Int))) (uns 52 (comp 24 2 1 (s1 c w) * ((2 ^ 23 : Nat) : Int)))
    else uns 104 (sgn 48 (s1 c w) * ((2 ^ 47 : Nat) : Int))
  [⟨.a (fR1 w), v, 3⟩, ccRes (znOnly 104 v) 3]
def opAsra (c : Core) (w : Nat) : List Flight :=
  let v := (lanes1 104 c.cplx false (fun x => x.fdiv ((2 ^ bits w 41 36 : Nat) : Int)) (c.chain (fR1 w))).1
  [⟨.a (fR1 w), v, 3⟩, ccRes (znOnly 104 v) 3]
def opAsla (c : Core) (w : Nat) : List Flight :=
  aRes w (lanes1 104 c.cplx (fS w) (fun x => x * ((2 ^ bits w 41 36 : Nat) : Int)) (c.chain (fR1 w)))
def opNega (c : Core) (w : Nat) : List Flight := aRes w (lanes1 104 c.cplx (fS w) (fun x => -x) (c.chain (fR1 w)))
/-- RND: rounded convergently at the bit of R293, lower bits cleared. -/
def opRnd (c : Core) (w : Nat) : List Flight :=
  let sh := if c.cplx then 23 else 47
  aRes w (lanes1 104 c.cplx (fS w) (fun x => rndEven x (2 ^ sh) * ((2 ^ sh : Nat) : Int)) (c.chain (fR1 w)))
/-- CMPA: exact a − b over 104 bits, not stored; V = C = L = 0. -/
def opCmpa (c : Core) (w : Nat) : List Flight :=
  let x := c.areg (fR1 w); let y := c.areg (bits w 48 47)
  [ccRes ⟨31, b2n (x == y) * ccZ + b2n (decide (sgn 104 x < sgn 104 y)) * ccN⟩ 3]

/-! The special-register and immediate operations of R330. -/
def opMvfs (c : Core) (w : Nat) : List Flight := [⟨.d (fR1 w), c.sreg (bits w 40 36), 2⟩]
def opMvts (c : Core) (w : Nat) : List Flight := sregResults (bits w 40 36) (s1 c w) 2
/-- The register and value of an IMM word (R323). -/
def fReg (w : Nat) : Nat := bits w 54 50
def fV (w : Nat) : Nat := bits w 47 0
def opLdi (_ : Core) (w : Nat) : List Flight := [⟨.d (fReg w), fV w, 1⟩]
def opLdis (_ : Core) (w : Nat) : List Flight := sregResults (fReg w) (fV w) 2
def opIaddi (c : Core) (w : Nat) : List Flight :=
  let r := iaddOf (fS w) (c.dreg (fReg w)) (fV w)
  ⟨.d (fReg w), r.1.1, 1⟩ :: ccRes r.2 1 :: stickyRes (fS w) r.1.2 1
/-- A bitwise immediate result with Z and N. -/
def immRes (w v : Nat) : List Flight := [⟨.d (fReg w), v, 1⟩, ccRes (znOnly 48 v) 1]
def opAndi (c : Core) (w : Nat) : List Flight := immRes w (Nat.land (c.dreg (fReg w)) (fV w))
def opOri (c : Core) (w : Nat) : List Flight := immRes w (Nat.lor (c.dreg (fReg w)) (fV w))
def opXori (c : Core) (w : Nat) : List Flight := immRes w (Nat.xor (c.dreg (fReg w)) (fV w))
def opCmpi (c : Core) (w : Nat) : List Flight := [ccRes (cmpFlags (c.dreg (fReg w)) (fV w)) 1]
def opAddp (c : Core) (w : Nat) : List Flight := sregResults (fReg w) ((c.sreg (fReg w) + fV w % 2 ^ 16) % 2 ^ 16) 2

/-- The results of the data, accumulator, special-register and immediate operations. -/
def opResults (op : WOp) (c : Core) (w : Nat) : List Flight :=
  match op with
  | .nop => opNop c w | .add => opAdd c w | .sub => opSub c w | .neg => opNeg c w | .abs => opAbs c w
  | .max => opMax c w | .min => opMin c w | .sel => opSel c w | .cmp => opCmp c w | .tst => opTst c w
  | .and => opAnd c w | .or => opOr c w | .xor => opXor c w | .not => opNot c w | .asr => opAsr c w
  | .lsr => opLsr c w | .asl => opAsl c w | .ash => opAsh c w | .mov => opMov c w | .conj => opConj c w
  | .swap => opSwap c w | .unpk => opUnpk c w | .vmax => opVmax c w | .iadd => opIadd c w | .isub => opIsub c w
  | .bexp => opBexp c w | .exp => opExp c w | .norm => opNorm c w | .bxr => opBxr c w | .mva => opMva c w
  | .mvar => opMvar c w | .mpy => opMpy c w | .mac => opMac c w | .msu => opMsu c w | .mpyj => opMpyj c w
  | .macj => opMacj c w | .mag2 => opMag2 c w | .clr => opClr c w | .adda => opAdda c w | .lda => opLda c w
  | .asra => opAsra c w | .asla => opAsla c w | .nega => opNega c w | .rnd => opRnd c w | .cmpa => opCmpa c w
  | .mvfs => opMvfs c w | .mvts => opMvts c w | .ldi => opLdi c w | .ldis => opLdis c w | .iaddi => opIaddi c w
  | .andi => opAndi c w | .ori => opOri c w | .xori => opXori c w | .cmpi => opCmpi c w | .addp => opAddp c w
  | .br | .call | .jmp | .rti | .loop | .loopd | .rep | .repd | .waitb | .crd | .cwr => []

/-! The moves of R321 and R322. -/

/-- Reads a word of a core's X bank (0) or Y bank (1). -/
abbrev BankRead := Nat → Nat → Nat

/-- The post-modified pointer of a move: P + 1, P − 1 or P + M, modulo 2^16 (R291). -/
def postMod (c : Core) (v : Move) : Nat :=
  match v.mod with
  | 1 => (c.preg v.p + 1) % 2 ^ 16
  | 2 => (c.preg v.p + 2 ^ 16 - 1) % 2 ^ 16
  | 3 => (c.preg v.p + c.mreg v.m) % 2 ^ 16
  | _ => c.preg v.p

/-- The word address of a move: P mod 16,384 (R291, R322). -/
def moveAddr (c : Core) (v : Move) : Nat := c.preg v.p % 16384

/-- The results of a move: the loaded register 2 words later, and the pointer 1 word later (R297); a saturating accumulator
store sets SR.SAT (R322). -/
def moveResults (rd : BankRead) (c : Core) (v : Move) : List Flight :=
  (if v.kind = 1 then [⟨.d v.reg, rd v.bank (moveAddr c v), 2⟩] else []) ++
  (if v.kind = 2 && v.acc then stickyRes true (accStore c.cplx v.rnd true (c.areg v.reg)).2 1 else []) ++
  (if v.mod = 0 then [] else [⟨.p v.p, postMod c v, 1⟩])

/-- The bank, word address and value that a move stores, if it is a store (R322): a D register, or the saturated bits of an
accumulator. -/
def moveStore (c : Core) (v : Move) : List (Nat × Nat × Nat) :=
  if v.kind = 2 then
    [(v.bank, moveAddr c v, if v.acc then (accStore c.cplx v.rnd true (c.areg v.reg)).1 else c.dreg v.reg)]
  else []

/-! The issue of one word. -/

/-- What the issue of a word brings about: the core after it, the words it stores, the control word it writes, and the cause
that halted the core instead (R316). -/
structure Issued where
  core : Core
  stores : List (Nat × Nat × Nat) := []
  control : Option (Nat × Nat) := none
  halt : Option Nat := none
deriving DecidableEq, Repr

/-- The causes of R318. -/
def causeIllegal : Nat := 1
def causeRepCap : Nat := 2
def causeUnloaded : Nat := 3

/-- Whether the next word at `pc` is issued in a delay slot. -/
def Core.inDelay (c : Core) : Bool := c.delay.isSome

/-- Whether the word at `pc` stands at LE of a loop that goes round again (R332). -/
def Core.atLoopEnd (c : Core) : Bool := c.pc == c.cle && decide (2 ≤ c.clc.toNat)

/-- Whether REP or REPD at `pc` names a next word that may not be repeated (R298, R331): a CTL word, or a word at LE. -/
def Core.repIllegal (c : Core) : Bool :=
  let next := (c.pc.toNat + 1) % 16384
  (match tfind c.prog next with | some w => isCtl w.toNat | none => false) || c.cle.toNat == next

/-- Whether the loaded word `w` at `pc` is an illegal encoding where it stands (R319). -/
def Core.illegal (c : Core) (w : Nat) : Bool :=
  (match bits w 63 62 with
   | 0 => !parLegal c.cplx w
   | 1 => !immLegal w
   | 2 => !ctlLegal c.pc.toNat w || c.inDelay
   | _ => true) ||
  (c.atLoopEnd && (isCtl w || c.inDelay)) ||
  ((wordOp w == some .rep || wordOp w == some .repd) && c.repIllegal)

/-- LC after a word issued at LE (R332): one less while it is 2 or more, else 0; a write in flight to LC stands. -/
def Core.loopCount (c : Core) : Core :=
  if c.pc == c.cle then
    let n : BitVec 16 := if 2 ≤ c.clc.toNat then c.clc - 1 else 0
    { c with clc := n, lc := if c.flight.any (fun f => f.reg == .clc) then c.lc else n }
  else c

/-- The word after an issued word that is not a taken control transfer: its repetition, the end of the delay slots, the loop
(R298, R332, R333), or the next address. -/
def Core.nextWord (c : Core) : Core :=
  let seq : BitVec 14 := c.pc + 1
  match c.rep with
  | some (n + 2) => { c with rep := some (n + 1) }
  | _ =>
    let atLe := c.pc == c.cle
    let c := { c with rep := none }.loopCount
    match c.delay with
    | some (k + 2, t) => { c with delay := some (k + 1, t), pc := seq }
    | some (_, t) => { c with delay := none, pc := BitVec.ofNat 14 t }
    | none => if atLe && c.clc != 0 then { c with pc := c.clb } else { c with pc := seq }

/-- A taken branch: the two words that follow are its delay slots (R298). -/
def Core.branch (c : Core) (target : Nat) : Core := { c.loopCount with delay := some (2, target % 16384), pc := c.pc + 1 }

/-- One core cycle after an issued word: its results, and the next word. -/
def Core.step1 (c : Core) (new : List Flight) : Core :=
  let c := { c.nextWord with last := c.pc, hcycles := c.hcycles + 1 }
  c.advance new

/-- The same for a taken branch. -/
def Core.stepTo (c : Core) (target : Nat) (new : List Flight) : Core :=
  let c := { c.branch target with last := c.pc, hcycles := c.hcycles + 1 }
  c.advance new

/-- REP and REPD (R299, R333): `n` repetitions of the next word, none skips it, and a count above REP_CAP halts. -/
def Core.issueRep (c : Core) (cap n : Nat) : Issued :=
  if cap < n then { core := c, halt := some causeRepCap }
  else if n = 0 then
    let c' := c.step1 []
    { core := { c' with pc := c'.pc + 1 } }
  else
    let c' := c.step1 []
    { core := { c' with rep := some n } }

/-- WAITB (R303): clears SR.BH and idles the core; LAST_CYCLES is the cycles since the beat start. -/
def Core.issueWaitb (c : Core) : Issued :=
  let c' := c.step1 []
  { core := { c' with waitb := true, pc := c.pc, late := false, sr := BitVec.ofNat 16 (setBits c'.sr.toNat 5 5 0) } }

/-- The issue of the CTL operations of R331. `cwRead` reads a control word as it is visible. -/
def Core.issueCtl (c : Core) (cap : Nat) (cwRead : Nat → Nat) (op : WOp) (w : Nat) : Issued :=
  let cond := condHolds (bits w 55 52) c.cc.toNat
  let t := bits w 51 38; let b := bits w 37 24; let n := bits w 23 8; let p := bits w 7 5; let d := bits w 4 1
  let loopRes (count : Nat) : List Flight := sregResults 0x10 count 2 ++ sregResults 0x11 b 2 ++ sregResults 0x12 t 2
  match op with
  | .br => { core := if cond then c.stepTo t [] else c.step1 [] }
  | .call => { core := if cond then c.stepTo t [⟨.p p, c.pc.toNat + 3, 2⟩] else c.step1 [] }
  | .jmp => { core := if cond then c.stepTo (c.preg p) [] else c.step1 [] }
  | .rti => { core := c.stepTo c.ira.toNat [⟨.sr, c.isr.toNat % 2 ^ 9, 2⟩] }
  | .loop => { core := c.step1 (loopRes n) }
  | .loopd => { core := c.step1 (loopRes (c.dreg d % 2 ^ 16)) }
  | .rep => c.issueRep cap n
  | .repd => c.issueRep cap (c.dreg d % 2 ^ 16)
  | .waitb => c.issueWaitb
  | .crd => { core := c.step1 [⟨.d d, cwRead t % 2 ^ 48, 2⟩] }
  | .cwr => { core := c.step1 [], control := some (t, c.dreg d) }
  | _ => { core := c }

/-- The issue of the word at `pc` by a core that may issue (R297, R316, R319). -/
def Core.issue (c : Core) (cap : Nat) (rd : BankRead) (cwRead : Nat → Nat) : Issued :=
  match tfind c.prog c.pc.toNat with
  | none => { core := c, halt := some causeUnloaded }
  | some w64 =>
    let w := w64.toNat
    if c.illegal w then { core := c, halt := some causeIllegal }
    else
      match wordOp w with
      | none => { core := c, halt := some causeIllegal }
      | some op =>
        if isCtl w then c.issueCtl cap cwRead op w
        else if bits w 63 62 = 0 then
          { core := c.step1 (opResults op c w ++ moveResults rd c (move0 w) ++ moveResults rd c (move1 w)),
            stores := moveStore c (move0 w) ++ moveStore c (move1 w) }
        else { core := c.step1 (opResults op c w) }

end Sys2Proof.Machine
end

