-- ==== Sys2Proof/Machine/WeaverBase.lean ====
section
/-! DEFINITION. A Weaver core among the rest of the engine: its rings and queues (R305 to R308), its start, beat starts, interrupts, stop
and faults (R300 to R304, R315, R316), and the service records it owes (R314). -/
namespace Sys2Proof.Machine

def bWVR : Nat := 0x0B

/-! ## Rings -/

/-- Base and size of the ring that a parameter names (R317). -/
def ringOf (v : Nat) : Nat × Nat := (bits v 13 0, bits v 27 14)

/-- The header word of an entry (R307). -/
def entryHead (kind src len seq : Nat) (loss : Bool) : Nat :=
  kind % 16 * 2 ^ 44 + src % 256 * 2 ^ 36 + b2n loss * 2 ^ 33 + len % 2 ^ 16 * 2 ^ 16 + seq % 2 ^ 16

/-- An entry is written into a ring of core `c` in Y (R306): after a PAD entry where the words left before the ring's end are too few;
discarded where it does not fit the free space, of which one word stays unused. Answers whether it was written. -/
def Block.ringPut (b : Block) (c : Nat) (cfg : Nat) (r : Ring) (kind src : Nat) (body : List Nat) : Block × Ring × Bool :=
  let (base, size) := ringOf cfg
  let n := body.length + 1
  let left := size - r.fill
  let pad := if n ≤ left then 0 else left
  let free := (r.rd % max 1 size + size - r.fill - 1) % max 1 size
  if size = 0 ∨ free < n + pad then (b, { r with seq := r.seq + 1, loss := true }, false)
  else
    let (b, r) := if pad = 0 then (b, r) else
      (b.stWord48 c 1 ((base + r.fill) % 16384) (entryHead 0 0 pad r.seq r.loss), { r with fill := 0, seq := r.seq + 1, loss := false })
    let words := entryHead kind src n r.seq r.loss :: body
    let b := { b with stores := (words.mapIdx (fun k w =>
      (beBytes 6 w).mapIdx (fun i v => MemOp.byte (spBank c 1 ((base + r.fill + k) % 16384) + i) v))).flatten.reverse ++ b.stores }
    (b, { r with fill := (r.fill + n) % size, seq := r.seq + 1, loss := false }, true)

/-- The two words of a 64-bit quantity (R292). -/
def words64 (v : Nat) : List Nat := [v % 2 ^ 48, v / 2 ^ 48 % 2 ^ 16]

/-- The words of a byte string (R292). -/
def wordsOf (l : List Byte) : List Nat := (chunks 6 l).map (fun p => beNat (fixLen 6 p))

/-- Packed 16-bit values, three to a word (R307). -/
def pack16 (l : List Int) : List Nat := wordsOf (l.map (fun v => beBytes 2 (uns 16 v))).flatten

/-- A core that is starting or running takes tap entries. -/
def Block.wvrTakes (b : Block) (c : Nat) : Bool := b.life bWVR c == lStarting || b.life bWVR c == lOn

/-- The taps of every running core that deliver from a source: core and tap. -/
def Block.tapsOf (b : Block) (kind src : Nat) : List (Nat × Nat) :=
  ((List.range 64).map (fun c => if b.wvrTakes c then
    (which 8 (fun t => let v := b.val (ki (K.WVR_TAP + t) c); bits v 2 0 == kind && bits v 10 3 == src)).map (fun t => (c, t)) else [])).flatten

/-- The words that the taps of a core deliver in a beat, in total (R306). -/
def tapLimit : Nat := 4096

/-- An entry arrives at a tap (R305, R306): one that does not fit its ring, or takes the core's taps past their limit in the beat, is
discarded with LOSS (log entry 159). -/
def Block.tapPut (b : Block) (c t kind src : Nat) (body : List Nat) : Block :=
  let old := tget {} (b.core c).taps t
  let n := (b.core c).tapped + body.length + 1
  let (b, r, ok) := if tapLimit < n then (b, { old with seq := old.seq + 1, loss := true }, false)
    else b.ringPut c (b.val (ki (K.WVR_TAP_RING + t) c)) old kind src body
  let x := b.core c
  let b := b.setCore c { x with taps := tset x.taps t r, tapped := if ok then n else x.tapped }
  if ok then b else b.inc K.WVR_TAP_DROP c 1

/-- An entry arrives at every tap of its source. -/
def Block.tapAll (b : Block) (kind src : Nat) (body : List Nat) : Block :=
  (b.tapsOf kind src).foldl (fun b p => b.tapPut p.1 p.2 kind src body) b

/-- A lane's detector report (KIND 1), at the boundary that ends its beat. -/
def Block.tapDet (b : Block) (i beat : Nat) : Block :=
  if (b.tapsOf 1 i).isEmpty then b
  else b.tapAll 1 i (words64 beat ++ [b.f K.LANE_DET_PEAK i 47 0] ++ words64 (b.val (ki K.LANE_DET_PEAK_INDEX i)) ++
    [b.f K.LANE_DET_MEAN i 47 0, b.f K.LANE_DET_ENV i 47 0,
     b.f K.LANE_DET_COUNT i 15 0 * 65536 + b.f K.LANE_DET_COUNT i 31 16])

/-- A spectrum (KIND 2): its descriptor, one word for each complex bin, and its dBq values packed. -/
def Block.tapSpectrum (b : Block) (x : Spectrum) : Block :=
  let cplx := x.bins.map (fun p => uns 24 p.mi * 2 ^ 24 + uns 24 p.mq)
  let pow := pack16 (x.bins.map (·.dbq))
  b.tapAll 2 x.view (wordsOf x.descriptor ++ (match x.format with | 0 => cplx | 1 => pow | _ => cplx ++ pow))

/-- A trace (KIND 3). -/
def Block.tapTrace (b : Block) (x : Trace) : Block :=
  b.tapAll 3 x.unit (wordsOf x.descriptor ++ pack16 x.pts ++ pack16 x.cols)

/-- A verdict (KIND 5): unit, q, whether it failed, what broke, bin and excess. -/
def Block.tapVerdict (b : Block) (q : Nat) (v : Nat × Bool × Int × Int × Nat) : Block :=
  let (u, pass, bin, excess, broken) := v
  b.tapAll 5 u (words64 q ++ [b2n (!pass) * 2 ^ 47 + broken % 2 * 2 ^ 46 + uns 16 bin * 2 ^ 16 + uns 16 excess])

/-- The samples gathered at a tap become a SAMPLES entry (KIND 4). -/
def Block.tapFlush (b : Block) (c t : Nat) : Block :=
  let x := b.core c
  match tfind x.gather t with
  | none => b
  | some (first, l) =>
    let b := b.setCore c { x with gather := tdel x.gather t }
    let l := l.reverse
    let flags := (chunks 12 (l.map (·.2))).map (fun p => (p ++ List.replicate (12 - p.length) 0).foldl (fun a f => a * 16 + f) 0)
    b.tapPut c t 4 (bits (b.val (ki (K.WVR_TAP + t) c)) 10 3) (words64 first ++ [l.length] ++ l.map (·.1) ++ flags)

/-- A lane output reaches the SAMPLES taps: an entry ends at 1,024 samples, before a missing one, and at the end of the beat. -/
def Block.tapSample (b : Block) (i : Nat) (o : LaneOut) : Block :=
  (b.tapsOf 4 i).foldl (fun b p =>
    let (c, t) := p
    if !o.valid then b.tapFlush c t
    else
      let x := b.core c
      let (first, l) := (tfind x.gather t).getD (o.n, [])
      let l := (uns 24 o.i * 2 ^ 24 + uns 24 o.q, o.sogm) :: l
      let b := b.setCore c { x with gather := tset x.gather t (first, l) }
      if 1024 ≤ l.length then b.tapFlush c t else b) b

/-- At a boundary the entries that arrived in the beat are released (R305). -/
def Block.tapRelease (b : Block) (c : Nat) : Block :=
  let b := ((b.core c).gather.map (·.1)).foldl (fun b t => b.tapFlush c t) b
  let x := b.core c
  b.setCore c { x with taps := x.taps.map (fun e => (e.1, { e.2 with wr := e.2.fill })), tapped := 0 }

/-- A trigger report is written into a core's report queue, and its line becomes pending if the core is ON (R187, R308, R315). A core
that is OFF or STOPPING takes neither (log entry 160). -/
def Block.wvrReport (b : Block) (c line : Nat) (r : Report) : Block :=
  if !b.wvrTakes c then b
  else
    let body := [r.unit % 16 * 2 ^ 44 + r.source % 16 * 2 ^ 40 + r.lane % 32 * 2 ^ 35 + r.flags % 256 * 2 ^ 10 + r.frac % 1024] ++
      words64 r.point ++ words64 r.decision ++ words64 r.q ++ [r.tp.w0, r.tp.w1, r.seq % 2 ^ 32, uns 16 r.bin * 2 ^ 16 + uns 16 r.excess]
    let (b, q, ok) := b.ringPut c (b.val (ki K.WVR_RPT_Q c)) (b.core c).rpt 6 r.unit body
    let b := b.setCore c { b.core c with rpt := { q with wr := q.fill } }
    (if ok then b else b.inc K.WVR_RPT_DROP c 1).pendLine c line

/-! ## Services -/

/-- The bytes of a service value at its parameter's width: service keys hold 8 bytes (log entry 30). -/
def svcBytes (v : Nat) : List Byte := beBytes 8 v

/-- A record with a service key enters the service queue; one that finds it full is answered ST_BUSY at once. -/
def Block.svcPost (b : Block) (c opcode key val reply place : Nat) : Block :=
  let x := b.core c
  let tag := x.svc.seq % 2 ^ 16
  let (b, q, ok) := b.ringPut c (b.val (ki K.WVR_SVC_Q c)) x.svc 7 tag ([opcode, key] ++ words64 val ++ [tag])
  let x := b.core c
  let x := { x with svc := { q with wr := q.fill } }
  if ok then b.setCore c { x with svcRecs := x.svcRecs ++ [⟨tag, reply, place, opcode, key, b.clock⟩] }
  else (b.setCore c x).heldFill reply place Status.busy.num []

/-- The oldest service record with a tag is answered; an answer to none is discarded. -/
def Block.svcAnswer (b : Block) (c tag status val : Nat) : Block :=
  let x := b.core c
  match x.svcRecs.find? (fun r => r.tag == tag) with
  | none => b
  | some r =>
    (b.setCore c { x with svcRecs := x.svcRecs.erase r }).heldFill r.reply r.place status
      (if r.opcode = 0x10 ∧ status = 0 then svcBytes val else [])

/-- 40 µs in core cycles. -/
def svcLimit : Nat := 64000

/-- The oldest record that has waited for 40 µs is answered ST_BUSY. -/
def Block.svcTimeout (b : Block) (c : Nat) : Block :=
  match (b.core c).svcRecs with
  | [] => b
  | r :: t =>
    if r.since + svcLimit ≤ b.clock then
      ((b.setCore c { b.core c with svcRecs := t }).inc K.WVR_SVC_LATE c 1).heldFill r.reply r.place Status.busy.num []
    else b

/-- Every unanswered record is answered ST_BUSY (R315). -/
def Block.svcDrop (b : Block) (c : Nat) : Block :=
  let l := (b.core c).svcRecs
  l.foldl (fun b r => b.heldFill r.reply r.place Status.busy.num []) (b.setCore c { b.core c with svcRecs := [] })

/-! ## Starts, interrupts, stops and faults -/

/-- EV_WVR_FAULT (386 + 4c), and the FAULT parameter (R311, R312, R316, R318). The word is the one last issued, or for a halt the one not
executed. -/
def Block.wvrFault (b : Block) (c cause : Nat) (halted : Bool) (addr status : Nat) : Block :=
  (b.pv K.WVR_FAULT c (cause + addr % 2 ^ 14 * 256)).raise (386 + 4 * c)
    (beBytes 1 cause ++ beBytes 1 (b2n halted) ++ beBytes 2 addr ++ beBytes 2 status)

/-- A fault whose cause names no status: its status number is a free value (log entry 26). -/
def Block.wvrFaultFree (b : Block) (c cause : Nat) (halted : Bool) (addr : Nat) : Block :=
  (b.wvrFault c cause halted addr (Config.faultStatus b.fresh).toNat).tick

/-- The core issues no further word: its results land, queued descriptors that have not begun are discarded, and its unanswered service
records are answered (R315). -/
def Block.wvrQuiesce (b : Block) (c : Nat) : Block :=
  let x := (b.core c).landAll
  (b.setCore c { x with dma := x.dma.take 1, rep := none, beatDue := false, abortDue := false }).svcDrop c

/-- START performed at the present beat (R302): the registers clear, and the taps and queues are empty. -/
def Block.coreStart (b : Block) (c : Nat) : Block :=
  let x := b.core c
  (b.setLife bWVR c lStarting).setCore c
    { pend := x.pend, entry := x.entry, prog := x.prog, cw := (List.range 12).foldl (fun t k => tset t (if k < 8 then 0x10 + k else 0x19 + 2 * (k - 8)) 0) x.cw,
      dmaTag := x.dmaTag, dmaStatus := x.dmaStatus, reqBusy := x.reqBusy, reqStatus := x.reqStatus, reqAddr := x.reqAddr,
      gates := x.gates, pc := BitVec.ofNat 14 x.entry, last := x.last }

/-- A core leaves off at a word boundary once any REP has ended. -/
def Block.coreLeaves (b : Block) (c : Nat) : Block :=
  if b.life bWVR c = lStopping ∧ (b.core c).rep.isNone then b.wvrQuiesce c else b

/-- STOP performed at the present beat. -/
def Block.coreStop (b : Block) (c : Nat) : Block := (b.setLife bWVR c lStopping).coreLeaves c

/-- A halt (R316): the core stops, stays ON and reads FAULTED. -/
def Block.coreHalt (b : Block) (c cause : Nat) : Block :=
  let b := b.wvrQuiesce c
  (b.setCore c { b.core c with halted := true }).wvrFaultFree c cause true (b.core c).pc.toNat

/-- The life of a core at a boundary: STARTING becomes ON, and STOPPING becomes OFF after its transfers (R302, R315). -/
def Block.coreLife (b : Block) (c : Nat) : Block :=
  let x := b.core c
  if b.life bWVR c = lStarting then b.setLife bWVR c lOn
  else if b.life bWVR c = lStopping ∧ x.rep.isNone ∧ x.dma.isEmpty ∧ x.spi.isEmpty then b.setLife bWVR c lOff
  else b

/-- SR.BH. -/
def Core.bh (c : Core) : Bool := bit c.sr.toNat 5

/-- A beat start (R303): BH is set and the core jumps to BEAT_VEC. -/
def Block.beatStart (b : Block) (c : Nat) : Block :=
  let x := b.core c
  b.setCore c { x with
    waitb := false, fromWaitb := false, beatDue := false, abortDue := false, delay := none, rep := none, hcycles := 4, late := false,
    sr := BitVec.ofNat 16 (setBits x.sr.toNat 5 5 1), pc := BitVec.ofNat 14 (b.f K.WVR_CFG c 13 0) }

/-- The beat start that an overrun in ABORT mode brings (R304): results land, LC becomes 0, and the handler starts again. -/
def Block.abortStart (b : Block) (c : Nat) : Block :=
  let x := (b.core c).landAll
  (b.setCore c { x with lc := 0, clc := 0 }).beatStart c

/-- A beat start that is due is taken: by a core in WAITB, or by one that an overrun restarts once its REP has ended. -/
def Block.beatTake (b : Block) (c : Nat) : Block :=
  let x := b.core c
  if !b.wvrTakes c || x.halted then b
  else if x.abortDue && x.rep.isNone then b.abortStart c
  else if x.waitb && x.beatDue then b.beatStart c
  else b

/-- A beat boundary at a core (R303 to R305): its tap entries are released, then its beat start falls due, or it overruns. -/
def Block.coreBeat (b : Block) (c : Nat) : Block :=
  let b := b.tapRelease c
  let x := b.core c
  if !b.wvrTakes c || x.halted then b
  else if x.bh then
    let b := (b.inc K.WVR_OVERRUNS c 1).raise (384 + 4 * c)
      (beBytes 8 b.beat ++ beBytes 2 x.last.toNat ++ beBytes 1 (b.f K.WVR_CFG c 14 14))
    if b.f K.WVR_CFG c 14 14 = 1 then (b.setCore c { x with abortDue := true }).beatTake c
    else (b.inc K.WVR_SKIPPED c 1).setCore c { x with late := true }
  else
    let b := if x.beatDue then b.inc K.WVR_SKIPPED c 1 else b
    if x.waitb || x.fromWaitb then (b.setCore c { x with beatDue := true }).beatTake c
    else (b.setCore c { x with beatDue := false }).inc K.WVR_SKIPPED c 1

/-- The highest-priority line whose interrupt may be taken (R300). -/
def Core.lineDue (x : Core) : Option Nat :=
  (List.range 4).find? (fun l => bit x.sr.toNat 0 && bit x.sr.toNat (1 + l) && tget 0 x.pend l != 0)

/-- Interrupt entry (R301): results land, IRA and ISR are saved, IE clears, and the core jumps to its line's vector. None is taken inside
a REP, in a delay slot or after a branch before its delay slots, nor where a beat start is taken first. -/
def Block.interrupt (b : Block) (c : Nat) : Block :=
  let x := b.core c
  if !b.wvrTakes c || x.halted || x.rep.isSome || x.delay.isSome || (x.waitb && x.beatDue) || x.abortDue then b
  else match x.lineDue with
    | none => b
    | some l =>
      let y := x.landAll
      b.setCore c { y with
        ira := y.pc, isr := y.sr, sr := BitVec.ofNat 16 (setBits y.sr.toNat 0 0 0),
        pc := BitVec.ofNat 14 (bits (b.val (ki K.WVR_IVEC c)) (14 * l + 13) (14 * l)),
        pend := tset y.pend l (tget 0 y.pend l - 1), waitb := false, fromWaitb := y.fromWaitb || y.waitb, hcycles := y.hcycles + 4 }

/-- RUN_STATE (R317). -/
def Block.runState (b : Block) (c : Nat) : Nat :=
  let x := b.core c
  (if x.halted then 2 else if x.waitb then 1 else 0) + b2n x.bh * 4 + x.last.toNat * 8

end Sys2Proof.Machine
end

