-- ==== Sys2Proof/Machine/Fire.lean ====
section
/-! DEFINITION. What the fires of one core cycle bring about (R187 to R189): captures, pins, Plait broadcasts, stimulus jumps and Weaver
interrupts. Their events are raised where the fire is detected. -/
namespace Sys2Proof.Machine

/-- The fires that select a writer reach it as one report: the lowest unit's, with the others beside it (R189). -/
def Block.fireWriter (b : Block) (fs : List Fire) (w : Nat) : Block :=
  match fs.filter (fun f => bit f.actCap w) with
  | [] => b
  | f :: t => b.capReport w f t

/-- A stimulus channel takes the request of the lowest unit; the others are counted (R188). -/
def Block.fireStim (b : Block) (m : Mem) (fs : List Fire) (c : Nat) : Block :=
  match fs.filter (fun f => bit f.act 16 && bits f.act 18 17 == c) with
  | [] => b
  | f :: t =>
    let (b, taken) := b.stmJump m c f.jump 1 f.rep.unit
    (if taken then t else f :: t).foldl (fun b g => b.inc K.TRG_ACT_DROPPED g.rep.unit 1) b

/-- The pins, the Plait broadcast and the Weaver interrupt of one fire. -/
def Block.fireOther (b : Block) (f : Fire) : Block :=
  let b := (which 8 (fun k => bit f.act k)).foldl (fun b k => b.fireOut k f.rep.tp) b
  let b := if bit f.act 9 then b.plaitSend (bits f.act 15 10) f.rep else b
  if bit f.act 19 then b.wvrReport (bits f.act 25 20) (bits f.act 27 26) f.rep else b

/-- Every action of the fires that one core cycle brought, in unit order. -/
def Block.dispatch (b : Block) (m : Mem) (fires : List Fire) : Block :=
  let fs := sortBy (fun f => f.rep.unit) fires
  let b := (List.range 32).foldl (fun b w => b.fireWriter fs w) b
  let b := fs.foldl Block.fireOther b
  (List.range 4).foldl (fun b c => b.fireStim m fs c) b

/-- A step that detects fires, followed by their actions. -/
def Block.acting (m : Mem) (r : Block × List Fire) : Block := if r.2.isEmpty then r.1 else r.1.dispatch m r.2

end Sys2Proof.Machine
end

