-- ==== Sys2Proof/Machine/WeaverIO.lean ====
section
/-! DEFINITION. Control words (R309), DMA (R310, R311) and the other outputs of a Weaver core (R312 to R314), and the issue of one word
with its effect on the rest of the engine. -/
namespace Sys2Proof.Machine

/-! ## DMA -/

/-- A bank sample's components rounded to `w` bits (R310, modes 2 and 3). -/
def dmaPack (w v : Nat) : Nat := (packComp (sgn 24 (v / 2 ^ 24)) w).1 * 2 ^ w + (packComp (sgn 24 v) w).1
/-- A packed sample placed in the top bits of each component. -/
def dmaUnpack (w v : Nat) : Nat := (v / 2 ^ w % 2 ^ w) * 2 ^ (24 - w) * 2 ^ 24 + v % 2 ^ w * 2 ^ (24 - w)

/-- The bytes of a word in memory, by MODE. -/
def dmaBytes (mode : Nat) : Nat := [8, 6, 4, 3].getD mode 8
def dmaEncode (mode v : Nat) : List Byte :=
  match mode with
  | 0 => zeros 2 ++ beBytes 6 v
  | 1 => beBytes 6 v
  | 2 => beBytes 4 (dmaPack 16 v)
  | _ => beBytes 3 (dmaPack 12 v)
def dmaDecode (mode : Nat) (l : List Byte) : Nat :=
  match mode with
  | 0 => beNat (l.drop 2)
  | 1 => beNat l
  | 2 => dmaUnpack 16 (beNat l)
  | _ => dmaUnpack 12 (beNat l)

/-- The bytes of the Weaver cluster shared memory (R64). -/
def sharedBytes : Nat := 2 ^ 25

/-- A range of one side of a transfer lies in its space. -/
def Block.dmaSide (b : Block) (space addr len bytes : Nat) : Bool :=
  match space with
  | 0 | 1 => decide (addr + len ≤ 16384)
  | 2 => decide (addr + bytes ≤ sharedBytes)
  | _ => addr % 64 == 0 && bytes % 64 == 0 &&
    (bytes == 0 || (List.range (bytes / 64)).all (fun k => (b.hbmAt (addr + 64 * k)).isSome))

/-- An HBM3E range touches a pseudo-channel whose retirement is decided (R243). -/
def Block.rangeRetired (b : Block) (addr bytes : Nat) : Bool :=
  (List.range (bytes / 64)).any (fun k => match b.hbmAt (addr + 64 * k) with | some (p, _) => b.retiring p | none => false)

/-- The buffers in the overlay or cursor role (R265). -/
def Block.drawBufs (b : Block) : List Nat :=
  let v := b.val (ki K.DEN_LAYERS compInst)
  (if bit v 17 then [bits v 7 4, bits v 11 8] else []) ++ (if bit v 18 then [bits v 15 12] else [])

/-- The buffers whose range `[addr, addr + n)` touches. -/
def Block.bufsIn (b : Block) (addr n : Nat) : List Nat :=
  which 16 (fun k => b.bufOk k && decide (addr < b.bufAddr k + bufRange) && decide (b.bufAddr k < addr + n))

/-- An HBM3E range that a core may write: the Weaver DMA region, or an overlay or cursor buffer. -/
def Block.dmaMayWrite (b : Block) (addr n : Nat) : Bool :=
  let first := b.f K.WVR_DMA_REGION 0x40 7 0; let units := b.f K.WVR_DMA_REGION 0x40 15 8
  (decide (first * 2 ^ 30 ≤ addr) && decide (addr + n ≤ first * 2 ^ 30 + b.capacity units)) ||
  b.drawBufs.any (fun k => b.bufOk k && decide (b.bufAddr k ≤ addr) && decide (addr + n ≤ b.bufAddr k + bufRange))

/-- The check of a descriptor when its turn comes (R311). -/
def Block.dmaCheck (b : Block) (x : DmaDesc) : Status :=
  let ss := bits x.src 47 46; let sa := bits x.src 45 0; let ds := bits x.dst 47 46; let da := bits x.dst 45 0
  let len := bits x.len 23 0; let mode := bits x.len 27 24
  let bytes := len * dmaBytes mode
  let inner := decide (ss < 2) && decide (ds < 2)
  if (ss = 3 ∨ ds = 3) ∧ b.dev ≠ .flow then .notInThaw
  else if !inner && decide (3 < mode) then .paramRange
  else if !b.dmaSide ss sa len bytes || !b.dmaSide ds da len bytes then .paramRange
  else if ds = 3 ∧ !b.dmaMayWrite da bytes then .paramRange
  else if ds = 3 ∧ (b.bufsIn da bytes).any (fun k => b.bufReferenced k || (tfind b.bufWait k).isSome) then .busyScanout
  else if (ss = 3 && b.rangeRetired sa bytes) || (ds = 3 && b.rangeRetired da bytes) then .fault
  else .ok

/-- A transfer moves its data. -/
def Block.dmaMove (b : Block) (m : Mem) (c : Nat) (x : DmaDesc) : Block :=
  let ss := bits x.src 47 46; let sa := bits x.src 45 0; let ds := bits x.dst 47 46; let da := bits x.dst 45 0
  let len := bits x.len 23 0; let mode := bits x.len 27 24; let w := dmaBytes mode
  let vals := (List.range len).map (fun k => match ss with
    | 0 | 1 => b.rdWord48 m c ss (sa + k)
    | 2 => dmaDecode mode (b.rdBytes m (spShared (sa + k * w)) w)
    | _ => dmaDecode mode (b.hbmReads m (sa + k * w) w))
  match ds with
  | 0 | 1 => (vals.zip (List.range len)).foldl (fun b p => b.stWord48 c ds (da + p.2) p.1) b
  | 2 => b.stBytes (spShared da) (vals.map (dmaEncode mode)).flatten
  | _ => b.hbmStores da (vals.map (dmaEncode mode)).flatten

/-- The status of a descriptor goes to DMA_STAT with its tag; a failing one raises EV_WVR_FAULT with cause DMA. -/
def Block.dmaStat (b : Block) (c tag : Nat) (s : Status) : Block :=
  let b := b.setCore c { b.core c with dmaTag := tag, dmaStatus := s.num }
  if s = .ok then b else b.wvrFault c 4 false (b.core c).last.toNat s.num

/-- The descriptor at the front of the queue has its turn (R311): checked, then moved; its line becomes pending. -/
def Block.dmaDone (b : Block) (m : Mem) (c : Nat) : Block :=
  match (b.core c).dma with
  | [] => b
  | x :: t =>
    let b := b.setCore c { b.core c with dma := t }
    let s := b.dmaCheck x
    if s = .ok then
      let b := (b.dmaMove m c x).dmaStat c x.tag .ok
      let line := bits x.len 30 28
      if 1 ≤ line ∧ line ≤ 4 then b.pendLine c (line - 1) else b
    else b.dmaStat c x.tag s

/-- DMA_GO: the descriptor is queued, unless 8 are. -/
def Block.dmaGo (b : Block) (c tag : Nat) : Block :=
  let x := b.core c
  if 8 ≤ x.dma.length then b.dmaStat c tag .busy
  else b.setCore c { x with dma := x.dma ++ [⟨tget 0 x.cw 0x20, tget 0 x.cw 0x21, tget 0 x.cw 0x22, tag⟩] }

/-! ## Control words -/

/-- A 64-bit quantity in two control words (R292). -/
def Core.cw64 (x : Core) (a : Nat) : Nat := tget 0 x.cw a + tget 0 x.cw (a + 1) % 2 ^ 16 * 2 ^ 48

/-- What CRD reads of a control word. -/
def Block.cwRead (b : Block) (c a : Nat) : Nat :=
  let x := b.core c
  if 0x08 ≤ a ∧ a < 0x10 then (tget {} x.taps (a - 0x08)).wr
  else if 0x10 ≤ a ∧ a < 0x18 then tget 0 x.cw a
  else match a with
    | 0x00 => b.beat % 2 ^ 48
    | 0x01 => b.beat / 2 ^ 48
    | 0x02 => b.cycle
    | 0x03 => c
    | 0x04 => b.now.w0
    | 0x05 => tget 0 x.cw 5
    | 0x18 => x.rpt.wr
    | 0x19 => tget 0 x.cw 0x19
    | 0x1A => x.svc.wr
    | 0x1B => tget 0 x.cw 0x1B
    | 0x1C => maskOf 4 (fun l => tget 0 x.pend l != 0) + (List.range 4).foldl (fun v l => v + tget 0 x.pend l * 2 ^ (8 + 8 * l)) 0
    | 0x24 => x.dmaTag + x.dmaStatus * 2 ^ 16 + x.dma.length * 2 ^ 32
    | 0x31 => b2n x.reqBusy + x.reqStatus * 2 ^ 16
    | 0x37 => tget 0 x.cw 0x37
    | 0x38 => tget 0 x.cw 0x38
    | 0x39 => maskOf 8 b.spiBusy
    | _ => (Config.unreadWord b.fresh a).toNat

/-- The side of a CRD: reading 0x04 latches both time words; a word that the table gives no read takes a free value. -/
def Block.cwReads (b : Block) (c a : Nat) : Block :=
  if a = 0x04 then b.setCore c { b.core c with cw := tset (b.core c).cw 5 b.now.w1 }
  else if [0x06, 0x07, 0x1D, 0x1E, 0x1F, 0x20, 0x21, 0x22, 0x23, 0x28, 0x29, 0x2A, 0x2B, 0x2C, 0x2D, 0x2E, 0x2F, 0x30, 0x32, 0x33, 0x34,
           0x35, 0x36, 0x3A, 0x3B, 0x3C, 0x3D, 0x3E, 0x3F, 0x25, 0x26, 0x27].contains a then b.tick
  else b

/-- A readable word takes a value: the queue sees it at once, CRD two words later (R297). -/
def Block.cwOffset (b : Block) (c a v : Nat) (f : Core → Core) : Block :=
  let x := f (b.core c)
  b.setCore c { x with flight := x.flight ++ [⟨.cw a, v, 1⟩] }

/-- EVT_GO (R312). -/
def Block.evtGo (b : Block) (c : Nat) : Block :=
  let x := b.core c
  b.raise (385 + 4 * c) (((List.range 3).map (fun k => beBytes 6 (tget 0 x.cw (0x28 + k)))).flatten.take 15 ++ beBytes 1 (b2n x.late))

/-- TRQ_GO (R312): a request to a unit of another source, or one that is not armed, is discarded and reported. -/
def Block.trqGo (b : Block) (m : Mem) (c u : Nat) : Block :=
  let x := b.core c
  if b.tgTakes u (fun b => b.tgSource u == 9) then Block.acting m (b.trgRequest u (x.cw64 0x2C) x.late)
  else b.wvrFaultFree c 5 false x.last.toNat

/-- SPI_CTL (R312). -/
def Block.spiCtl (b : Block) (c v : Nat) : Block :=
  let x := b.core c
  let j := bits v 2 0
  if b.spiBusy j || b.f K.JRX_SPI_CFG (0x40 + j) 17 17 == 0 then b.wvrFaultFree c 6 false x.last.toNat
  else (b.setCore c { x with spi := j :: x.spi.erase j }).spiStart j (bits v 8 3 + 1) (bits v 9 9) (x.cw64 0x35) (some c)

/-- STR_GO (R312): the block's words as bytes. A block outside its bank is refused. -/
def Block.strGo (b : Block) (m : Mem) (c : Nat) : Block :=
  let x := b.core c
  let v := tget 0 x.cw 0x3C
  let bank := bits v 47 46; let a := bits v 45 32; let n := bits v 31 16
  let (b, ok) : Block × Bool :=
    if bank < 2 ∧ a + n ≤ 16384 then
      b.strWeaver (bits v 5 0) c ((List.range n).map (fun k => beBytes 6 (b.rdWord48 m c bank (a + k)))).flatten x.late
    else (b, false)
  if ok then b else b.wvrFaultFree c 7 false x.last.toNat

/-- REQ_GO (R313). -/
def Block.reqGo (b : Block) (c v : Nat) : Block :=
  let x := b.core c
  if x.reqBusy then b.wvrFaultFree c 8 false x.last.toNat
  else b.setCore c { x with reqBusy := true, reqAddr := v % 2 ^ 14 }

/-- CWR of value `v` to control word `a` (R309): a write to a read-only or reserved word has no effect. -/
def Block.cwWrite (b : Block) (m : Mem) (c a v : Nat) : Block :=
  let x := b.core c
  let b' := b.setCore c { x with cw := tset x.cw a v }
  if 0x10 ≤ a ∧ a < 0x18 then
    b.cwOffset c a v (fun x => { x with taps := tupd {} x.taps (a - 0x10) (fun r => { r with rd := v }) })
  else match a with
    | 0x19 => b.cwOffset c a v (fun x => { x with rpt := { x.rpt with rd := v } })
    | 0x1B => b.cwOffset c a v (fun x => { x with svc := { x.svc with rd := v } })
    | 0x20 | 0x21 | 0x22 | 0x28 | 0x29 | 0x2A | 0x2C | 0x2D | 0x35 | 0x36 | 0x3C | 0x3E => b'
    | 0x23 => b.dmaGo c (v % 2 ^ 16)
    | 0x2B => b.evtGo c
    | 0x2E => b.trqGo m c (v % 16)
    | 0x2F => b.setCore c { x with gates := x.gates ++ [(v % 16, bits v 4 4)] }
    | 0x30 => b.reqGo c v
    | 0x34 => b.spiCtl c v
    | 0x3D => b.strGo m c
    | 0x3F => b.svcAnswer c (v % 2 ^ 16) (bits v 31 16) (tget 0 x.cw 0x3E)
    | _ => b

/-- GATE comes into force at a boundary (R309). -/
def Block.gateBoundary (b : Block) (c : Nat) : Block :=
  let x := b.core c
  x.gates.foldl (fun b g => b.pv K.TRG_QUAL_GATE g.1 g.2) (b.setCore c { x with gates := [] })

/-! ## The issue of one word -/

/-- Whether a core may issue a word: it starts, runs, or ends a REP before a stop (R298, R315), and is neither halted nor in WAITB, nor held
for the beat start that an overrun brings (R304). -/
def Block.mayIssue (b : Block) (c : Nat) : Bool :=
  let x := b.core c
  (b.wvrTakes c || (b.life bWVR c == lStopping && x.rep.isSome)) && !x.halted && !x.waitb && !(x.abortDue && x.rep.isNone)

/-- The loaded word at the program counter. -/
def Block.wordAt (b : Block) (c : Nat) : Option Nat := (tfind (b.core c).prog (b.core c).pc.toNat).map (·.toNat)

/-- The largest REP count (R299). -/
def Block.repCap (b : Block) (c : Nat) : Nat := b.f K.WVR_REP_CAP c 15 0

/-- The control word that the word at the program counter reads, if it is a CRD. -/
def crdAddr (w : Nat) : Option Nat := if wordOp w = some .crd then some (bits w 51 38) else none

/-- Core `c` issues the word at its program counter (R297, R319), with its stores, its control word and its halt; a completed beat handler is
measured (R303), and what waited for the end of a REP follows (R304, R315). -/
def Block.issue (b : Block) (m : Mem) (c : Nat) : Block :=
  if !b.mayIssue c then b
  else
    let x := b.core c
    let r := x.issue (b.repCap c) (fun bank i => b.rdWord48 m c bank i) (b.cwRead c)
    match r.halt with
    | some cause => b.coreHalt c cause
    | none =>
      let read := (b.wordAt c).bind crdAddr
      let b := b.setCore c { r.core with fromWaitb := r.core.fromWaitb && !r.core.waitb }
      let b := match read with | some a => b.cwReads c a | none => b
      let b := r.stores.foldl (fun b s => b.coreStore c s.1 s.2.1 s.2.2) b
      let b := if r.core.waitb && x.bh then
          let n := x.hcycles
          (b.pv K.WVR_LAST_CYCLES c (n % 2 ^ 32)).pv K.WVR_MAX_CYCLES c (max (b.val (ki K.WVR_MAX_CYCLES c)) (n % 2 ^ 32))
        else b
      let b := match r.control with | some (a, v) => b.cwWrite m c a v | none => b
      (if (b.core c).abortDue then b.beatTake c else b).coreLeaves c

end Sys2Proof.Machine
end

