-- ==== Sys2Proof/Machine/Keyspace.lean ====
section
/-! DEFINITION. The key space (R4, R46, R47, R49): which keys are defined, how wide and how accessible they are, and what a read
returns, with the clearing of RC counters (R7) and the values that the engine derives when they are read. -/
namespace Sys2Proof.Machine

/-- The instances whose function has an on/off life (R49). -/
def hasLife (blk i : Nat) : Bool :=
  match blk with
  | 0x04 => decide (i < 16)
  | 0x05 => decide (i < 32)
  | 0x06 => viewDefined i || (decide (0x80 ≤ i) && decide (i < 0xA0))
  | 0x07 => decide (i < 16)
  | 0x08 => decide (i < 0x30)
  | 0x0A => decide (i < 0x10) || (decide (0x20 ≤ i) && decide (i < 0x30)) || i == 0x40 || i == 0x80 || i == 0x81
  | 0x0B => decide (i < 64)
  | 0x0C => decide (i < 16)
  | 0x0D => decide (i < 64)
  | 0x0E => i == 0x10 || i == 0x11
  | 0x0F => decide (i < 4)
  | 0x10 => i == 0
  | 0x12 => i == 0
  | 0x14 => i == 0
  | 0x15 => (decide (0x10 ≤ i) && decide (i < 0x14)) || (decide (0x20 ≤ i) && decide (i < 0x28)) || (decide (0x30 ≤ i) && decide (i < 0x38))
  | 0x17 => decide (i < 4)
  | _ => false

/-- The rows of ENABLE and FUNC_STATE (R49). -/
def enableRow (i : Nat) : Row := row i i 1 1 .beat [⟨0, 0, .rw, 0, false, 0, 1⟩, ⟨31, 1, .rw, 0, true, 0, 0⟩]
def funcStateRow (i : Nat) : Row := row i i 2 1 .imm [⟨1, 0, .ro, 0, false, 0, 3⟩, ⟨3, 2, .ro, 0, false, 0, 3⟩, ⟨31, 4, .ro, 0, true, 0, 0⟩]

/-- An entry of a window table above P/2 (R144). -/
def Block.winBeyond (b : Block) (key : Nat) : Bool :=
  keyBlock key == bXFM && decide (0xC0 ≤ keyInst key) && decide (0x4000 ≤ keyItem key) &&
    decide (winEntries (b.winCode (keyInst key - 0xC0)) ≤ keyItem key - 0x4000)

/-- Step 1 of R54: the row of a key that names a defined block, instance and item, in the modes in force (R47, R134, R144, R335). The
management port has FUNC_STATE and no ENABLE. -/
def Block.keyRow (b : Block) (key : Nat) : Option Row :=
  let blk := keyBlock key; let i := keyInst key; let it := keyItem key
  if (blk == bXFM && decide (i < 0x80) && !viewDefined i) || (blk == bNET && !(b.netKey i).good) || b.winBeyond key then none
  else if it = 1 ∧ hasLife blk i then some (enableRow i)
  else if it = 2 ∧ (hasLife blk i ∨ (blk = bNET ∧ i = mgmtPort)) then some (funcStateRow i)
  else rowOf key

/-- The core of a service key (R314). -/
def serviceCore (key : Nat) : Option Nat :=
  if keyBlock key = bWVR ∧ 0x80 ≤ keyInst key ∧ keyInst key < 0xC0 ∧ 0x1000 ≤ keyItem key ∧ keyItem key < 0x2000 then some (keyInst key - 0x80)
  else none

/-- A core answers service records: it is ON and HOST is set (R314). -/
def Block.serves (b : Block) (c : Nat) : Bool := b.isOn bWVR c && b.f K.WVR_SVC_Q c 28 28 == 1

/-- A field that a write may set: RW or W1, and not reserved. -/
def Fld.open' (f : Fld) : Bool := !f.rsvd && (f.acc == .rw || f.acc == .w1)
def Row.writable (r : Row) : Bool := r.flds.any Fld.open'

/-- The bits of a parameter that a predicate on its fields selects, as a mask. -/
def Row.mask (r : Row) (p : Fld → Bool) : Nat := r.flds.foldl (fun a f => if p f then a ||| (2 ^ (f.hi + 1) - 2 ^ f.lo) else a) 0

/-- Step 2 for a write: RO keys, SRC_CFG of a reserved event identifier (R76), the preloaded window tables (R143), FMAX of the PLLs that
are not retuned (R418). -/
def keyWritable (key : Nat) (r : Row) : Bool :=
  let i := keyInst key
  r.writable && !(keyBlock key == 0x02 && decide (0x1000 ≤ keyItem key) && (eventSeverity (keyItem key - 0x1000)).isNone) &&
    !(keyBlock key == bXFM && decide (0xC0 ≤ i) && decide (i < 0xC7)) &&
    !(keyBlock key == bCLK && keyItem key == 0x10 && (i == 0 || i == 2 || i == 5))

/-- The write's Takes-effect code (R8): the addresses of the management port are BOOT (R335). -/
def effectOf (key : Nat) (r : Row) : Effect :=
  if keyBlock key = bNET ∧ keyInst key = mgmtPort ∧ 0x11 ≤ keyItem key ∧ keyItem key ≤ 0x18 then .boot else r.eff

/-- A value in force as a GET returns it (R9): those that the engine derives when they are read, and the stored ones. -/
def Block.readVal (b : Block) (key : Nat) : Nat :=
  let i := keyInst key; let it := keyItem key
  let v := b.val key
  match keyBlock key with
  | 0x01 =>
    match it with
    | 0x01 => b.stateWord
    | 0x10 => maskOf 32 (fun n => (List.range 32).any (fun i => !b.isOff bLANE i && bit (b.lnSlotMask i) n))
    | 0x11 => b.xfmUsed
    | 0x12 => b.histUsed
    | 0x13 => b.beat
    | 0x23 => b.sessions.length
    | _ => v
  | 0x04 =>
    if it = 0x21 ∧ bits (b.val (mkKey 0x04 i 0x20)) 9 9 = 0 then 0
    else if it = 0x23 ∧ i < 16 then uns 32 (b.skewOf i)
    else v
  | 0x05 =>
    match it with
    | 0x18 => (b.lane i).bank + 2 * b2n (b.lane i).fade.isSome + 4 * b2n (!(b.swapQueue i).isEmpty) +
        8 * b2n (decide (2 ≤ (b.swapQueue i).length))
    | 0x19 => ((b.swapQueue i).getLast?.map (·.1)).getD (2 ^ 64 - 1)
    | 0x23 => if (b.lane i).running then b.firstOr i b.beat else v
    | _ => v
  | 0x06 =>
    if i < 0x80 then
      match it with
      | 0x20 => if b.isOff bXFM i then 0 else b.vwCost i
      | 0x21 => if b.isOff bXFM i then 0 else b.vwRbw i
      | _ => v
    else if 0xC0 ≤ i then
      match it with
      | 0x11 => b.winInfo (i - 0xC0)
      | 0x12 => b.winGain (i - 0xC0)
      | 0x13 => b.winPool
      | _ => if 0x4000 ≤ it then uns 18 (b.winEntry (i - 0xC0) (it - 0x4000)) else v
    else v
  | 0x09 =>
    if i = 0 ∧ 0x1000 ≤ it then setBits v 15 8 ((b.claimOf (it - 0x1000)).elim 0 (·.owner))
    else if 0x80 ≤ i ∧ it = 0x20 then setBits v 2 2 (b2n (decide (b.clock < (b.pc (i - 0x80)).pauseEnd)))
    else v
  | 0x0A =>
    if i < 0x10 ∧ it = 0x20 then setBits v 15 8 (if b.isOff bDEN i then 0 else b.plCost i)
    else if 0x50 ≤ i ∧ i < 0x60 ∧ it = 0x10 ∧ b.bufOut.contains (i - 0x50) then setBits v 11 0 0 else v
  | 0x0B => if i < 64 ∧ it = 0x30 then b.runState i else v
  | _ => v

/-- A read of a defined key: W1 fields and reserved bits read 0, and RC fields clear (R6). A counter that has advanced in this core cycle
reads as it stood before, and keeps its advance (R7). -/
def Block.readKey (b : Block) (key : Nat) (r : Row) : Block × Nat :=
  let shown := r.mask (fun f => !f.rsvd && f.acc != .w1)
  let rc := r.mask (fun f => !f.rsvd && f.acc == .rc)
  let v := Nat.land (b.readVal key) shown
  if rc = 0 then (b, v)
  else
    let late := b.countedNow key
    let left := b.val key - Nat.land (b.val key) rc + late
    (if key = K.SYS_WDOG_RESETS then b.firnSet key left else b.setVal key left, if late = 0 then v else (v + 2 ^ 32 - late) % 2 ^ 32)

/-- A record of a GET or SNAPSHOT: its status and value bytes (R46, R508). -/
def Block.readRecord (b : Block) (key : Nat) : Block × Nat × List Byte :=
  match b.keyRow key with
  | none => (b, Status.paramKey.num, [])
  | some r => let (b, v) := b.readKey key r; (b, 0, beBytes r.width v)

end Sys2Proof.Machine
end

