-- ==== Sys2Proof/Machine/Perform.lean ====
section
/-! DEFINITION. What a write does when it is performed (R8, R9, R47, R50, R51, R56): where its value goes, what the owning chapter
makes of it, and the start and stop of every function. -/
namespace Sys2Proof.Machine

/-- ENABLE = 1 takes effect at the present beat: the start of each function, as its chapter gives it. -/
def Block.startFn (b : Block) (blk i : Nat) : Block :=
  match blk with
  | 0x04 => b.linkStart bJRX i
  | 0x05 => b.laneStart i
  | 0x06 => if i < 0x80 then b.viewStart i else b.trcStart (i - 0x80)
  | 0x07 => b.trgStart i
  | 0x08 => if i < 0x20 then b.capStart i else b.replayStart (i - 0x20)
  | 0x0A => if i < 0x10 then b.plStart i else if i < 0x30 then b.spgStart (i - 0x20) else if i = 0x40 then b.compStart else b.outStart (i - 0x80)
  | 0x0B => b.coreStart i
  | 0x0C => b.netStart i
  | 0x0D => b.strStart i
  | 0x0E => b.decStart (i - 0x10)
  | 0x0F => b.stmStart i
  | 0x10 => b.vecStart
  | 0x12 => b.tiuStart
  | 0x14 => b.auxEnable
  | 0x15 => if i < 0x20 then b.portStart (i - 0x10) else if i < 0x30 then b.expStart (i - 0x20) else b.impStart (i - 0x30)
  | 0x17 => b.linkStart bJTX i
  | _ => b

/-- ENABLE = 0 takes effect at the present beat. A lane's stop ends its calibration run (R430). -/
def Block.stopFn (b : Block) (blk i : Nat) : Block :=
  match blk with
  | 0x04 => b.linkStop bJRX i
  | 0x05 => (b.laneStop i).calAbort i
  | 0x06 => if i < 0x80 then b.viewStop i else b.trcStop (i - 0x80)
  | 0x07 => b.trgStop i
  | 0x08 => if i < 0x20 then b.capStop i else b.replayStop (i - 0x20)
  | 0x0A => if i < 0x10 then b.plStop i else if i < 0x30 then b.spgStop (i - 0x20) else if i = 0x40 then b.compStop else b.outStop (i - 0x80)
  | 0x0B => b.coreStop i
  | 0x0C => b.netStop i
  | 0x0D => b.strStop i
  | 0x0E => b.decStop (i - 0x10)
  | 0x0F => b.stmStop i
  | 0x10 => b.vecStop
  | 0x12 => b.tiuStop
  | 0x14 => b.auxDisable
  | 0x15 => if i < 0x20 then b.portStop (i - 0x10) else if i < 0x30 then b.expStop (i - 0x20) else b.impStop (i - 0x30)
  | 0x17 => b.linkStop bJTX i
  | _ => b

/-- A block at a boundary, and the functions that its requests start there: they enter STARTING once every write of the boundary is in
force (R51). -/
abbrev Starting := Block × List (Nat × Nat)

/-- A start or stop request performed at the present beat (R50): what the function's state makes of it. A function that an earlier request
of the boundary starts counts as STARTING. -/
def lifeRequest (x : Starting) (blk i : Nat) (on : Bool) : Starting :=
  let b := x.1.setEnable blk i on
  let starting := x.2.contains (blk, i)
  if b.heldReq blk i ≠ 0 then (b, x.2)
  else if on then
    (if starting then (b, x.2)
     else if b.isOff blk i then (b, x.2 ++ [(blk, i)])
     else (if b.life blk i = lStopping then b.setHeld blk i 1 else b, x.2))
  else
    (if starting ∨ b.life blk i = lStarting then b.setHeld blk i 2 else if b.isOn blk i then b.stopFn blk i else b, x.2)

/-- The starts of a boundary, all in its first core cycle: along the signal path, links before lanes before views. -/
def Starting.go (x : Starting) : Block := (sortBy (·.1) x.2).foldl (fun b s => b.startFn s.1 s.2) x.1

/-- The value that a write leaves: the bits it may set, and the others as they stand (R47). -/
def mergeVal (r : Row) (old v : Nat) : Nat :=
  let m := r.mask (fun f => !f.rsvd && f.acc == .rw)
  (old - Nat.land old m) + Nat.land v m

/-- Where the value of a write goes at its performance (R8, R56): into force, or held for its later instant. FRAME values of a
spectrogram plane, which has no frames, come into force at once (DESIGN CHOICE, log entry 158); an AVS_CFG written in FAULT waits (R496). -/
def Block.placeVal (b : Block) (key : Nat) (r : Row) (v : Nat) : Block :=
  let wait (b : Block) : Block :=
    let old := ((tfind b.waiting key).map (·.toNat)).getD (b.val key)
    { b with waiting := tset b.waiting key (BitVec.ofNat 64 (mergeVal r old v)) }
  match effectOf key r with
  | .arm | .lock => wait b
  | .frame =>
    if keyBlock key = bDEN ∧ 0x20 ≤ keyInst key ∧ keyInst key < 0x30 then b.setVal key (mergeVal r (b.val key) v)
    -- a frame boundary at the performance beat is the first (R261)
    else if keyBlock key = bDEN ∧ keyInst key < 0x10 ∧ b.beat % b.plF (keyInst key) = 0 then
      (b.notePast key).setVal key (mergeVal r (b.val key) v)
    else wait b
  | .boot => { b with firn := tset b.firn key (BitVec.ofNat 64 (mergeVal r (b.val key) v)) }
  | _ =>
    if key = K.THM_AVS_CFG ∧ b.avsFault then wait b
    else
      let past := (keyBlock key == bLANE && keyItem key == 0x1A) ||
        (keyBlock key == bXFM && decide (keyInst key < 0x80) && decide (0x12 ≤ keyItem key) && decide (keyItem key ≤ 0x14))
      (if past then b.notePast key else b).setVal key (mergeVal r (b.val key) v)

/-- What a written value changes in the configuration besides itself: a lane's stages, a table's storage, a ring, the display pool, a
buffer, the stimulus store. -/
def Block.settleVal (b : Block) (key v : Nat) (old : Nat) : Block :=
  let i := keyInst key; let it := keyItem key
  match keyBlock key with
  | 0x05 =>
    if it = 0x19 then b.setLane i { b.lane i with swaps := (b.lane i).swaps ++ [⟨v, 0⟩] }
    else b.lnWrote i it old (if it = 0x14 then v else b.val key)
  | 0x06 => if 0xC0 ≤ i ∧ it = 0x10 then b.winConfigure (i - 0xC0) v else b
  | 0x08 => if i < 0x20 ∧ (it = 0x11 ∨ it = 0x12) then b.cpRingShow i else b
  | 0x0A => if i = compInst ∧ it = 0x40 then b.poolWrote else b
  | 0x0F => if i = stmStore ∧ it = 0x10 then b.stmStored else b
  | _ => b

/-- The value of a write other than of ENABLE, put where it goes. -/
def Block.storeVal (b : Block) (key v : Nat) : Block :=
  match b.keyRow key with
  | none => b
  | some r =>
    if keyBlock key = bDEN ∧ 0x50 ≤ keyInst key ∧ keyInst key < 0x60 ∧ keyItem key = 0x10 then (b.bufCfg (keyInst key - 0x50) v).1
    else if keyBlock key = bLANE ∧ keyItem key = 0x19 then b.settleVal key v 0
    else (b.placeVal key r v).settleVal key v (b.val key)

/-- What the owning chapter makes the engine do on a write, when it is performed; `old` is the value before it. -/
def Block.actVal (b : Block) (m : Mem) (key v old session seq : Nat) : Block :=
  let i := keyInst key; let it := keyItem key
  match keyBlock key with
  | 0x02 => if it = 0x12 then b.outAck v else b
  | 0x03 => if it = 0x13 then b.pllRetune 1 else if it = 0x14 ∧ bit v 0 then b.pllRelock i else b
  | 0x04 => if 0x40 ≤ i ∧ it = 0x13 then b.spiGo (i - 0x40) v else b
  | 0x05 => if it = 0x11 then b.calRebase i else if it = 0x08 ∧ v ≠ old ∧ b.isOn bLANE i then b.calAbort i else b
  | 0x06 => if 0x80 ≤ i ∧ i < 0xA0 ∧ it = 0x13 ∧ bit v 0 then b.trcClear (i - 0x80) else b
  | 0x07 => if 0x20 ≤ i ∧ it = 0x10 then b.outConfigured (i - 0x20) old else b
  | 0x08 => if it = 0x17 ∧ bit v 0 then b.capMark i else b
  | 0x0A =>
    if i < 0x10 ∧ it = 0x18 ∧ bit v 0 then b.plClear i
    else if 0x80 ≤ i then
      (if it = 0x42 ∧ bit v 0 then b.sideGo (i - 0x80) v
       -- of an output that is OFF, a new pixel clock is a new target at once (R419)
       else if it = 0x13 ∧ b.isOff bDEN i then b.pllRetune (outPll (i - 0x80))
       else if (it = 0x11 ∨ it = 0x12 ∨ it = 0x13 ∨ it = 0x14 ∨ it = 0x15) ∧ !b.isOff bDEN i then b.setModePending (i - 0x80) true else b)
    else b
  | 0x0F => if it = 0x13 ∧ bit v 12 then (b.stmJump m i (bits v 11 0) 0 0).1 else b
  | 0x10 => if it = 0x15 ∧ bit v 0 then b.vecClear else if it = 0x11 ∨ it = 0x12 then b.vecIdle else b
  | 0x11 =>
    if i = 0 then
      (match it with
       | 0x10 => b.timConfigured old
       | 0x12 => (b.setVal key old).ageRestart.firnSet key v
       | 0x14 => (b.pltSetBeat v).getD b
       | _ => b)
    else if i < 0x18 ∧ it = 0x11 ∧ bit v 0 then b.sysrefShot (i - 0x10)
    else if i = refInst then b.refSettle
    else if 0x40 ≤ i ∧ it = 0x10 then b.ptpSettle (i - 0x40)
    else b
  | 0x12 => if i = 0 ∧ it = 0x15 ∧ bit v 0 then b.tiuCalStart else b
  | 0x13 =>
    if 32 ≤ i then b
    else if it = 0x12 ∧ bit v 0 then b.calCommit i
    else if it = 0x13 ∧ bit v 0 then b.calClear i
    else if 0x1000 ≤ it then
      let b := (b.firnSet key (b.val key)).setLane i { b.lane i with chgCorr := (b.lane i).chgCorr ||| 2 ^ 5 }
      b.calRebase i
    else b
  | 0x14 =>
    if i ≠ 0 then b
    else if it = 0x10 then b.auxConfigured old
    else if it = 0x11 ∧ bit v 0 then b.auxStart
    else if it = 0x12 ∧ bit v 0 then b.auxSelfcal
    else b
  | 0x15 => if i = 0 ∧ it = 0x10 then b.pltSettle else b
  | 0x16 => b.secWrote i it v session seq
  | 0x18 => if it = 0x11 ∧ !b.avsFault then b.avsConfigured else if it = 0x12 ∧ bit v 0 then b.peakClear else b
  | _ => b

/-- A write other than of ENABLE is performed at the present instant. -/
def Block.writeVal (b : Block) (m : Mem) (key v session seq : Nat) : Block :=
  (b.storeVal key v).actVal m key v (b.val key) session seq

/-- ENABLE of an instance that has one. -/
def isEnable (key : Nat) : Bool := keyItem key == 1 && hasLife (keyBlock key) (keyInst key)

/-- A write performed at the present beat. -/
def Starting.perform (x : Starting) (m : Mem) (key v session seq : Nat) : Starting :=
  if isEnable key then lifeRequest x (keyBlock key) (keyInst key) (bit v 0) else (x.1.writeVal m key v session seq, x.2)

/-- A held request begins at the first boundary after its function reached ON or OFF (R51). -/
def Block.heldBegin (b : Block) (blk i : Nat) : Block :=
  match b.heldReq blk i, b.life blk i with
  | 1, 0 => (b.setHeld blk i 0).startFn blk i
  | 2, 2 => (b.setHeld blk i 0).stopFn blk i
  | _, _ => b

end Sys2Proof.Machine
end

