-- ==== Sys2Proof/Machine/Accept.lean ====
section
/-! DEFINITION. Acceptance of a record (R22, R50 to R54, R58, R59): the configuration that will be in force at the performance beat, and
the ten checks of R54 against it. -/
namespace Sys2Proof.Machine

/-- Who asks for a record, the beat at which it will be performed, whether it is part of an atomic set (R58), and whether its
TARGET_BEAT is 0. -/
structure Ask where
  asker : Asker
  target : Nat
  many : Bool := false
  zero : Bool := false
deriving DecidableEq, Repr

/-! ## The configuration at the performance beat -/

/-- Functions whose start, or whose stop, ends at the boundary after it, whatever happens. -/
def shortStart (blk i : Nat) : Bool :=
  match blk with
  | 0x06 => decide (0x80 ≤ i)
  | 0x07 | 0x0B | 0x0E | 0x10 | 0x12 => true
  | 0x08 => decide (i < 0x20)
  | 0x0A => (decide (0x20 ≤ i) && decide (i < 0x30)) || i == 0x40
  | 0x15 => decide (0x20 ≤ i) && decide (i < 0x28)
  | _ => false
def shortStop (blk i : Nat) : Bool :=
  match blk with
  | 0x04 | 0x17 | 0x0C | 0x0E | 0x0F | 0x10 | 0x12 | 0x14 | 0x15 => true
  | 0x06 => decide (0x80 ≤ i)
  | 0x08 => decide (0x20 ≤ i)
  | 0x0A => decide (0x20 ≤ i) && decide (i < 0x30)
  | _ => false

/-- The state of a function, its held request, and the beat at which it entered that state. -/
structure LifeAt where
  st : Nat
  held : Nat
  since : Nat
deriving DecidableEq, Repr

/-- One move of a function that is certain to have happened by beat `t`: a short start or stop ends, a held request begins (R51). -/
def LifeAt.move (x : LifeAt) (blk i t : Nat) : LifeAt :=
  if t ≤ x.since then x
  else if x.st = lStarting ∧ shortStart blk i then { x with st := lOn, since := x.since + 1 }
  else if x.st = lStopping ∧ shortStop blk i then { x with st := lOff, since := x.since + 1 }
  else if x.st = lOn ∧ x.held = 2 then ⟨lStopping, 0, x.since + 1⟩
  else if x.st = lOff ∧ x.held = 1 then ⟨lStarting, 0, x.since + 1⟩
  else x

/-- A configuration that is foreseen, with the beats at which functions entered their states there. -/
structure Plan where
  b : Block
  since : Tab Nat := []
deriving DecidableEq, Repr

/-- Every function moves on to beat `t`. -/
def Plan.moveTo (p : Plan) (t : Nat) : Plan :=
  p.b.params.foldl (fun p e =>
    if keyItem e.1 = 2 ∧ bits e.2.toNat 3 0 ≠ 0 then
      let blk := keyBlock e.1; let i := keyInst e.1
      let x : LifeAt := ⟨p.b.life blk i, p.b.heldReq blk i, tget 0 p.since e.1⟩
      let y := (((x.move blk i t).move blk i t).move blk i t).move blk i t
      if y = x then p else ⟨p.b.setVal e.1 (setBits (p.b.val e.1) 3 0 (y.st + 4 * y.held)), tset p.since e.1 y.since⟩
    else p) p

/-- The writes of a body; START_CORE and STOP_CORE are writes of ENABLE (R66). -/
def ReqBody.writes : ReqBody → List WriteRec
  | .write r => [r]
  | .writeMany rs => rs
  | .startCores cs _ => cs.map (fun c => ⟨mkKey bWVR c 1, 1⟩)
  | .stopCores cs => cs.map (fun c => ⟨mkKey bWVR c 1, 0⟩)
  | _ => []

/-- A start record: it acts after every other write of its boundary (R51). -/
def WriteRec.starts (r : WriteRec) : Bool := isEnable r.key && bit r.val 0

/-- Units of an ARM, armed at the present beat; STM has nothing to arm but values held for it (log entry 32). -/
def Block.armUnit (b : Block) (k : Nat) : Block :=
  match keyBlock k with
  | 0x07 => b.trgArm (keyInst k)
  | 0x08 => b.cpArm (keyInst k)
  | _ => b
def Block.disarmUnit (b : Block) (k : Nat) : Block :=
  match keyBlock k with
  | 0x07 => b.trgDisarm (keyInst k) 0
  | 0x08 => b.cpStop (keyInst k) 1
  | _ => b

/-- FORCE of a unit without AUTO leaves it disarmed (R184, R186). -/
def Block.forcedUnit (b : Block) (k : Nat) : Block :=
  let u := keyInst k
  if b.tgAuto u then b else b.setTrg u { b.trg u with arm := none }

/-- A lane with changes performed and not yet applied. -/
def Lane.changed (x : Lane) : Bool :=
  x.chgCorr != 0 || x.chgMix || x.chg7 || x.chg8 || x.chg9 || x.chg10 || x.oldSource.isSome

/-- Every lane that this boundary's writes have changed takes them (R111, R124); an imported lane's stages are unused (R458). -/
def Block.lanesApply (b : Block) : Block :=
  b.lanes.foldl (fun b e => if (b.lane e.1).changed ∧ (b.importOf e.1).isNone then (b.lnApply e.1).expReanchor e.1 else b) b

/-- A write in a plan: it takes its place, and the engine does nothing for it. -/
def Starting.plan (x : Starting) (r : WriteRec) : Starting :=
  if isEnable r.key then lifeRequest x (keyBlock r.key) (keyInst r.key) (bit r.val 0) else (x.1.storeVal r.key r.val, x.2)

/-- The plan after the requests of one beat: writes, stops and arms in order of acceptance, then the starts. -/
def Plan.perform (p : Plan) (t : Nat) (bodies : List ReqBody) : Plan :=
  let p := p.moveTo t
  let ws := (bodies.map ReqBody.writes).flatten
  let x : Starting := bodies.foldl (fun x y =>
    match y with
    | .arm us => (us.foldl Block.armUnit x.1, x.2)
    | .disarm us => (us.foldl Block.disarmUnit x.1, x.2)
    | .force us => (us.foldl Block.forcedUnit x.1, x.2)
    | y => y.writes.foldl Starting.plan x) ({ p.b with beat := t }, [])
  let b := Starting.go (x.1.lanesApply, x.2)
  ⟨{ b with beat := p.b.beat }, (ws.filter (fun r => isEnable r.key)).foldl (fun s r => tset s (r.key + 1) t) p.since⟩

/-- The present configuration carried to beat `t` through dated requests (R50, R54). The dates of the functions' present states are the
beat in progress. -/
def Block.foresee (b : Block) (t : Nat) (items : List (Nat × ReqBody)) : Block :=
  let due := items.filter (fun x => decide (x.1 ≤ t))
  let days := (due.map (·.1)).foldl (fun l d => if l.contains d then l else insertBy id d l) []
  let p : Plan := ⟨b, (b.params.filter (fun e => keyItem e.1 == 2)).map (fun e => (e.1, b.beat))⟩
  ((days.foldl (fun p d => p.perform d ((due.filter (fun x => x.1 == d)).map (·.2))) p).moveTo t).b

/-- The accepted requests by beat. -/
def Block.planned (b : Block) : List (Nat × ReqBody) := b.accepted.map (fun a => (a.target, a.body))

/-- The prepared transactions that are not committed: they count toward budgets (R59). -/
def Block.prepared (b : Block) : List (Nat × ReqBody) :=
  (b.txns.filter (fun t => !t.committed)).map (fun t => (t.target, .writeMany t.recs))

/-! ## Lanes, links and cores -/

/-- The refusals of a SOURCE value (R93, R225). -/
def Block.sourceOk (p : Block) (v : Nat) : Bool :=
  let k := bits v 3 0; let conv := bits v 7 5; let cplx := bit v 8; let idx := bits v 10 9
  if bit v 4 then cplx && idx == 0
  else decide (conv + b2n cplx < p.lkM bJRX k) && !(cplx && conv % 2 == 1) && idx != 3 &&
    (idx != 2 || (decide (2 ≤ p.lkCS bJRX k) && decide (bits v 13 11 < 4))) && (!bit v 14 || decide (1 ≤ p.lkCS bJRX k))

/-- f_conv lies within the capacity of the lane's kind (R93). -/
def Block.capacityOk (p : Block) (i : Nat) : Bool :=
  rateLe (p.lnFconv i) (p.lnSlots i * (if p.lnCplx i then 1600000000 else 3200000000))

/-- The other lanes of a lane's group that are not OFF. -/
def Block.groupOthers (p : Block) (i : Nat) : List Nat :=
  if p.lnGroup i = 0 then [] else which 32 (fun j => j != i && p.lnGroup j == p.lnGroup i && !p.isOff bLANE j)

/-- Two links share one SYSREF epoch (R98): they have the same SYSREF output, or both outputs are PERIODIC, or their epochs lie a whole
number of extended multiblocks of each apart. Of a link whose epoch is still to come nothing is known that breaks the rule (DEDUCED, log
entry 152). -/
def Block.epochShared (p : Block) (k l : Nat) : Bool :=
  let j := p.lkSel bJRX k; let j' := p.lkSel bJRX l
  let at' (k j : Nat) : Option Int := ((p.lnk bJRX k).epoch).or (p.sysrefEpoch j)
  j == j' || (p.sysrefMode j == 1 && p.sysrefMode j' == 1) ||
    (match at' k j, at' l j' with
     | some x, some y => p.epochsAgree bJRX k x y && p.epochsAgree bJRX l x y
     | _, _ => true)

/-- The links of two lanes of one group share an epoch and have the same LATENCY in input samples, now or at their first release (R98). -/
def Block.linksMatch (p : Block) (i j : Nat) : Bool :=
  p.lnReplay i || p.lnReplay j || p.lnLink i == p.lnLink j ||
    (p.epochShared (p.lnLink i) (p.lnLink j) && p.lnLatency i == p.lnLatency j)

/-- The lane may have this number for its kind (R19, R21). -/
def laneNumberOk (kind i : Nat) : Bool := decide (kind < 3) && i % slotsOfKind kind == 0

/-- R131: the limits of THAW for a lane that is to run. -/
def Block.thawLane (p : Block) (i : Nat) (starting : Bool) : Bool :=
  (!starting || decide ((which 32 (fun j => j != i && !p.isOff bLANE j)).length ≤ 1)) &&
    (!starting || p.f K.LANE_CFG i 1 0 == 0) && rateLe (p.lnFs i) 400000000

/-- The keys of a lane that move its rate. -/
def rateItem (item : Nat) : Bool := item == 0x08 || item == 0x15 || item == 0x16 || item == 0x17 || item == 0x1B

/-- What a rate change of a lane that is not OFF must keep (R24, R135). -/
def Block.rateValueOk (p : Block) (i : Nat) : Bool :=
  let (n, d) := p.lnFs i
  (p.groupOthers i).all (fun j => sameRate (p.lnFs j) (n, d)) &&
    ([0, 1, 2].all (fun v => p.isOff bXFM (4 * i + v) || !viewDefined (4 * i + v) || decide (n ≤ 100000000 * p.vwHop (4 * i + v) * d)))

/-- The budgets that a rate change must keep (R25, R26, R457). -/
def Block.rateBudgetOk (p : Block) : Bool :=
  decide (p.xfmUsed ≤ 3072) &&
    decide (p.histUsed ≤ 128) &&
    (List.range 4).all (fun q => let (n, d) := p.portCharge q none; decide (n ≤ 200000000000 * d))

/-- The FIR output that lane sample `n` begins at, counted from the anchor (R122). -/
def Block.firOutput (b : Block) (i n : Nat) : Int :=
  (((n : Int) - b.lnAnchorIdx i) * (2 ^ 32 + b.lnRatio i : Nat)).fdiv ((2 ^ 32 : Nat) : Int)

/-- The FIR output after the current swap's fade, which has the XFADE in force in the beat in which the swap begins (R121, R122). -/
def Block.fadeEnd (b : Block) (i : Nat) : Option Int :=
  match (b.lane i).fade, b.swapQueue i with
  | some f, _ => some (b.firOutput i f.start + max 1 f.len)
  | none, [] => none
  | none, (n, _, _) :: _ =>
    let n := max n (b.lane i).next
    let t := b.lnBeatOf i n
    let k := ki K.LANE_XFADE i
    let m := bits (if t ≤ b.beat then b.valAt k t else (b.foresee t b.planned).val k) 12 0
    some (b.firOutput i n + max 1 m)

/-- The index that a SWAP_AT value asks for at beat `t` (R121). -/
def Block.swapIndex (p : Block) (i t v : Nat) : Nat := if v = 2 ^ 64 - 1 then p.lnFirst i t else v

/-- A SWAP_AT write, judged against the swaps accepted (R121). -/
def Block.swapCheck (b p : Block) (i t v : Nat) : Status :=
  let n := p.swapIndex i t v
  if p.isOff bLANE i || !(p.lane i).running || decide (t < p.lnEpoch i) then .state
  else if 2 ≤ (b.swapQueue i).length then .swapPending
  else if n < p.lnFirst i t ∨ p.lnFirst i (t + 1) ≤ n then .paramRange
  else match b.fadeEnd i with
    | some e => if b.firOutput i n < e then .deferred else .ok
    | none => .ok

/-- Step 8 for a lane: the present lane `b`, the foreseen one `p`, and the foreseen one with the write in place `q`. -/
def Block.laneState (b p : Block) (i item v : Nat) : Status :=
  if (p.importOf i).isSome ∧ item ≠ 0x1D then .busy
  else if item = 1 then
    if v % 2 = 1 then .ok
    else need ([0, 1, 2].all (fun w => p.isOff bXFM (4 * i + w) || !viewDefined (4 * i + w)) && !p.trgUsesLane i && !p.capProtects 0 i &&
      !p.pltUsesLane i && !p.strUses bLANE i) .busy
  else if item = 0x08 ∧ p.isOn bLANE i ∧ v ≠ p.val (ki K.LANE_SOURCE i) then
    let q := p.setVal (ki K.LANE_SOURCE i) v
    let up := if bit v 4 then b.isOn bCAP (0x20 + bits v 3 0) else b.isOn bJRX (bits v 3 0) && b.released bJRX (bits v 3 0)
    need (up && sameRate (q.lnFin i) (p.lnFin i)) .state
  else if item = 0x10 then need (p.isOff bLANE i) .state
  else if item = 0x17 then need ((b.swapQueue i).isEmpty) .busy
  else if 0x1000 ≤ item then
    need ((p.lane i).bank != (if item < 0x1200 then 0 else 1) && (b.swapQueue i).isEmpty) .busy
  else .ok

/-- Step 9 for a lane. -/
def Block.laneValue (p q : Block) (i item v : Nat) : Status :=
  let live := !p.isOff bLANE i
  let values :=
    match item with
    | 0x08 => p.sourceOk v && (!live || (p.groupOthers i).all (fun j => q.linksMatch i j))
    | 0x10 => laneNumberOk (bits v 1 0) i
    | 0x15 => decide (bits v 18 15 ≤ cicGrowth (bits v 2 0) (bits v 14 3 + 1))
    | 0x17 => decide ((bits v 8 0 + 1) * p.lnSlots i ≤ 512)
    | _ => true
  need (values && (!(rateItem item && live) || q.rateValueOk i)) .paramRange

/-- Step 9 for the start of a lane at beat `t` (R24, R93, R98, R119, R127, R460). -/
def Block.laneStartValue (p : Block) (i t : Nat) : Status :=
  let e := p.val (ki K.PLT_EPOCH (0x40 + p.lnGroup i))
  need (p.sourceOk (p.lnSource i) && decide (p.lnTaps i * p.lnSlots i ≤ 512) && (p.lnGroup i == 0 || e == 0 || decide (e ≤ t)) &&
    (p.groupMembers i).all (fun j => sameRate (p.lnFin j) (p.lnFin i) && p.lnStepQ j == p.lnStepQ i) &&
    (p.groupOthers i).all (fun j => sameRate (p.lnFs j) (p.lnFs i) && p.linksMatch i j)) .paramRange

/-- Step 10 for the start of a lane (R21, R93). -/
def Block.laneStartBudget (p : Block) (i : Nat) : Status :=
  need ((which 32 (fun j => j != i && !p.isOff bLANE j)).all (fun j => Nat.land (p.lnSlotMask i) (p.lnSlotMask j) == 0) && p.capacityOk i) .budget

/-- A port's SPI_GO is accepted and waits for its beat. -/
def Block.spiGoWaits (b : Block) (j : Nat) : Bool :=
  b.accepted.any (fun a => a.body.writes.any (fun r => r.key == ki K.JRX_SPI_GO (0x40 + j) && bit r.val 7))

/-- An output's SIDE_GO is accepted and waits for its beat. -/
def Block.sideGoWaits (b : Block) (i : Nat) : Bool :=
  b.accepted.any (fun a => a.body.writes.any (fun r => r.key == ki K.DEN_SIDE_GO i && bit r.val 0))

/-- Step 8 for an SPI port (R103). -/
def Block.spiState (b p : Block) (a : Asker) (j item v : Nat) : Status :=
  let core := match a with | .core _ => true | _ => false
  if !core ∧ p.f K.JRX_SPI_CFG (0x40 + j) 17 17 = 1 then .busy
  else if (item = 0x11 ∨ (item = 0x13 ∧ bit v 7)) ∧ (b.spiBusy j ∨ b.spiGoWaits j) then .busy
  else .ok

/-- Two rings of Y overlap (R317). -/
def ringsClash (l : List (Nat × Nat)) : Bool :=
  (List.range l.length).any (fun a => (List.range a).any (fun c =>
    let x := l.getD a (0, 0); let y := l.getD c (0, 0)
    overlaps x.1 x.2 y.1 y.2))

/-- The estimate of a tap in words per beat (R306): the spectra per beat of a view times the length of what each brings, and one whole
entry for a detector report or a trace (log entry 159). -/
def Block.tapWords (p : Block) (c t : Nat) : Nat :=
  let src := p.f (K.WVR_TAP + t) c 10 3
  let perView (j len : Nat) : Nat :=
    let (n, d) := p.lnFs (viewLane j)
    ceilDiv (n * 128 * len) (d * p.vwHop j * 100000000)
  match p.f (K.WVR_TAP + t) c 2 0 with
  | 1 => 9
  | 2 =>
    let k := p.vwOutCount src
    perView src (7 + (match p.vwFormat src with | 0 => k | 1 => ceilDiv k 3 | _ => k + ceilDiv k 3))
  | 3 => 7 + ceilDiv (2 ^ p.f K.XFM_TRC_SRC (trcInst src) 14 10) 3 + ceilDiv (p.f K.XFM_TRC_COLS (trcInst src) 11 0) 3
  | 4 => let (n, d) := p.lnFs src; ceilDiv (n * 11 * 128) (d * 10 * 100000000)
  | 5 => if p.tgSource src = 3 then perView (p.tgView src) 4 else 0
  | _ => 0

/-- Step 9 for the start of a core (R306, R317). -/
def Block.coreStartOk (p : Block) (c : Nat) : Bool :=
  let rings := (p.val (ki K.WVR_RPT_Q c) :: p.val (ki K.WVR_SVC_Q c) :: (List.range 8).map (fun t => p.val (ki (K.WVR_TAP_RING + t) c))).map ringOf
  !ringsClash (rings.filter (fun r => r.2 != 0)) && rings.all (fun r => decide (r.1 + r.2 ≤ 16384)) &&
    decide (((List.range 8).map (fun t => p.tapWords c t)).foldl (· + ·) 0 ≤ 4096)

def ringSizeOk (v : Nat) : Bool := bits v 27 14 == 0 || decide (16 ≤ bits v 27 14)

def Block.wvrState (p : Block) (i item : Nat) : Status :=
  if i = 0x40 then need ((List.range 64).all (fun c => p.isOff bWVR c)) .state
  else if item = 0x13 ∨ item = 0x14 ∨ (0x20 ≤ item ∧ item < 0x30) then need (p.isOff bWVR i) .state
  else .ok

def Block.wvrValue (p : Block) (i item v : Nat) : Status :=
  if i = 0x40 then need (bits v 15 8 == 0 || decide (bits v 7 0 + bits v 15 8 ≤ 134)) .paramRange
  else if item = 1 then need (v % 2 == 0 || p.coreStartOk i) .paramRange
  else if item = 0x13 ∨ item = 0x14 ∨ (0x28 ≤ item ∧ item < 0x30) then need (ringSizeOk v) .paramRange
  else if 0x20 ≤ item ∧ item < 0x28 then need (bits v 2 0 < 6) .paramRange
  else if item = 0x12 then need (bits v 15 0 != 0) .paramRange
  else .ok

/-- SET_BEAT at beat `t` (R397, R455): the engine is foreseen quiet, no schedule or transaction is held, and no other accepted request
is due at or after `t`. A leader's members are quiet too. -/
def Block.setBeatState (b p : Block) (t v : Nat) : Status :=
  if b.topology ≠ 0 ∧ !b.leader then .state
  else if v = t then .ok
  else need ((({ p with accepted := b.accepted.filter (fun a => decide (t ≤ a.target)) } : Block)).quiet &&
    (!b.leader || (b.plt.quiets.all (·.2) && b.plt.notice.isNone))) .busy

/-! ## The ten checks -/

/-- Step 5: functions that THAW does not offer (R70, R131, R135, R367, R451). R474 names lanes and views and not the trace units that read
them; the model offers trace units with the views (DEDUCED, log entry 140). -/
def Block.offered (b p : Block) (blk i item v : Nat) : Status :=
  if b.dev = .flow then .ok
  else match blk with
    | 0x09 | 0x0A | 0x0D | 0x0E | 0x0F => .notInThaw
    | 0x10 => need (item == 0x11 || item == 0x12) .notInThaw
    | 0x15 => need (!(decide (0x20 ≤ i) && decide (i < 0x38))) .notInThaw
    | 0x0B => need (i != 0x40) .notInThaw
    | 0x11 => need (!(i == 0 && (item == 0x10 || item == 0x11)) && decide (i < 0x40)) .notInThaw
    | 0x08 => need (item != 0x11 || decide (32 ≤ i)) .notInThaw
    | 0x05 =>
      if item = 1 then need (v % 2 == 0 || !p.isOff bLANE i || p.thawLane i true) .notInThaw
      else if item = 0x10 then need (p.isOff bLANE i || bits v 1 0 == 0) .notInThaw
      else if rateItem item ∧ !p.isOff bLANE i then
        let q := p.setVal (mkKey bLANE i item) v
        need (q.thawLane i false || rateLe (q.lnFs i) ((p.lnFs i).1 / max 1 (p.lnFs i).2)) .notInThaw
      else .ok
    | 0x06 =>
      if 0x80 ≤ i then .ok
      else if item = 1 then need (!(v % 2 == 1 && p.isOff bXFM i && decide (12 < p.vwN i))) .notInThaw
      else need (!(item == 0x10 && !p.isOff bXFM i && decide (12 < (p.setVal (mkKey bXFM i item) v).vwN i))) .notInThaw
    | _ => .ok

/-- A view's spectra are in use (R137, R172, R198, R248, R343). -/
def Block.viewUsed (p : Block) (j : Nat) : Bool :=
  p.vwTraced j || p.plUsesView j || p.trgUsesView j || p.capProtects 1 j || p.strUses bXFM j

/-- A request accepted before writes 1 to bit 0 of a key at beat `t`: what it starts is in progress when a second one of that beat is
performed (R54, R424, R443). -/
def Block.startsAt (b : Block) (t key : Nat) : Bool :=
  b.accepted.any (fun a => a.target == t && a.body.writes.any (fun r => r.key == key && bit r.val 0))

/-- Step 8 by the owning chapter: `b` is the present, `p` the foreseen configuration. -/
def Block.chapterState (b p : Block) (a : Ask) (blk i item v : Nat) : Status :=
  match blk with
  | 0x03 =>
    if item = 0x14 ∧ !bit v 0 then .ok
    else if item = 0x14 ∧ b.startsAt a.target (mkKey bCLK i item) then .busy else p.clkCheckState i item
  | 0x04 => if i < 0x10 then p.linkState bJRX i item v else b.spiState p a.asker (i - 0x40) item v
  | 0x05 => if item = 0x19 then b.swapCheck p i a.target v else b.laneState p i item v
  | 0x06 =>
    if i < 0x80 ∧ 0x12 ≤ item ∧ item ≤ 0x14 ∧ p.plUsesView i then .busy
    else if 0x80 ≤ i ∧ i < 0xA0 ∧ item = 1 ∧ v % 2 = 0 ∧
      ((List.range 16).any (fun s => !p.isOff bDEN (spgInst s) && p.spgUnit s == i - 0x80) || p.capProtects 2 (i - 0x80) || p.strUses bXFM i)
    then .busy
    else p.xfmState i item v (p.viewUsed i)
  | 0x08 =>
    if i < 0x20 ∧ item = 1 ∧ v % 2 = 0 ∧ p.strUses bCAP i then .busy
    else if 0x20 ≤ i ∧ item = 1 ∧ v % 2 = 1 ∧ p.isOff bCAP i ∧ p.f K.CAP_RPL_SRC i 5 5 = 1 ∧ p.decUsed (p.f K.CAP_RPL_SRC i 6 6) 99 then .busy
    else p.capState i item v
  | 0x09 => p.memState item
  | 0x0A =>
    -- one transaction at a time, as SPI ports do (R103, R286): a GO for a later beat also keeps the channel
    if 0x80 ≤ i ∧ (item = 0x41 ∨ (item = 0x42 ∧ bit v 0)) ∧ b.sideGoWaits i then .busy
    else if 0x80 ≤ i then p.outCheckState (i - 0x80) item v
    else if i < 0x10 ∧ item = 1 ∧ v % 2 = 0 ∧ p.strUses bDEN i then .busy
    else
      let s := p.denState i item v
      if s = .ok ∧ 0x50 ≤ i ∧ i < 0x60 ∧ p.bufReferenced (i - 0x50) then .deferred else s
  | 0x0B => p.wvrState i item
  | 0x0C => p.netState i item v
  | 0x0D => p.strState i item v
  | 0x0E => p.cdcState i item
  | 0x0F => p.stmState i item v
  | 0x10 => p.vecState item v
  | 0x11 => if i = 0 ∧ item = 0x14 then b.setBeatState p a.target v else p.timCheckState i item v
  | 0x12 => p.tiuState i item
  | 0x13 => p.calState i item v
  | 0x14 =>
    let s := p.auxState i item v
    if s = .ok ∧ i = 0 ∧ item = 0x11 ∧ bit v 0 ∧ b.startsAt a.target (mkKey bAUX i item) then .busy else s
  | 0x15 => p.pltState i item v
  | 0x16 => p.secState i item v
  | 0x17 => if item = 1 ∧ v % 2 = 0 ∧ p.stmUsesLink i then .busy else p.linkState bJTX i item v
  | _ => .ok

/-- Keys whose values are checked when their unit is armed, not when they are written (R170, R203). -/
def armChecked (blk : Nat) (e : Effect) : Bool := (blk == bTRG || blk == bCAP) && e == .arm

/-- The fields that a write may set hold values that their table admits. -/
def Row.inRange (r : Row) (v : Nat) : Bool :=
  r.flds.all (fun f => !f.open' || (decide (f.mn ≤ bits v f.hi f.lo) && decide (bits v f.hi f.lo ≤ f.mx)))

/-- Step 9 by the owning chapter. -/
def Block.chapterValue (p : Block) (a : Ask) (blk i item v : Nat) : Status :=
  match blk with
  | 0x03 => p.clkValue i item v
  | 0x04 => if i < 0x10 then p.linkValue bJRX i item v else .ok
  | 0x05 =>
    if item = 1 then (if v % 2 = 1 ∧ p.isOff bLANE i then p.laneStartValue i a.target else .ok)
    else if item = 0x19 ∨ item = 0x14 then .ok
    else p.laneValue (p.setVal (mkKey bLANE i item) v) i item v
  | 0x06 => p.xfmValue i item v
  | 0x08 => p.capValue i item v
  | 0x0A => if 0x80 ≤ i then p.outValue (i - 0x80) item v else p.denValue i item v
  | 0x0B => p.wvrValue i item v
  | 0x0C => p.netValue i item v
  | 0x0D => p.strValue i item v
  | 0x0E => p.cdcValue item v
  | 0x0F => p.stmValue i item v
  | 0x10 => p.vecValue item v
  | 0x11 => if i = 0 ∧ item = 0x10 ∧ bits v 4 2 = 4 ∧ p.member = 0 then .paramRange else p.timValue i item v
  | 0x12 => p.tiuValue i item v
  | 0x13 => p.calValue i item v
  | 0x14 => p.auxValue i item v
  | 0x15 => p.pltValue i item v
  | 0x16 => match a.asker with | .session id seq => p.secValue i item v id seq | _ => .ok
  | 0x17 => p.linkValue bJTX i item v
  | 0x18 => p.thmValue item v
  | _ => .ok

/-- Step 10 by the owning chapter, against the configuration with every prepared transaction in place (R22, R59). -/
def Block.chapterBudget (p : Block) (blk i item v : Nat) : Status :=
  match blk with
  | 0x04 => if i < 0x10 then p.linkBudget bJRX i item v else .ok
  | 0x05 =>
    if item = 1 then (if v % 2 = 1 ∧ p.isOff bLANE i then p.laneStartBudget i else .ok)
    else
      let q := p.setVal (mkKey bLANE i item) v
      need ((item != 0x08 || q.capacityOk i) && (!(rateItem item && !p.isOff bLANE i) || q.rateBudgetOk)) .budget
  | 0x06 => p.xfmBudget i item v
  | 0x08 => p.capBudget i item v
  | 0x0A => if 0x80 ≤ i then .ok else p.denBudget i item v
  | 0x0B => if i = 0x40 then need (bits v 15 8 == 0 || p.unitsFree (bits v 7 0) (bits v 15 8) 0x70) .budget else .ok
  | 0x0D => p.strBudget i item v
  | 0x0F => p.stmBudget i item v
  | 0x15 => p.pltBudget i item v
  | 0x17 => p.linkBudget bJTX i item v
  | _ => .ok

/-- R50 for a request of ENABLE: its answer, and whether it changes anything. -/
def Block.lifeAnswer (p : Block) (blk i : Nat) (on many : Bool) : Status × Bool :=
  let st := p.life blk i
  if p.heldReq blk i ≠ 0 then (.busy, false)
  else if many ∧ (st = lStarting ∨ st = lStopping) then (.busy, false)
  else if on then (if st = lOff then (.ok, true) else if st = lStopping then (.deferred, true) else (.ok, false))
  else (if st = lOn then (.ok, true) else if st = lStarting then (.deferred, true) else (.ok, false))

/-- Step 2: the key may be written, and by this asker (R6, R313, R314, R480). A group session and a core write no SEC key. -/
def Block.mayWrite (b : Block) (a : Ask) (key : Nat) (r : Row) : Bool :=
  keyWritable key r &&
    (keyBlock key != bSEC ||
      (match a.asker with | .session id _ => !isGroup id | .core _ => false | .entry _ => match b.sched.find? (fun e => .entry e.id == a.asker) with
        | some e => !isGroup e.session | none => false))

/-- The primitive that a key or a unit reference belongs to, by block code and instance, if it is one (R30). -/
def primitiveOf (key : Nat) : Option Nat :=
  if [0x05, 0x06, 0x07, 0x08, 0x0A, 0x0D, 0x0F, 0x10, 0x11].contains (keyBlock key) then some (key / 65536) else none
/-- The resident service whose image core `c` holds, 0 for none (R317). -/
def Block.serviceOf (b : Block) (c : Nat) : Nat := b.f K.WVR_IMAGE c 3 1
/-- A service runs while a core that holds its image is not OFF. -/
def Block.serviceRuns (b : Block) (n : Nat) : Bool := n != 0 && (List.range 64).any (fun c => b.serviceOf c == n && !b.isOff bWVR c)
/-- Step 7: a running service owns the primitive, and the request is not one of its own (R30). -/
def Block.ownedByOther (b : Block) (a : Asker) (key : Nat) : Bool :=
  match (primitiveOf key).bind (tfind b.owned) with
  | none => false
  | some n => b.serviceRuns n && (match a with | .core c => b.serviceOf c != n | _ => true)
/-- A running service takes the primitives that its requests drive (log entry 40). -/
def Block.takePrimitives (b : Block) (a : Asker) (keys : List Nat) : Block :=
  match a with
  | .core c =>
    let n := b.serviceOf c
    if b.serviceRuns n then { b with owned := (keys.filterMap primitiveOf).foldl (fun t p => tset t p n) b.owned } else b
  | _ => b
/-- A service that no longer runs owns nothing. -/
def Block.disown (b : Block) : Block := { b with owned := b.owned.filter (fun e => b.serviceRuns e.2) }

/-- A prepared transaction holds the key for this beat (R59). -/
def Block.txnHolds (b : Block) (key t : Nat) : Bool := b.txns.any (fun x => decide (t ≤ x.target) && x.recs.any (fun r => r.key == key))

/-- Steps 5 and 8 for a write: made at acceptance, and again at its boundary (R54). -/
def Block.stateChecks (b p : Block) (a : Ask) (key v : Nat) : Status × Bool :=
  let blk := keyBlock key; let i := keyInst key; let item := keyItem key
  let off := b.offered p blk i item v
  if !off.good then (off, false)
  else if isEnable key then
    let (s, acts) := p.lifeAnswer blk i (bit v 0) a.many
    if !s.good ∨ !acts then (s, false) else (firstBad [b.chapterState p a blk i item v, s], true)
  else
    let moving := hasLife blk i && p.moving blk i &&
      (match p.keyRow key with
       | some r => (r.eff == .beat || r.eff == .sample) && r.flds.any (fun f => !f.rsvd && f.acc == .rw)
       | none => false)
    -- R121 gives SWAP_AT its own answer for a lane whose epoch is still to come
    if moving ∧ ¬(blk = bLANE ∧ item = 0x19) then (.busy, false) else (b.chapterState p a blk i item v, true)

/-- The ten checks of R54 for one write record of width `len`, with the other records of its set in place. A start pending on the same
beat judges the write as one made before it, and is judged again with the write in place (R51). -/
def Block.checkWrite (b : Block) (a : Ask) (others : List WriteRec) (r : WriteRec) (len : Nat) : Status :=
  let blk := keyBlock r.key; let i := keyInst r.key; let item := keyItem r.key
  let own (w : WriteRec) : Bool := w.starts && keyBlock w.key == blk && keyInst w.key == i
  let rest := (a.target, ReqBody.writeMany (others.filter (fun w => !own w)))
  let keep (x : Nat × ReqBody) : List (Nat × ReqBody) :=
    if !isEnable r.key ∧ x.1 = a.target ∧ x.2.writes.any own then [(x.1, .writeMany (x.2.writes.filter (fun w => !own w)))] else [x]
  let items := ((b.planned.map keep).flatten) ++ (if others.isEmpty then [] else [rest])
  let p := b.foresee a.target items
  match p.keyRow r.key with
  | none => .paramKey
  | some row =>
    let full := b.prepared
    let q := if full.isEmpty then p else b.foresee a.target (items ++ full)
    if !b.mayWrite a r.key row then .paramKey
    else if len ≠ row.width then .paramRange
    else if Nat.land r.val (row.mask (·.rsvd)) ≠ 0 ∨ 2 ^ (8 * row.width) ≤ r.val then .paramRange
    else if blk = bSEC ∧ !a.zero then .paramRange
    else
      let pre := b.offered p blk i item r.val
      if !pre.good then pre
      else if b.txnHolds r.key a.target ∨ b.ownedByOther a.asker r.key then .busy
      else
        let (s, acts) := b.stateChecks p a r.key r.val
        if !s.good ∨ (isEnable r.key ∧ !acts) then s
        else if !armChecked blk row.eff ∧ !row.inRange r.val then .paramRange
        else
          let t := firstBad [p.chapterValue a blk i item r.val, q.chapterBudget blk i item r.val]
          if !t.good then t
          else if !isEnable r.key ∧ ((b.planned.any (fun x => x.1 == a.target && x.2.writes.any own)) || others.any own) then
            let z := q.storeVal r.key r.val
            let u := firstBad [b.offered z blk i 1 1, z.chapterState z a blk i 1 1, z.chapterValue a blk i 1 1, z.chapterBudget blk i 1 1]
            if u.good then s else u
          else s

/-- The value that an accepted record carries: an all-ones SWAP_AT names its index (R121). -/
def Block.settled (b : Block) (a : Ask) (r : WriteRec) : WriteRec :=
  if keyBlock r.key = bLANE ∧ keyItem r.key = 0x19 then
    { r with val := (b.foresee a.target b.planned).swapIndex (keyInst r.key) a.target r.val }
  else r

end Sys2Proof.Machine
end

