-- ==== Sys2Proof/Machine/Requests.lean ====
section
/-! DEFINITION. What each opcode does with a request that has passed step 8 of R37 (R46, R53 to R69, R313): the target beat, the records
and unit references, their acceptance, the standing entries and transactions, memory, programs and subscriptions. -/
namespace Sys2Proof.Machine

/-- A request: who asks, where its reply goes, its TARGET_BEAT field, the beat that it resolves to, and its payload. -/
structure Req where
  asker : Asker
  rto : ReplyTo
  field : Nat
  beat : Nat
  body : List Byte
deriving DecidableEq, Repr

/-- The status and payload of a reply. -/
abbrev Answer := Nat × List Byte

/-- A reply of a status alone. -/
def Status.bare (s : Status) : Answer := (s.num, [])

/-- A request is answered: its session's reply, or the core's request block; a schedule entry's performance has no reply. -/
def Block.answer (b : Block) (q : Req) (r : Answer) : Block :=
  match q.asker with
  | .core c => b.coreReply c r.1 r.2
  | .session _ _ => b.groupReply q.rto q.field r.1 q.beat r.2
  | .entry _ => b

/-- The session and sequence that a request's events and SEC writes name: those of the entry for a schedule entry, zero for a core. -/
def Block.askerIds (b : Block) (a : Asker) : Nat × Nat :=
  match a with
  | .session id seq => (id, seq)
  | .core _ => (0, 0)
  | .entry e => match b.sched.find? (fun x => x.id == e) with | some x => (x.session, x.seq) | none => (0, 0)

/-- EV_SCHED_FAILED (R54). -/
def Block.schedFailed (b : Block) (a : Asker) (s : Nat) : Block :=
  let (id, seq) := b.askerIds a
  b.raise 984 (beBytes 4 id ++ beBytes 4 seq ++ beBytes 2 s)

/-- The accepted requests that wait for their beat (R55): the records of one request count once. -/
def Block.waitingGroups (b : Block) : Nat :=
  (b.accepted.foldl (fun (l : List Nat) a => if l.contains a.group then l else a.group :: l) []).length

/-- The keys and units that a body drives. -/
def ReqBody.keys : ReqBody → List Nat
  | .arm us | .disarm us | .force us | .calRun us => us
  | y => y.writes.map (·.key)

/-- A request is accepted for its beat. -/
def Block.accept (b : Block) (q : Req) (bodies : List ReqBody) : Block :=
  { b.takePrimitives q.asker (bodies.map ReqBody.keys).flatten with accepted := b.accepted ++ bodies.map (fun x => ⟨q.asker, b.nextGroup, q.beat, x⟩), nextGroup := b.nextGroup + 1 }

/-- The asker is a schedule entry. -/
def Asker.isEntry : Asker → Bool
  | .entry _ => true
  | _ => false

/-! ## Records (R46, R57, R58, R314, R508) -/

/-- A record as it arrives: its key, its LENGTH, and its value. -/
structure WireRec where
  key : Nat
  len : Nat
  val : Nat
deriving DecidableEq, Repr

def WireRec.write (r : WireRec) : WriteRec := ⟨r.key, r.val⟩

/-- A payload of at most `n` whole records. -/
def parseRecs : Nat → List Byte → Option (List WireRec)
  | _, [] => some []
  | 0, _ :: _ => none
  | n + 1, x :: l =>
    let p := x :: l
    let len := beNat ((p.drop 4).take 2)
    if p.length < 8 + len then none
    else (parseRecs n (p.drop (8 + len))).map (⟨beNat (p.take 4), len, beNat ((p.drop 8).take len)⟩ :: ·)

/-- The record part of a reply: a key, its status and its value. -/
def recsBytes (l : List (Nat × Nat × List Byte)) : List Byte := (l.map (fun r => recordBytes r.1 r.2.1 r.2.2)).flatten

/-- Every record of an atomic set is checked with the others in place (R58). Service keys do not appear there (R314). -/
def Block.checkMany (b : Block) (a : Ask) (recs : List WireRec) : List Status :=
  recs.mapIdx (fun k r =>
    if (serviceCore r.key).isSome then .paramKey
    else b.checkWrite a (((recs.eraseIdx k).filter (fun x => (serviceCore x.key).isNone)).map WireRec.write) r.write r.len)

/-- The outcome of an atomic set (R58): the status of the first offender, or of all; the other records of a refused set are ST_ABORTED. -/
def manyOutcome (l : List Status) : Nat × List Nat × Bool :=
  match l.find? (fun s => !s.good) with
  | some s => (s.num, l.map (fun x => if x.good then Status.aborted.num else x.num), false)
  | none => (packetStatus (l.map Status.num), l.map Status.num, true)

/-- The records of an atomic set, checked: what the reply says, and what is to be performed, if anything is. -/
def Block.judgeMany (b : Block) (q : Req) (recs : List WireRec) : Answer × Option (List WriteRec) :=
  let a : Ask := ⟨q.asker, q.beat, true, q.field == 0⟩
  let (s, l, ok) := manyOutcome (b.checkMany a recs)
  ((s, recsBytes ((recs.zip l).map (fun (r, x) => (r.key, x, [])))), if ok then some (recs.map (fun r => b.settled a r.write)) else none)

/-- SET_MANY (R58). -/
def Block.setMany (b : Block) (q : Req) (recs : List WireRec) : Block × Answer :=
  match b.judgeMany q recs with
  | (r, some ws) => (b.accept q [.writeMany ws], r)
  | (r, none) => (b, r)

/-- A SET in progress: the records answered, those accepted for the beat, the service records to post (core, key, value, place), and a
ZEROISE that follows the reply. -/
structure Setting where
  b : Block
  recs : List (Nat × Nat × List Byte) := []
  later : List ReqBody := []
  posts : List (Nat × Nat × Nat × Nat) := []
  zero : Option WriteRec := none

/-- One record of a SET (R57): a service record, an IMM write that comes into force at once (R8, R56), or one that waits for its beat. -/
def Setting.one (x : Setting) (m : Mem) (q : Req) (r : WireRec) : Setting :=
  let b := x.b
  let now (s : Nat) : Setting := { x with recs := x.recs ++ [(r.key, s, [])] }
  match serviceCore r.key with
  | some c =>
    if q.field ≠ 0 ∨ !b.serves c ∨ q.asker.isEntry then now Status.paramKey.num
    else if r.len ≠ 8 then now Status.paramRange.num
    else { now 0 with posts := x.posts ++ [(c, r.key, r.val, x.recs.length)] }
  | none =>
    let imm := q.field == 0 && !isEnable r.key && (match b.keyRow r.key with | some row => effectOf r.key row == .imm | none => false)
    let a : Ask := ⟨q.asker, if imm then b.beat else q.beat, false, q.field == 0⟩
    let asked := (b.accept q x.later).accepted
    let s := { b with accepted := asked }.checkWrite a [] r.write r.len
    if !s.good then { now s.num with b := b.commitRefused r.key r.val s }
    else if r.key = K.SEC_ZEROISE ∧ bit r.val 0 then { now s.num with zero := some r.write }
    else if imm then
      let (id, seq) := b.askerIds q.asker
      { now s.num with b := ((b.takePrimitives q.asker [r.key]).writeVal m r.key r.val id seq).lanesApply }
    else { now s.num with later := x.later ++ [.write (b.settled a r.write)] }

/-- The reply waits for its service records (R314). -/
def Block.holdReply (b : Block) (q : Req) (recs : List (Nat × Nat × List Byte)) (isGet : Bool) (posts : List (Nat × Nat × Nat × Nat)) :
    Block :=
  let id := b.nextHeld
  let core := match q.asker with | .core c => some c | _ => none
  let h : HeldReply := ⟨id, q.rto, q.beat, recs, isGet, posts.map (fun p => p.2.2.2), core⟩
  let b := { b with heldReplies := b.heldReplies ++ [h], nextHeld := id + 1 }
  posts.foldl (fun b p => b.svcPost p.1 (if isGet then 0x10 else 0x11) p.2.1 p.2.2.1 id p.2.2.2) b

/-- The records of a SET, in payload order. -/
def Block.setAll (b : Block) (m : Mem) (q : Req) (recs : List WireRec) : Setting := recs.foldl (fun x r => Setting.one x m q r) { b := b }

/-- SET (R57): the answer, unless service records hold it. -/
def Block.setEach (b : Block) (m : Mem) (q : Req) (recs : List WireRec) : Block × Option Answer × Option WriteRec :=
  let x := b.setAll m q recs
  let b := if x.later.isEmpty then x.b else x.b.accept q x.later
  if x.posts.isEmpty then (b, some (packetStatus (x.recs.map (fun r => r.2.1)), recsBytes x.recs), x.zero)
  else (b.holdReply q x.recs false x.posts, none, x.zero)

/-- The width of the value that a read of a record returns. -/
def Block.readWidth (b : Block) (r : WireRec) : Nat :=
  if r.len ≠ 0 then 0
  else match serviceCore r.key with
    | some c => if b.serves c then 8 else 0
    | none => match b.keyRow r.key with | some row => row.width | none => 0

/-- The largest payload of the reply (R34); a core's block has its bank. -/
def Block.replyLimit (b : Block) (q : Req) : Nat :=
  match q.asker with
  | .session _ _ => b.payloadLimit q.rto.port
  | _ => 98304

/-- A reply with these records would exceed the payload limit. -/
def Block.readTooBig (b : Block) (q : Req) (recs : List WireRec) : Bool :=
  decide (b.replyLimit q < (recs.map (fun r => 8 + b.readWidth r)).foldl (· + ·) 0)

/-- A key that a GET may name: a service key of a core that answers, or a defined parameter (R47, R314). -/
def Block.readable (b : Block) (key : Nat) : Bool :=
  match serviceCore key with | some c => b.serves c | none => (b.keyRow key).isSome

/-- GET (R46, R508): read in payload order; a service record waits for its core (R314). -/
def Block.getEach (b : Block) (q : Req) (recs : List WireRec) : Block × Option Answer :=
  let (b, out, posts) := recs.foldl (fun (x : Block × List (Nat × Nat × List Byte) × List (Nat × Nat × Nat × Nat)) r =>
    let (b, out, posts) := x
    let bad := if b.readable r.key then Status.paramRange.num else Status.paramKey.num
    if !b.readable r.key ∨ r.len ≠ 0 then (b, out ++ [(r.key, bad, [])], posts)
    else match serviceCore r.key with
      | some c => (b, out ++ [(r.key, 0, [])], posts ++ [(c, r.key, 0, out.length)])
      | none => let (b, s, v) := b.readRecord r.key; (b, out ++ [(r.key, s, v)], posts)) (b, [], [])
  if posts.isEmpty then (b, some (packetStatus (out.map (fun r => r.2.1)), recsBytes out))
  else (b.holdReply q out true posts, none)

/-! ## Units (R62, R170, R184, R203, R429) -/

/-- A region of a DENSITY unit lies in its plane (R170). -/
def Block.regionOk (b : Block) (p g : Nat) : Bool :=
  decide (bits g 10 0 < b.plC p) && decide (bits g 21 11 < b.plC p) && decide (bits g 31 22 < b.plR p) && decide (bits g 41 32 < b.plR p)

/-- The blocks whose units an opcode names. -/
def unitOk (op k : Nat) : Bool :=
  let i := keyInst k
  keyItem k == 0 &&
    (match keyBlock k with
     | 0x07 => op != 0x70 && decide (i < 16)
     | 0x08 => (op == 0x20 || op == 0x21) && decide (i < 32)
     | 0x0F => (op == 0x20 || op == 0x21) && decide (i < 4)
     | 0x13 => op == 0x70 && decide (i < 32)
     | _ => false)

/-- The check of one unit reference, under the present configuration `b` and the foreseen one `p`. -/
def Block.unitCheck (b p : Block) (a : Asker) (op k t : Nat) : Status :=
  let blk := keyBlock k; let i := keyInst k
  if !unitOk op k then .paramKey
  else if blk = bSTM ∧ b.dev ≠ .flow then .notInThaw
  else if b.ownedByOther a k then .busy
  else match op with
    | 0x20 =>
      (match blk with
       | 0x07 =>
         if (p.trg i).arm.isSome then (if p.isOff bTRG i then .state else if p.moving bTRG i then .busy else .ok)
         else p.trgArmCheck i (fun pl g => p.regionOk pl g)
       | 0x08 => p.cpArmCheck i (fun s => p.isOn bSTR s)
       | _ => if p.isOff blk i then .state else if p.moving blk i then .busy else .ok)
    | 0x21 => need (!p.moving blk i) .busy
    | 0x22 =>
      if p.moving bTRG i then .busy
      else
        let asked := b.accepted.any (fun a => decide (a.target ≤ t) && (match a.body with | .arm us => us.contains k | _ => false))
        need (((p.trg i).arm.isSome || asked) && !p.tgTest i) .state
    | _ => p.calRunCheck i

/-- The unit references of a payload. -/
def unitRefs (l : List Byte) : List Nat := (chunks 4 l).map beNat

/-- ARM, DISARM, FORCE and CAL_RUN: for all units or for none (R62). -/
def Block.units (b : Block) (op : Nat) (q : Req) : Block × Answer :=
  if q.body.length % 4 ≠ 0 then (b, Status.paramRange.bare)
  else if b.replyLimit q < 2 * q.body.length then (b, Status.tooBig.bare)
  else
    let us := unitRefs q.body
    let p := b.foresee q.beat b.planned
    let (s, l, ok) := manyOutcome (us.map (fun k => b.unitCheck p q.asker op k q.beat))
    let out := ((us.zip l).map (fun (k, x) => beBytes 4 k ++ beBytes 2 x ++ zeros 2)).flatten
    let body : ReqBody := match op with | 0x20 => .arm us | 0x21 => .disarm us | 0x22 => .force us | _ => .calRun us
    (if ok ∧ !us.isEmpty then b.accept q [body] else b, s, out)

/-! ## SCHEDULE, PREPARE, COMMIT and ABORT (R59, R60, R63) -/

/-- The opcodes that an entry may embed. -/
def embeds (op : Nat) : Bool := [0x0000, 0x11, 0x12, 0x20, 0x21, 0x22, 0x70].contains op

/-- SCHEDULE. A cancel takes effect at once. -/
def Block.schedule (b : Block) (q : Req) : Block × Answer :=
  let f (at' n : Nat) : Nat := beNat ((q.body.drop at').take n)
  if q.body.length < 32 ∨ q.body.length ≠ 32 + f 28 4 then (b, Status.paramRange.bare)
  else if f 2 2 ≠ 0 ∨ f 20 4 ≠ 0 ∨ f 26 2 ≠ 0 ∨ 1 < f 0 2 then (b, Status.paramRange.bare)
  else if f 0 2 = 1 then
    if b.sched.any (fun e => e.id == f 4 4) then
      ({ b with sched := b.sched.filter (fun e => e.id != f 4 4) }, 0, beBytes 4 (f 4 4))
    else (b, Status.paramRange.bare)
  else if q.field = 0 then (b, Status.paramRange.bare)
  else if !embeds (f 24 2) then (b, Status.opcode.bare)
  else if 64 ≤ b.sched.length then (b, Status.busy.bare)
  else
    let (id, seq) := b.askerIds q.asker
    let e : SchedEntry := ⟨b.nextEntry, id, seq, q.beat, f 8 8, if f 8 8 = 0 then some 1 else if f 16 4 = 0 then none else some (f 16 4),
                           f 24 2, q.body.drop 32⟩
    ({ b with sched := b.sched ++ [e], nextEntry := (b.nextEntry + 1) % 2 ^ 32 }, 0, beBytes 4 b.nextEntry)

/-- PREPARE: held as a transaction when it passes. -/
def Block.prepare (b : Block) (q : Req) (recs : List WireRec) : Block × Answer :=
  if q.field = 0 then (b, Status.paramRange.bare)
  else if 8 ≤ (b.txns.filter (fun t => !t.committed)).length then (b, Status.busy.bare)
  else match b.judgeMany q recs with
    | (r, some ws) =>
      let (id, seq) := b.askerIds q.asker
      ({ b with txns := b.txns ++ [⟨id, seq, q.beat, ws, false⟩] }, r)
    | (r, none) => (b, r)

/-- The transaction that a COMMIT or ABORT of this session names. -/
def Block.txnNamed (b : Block) (q : Req) : Option Txn :=
  let (id, _) := b.askerIds q.asker
  if q.body.length = 4 then b.txns.find? (fun t => t.session == id && t.seq == beNat q.body) else none

/-- COMMIT. A second COMMIT of a committed transaction changes nothing. A TARGET_BEAT that is not B is answered ST_PARAM_RANGE (DESIGN
CHOICE, log entry 141). -/
def Block.commit (b : Block) (q : Req) : Block × Answer :=
  match b.txnNamed q with
  | none => (b, Status.paramRange.bare)
  | some t =>
    if q.field ≠ t.target then (b, Status.paramRange.bare)
    else if t.committed then (b, Status.ok.bare)
    else ({ b with txns := b.txns.map (fun x => if x = t then { x with committed := true } else x) }.accept q [.writeMany t.recs], Status.ok.bare)

/-- ABORT. -/
def Block.abort (b : Block) (q : Req) : Block × Answer :=
  match b.txnNamed q with
  | none => (b, Status.paramRange.bare)
  | some t => if t.committed then (b, Status.state.bare) else ({ b with txns := b.txns.erase t }, Status.ok.bare)

/-! ## Memory (R64, R234, R282) -/

/-- The fields of a memory preamble. -/
structure MemAsk where
  space : Nat
  inst : Nat
  addr : Nat
  len : Nat

/-- The preamble of a payload; none where it is short, or a reserved field is not 0. -/
def memAsk (l : List Byte) : Option MemAsk :=
  if l.length < 24 ∨ beNat ((l.drop 1).take 1) ≠ 0 ∨ beNat ((l.drop 16).take 8) ≠ 0 then none
  else some ⟨beNat (l.take 1), beNat ((l.drop 2).take 2), beNat ((l.drop 4).take 8), beNat ((l.drop 12).take 4)⟩

/-- The bytes of an address unit and the alignment of the address and the length in them. -/
def spaceUnit (space : Nat) : Nat := match space with | 2 | 3 => 6 | 4 => 8 | _ => 1
def spaceAlign (space : Nat) : Nat := match space with | 0 | 5 => 64 | 1 => 8 | _ => 1
/-- What a length is a multiple of, in bytes. -/
def lenAlign (space : Nat) : Nat := match space with | 0 => 64 | 1 => 8 | s => spaceUnit s

/-- The checks of a memory request, in the order of R54: shape and instance, the present state, the limit, the range, what is out of
service, and what is in use. -/
def Block.memCheck (b : Block) (limit : Nat) (x : MemAsk) (write : Bool) : Status :=
  let units := x.len / spaceUnit x.space
  let inRange : Bool := match x.space with
    | 0 => decide (x.addr + units ≤ 134 * 2 ^ 30)
    | 1 => decide (x.addr + units ≤ sharedBytes)
    | 5 => decide (x.addr + units ≤ 2 ^ 26)
    | _ => decide (x.addr + units ≤ 16384)
  let lines := List.range (x.len / 64)
  if 5 < x.space ∨ (if 2 ≤ x.space ∧ x.space ≤ 4 then 63 < x.inst else x.inst ≠ 0) then .paramRange
  else if write ∧ x.space = 4 then .paramKey
  else if x.addr % spaceAlign x.space ≠ 0 ∨ x.len % lenAlign x.space ≠ 0 then .paramRange
  else if x.space = 0 ∧ b.dev ≠ .flow then .notInThaw
  else if x.space = 5 ∧ b.dev = .flow then .state
  else if limit < 24 + x.len then .tooBig
  else if !inRange then .paramRange
  else if x.space = 0 ∧ (lines.any (fun k => (b.hbmAt (x.addr + 64 * k)).isNone) ∨ b.rangeRetired x.addr x.len) then .fault
  else if x.space = 0 ∧ write ∧
    lines.any (fun k => match b.claimOf ((x.addr + 64 * k) / 2 ^ 30) with | some c => decide (1 ≤ c.owner) && decide (c.owner ≤ 32) && !b.isOff bCAP (c.owner - 1) | none => false)
  then .busy
  else if x.space = 0 ∧ write ∧ (b.bufsIn x.addr x.len).any (fun k => b.bufReferenced k || (tfind b.bufWait k).isSome) then .busyScanout
  else .ok

/-- READ_MEM. An unloaded program word reads as 0. -/
def Block.readMem (b : Block) (m : Mem) (q : Req) : Answer :=
  match memAsk q.body with
  | none => Status.paramRange.bare
  | some x =>
    if q.body.length ≠ 24 then Status.paramRange.bare
    else
      let s := b.memCheck (b.replyLimit q) x false
      if s ≠ .ok then s.bare
      else
        let words (n : Nat) : List Nat := (List.range n).map (x.addr + ·)
        let data := match x.space with
          | 0 => b.hbmReads m x.addr x.len
          | 1 => b.rdBytes m (spShared x.addr) x.len
          | 5 => b.rdBytes m (spThaw x.addr) x.len
          | 4 => ((words (x.len / 8)).map (fun k => beBytes 8 (tget 0 (b.core x.inst).prog k).toNat)).flatten
          | s => ((words (x.len / 6)).map (fun k => beBytes 6 (b.rdWord48 m x.inst (s - 2) k))).flatten
        (0, q.body ++ data)

/-- WRITE_MEM. -/
def Block.writeMem (b : Block) (q : Req) : Block × Answer :=
  match memAsk q.body with
  | none => (b, Status.paramRange.bare)
  | some x =>
    let data := q.body.drop 24
    let s := b.memCheck (b.replyLimit q) x true
    if s ≠ .ok then (b, s.bare)
    else if data.length ≠ x.len then (b, Status.paramRange.bare)
    else
      let b := match x.space with
        | 0 => b.hbmStores x.addr data
        | 1 => b.stBytes (spShared x.addr) data
        | 5 => b.stBytes (spThaw x.addr) data
        | s => ((chunks 6 data).zip (List.range data.length)).foldl (fun b p => b.hostStore x.inst (s - 2) (x.addr + p.2) (beNat p.1)) b
      (b, 0, q.body.take 24)

/-! ## Programs (R65, R66) -/

/-- The program image of a core is verified. -/
def Block.verified (b : Block) (c : Nat) : Bool := b.f K.WVR_IMAGE c 0 0 == 1

/-- LOAD_PROGRAM. A chunk without LAST leaves the image unverified. -/
def Block.loadProgram (b : Block) (q : Req) : Block × Answer :=
  let l := q.body
  let c := beNat (l.take 1); let flags := beNat ((l.drop 1).take 1); let off := beNat ((l.drop 4).take 4)
  let tail := if bit flags 0 then 48 else 0
  if l.length < 8 + tail ∨ (l.length - 8 - tail) % 8 ≠ 0 then (b, Status.paramRange.bare)
  else if 63 < c ∨ 1 < flags ∨ beNat ((l.drop 2).take 2) ≠ 0 then (b, Status.paramRange.bare)
  else if !b.isOff bWVR c then (b, Status.state.bare)
  else
    let words := (chunks 8 ((l.drop 8).take (l.length - 8 - tail))).map beNat
    if 16384 < off + words.length then (b, Status.paramRange.bare)
    else
      let x := b.core c
      let prog := (words.zip (List.range words.length)).foldl (fun t p => tset t (off + p.2) (BitVec.ofNat 64 p.1)) x.prog
      let b := b.setCore c { x with prog := prog }
      let image := ((List.range (off + words.length)).map (fun k => beBytes 8 (tget (0 : Word) prog k).toNat)).flatten
      let ok := bit flags 0 && sha384 image == l.drop (l.length - 48)
      let b := b.pf K.WVR_IMAGE c 3 0 (b2n ok)
      (b, if bit flags 0 ∧ !ok then Status.image.bare else Status.ok.bare)

/-- START_CORE and STOP_CORE, as one SET_MANY of ENABLE. -/
def Block.coreSet (b : Block) (q : Req) (on : Bool) : Block × Answer :=
  if q.body.length ≠ (if on then 16 else 8) ∨ (on ∧ (16384 ≤ beNat ((q.body.drop 8).take 2) ∨ beNat ((q.body.drop 10).take 6) ≠ 0)) then
    (b, Status.paramRange.bare)
  else
    let mask := beNat (q.body.take 8)
    let cores := which 64 (fun c => bit mask c)
    if on ∧ cores.any (fun c => !b.verified c) then (b, Status.state.bare)
    else
      let recs : List WireRec := cores.map (fun c => ⟨mkKey bWVR c 1, 4, b2n on⟩)
      let (s, _, ok) := manyOutcome (b.checkMany ⟨q.asker, q.beat, true, q.field == 0⟩ recs)
      let body : ReqBody := if on then .startCores cores (beNat ((q.body.drop 8).take 2)) else .stopCores cores
      (if ok ∧ !cores.isEmpty then b.accept q [body] else b, s, [])

/-! ## Subscriptions, snapshots, resets and PING (R61, R67 to R69) -/

/-- SUBSCRIBE and UNSUBSCRIBE. -/
def Block.subscribe (b : Block) (q : Req) (on : Bool) : Block × Answer :=
  match b.session q.rto.session with
  | none => (b, Status.state.bare)
  | some s =>
    if q.body.length ≠ (if on then 132 else 128) then (b, Status.paramRange.bare)
    else if on ∧ (4 < beNat ((q.body.drop 2).take 1) ∨ beNat ((q.body.drop 3).take 1) ≠ 0) then (b, Status.paramRange.bare)
    else
      let mask := beNat (if on then q.body.drop 4 else q.body)
      let port := beNat (q.body.take 2)
      let s := if on then
          { s with mask := s.mask ||| mask, evtPort := if port = 0 then b.f K.SYS_BCP_EVT_PORT 0 15 0 else port,
                   minSev := beNat ((q.body.drop 2).take 1) }
        else { s with mask := s.mask - (s.mask &&& mask) }
      (b.setSession s, 0, beBytes 128 s.mask)

/-- SNAPSHOT (R68): accepted, with the statuses of the records that are refused already. -/
def Block.snapshotAsk (b : Block) (q : Req) (recs : List WireRec) : Block × Option Answer :=
  if 781250 < q.beat - b.beat then (b, some Status.paramRange.bare)
  else if b.readTooBig q recs then (b, some Status.tooBig.bare)
  else
    let keys := recs.map (fun r => (r.key, if (b.keyRow r.key).isNone then Status.paramKey.num else if r.len ≠ 0 then Status.paramRange.num else 0))
    let b := if isGroup q.rto.session then b.gathered q.rto.seq q.field (packetStatus (keys.map (·.2))) else b
    (b.accept q [.snapshot keys q.rto], none)

/-- A snapshot is read at its boundary. -/
def Block.snapshotRead (b : Block) (keys : List (Nat × Nat)) (rto : ReplyTo) : Block :=
  let (b, out) := keys.foldl (fun (x : Block × List (Nat × Nat × List Byte)) k =>
    if k.2 ≠ 0 then (x.1, x.2 ++ [(k.1, k.2, [])])
    else let (b, s, v) := x.1.readRecord k.1; (b, x.2 ++ [(k.1, s, v)])) (b, [])
  b.reply rto (packetStatus (out.map (fun r => r.2.1))) b.beat (recsBytes out)

/-- RESET: kinds 0 warm and 1 cold. -/
def Block.resetAsk (b : Block) (q : Req) : Block × Answer :=
  if q.body.length ≠ 4 ∨ beNat (q.body.drop 1) ≠ 0 ∨ 1 < beNat (q.body.take 1) then (b, Status.paramRange.bare)
  else (b.accept q [.reset (beNat (q.body.take 1))], Status.ok.bare)

/-- PING. -/
def Block.pingReply (b : Block) (q : Req) : Answer :=
  if 64 < q.body.length then Status.paramRange.bare
  else (0, beBytes 4 b.stateWord ++ beBytes 8 b.beat ++ b.now.bytes ++ q.body)

/-! ## The opcodes (R61) -/

/-- The opcodes that act at a beat, and those that THAW does not offer. -/
def opActs (op : Nat) : Bool := [0x11, 0x12, 0x20, 0x21, 0x22, 0x23, 0x30, 0x31, 0x51, 0x52, 0x70, 0x71, 0x81].contains op
def opNotInThaw (op : Nat) : Bool := [0x23, 0x30, 0x31, 0x32].contains op
def opKnown (op : Nat) : Bool :=
  opActs op || [0x01, 0x10, 0x32, 0x40, 0x41, 0x50, 0x60, 0x61, 0x80].contains op
/-- The opcodes that carry records, and those that a core may send (R313). -/
def opRecords (op : Nat) : Bool := [0x10, 0x11, 0x12, 0x30, 0x71].contains op
def opCore (op : Nat) : Bool := [0x10, 0x11, 0x12, 0x20, 0x21, 0x22].contains op

/-- A step notice holds the requests that act at a beat, but not those of its leader (R455). -/
def Block.stepAwaited (b : Block) : Bool := b.plt.notice.isSome && !b.leader

/-- Steps 9 and 10 of R37, for a known opcode (R53, R61, R455): a refusal, with the beat that its reply names, or the beat of the request. -/
def Block.opBeat (b : Block) (op field : Nat) : Sum (Status × Nat) Nat :=
  if opNotInThaw op ∧ b.dev = .thaw then .inl (.notInThaw, b.beat)
  else if (op = 0x80 ∧ b.dev = .flow) ∨ (opActs op ∧ b.stepAwaited) then .inl (.state, b.beat)
  else if !opActs op then (if field = 0 then .inr b.beat else .inl (.paramRange, b.beat))
  else if field = 0 then .inr (b.beat + 1)
  else if field ≤ b.beat then .inl (.tooLate, field)
  else if b.beat + 2 ^ 32 < field then .inl (.paramRange, field)
  else .inr field

/-- Step 11 of R37: what the request's opcode makes of it; no answer where the reply comes later. -/
def Block.opPerform (b : Block) (m : Mem) (op : Nat) (q : Req) : Block × Option Answer × Option WriteRec :=
  let plain (r : Block × Answer) : Block × Option Answer × Option WriteRec := (r.1, some r.2, none)
  let say (s : Status) : Block × Option Answer × Option WriteRec := (b, some s.bare, none)
  match (if opRecords op then parseRecs 256 q.body else some []) with
    | none => say .format
    | some recs =>
      if opActs op ∧ 256 ≤ b.waitingGroups then say .busy
      else match op with
        | 0x01 => plain (b, b.pingReply q)
        | 0x10 => if b.readTooBig q recs then say .tooBig else let r := b.getEach q recs; (r.1, r.2, none)
        | 0x11 => b.setEach m q recs
        | 0x12 => plain (b.setMany q recs)
        | 0x20 | 0x21 | 0x22 | 0x70 => plain (b.units op q)
        | 0x23 => plain (b.schedule q)
        | 0x30 => plain (b.prepare q recs)
        | 0x31 => plain (b.commit q)
        | 0x32 => plain (b.abort q)
        | 0x40 => plain (b, b.readMem m q)
        | 0x41 => plain (b.writeMem q)
        | 0x50 => plain (b.loadProgram q)
        | 0x51 => plain (b.coreSet q true)
        | 0x52 => plain (b.coreSet q false)
        | 0x60 => plain (b.subscribe q true)
        | 0x61 => plain (b.subscribe q false)
        | 0x71 => let r := b.snapshotAsk q recs; (r.1, r.2, none)
        | 0x80 =>
          if !q.body.isEmpty then say .paramRange else let r := b.enterFlow; (r.1, some r.2.bare, none)
        | 0x81 => plain (b.resetAsk q)
        | _ => say .opcode

/-- Steps 8 to 11 of R37 and the reply; a ZEROISE follows its reply. -/
def Block.serve (b : Block) (m : Mem) (op : Nat) (a : Asker) (rto : ReplyTo) (field : Nat) (body : List Byte) : Block :=
  let known := opKnown op && (match a with | .core _ => opCore op | _ => true)
  if !known then b.answer ⟨a, rto, field, b.beat, body⟩ Status.opcode.bare
  else match b.opBeat op field with
    | .inl (s, t) => b.answer ⟨a, rto, field, t, body⟩ s.bare
    | .inr t =>
      let q : Req := ⟨a, rto, field, t, body⟩
      match b.opPerform m op q with
      | (b, r, zero) =>
        let b := match r with | some r => b.answer q r | none => b
        match zero with
        | some _ => b.zeroise
        | none => b

end Sys2Proof.Machine
end

