-- ==== Sys2Proof/Machine/Session.lean ====
section
/-! DEFINITION. Packets, from their arrival to the request they carry (R33 to R45, R461, R506, R507): the checks of R37 up to step 8,
forwarding, the opening handshake, sequence numbers, and the end of sessions. -/
namespace Sys2Proof.Machine

/-- The packet's bytes before its tag, and whole (R35). -/
def packetBytes (op : Nat) (p : Packet) : List Byte :=
  beBytes 3 p.magic.toNat ++ [p.version] ++ beBytes 2 p.flags.toNat ++ beBytes 2 op ++ beBytes 4 p.session.toNat ++ beBytes 4 p.seq.toNat ++
    beBytes 4 p.paramLen.toNat ++ beBytes 2 p.status.toNat ++ beBytes 2 p.reserved.toNat ++ beBytes 8 p.target.toNat ++ p.payload
def packetWhole (op : Nat) (p : Packet) : List Byte := packetBytes op p ++ beBytes 16 p.tag.toNat

/-- Flag bits (R36). -/
def pkFlag (p : Packet) (i : Nat) : Bool := bit p.flags.toNat i
/-- DEST_MEMBER. -/
def pkDest (p : Packet) : Nat := bits p.flags.toNat 11 8

/-- A discarded packet (R37, R38). -/
def Block.dropped (b : Block) : Block := b.inc K.SYS_BCP_DROPPED 0 1

/-- A failed tag or handshake signature (R37, R74, R506). -/
def Block.authFail (b : Block) (p : Packet) : Block := (b.inc K.SYS_BCP_AUTH_FAIL 0 1).raise 986 (beBytes 16 p.addr.toNat)

/-- The packets that Stenor holds unprocessed as this one arrives: those that came before it in the same core cycle, and those of earlier
cycles (R38). -/
def Block.unprocessed (b : Block) (p : Packet) : Nat := (if b.arrivedAt = b.clock then b.arrived else 0) + p.backlog
/-- A network interface counts the frame that a packet came in. -/
def Block.heard (b : Block) (port : Nat) : Block := if 17 ≤ port then b else b.netRx port
/-- One more packet has arrived in the present core cycle, for Stenor to process. -/
def Block.arrive (b : Block) (port : Nat) : Block :=
  { b.heard port with arrived := (if b.arrivedAt = b.clock then b.arrived else 0) + 1, arrivedAt := b.clock }

/-- BCP is in service on a port (R33, R337): the management port in THAW and FLOW, a host interface in FLOW, each with its link up. -/
def Block.bcpPort (b : Block) (port : Nat) : Bool :=
  if 17 ≤ port then b.live && b.portHears (port - 17)
  else if port = mgmtPort then b.live && b.netUsable port
  else b.dev == .flow && b.netUsable port

/-- The packet comes to the command port, or over CTRL (R33, R44). -/
def Block.toCommand (b : Block) (port : Nat) (p : Packet) : Bool :=
  decide (17 ≤ port) || p.udpPort.toNat == b.f K.SYS_BCP_CMD_PORT 0 15 0
/-- The packet comes on a port in service, to the command port. -/
def Block.bcpHears (b : Block) (port : Nat) (p : Packet) : Bool := b.bcpPort port && b.toCommand port p

/-- A session ends (R42, R43): its transactions that no COMMIT has taken and its subscriptions go with it. -/
def Block.closeSession (b : Block) (id reason : Nat) : Block :=
  match b.session id with
  | none => b
  | some _ =>
    { b with sessions := b.sessions.filter (fun s => s.id != id),
             txns := b.txns.filter (fun t => t.committed || t.session != id) }.raise 985 (beBytes 4 id ++ beBytes 1 reason)

/-! ## Forwarding (R44) -/

/-- The Plait port on the shortest way to a member, the lowest of several. -/
def Block.portToward (b : Block) (dest : Nat) : Option Nat :=
  if b.topology = 0 then none
  else
    let d := b.hopsTo dest
    ((List.range 4).foldl (fun (a : Option (Nat × Nat)) p =>
      match (b.pltEdge b.member p).bind (fun n => d.getD n none) with
      | none => a
      | some h => match a with | some (_, g) => if h < g then some (p, h) else a | none => some (p, h)) none).map (·.1)

/-- The way back to a source is remembered. -/
def Block.noteRoute (b : Block) (p : Packet) (port : Nat) : Block :=
  let k := (p.addr.toNat, p.dport.toNat, port)
  b.setPlt { b.plt with routes := k :: b.plt.routes.filter (fun r => r.1 != k.1 || r.2.1 != k.2.1) }

/-- A request for another member is carried on over CTRL; one that cannot be is answered ST_UNREACHABLE. -/
def Block.forward (b : Block) (port op : Nat) (p : Packet) : Block :=
  match b.portToward (pkDest p) with
  | some q => (b.noteRoute p port).send (.ctrl q (packetWhole op p) p.addr.toNat p.dport.toNat)
  | none =>
    b.replyBare port p.addr.toNat p.dport.toNat op p.session.toNat p.seq.toNat Status.unreachable.num b.beat []

/-- A reply that a member sends over CTRL leaves toward the source of its request, and an event packet (opcode 0x00E0) toward its session's
host. One that is larger than its port's limit is not sent (R34). -/
def Block.carryReply (b : Block) (op : Nat) (p : Packet) : Block :=
  match b.plt.routes.find? (fun r => r.1 == p.addr.toNat && (op == 0xE0 || r.2.1 == p.dport.toNat)) with
  | none => b
  | some (_, _, port) =>
    if b.payloadLimit port < p.payload.length then b else b.sendMsg port p.addr.toNat p.dport.toNat
      ⟨p.flags.toNat, op, p.session.toNat, p.seq.toNat, p.status.toNat, p.target.toNat, p.payload, beBytes 16 p.tag.toNat⟩

/-- FLOOD (R461): a group session's request goes on over every port but the one it came over. -/
def Block.flood (b : Block) (port op : Nat) (p : Packet) : Block :=
  if isGroup p.session.toNat ∧ b.topology ≠ 0 ∧ b.f K.PLT_CFG 0 20 20 = 1 then
    (b.upPorts.filter (fun q => q + 17 != port)).foldl (fun b q => b.send (.ctrl q (packetWhole op p) p.addr.toNat p.dport.toNat))
      (b.noteRoute p port)
  else b

/-! ## The opening handshake (R39 to R41, R506) -/

/-- Step 7 for a packet: the length, the reserved bits, and CLOSE on another opcode than PING. -/
def formatOk (op : Nat) (p : Packet) : Bool :=
  p.paramLen.toNat + 48 == p.udpLen && bits p.flags.toNat 7 5 == 0 && bits p.flags.toNat 15 12 == 0 && p.reserved == 0 &&
    !(pkFlag p 3 && op != 0x01)

/-- A host key index names an enrolled key, or none where a session may open without one (R40). -/
def Block.hostKeyOk (b : Block) (index port : Nat) : Bool :=
  if index = 255 then b.sys.host.isEmpty && port == mgmtPort else (tfind b.sys.host index).isSome

/-- The smallest identifier above 0 that is free. -/
def Block.freeSession (b : Block) : Nat :=
  ((List.range 17).find? (fun k => !(b.sessions.any (fun s => s.id == k + 1)) && !(b.shakes.any (fun s => s.id == k + 1)))).elim 1 (· + 1)

/-- The open sessions and the handshakes (R41). -/
def Block.sessionsHeld (b : Block) : Nat := b.sessions.length + b.shakes.length

/-- Step 1 of the handshake, answered with step 2 or refused. A PING of session 0 is step 1 whatever its SEQUENCE (DESIGN CHOICE, log
entry 142). -/
def Block.shakeOpen (b : Block) (port : Nat) (p : Packet) : Block :=
  let refuse (s : Status) : Block :=
    b.replyBare port p.addr.toNat p.dport.toNat 1 0 p.seq.toNat s.num b.beat []
  let l := p.payload
  let pub := (l.drop 20).take 97
  let index := beNat (l.take 1)
  if !formatOk 1 p ∨ l.length ≠ 120 ∨ beNat ((l.drop 1).take 3) ≠ 0 ∨ beNat (l.drop 117) ≠ 0 then refuse .format
  else if p.target ≠ 0 then refuse .paramRange
  else if 16 ≤ b.sessionsHeld ∨ 4 ≤ b.shakes.length then refuse .sessions
  else if !Config.onCurve pub ∨ !b.hostKeyOk index port then refuse .auth
  else
    let n := b.fresh
    let id := b.freeSession
    let nonce := beBytes 16 (Config.random 128 n)
    let own := (List.range 97).map (Config.ephemeralKey n)
    let said := l ++ nonce ++ own ++ beBytes 4 id
    let sign := (List.range 96).map (Config.identitySignature (beNat (sha384 said)))
    let secret := (List.range 48).map (Config.sharedSecret n pub)
    let key (info : String) : List Byte := hkdf384 secret ((l.drop 4).take 16 ++ nonce) (info.toList.map (fun c => BitVec.ofNat 8 c.toNat))
    let hs : Handshake := ⟨id, said, sign, index, key "BCP3 h2e", key "BCP3 e2h", key "BCP3 wrap", b.clock, port, p.addr.toNat, p.dport.toNat⟩
    let cert := Config.certificate
    ({ b with shakes := b.shakes ++ [hs] }.tick).replyBare port p.addr.toNat p.dport.toNat 1 id p.seq.toNat 0 b.beat
      (nonce ++ own ++ zeros 3 ++ beBytes 2 cert.length ++ zeros 2 ++ sign ++ cert)

/-- Step 3: the session opens, or the identifier is released (R39, R506); CLOSE ends it after the reply (R42). The reply of step 4 has no
payload (DEDUCED, log entry 143). -/
def Block.shakeConfirm (b : Block) (port : Nat) (p : Packet) (hs : Handshake) : Block :=
  let say (b : Block) (s : Status) : Block :=
    b.sendMsg port p.addr.toNat p.dport.toNat
      (({ flags := 1, opcode := 1, session := hs.id, seq := p.seq.toNat, status := s.num, target := b.beat, payload := [], tag := [] } :
        BcpMsg).signed hs.e2h)
  if !formatOk 1 p then say b .format
  else if p.target ≠ 0 then say b .paramRange
  else
    let ok :=
      if hs.hostKey = 255 then p.payload.isEmpty
      else p.payload.length == 96 &&
        (match tfind b.sys.host hs.hostKey with
         | some key => Config.signatureVerifies (beBytes 97 key) (sha384 (hs.step1 ++ hs.engine)) p.payload
         | none => false)
    let b := { b with shakes := b.shakes.filter (fun x => x.id != hs.id) }
    if ok then
      let s : Session := { id := hs.id, h2e := hs.h2e, e2h := hs.e2h, wrap := hs.wrap, lastAccept := b.clock, addr := p.addr.toNat,
                           dport := p.dport.toNat, iface := port, cache := [(p.seq.toNat, none)] }
      let b := { b with sessions := b.sessions ++ [s] }.reply ⟨hs.id, p.seq.toNat, 1, false, port, p.addr.toNat, p.dport.toNat⟩ 0 b.beat []
      if pkFlag p 3 then b.closeSession hs.id 0 else b
    else (say b .auth).authFail p

/-! ## Requests of a session -/

/-- The packet is the session's next: the session moves on, its events follow it, and its idle time starts again, whatever steps 7 to 11
make of it (DEDUCED, log entry 144). -/
def Block.taken (b : Block) (s : Session) (port : Nat) (p : Packet) (next : Nat) : Block :=
  b.setSession { s with nextSeq := next, cache := ((p.seq.toNat, none) :: s.cache).take 16, lastAccept := b.clock, addr := p.addr.toNat, dport := p.dport.toNat, iface := port }

/-- Steps 6 to 11 of R37 for a packet of an open session whose tag holds. -/
def Block.sessionPacket (b : Block) (m : Mem) (port op : Nat) (p : Packet) (s : Session) : Block :=
  let seq := p.seq.toNat
  let rto : ReplyTo := ⟨s.id, seq, op, pkFlag p 2, port, p.addr.toNat, p.dport.toNat⟩
  if seq = s.nextSeq ∨ (isGroup s.id ∧ s.nextSeq < seq) then
    let b := (b.taken s port p (seq + 1)).flood port op p
    let a := Asker.session s.id seq
    let b :=
      if !formatOk op p then b.answer ⟨a, rto, p.target.toNat, b.beat, p.payload⟩ Status.format.bare
      else b.serve m op a rto p.target.toNat p.payload
    if op = 0x01 ∧ pkFlag p 3 then b.closeSession s.id 0
    else if 2 ^ 32 ≤ seq + 1 then b.closeSession s.id 2
    else b
  else if s.nextSeq < seq then
    (b.inc K.SYS_BCP_SEQ_REJECT 0 1).sendMsg port p.addr.toNat p.dport.toNat
      (({ flags := 1, opcode := op, session := s.id, seq := seq, status := Status.sequence.num, target := b.beat,
          payload := beBytes 4 s.nextSeq, tag := [] } : BcpMsg).signed s.e2h)
  else match (if pkFlag p 1 then s.cache.find? (fun e => e.1 == seq) else none) with
    | some (_, some x) => b.sendMsg port p.addr.toNat p.dport.toNat x
    | _ => b.dropped

/-- Steps 3 to 5 of R37. -/
def Block.packetChecks (b : Block) (m : Mem) (port op : Nat) (p : Packet) : Block :=
  let tagged (key : List Byte) : Bool := beNat (tagOf key (packetBytes op p)) == p.tag.toNat
  if p.version ≠ 3 then
    b.replyBare port p.addr.toNat p.dport.toNat op p.session.toNat p.seq.toNat Status.version.num b.beat []
  else if p.session = 0 then (if op = 0x01 then b.shakeOpen port p else b.dropped)
  else match b.session p.session.toNat with
    | some s => if tagged s.h2e then b.sessionPacket m port op p s else b.authFail p
    | none =>
      match b.shakes.find? (fun x => x.id == p.session.toNat) with
      | some hs =>
        if op = 0x01 ∧ p.seq = 1 then (if tagged hs.h2e then b.shakeConfirm port p hs else b.authFail p) else b.dropped
      | none => b.dropped

/-- A BCP packet arrives at a port, 17 and more a Plait port (R33, R37, R38, R44). -/
def Block.packetAt (b : Block) (m : Mem) (port op : Nat) (p : Packet) : Block :=
  if !b.bcpPort port then b
  else if !b.toCommand port p then (b.heard port).inc K.NET_RX_DROPPED port 1
  else if p.fragment ∨ 64 ≤ b.unprocessed p then (b.heard port).dropped
  else
    let b := b.arrive port
    if p.udpLen < 48 ∨ b.payloadLimit port + 48 < p.udpLen then b.dropped
    else if p.magic ≠ 0x424350 then b.dropped
    else if pkFlag p 4 ∧ pkDest p ≠ b.member then b.forward port op p
    else b.packetChecks m port op p

/-- A handshake without a correct step 3 within 1 s is abandoned (R41). -/
def Block.shakeTimeout (b : Block) (id : Nat) : Block :=
  { b with shakes := b.shakes.filter (fun x => x.id != id || decide (b.clock < x.since + 1600000000)) }

/-- A session closes BCP_IDLE_TIMEOUT seconds after its last accepted packet (R42). -/
def Block.idleTimeout (b : Block) (id : Nat) : Block :=
  match b.session id with
  | none => b
  | some s =>
    if s.lastAccept + b.f K.SYS_BCP_IDLE_TIMEOUT 0 11 0 * 1600000000 ≤ b.clock then b.closeSession id 1 else b

/-- The request block at which a core's REQ_GO pointed is processed (R313): the opcode and beat, the length, and the payload, in X. -/
def Block.coreRequest (b : Block) (m : Mem) (c : Nat) : Block :=
  let x := b.core c
  if !x.reqBusy then b
  else
    let w (k : Nat) : Nat := b.rdWord48 m c 0 ((x.reqAddr + k) % 16384)
    let len := min (w 3 % 2 ^ 32) 98304
    let body := (((List.range (ceilDiv len 6)).map (fun k => beBytes 6 (w (4 + k)))).flatten).take len
    b.serve m (w 0 % 2 ^ 16) (.core c) ⟨0, 0, 0, false, 0, 0, 0⟩ (w 1 + w 2 % 2 ^ 16 * 2 ^ 48) body

end Sys2Proof.Machine
end

