-- ==== Sys2Proof/Machine/LaneRun.lean ====
section
/-! DEFINITION. What a lane output, a spectrum and a trace reach as they are delivered (R104, R138, R152, R158, R189, R342): the views,
the trigger units, the planes, the writers, the streams, the exports and the tap queues. -/
namespace Sys2Proof.Machine

/-- A lane output is delivered: its views, its trigger units (whose fires share one core cycle, R189), its writers, its exports and its
tap queues. -/
def Block.laneDeliver (m : Mem) (b : Block) (i : Nat) (late : Bool) (o : LaneOut) : Block :=
  let b := [0, 1, 2].foldl (fun b k => if viewDefined (4 * i + k) then b.viewTake (4 * i + k) o else b) b
  let (b, f) := b.tdAll i o late
  let (b, g) := b.reqAll i
  let b := Block.acting m (b, f ++ g)
  ((b.capLane i o).expTake i o).tapSample i o

/-- The next converter sample of lane `i` lies in a multiblock that its link discards under DROP (R99). -/
def Block.linkDrops (b : Block) (i : Nat) : Bool :=
  let p := b.linkPos i (b.lane i).pos
  (b.lnk bJRX (b.lnLink i)).drops.any (fun d => decide (d.1 ≤ p) && decide (p < d.1 + d.2))

/-- What enters stage 1 for one converter position: a missing sample where the data parts of the lane's domain stand still (R75), where
the link is not released or DROP discards the sample (R99), or where the replay source cannot deliver (R225); a sample else. -/
def Block.lanePull (m : Mem) (b : Block) (i : Nat) (r : RawSample) (late : Bool) : Block × Sum (Int × Int) (Nat × Nat) :=
  if (b.pll 0).down then (b, .inr (2, 0))
  else if b.lnReplay i then b.replayNext m (b.lnLink i) i (late || r.miss)
  else if (b.pll 1).down then (b, .inr (2, 1))
  else if !b.released bJRX (b.lnLink i) || b.linkDrops i then (b, .inr (1, b.lnLink i))
  else
    let n := b.lkN bJRX (b.lnLink i)
    (b, .inl (sgn n r.i.toNat, sgn n r.q.toNat))

/-- One converter position runs through the lane. -/
def Block.laneOne (m : Mem) (b : Block) (i : Nat) (r : RawSample) (late : Bool) : Block :=
  let (b, v) := b.lanePull m i r late
  let (x, y, gap) : Int × Int × Option (Nat × Nat) := match v with | .inl p => (p.1, p.2, none) | .inr c => (0, 0, some c)
  Block.laneFinish (fun b o => Block.laneDeliver m b i late o) i (b.laneIn i x y r.cs.toNat gap)

/-- The next converter positions of a lane that runs. The positions without data before its first enter first (R126). -/
def Block.laneRun (m : Mem) (b : Block) (i : Nat) (raws : List RawSample) (late : Bool) : Block :=
  if !(b.lane i).running || (b.importOf i).isSome then b
  else if b.life bLANE i = lStarting ∨ b.life bLANE i = lOn then
    raws.foldl (fun b r => b.laneOne m i r late) (Block.laneFill (fun b o => Block.laneDeliver m b i late o) b i)
  else b

/-- A lane that stops delivers what is in flight (R127) as its beat ends, and holds the index at which it stopped. -/
def Block.laneEnd (m : Mem) (b : Block) (i : Nat) : Block :=
  if b.life bLANE i ≠ lStopping ∨ (b.importOf i).isSome then b
  else
    let b := if (b.lane i).running then Block.laneDrain (fun b o => Block.laneDeliver m b i false o) b i else b
    b.pv K.LANE_INDEX i (b.firstOr i b.beat)

/-- A stop completes at the boundary, and a start when its run has left the lane (R127) and its link is released (R93). -/
def Block.laneBoundary (b : Block) (i : Nat) : Block :=
  if (b.importOf i).isSome then b
  else if b.life bLANE i = lStopping then (b.setLife bLANE i lOff).setLane i {} |>.groupEnd (b.lnGroup i)
  else if b.life bLANE i = lStarting ∧ (b.lane i).startDone ∧ (b.lnReplay i ∨ b.released bJRX (b.lnLink i)) then b.setLife bLANE i lOn
  else b

/-- A frame of an import, delivered (R458). -/
def Block.impDeliver (m : Mem) (b : Block) (x : Nat) (fr : ExportFrame) (late : Bool) : Block :=
  let i := b.impLane x
  let r := b.impFrame x fr
  r.2.foldl (fun b o => Block.laneDeliver m (b.impOut i o) i late o) r.1

/-- A spectrum is delivered: its counters, the FMASK units and their verdicts, the planes, the trace units, the writers, the streams and
the tap queues. -/
def Block.spectrumDeliver (m : Mem) (b : Block) (sp : Spectrum) : Block :=
  let b := b.viewCount sp
  let (b, f, vs) := b.fmaskAll sp
  let b := vs.foldl (fun b v => b.tapVerdict sp.q v) (Block.acting m (b, f))
  let b := Block.acting m (b.plTakeAll sp)
  let b := (List.range 32).foldl (fun b t => b.trcTake t sp) b
  ((b.capView sp).strSpectrum sp).tapSpectrum sp

/-- The oldest window of a view that is complete becomes a spectrum (R139). -/
def Block.spectrumRun (m : Mem) (b : Block) (j : Nat) (late : Bool) : Block :=
  match (b.view j).ready with
  | [] => b
  | w :: rest =>
    let sp := b.transform j w late
    let b := (b.setView j { b.view j with ready := rest, delivered := true }).tick
    b.spectrumDeliver m sp

/-- The oldest period of a trace unit that has ended becomes a trace (R158, R161). -/
def Block.tracePeriodEnd (b : Block) (t : Nat) : Block :=
  let x := b.trc t
  match x.periods.find? (fun p => decide (p.stop ≤ b.beat)) with
  | none => b
  | some p =>
    let (tr, x) := b.trcClose t x p
    let b := (b.setTrc t { x with latest := some tr }).inc K.XFM_TRC_SEQ (trcInst t) 1
    let b := b.pv K.XFM_TRC_LAST_BEAT (trcInst t) tr.start
    (((b.spgTake tr).capTrace tr).strTrace tr).tapTrace tr

end Sys2Proof.Machine
end

