-- ==== Sys2Proof/Machine/Boundary.lean ====
section
/-! DEFINITION. The beat boundary (R15, R49 to R56, R59, R60, R63, R244, R303): what ends with a beat, what completes, what is performed,
and what begins. -/
namespace Sys2Proof.Machine

/-! ## Levels and tolerance of the real-time ports (R235, R244) -/

/-- The client of a real-time port is ON; a stream reader's clients are the ring-backed streams of its port (R345). -/
def Block.portStreams (b : Block) (k : Nat) : List Nat :=
  which 64 (fun s => b.isOn bSTR s && b.strIface s / 4 == k && decide (b.strKind s ≤ 1) && !b.cpDirect (b.strSrc s))
def Block.portOn (b : Block) (p : Nat) : Bool :=
  if p < 32 then b.isOn bCAP p
  else if p < 36 then b.isOn bSTM (p - 32)
  else if p < 38 then b.isOn bDEN (outInst (p - 36))
  else !(b.portStreams (p - 38)).isEmpty

/-- A reader's port counts as in panic only while its client is ON (R235). -/
def Block.panicOff (b : Block) : Block :=
  ((List.range 42).drop 32).foldl (fun b p =>
    if b.f K.MEM_PORT_STAT (portInst p) 0 0 = 1 ∧ !b.portOn p then
      let b := b.pf K.MEM_PORT_STAT (portInst p) 0 0 0
      { b with ports := tset b.ports p {} }
    else b) b

/-- The writers' FIFO shares as their ports' levels. -/
def Block.writerLevels (b : Block) : Block :=
  (which 32 (fun w => !b.isOff bCAP w)).foldl (fun b w => let b := b.cpDrain w; b.portLevel w (b.cap w).fill true) b

/-- The bytes a second that a port's source delivers or its client consumes, as a fraction. -/
def Block.portRate (b : Block) (p : Nat) : Nat × Nat :=
  if p < 32 then
    let (n, d) := b.lnFs (b.cpLane p)
    match b.cpKind p with
    | 0 => (n * packBytes (b.cpPack p), d)
    | 1 => (n * b.srcBytes 1 (b.cpSrc p), d * b.vwHop (b.cpSrc p))
    | _ => (b.srcBytes 2 (b.cpSrc p) * 781250, b.trcP (b.cpSrc p))
  else if p < 36 then let (n, d) := b.stFb (p - 32); (n * packBytes (b.stPack (p - 32)), d)
  else (((b.portStreams (p - 38)).map (fun s => b.f K.STR_RATE s 18 0)).foldl (· + ·) 0 * 125000, 1)

/-- The tolerance that a port states, in ns (R244). -/
def Block.portTolerance (b : Block) (p : Nat) : Option Nat :=
  if !b.portOn p then none
  else if 36 ≤ p ∧ p < 38 then
    (let r := b.val (ki K.DEN_RESERVE (outInst (p - 36))); if r = 0xFFFFFFFF then none else some r)
  else
    let fill := b.val (ki K.MEM_FIFO_BYTES (portInst p))
    let lim := b.f K.MEM_PORT_CFG (portInst p) 5 0 * portSize p / 64
    let room := if p < 32 then lim - fill else fill - lim
    let (n, d) := b.portRate p
    if n = 0 then none else some (room * 1000000000 * d / n)

/-- TOLERANCE: the smallest that is stated, all ones when none is. -/
def Block.memTolerance (b : Block) : Block :=
  b.pv K.MEM_TOLERANCE 0 (((List.range 42).filterMap b.portTolerance).foldl min 0xFFFFFFFF)

/-! ## What ends with a beat -/

/-- The lanes that stop deliver what is in flight, the SAMPLES entries of the beat close, the detector reports are formed (R129), and a
window of 1,024 beats ends (R79). -/
def Block.beatEnd (m : Mem) (b : Block) : Block :=
  let b := (List.range 32).foldl (fun b i => Block.laneEnd m b i) b
  let b := (which 32 (fun i => !b.isOff bLANE i)).foldl (fun b i => (b.detBoundary i).tapDet i b.beat) b
  if b.windowDue (b.beat + 1) then b.endWindow (b.beat + 1) else b

/-! ## Completions (R49) -/

/-- What a boundary does to the function of an instance: its start or its stop completes, and its own reports are made. -/
def Block.fnBoundary (m : Mem) (b : Block) (blk i : Nat) : Block :=
  match blk with
  | 0x04 => b.linkBoundary bJRX i
  | 0x05 => b.laneBoundary i
  | 0x06 => if i < 0x80 then b.viewBoundary i else b.trcBoundary (i - 0x80)
  | 0x07 => b.trgBoundary i
  | 0x08 => if i < 0x20 then b.capBoundary i else b.replayBoundary (i - 0x20)
  | 0x0A => if i < 0x10 then b.plBoundary i else if i < 0x30 then b.spgBoundary (i - 0x20) else if i = 0x40 then b.compBoundary else b.outLifeBoundary (i - 0x80)
  | 0x0B => (b.coreLife i).disown
  | 0x0C => b.netBoundary i
  | 0x0D => b.strBoundary i
  | 0x0E => b.decBoundary (i - 0x10)
  | 0x0F => b.stmBoundary m i
  | 0x10 => b.vecBoundary
  | 0x12 => b.tiuBoundary
  | 0x14 => b.auxBoundary
  | 0x15 => b.pltLife i
  | 0x17 => b.linkBoundary bJTX i
  | _ => b

/-- The instances whose FUNC_STATE has a value. -/
def Block.lives (b : Block) : List (Nat × Nat) :=
  (b.params.filter (fun e => keyItem e.1 == 2 && hasLife (keyBlock e.1) (keyInst e.1))).map (fun e => (keyBlock e.1, keyInst e.1))

/-- The held request of a function may begin at this boundary: it was ON or OFF before it (R51). -/
def Block.heldReady (b : Block) (blk i : Nat) : Bool :=
  ((b.heldReq blk i == 1 && b.isOff blk i) || (b.heldReq blk i == 2 && b.isOn blk i)) &&
    decide (tget 0 b.reached (mkKey blk i 2) < b.ticks)
/-- A held request begins where it may. -/
def Block.heldNow (b : Block) (blk i : Nat) : Block := if b.heldReady blk i then b.heldBegin blk i else b

def Block.completions (m : Mem) (b : Block) : Block :=
  let b := (b.lives.filter (fun x => x.1 != bTIU && x.1 != bAUX)).foldl (fun b x => Block.fnBoundary m b x.1 x.2) b
  b.tiuBoundary.auxBoundary

/-- A pseudo-channel whose retirement was decided before this boundary leaves service, and its owners act (R200, R243, R263, R264, R382). -/
def Block.retireNow (b : Block) (p : Nat) : Block :=
  if !(b.pc p).retire.any (fun t => decide (t < b.clock)) then b
  else
    let b := b.retirePc p
    let b := (List.range 32).foldl (fun b w => b.capRetire w p) b
    let b := (List.range 16).foldl Block.spgRetire b
    b.poolRetire.stmRetire

/-! ## Requests (R50 to R60, R63) -/

/-- The embedded request of a schedule entry, accepted afresh for the present beat (R63); each failure is reported. -/
def Block.entryAccept (m : Mem) (b : Block) (e : SchedEntry) : Block :=
  let q : Req := ⟨.entry e.id, ⟨0, 0, 0, true, 0, 0, 0⟩, b.beat, b.beat, e.payload⟩
  if e.opcode = 0 then b
  else if b.stepAwaited then b.schedFailed q.asker Status.state.num
  else if e.opcode = 0x11 then
    match parseRecs 256 q.body with
      | none => b.schedFailed q.asker Status.format.num
      | some recs =>
        if 256 ≤ b.waitingGroups then b.schedFailed q.asker Status.busy.num
        else
          let x := b.setAll m q recs
          let b := if x.later.isEmpty then x.b else x.b.accept q x.later
          (x.recs.filter (fun r => 2 ≤ r.2.1)).foldl (fun b r => b.schedFailed q.asker r.2.1) b
  else
    match b.opPerform m e.opcode q with
    | (b, some (s, _), _) => if 2 ≤ s then b.schedFailed q.asker s else b
    | (b, none, _) => b

/-- An entry's beat has come: it is accepted afresh, and dated anew. -/
def Block.entryRun (m : Mem) (b : Block) (e : SchedEntry) : Block :=
  let b := Block.entryAccept m b e
  { b with sched := b.sched.map (fun x => if x.id = e.id then { x with next := x.next + x.period, left := x.left.map (· - 1) } else x) }

def Block.entriesDue (b : Block) : List SchedEntry := b.sched.filter (fun e => decide (e.next ≤ b.beat) && e.left != some 0)
/-- Entries that have performed as often as they were asked to end. -/
def Block.entriesEnd (b : Block) : Block := { b with sched := b.sched.filter (fun e => e.left != some 0) }

/-- Prepared transactions whose boundary has come: one that no COMMIT has reached is discarded with EV_SCHED_FAILED (R60). -/
def Block.txnExpire (b : Block) (t : Txn) : Block :=
  let b := { b with txns := b.txns.filter (fun x => x != t) }
  if t.committed then b else b.raise 984 (beBytes 4 t.session ++ beBytes 4 t.seq ++ beBytes 2 Status.tooLate.num)
def Block.txnsDue (b : Block) : List Txn := b.txns.filter (fun t => decide (t.target ≤ b.beat))

/-- The checks of a request that are made again at its boundary (R50, R54), with the requests of the boundary kept so far. -/
def Block.judgeNow (b : Block) (kept : List ReqBody) (x : Accepted) : Status :=
  -- a swap or a transaction accepted later does not count against the request (R103, R120, R121); SET_BEAT counts them (R397)
  let b := if x.body.writes.any (fun r => r.key == K.TIM_SET_BEAT) then b
           else { b with accepted := b.accepted.filter (fun y => decide (y.group < x.group)) }
  let dated (l : List ReqBody) : List (Nat × ReqBody) := l.map (fun r => (b.beat, r))
  let record (many : Bool) (others : List WriteRec) (r : WriteRec) : Status :=
    let own (w : WriteRec) : Bool := w.starts && keyBlock w.key == keyBlock r.key && keyInst w.key == keyInst r.key && !isEnable r.key
    let trim (y : ReqBody) : ReqBody := if y.writes.any own then .writeMany (y.writes.filter (fun w => !own w)) else y
    let p := b.foresee b.beat (dated (kept.map trim ++ (if others.isEmpty then [] else [.writeMany (others.filter (fun w => !own w))])))
    let a : Ask := ⟨x.asker, b.beat, many, false⟩
    let s := (b.stateChecks p a r.key r.val).1
    if s.good ∧ !isEnable r.key ∧ (kept.any (·.writes.any own) ∨ others.any own) then
      firstBad [(b.stateChecks (p.storeVal r.key r.val) a (mkKey (keyBlock r.key) (keyInst r.key) 1) 1).1, s]
    else s
  let units (op : Nat) (us : List Nat) : Status :=
    let p := b.foresee b.beat (dated kept)
    firstBad (us.map (fun k => b.unitCheck p x.asker op k b.beat))
  match x.body with
  | .write r => record false [] r
  | .arm us => units 0x20 us
  | .disarm us => units 0x21 us
  | .force us => units 0x22 us
  | .calRun us => units 0x70 us
  | .snapshot _ _ | .reset _ => .ok
  | y => let ws := y.writes; firstBad (ws.mapIdx (fun k r => record true (ws.eraseIdx k) r))

/-- A write that a boundary performs before the others: a parameter of a lane or of its calibration. -/
def WriteRec.early (r : WriteRec) : Bool := !isEnable r.key && (keyBlock r.key == bLANE || keyBlock r.key == bCAL)

/-- The swap just performed keeps the number of its acceptance (R121). -/
def Block.swapOf (b : Block) (i group : Nat) : Block :=
  let x := b.lane i
  b.setLane i { x with swaps := x.swaps.dropLast ++ x.swaps.getLast?.toList.map (fun s => { s with group := group }) }

/-- The writes of a request for which `sel` holds come into force. -/
def performWrites (m : Mem) (y : Starting) (x : Accepted) (sel : WriteRec → Bool) : Starting :=
  let (id, seq) := y.1.askerIds x.asker
  (x.body.writes.filter sel).foldl (fun y r =>
    let z := y.perform m r.key r.val id seq
    if keyBlock r.key = bLANE ∧ keyItem r.key = 0x19 then (z.1.swapOf (keyInst r.key) x.group, z.2) else z) y

/-- What a request performs beside its writes: arms, disarms, calibration runs, and forced fires, which it hands on. -/
def Block.performUnits (b : Block) (x : Accepted) : Block × List Fire :=
  match x.body with
  | .arm us => (us.foldl Block.armUnit b, [])
  | .disarm us => (us.foldl Block.disarmUnit b, [])
  | .force us => us.foldl (fun r k => let (b, f) := r.1.forceUnit (keyInst k); (b, r.2 ++ f)) (b, [])
  | .calRun us => (us.foldl (fun b k => b.calStart (keyInst k)) b, [])
  | _ => (b, [])

/-- The entry address that a START_CORE gives its cores (R66). -/
def Block.performEntry (b : Block) (x : Accepted) : Block :=
  match x.body with
  | .startCores cs e => cs.foldl (fun b c =>
      if b.isOff bWVR c ∨ b.life bWVR c = lStopping then b.setCore c { b.core c with entry := e } else b) b
  | _ => b

/-- The snapshots and resets of a boundary come after everything else (R68, R69). -/
def Block.performLast (b : Block) (x : Accepted) : Block :=
  match x.body with
  | .snapshot keys rto => b.snapshotRead keys rto
  | _ => b
def Block.performReset (b : Block) (x : Accepted) : Block :=
  match x.body with
  | .reset 0 => b.resetBegin 2 3
  | .reset _ => b.resetBegin 1 2
  | _ => b

/-- The requests of `due` that can still be performed; the others raise EV_SCHED_FAILED. -/
def Block.judgeAll (b : Block) (due : List Accepted) : Block × List Accepted :=
  due.foldl (fun (r : Block × List Accepted) x =>
    let s := r.1.judgeNow (r.2.map (·.body)) x
    if s.good then (r.1, r.2 ++ [x]) else (r.1.schedFailed x.asker s.num, r.2)) (b, [])

/-- The writes of the requests come into force, those of lanes and calibration first, and with them the stops, arms and runs, in order of
acceptance; what they start is listed. The units that they force are detected in one core cycle, so their fires act together
(R188, R189). -/
def performFirst (m : Mem) (b : Block) (good : List Accepted) : Starting :=
  let y := good.foldl (fun y x => performWrites m y x WriteRec.early) (b, [])
  let z := good.foldl (fun (z : Starting × List Fire) x =>
    let y := performWrites m (z.1.1.performEntry x, z.1.2) x (fun r => !r.early)
    let (b, f) := y.1.performUnits x
    ((b, y.2), z.2 ++ f)) ((y.1.lanesApply, y.2), [])
  (Block.acting m (z.1.1.lanesApply, z.2), z.1.2)

/-- The requests due at the present beat leave the queue. -/
def Block.takeDue (b : Block) : Block × List Accepted :=
  ({ b with accepted := b.accepted.filter (fun x => !decide (x.target ≤ b.beat)) }, b.accepted.filter (fun x => decide (x.target ≤ b.beat)))

/-- Requests performed at the present boundary, with the cores' beat starts between the writes and the starts where `cores` asks. -/
def Block.performDue (m : Mem) (b : Block) (due : List Accepted) (cores : Bool) : Block × List Accepted :=
  let (b, good) := b.judgeAll due
  let y := performFirst m b good
  let b := if cores then (which 64 y.1.wvrTakes).foldl Block.coreBeat y.1 else y.1
  (Starting.go (b, y.2), good)

/-! ## The boundary -/

/-- Beat B + 1 begins: its number, the steps of the time base, and the functions that complete (R15, R49, R51). -/
def Block.beatBegin (m : Mem) (b : Block) : Block :=
  let b := { b with ticks := b.ticks + (2048 - b.cycle), beat := (b.beat + 1) % 2 ^ 64, cycle := 0 }
  let b := b.pltServoStep.pltStep.timBoundary
  b.completions m

/-- The engine's own boundary items. -/
def Block.beatUnits (m : Mem) (b : Block) : Block :=
  let b := (b.pcs.map (·.1)).foldl Block.retireNow b
  let b := (List.range 6).foldl Block.pllBoundary b
  let b := (b.writerLevels.portBoundary).outTolerance.memTolerance.pcBoundary.linksCause
  let b := (List.range 32).foldl Block.laneReleaseBegin b
  let b := (List.range 32).foldl Block.trcOpen b
  let b := (List.range 16).foldl Block.plFrame b
  let b := (List.range 64).foldl Block.gateBoundary b
  (Block.flowEntry m b).calBoundary

/-- A beat boundary. Outside THAW and FLOW only time passes. -/
def Block.beatBoundary (m : Mem) (b : Block) : Block :=
  if !b.live then
    let warm := b.dev == .reset && b.sys.kind == 2
    { b with ticks := b.ticks + (2048 - b.cycle), cycle := 0, beat := if warm then (b.beat + 1) % 2 ^ 64 else b.beat }
  else
    let b := Block.beatEnd m b
    let b := Block.beatUnits m (Block.beatBegin m b)
    let b := b.entriesDue.foldl (fun b e => Block.entryRun m b e) b
    let b := b.txnsDue.foldl Block.txnExpire b
    let (b, due) := b.takeDue
    let (b, good) := Block.performDue m b due true
    let b := (List.range 8).foldl Block.sysrefWave b.sysrefEdges
    let b := (b.lives.foldl (fun b x => b.heldNow x.1 x.2) b.entriesEnd).panicOff
    let b := good.foldl Block.performLast b.pltBeat
    good.foldl Block.performReset b

end Sys2Proof.Machine
end

