-- ==== Sys2Proof/Machine/Cmd.lean ====
section
/-! DEFINITION. What the commands share: when a command may act, a write sent without a packet of its own, an event packet that leaves, and
the words that a Weaver command may issue. -/
namespace Sys2Proof.Machine

/-- A command that acts only in THAW and FLOW (R32, R468, R477). -/
def State.runLive (f : Mem → Block → Block) (s : State) : Host.Outcome State Fault Refusal :=
  s.run (fun m b => if b.live then f m b else b)

/-- A command of a boundary item, which comes into force only at a beat boundary: at the first core cycle of a beat (R15). -/
def State.runBoundary (f : Mem → Block → Block) (s : State) : Host.Outcome State Fault Refusal :=
  s.runLive (fun m b => if b.cycle = 0 then f m b else b)

/-! ## Time between commands -/

/-- One core cycle passes: four units of the beat while the core runs on the safe clock (R414). The last unit of a beat stays until
its boundary comes (log entry 8). -/
def Block.clockTick (b : Block) : Block :=
  let c := min 2047 (b.cycle + if b.coreSafe then 4 else 1)
  { b with cycle := max b.cycle c, ticks := b.ticks + (c - b.cycle) }

/-! ## Packets -/

/-- A packet with an opcode arrives at its port. -/
def State.runPacket (op : Nat) (p : Packet) (s : State) : Host.Outcome State Fault Refusal :=
  s.runLive (fun m b => b.packetAt m p.port.val op p)

/-- What a PING is by its header (R39, R42): of the handshake's first or third step, a close, or of an open session. -/
inductive PingKind where
  | step1 | step3 | close | plain
deriving DecidableEq, Repr
def Block.pingKind (b : Block) (p : Packet) : PingKind :=
  if p.session = 0 then .step1
  else if b.shakes.any (fun h => h.id == p.session.toNat) then .step3
  else if pkFlag p 3 then .close
  else .plain
def State.runPing (k : PingKind) (p : Packet) (s : State) : Host.Outcome State Fault Refusal :=
  s.runLive (fun m b => if b.pingKind p = k then b.packetAt m p.port.val 0x01 p else b)

/-- A port can send: a network interface whose link is up, or a Plait port that is UP. -/
def Block.portSends (b : Block) (port : Nat) : Bool := if 17 ≤ port then b.portState (port - 17) == 3 else b.netUsable port

/-- The oldest closed event packet of a session leaves, once the link of its interface is up (R81, R83, R337). It carries as many records as
the session's present interface allows; the rest follow in the next packet. -/
def Block.eventSend (b : Block) (id : Nat) : Block :=
  match b.session id with
  | none => b
  | some s =>
    match s.closed with
    | [] => b
    | p :: rest =>
      if !b.portSends s.iface then b
      else
        let now := p.recs.take (b.recLimit s.iface)
        let later := p.recs.drop (b.recLimit s.iface)
        let m := ({ flags := 1, opcode := 0xE0, session := id, seq := s.evtSeq, status := 0, target := (now.map (·.beat)).headD 0,
                    payload := (now.map b.recBytes).flatten, tag := [] } : BcpMsg).signed s.e2h
        let rest := if later.isEmpty then rest else ⟨later⟩ :: rest
        (b.setSession { s with closed := rest, evtSeq := (s.evtSeq + 1) % 2 ^ 32 }).sendMsg s.iface s.addr s.evtPort m

/-! ## Writes -/

/-- One record of a SET with no packet around it (R53 to R57): it is checked and accepted as any record is, and its status is what the
command sends. -/
def Block.writeCmd (b : Block) (m : Mem) (w : Write) (session seq : Nat) : Block :=
  let say (b : Block) (s : Nat) : Block := b.send (.result s)
  match b.opBeat 0x11 w.target.toNat with
  | .inl (s, _) => say b s.num
  | .inr t =>
    if 256 ≤ b.waitingGroups then say b Status.busy.num
    else
      let q : Req := ⟨.session session seq, ⟨session, seq, 0x11, true, 16, 0, 0⟩, w.target.toNat, t, []⟩
      let len := match b.keyRow w.key.toNat with | some r => r.width | none => 4
      let x := b.setAll m q [⟨w.key.toNat, len, w.val.toNat⟩]
      let b := if x.later.isEmpty then x.b else x.b.accept q x.later
      let b := if x.zero.isSome then b.zeroise else b
      say b ((x.recs.map (fun r => r.2.1)).headD Status.paramKey.num)

/-- A write command of a row whose keys are those of `sel`. -/
def State.runWrite (sel : Nat → Nat → Bool) (w : Write) (s : State) : Host.Outcome State Fault Refusal :=
  s.runLive (fun m b => if sel w.key.toNat w.val.toNat then b.writeCmd m w 0 0 else b)
/-- A write to SEC in a session and sequence, which R480 binds to what it carries. -/
def State.runSec (sel : Nat → Nat → Bool) (w : Write) (session seq : BitVec 32) (s : State) : Host.Outcome State Fault Refusal :=
  s.runLive (fun m b => if sel w.key.toNat w.val.toNat then b.writeCmd m w session.toNat seq.toNat else b)

/-- A key of block `blk`, of the item of `key`, of an instance from `lo` to `hi`. -/
def keyIs (key lo hi k : Nat) : Bool :=
  keyBlock k == keyBlock key && keyItem k == keyItem key && decide (lo ≤ keyInst k) && decide (keyInst k ≤ hi)

def selEnable (on : Bool) (k v : Nat) : Bool := isEnable k && (bit v 0 == on)
def selOutAck (k _ : Nat) : Bool := keyIs K.EVT_OUT_ACK 0 0 k
def selSpiGo (k _ : Nat) : Bool := keyIs K.JRX_SPI_GO 0x40 0x47 k
def selNcoSync (k _ : Nat) : Bool := keyIs K.LANE_NCO_SYNC 0 31 k
def selSwapAt (k _ : Nat) : Bool := keyIs K.LANE_SWAP_AT 0 31 k
def selTrcClear (k _ : Nat) : Bool := keyIs K.XFM_TRC_CLEAR 0x80 0x9F k
def selWinCfg (k _ : Nat) : Bool := keyIs K.XFM_WIN_CFG 0xC0 0xFF k
def selCapMark (k _ : Nat) : Bool := keyIs K.CAP_MARK 0 31 k
def selDenClear (k _ : Nat) : Bool := keyIs K.DEN_CLEAR 0 15 k
def selBufCfg (k _ : Nat) : Bool := keyIs K.DEN_BUF_CFG 0x50 0x5F k
def selSideGo (k _ : Nat) : Bool := keyIs K.DEN_SIDE_GO 0x80 0x81 k
def selCredit (k _ : Nat) : Bool := keyIs K.STR_RDMA_CREDIT 0 63 k
def selStmJump (k _ : Nat) : Bool := keyIs K.STM_JUMP 0 3 k
def selVecClear (k _ : Nat) : Bool := keyIs K.VEC_CLEAR 0 0 k
def selSetBeat (k _ : Nat) : Bool := keyIs K.TIM_SET_BEAT 0 0 k
def selShot (k _ : Nat) : Bool := keyIs K.TIM_SYSREF_SHOT 0x10 0x17 k
def selTiuCal (k _ : Nat) : Bool := keyIs K.TIU_CAL_GO 0 0 k
def selRelock (k _ : Nat) : Bool := keyIs K.CLK_RELOCK 0 5 k
def selCalCommit (k _ : Nat) : Bool := keyIs K.CAL_COMMIT 0 31 k
def selCalClear (k _ : Nat) : Bool := keyIs K.CAL_CLEAR_SETS 0 31 k
def selAuxStart (k _ : Nat) : Bool := keyIs K.AUX_START 0 0 k
def selAuxSelfcal (k _ : Nat) : Bool := keyIs K.AUX_SELFCAL 0 0 k
def selPeakClear (k _ : Nat) : Bool := keyIs K.THM_PEAK_CLEAR 0 0 k
def selSvn (k v : Nat) : Bool := keyIs K.SEC_FUSE_OP 0 0 k && bit v 0
def selRevoke (k v : Nat) : Bool := keyIs K.SEC_FUSE_OP 0 0 k && !bit v 0
def selZeroise (k _ : Nat) : Bool := keyIs K.SEC_ZEROISE 0 0 k
def selHostEnroll (k v : Nat) : Bool := keyIs K.SEC_HOST_COMMIT 0x10 0x17 k && !bit v 1
def selHostRemove (k v : Nat) : Bool := keyIs K.SEC_HOST_COMMIT 0x10 0x17 k && bit v 1
def selGroupInstall (k v : Nat) : Bool := keyIs K.SEC_GROUP_COMMIT 0x20 0x23 k && !bit v 1
def selGroupRemove (k v : Nat) : Bool := keyIs K.SEC_GROUP_COMMIT 0x20 0x23 k && bit v 1
def selStreamInstall (k v : Nat) : Bool := keyIs K.SEC_STREAM_COMMIT 0x30 0x37 k && !bit v 1
def selStreamRemove (k v : Nat) : Bool := keyIs K.SEC_STREAM_COMMIT 0x30 0x37 k && bit v 1

/-- A key with no command of its own. -/
def selPlain (k v : Nat) : Bool :=
  !isEnable k &&
    !([selOutAck, selSpiGo, selNcoSync, selSwapAt, selTrcClear, selWinCfg, selCapMark, selDenClear, selBufCfg, selSideGo, selCredit, selStmJump,
      selVecClear, selSetBeat, selShot, selTiuCal, selRelock, selCalCommit, selCalClear, selAuxStart, selAuxSelfcal, selPeakClear, selSvn,
      selRevoke, selZeroise, selHostEnroll, selHostRemove, selGroupInstall, selGroupRemove, selStreamInstall, selStreamRemove].any
        (fun f => f k v))

/-! ## Boundary items -/

/-- The request first in order of acceptance that is due at this boundary is performed (R55, R56). -/
def Block.performOne (m : Mem) (b : Block) : Block :=
  match b.accepted.find? (fun x => decide (x.target ≤ b.beat)) with
  | none => b
  | some x =>
    let (b, good) := Block.performDue m { b with accepted := b.accepted.erase x } [x] false
    good.foldl Block.performReset (good.foldl Block.performLast b)

/-- A schedule entry that is due performs its request (R63). -/
def Block.entryOne (m : Mem) (b : Block) (id : Nat) : Block :=
  match b.entriesDue.find? (fun e => e.id == id) with
  | none => b
  | some e =>
    let old := b.accepted.length
    let b := Block.entryRun m b e
    let now := (b.accepted.drop old).filter (fun x => decide (x.target ≤ b.beat))
    let (b, _) := Block.performDue m { b with accepted := b.accepted.take old ++ (b.accepted.drop old).filter (fun x => !decide (x.target ≤ b.beat)) } now false
    b.entriesEnd

/-! ## The Weaver's words (R319) -/

/-- The word at the core's program counter is legal and satisfies `p`. -/
def Block.wordIs (b : Block) (c : Nat) (p : Nat → Bool) : Bool :=
  match b.wordAt c with
  | none => false
  | some w => !(b.core c).illegal w && p w
/-- The word at the program counter is an illegal encoding. -/
def Block.wordIllegal (b : Block) (c : Nat) : Bool :=
  match b.wordAt c with
  | none => false
  | some w => (b.core c).illegal w || (wordOp w).isNone

/-- Core `c` issues its next word, if that is a word of the command's row. -/
def State.runWord (c : Fin 64) (p : Nat → Bool) (s : State) : Host.Outcome State Fault Refusal :=
  s.runLive (fun m b => if b.wordIs c.val p then b.issue m c.val else b)
def State.runOp (c : Fin 64) (op : WOp) (s : State) : Host.Outcome State Fault Refusal := s.runWord c (fun w => wordOp w == some op)

/-- A word with a move that loads, or that stores (R321, R322). -/
def hasMove (dir : Move → Bool) (w : Nat) : Bool := bits w 63 62 == 0 && (dir (move0 w) || dir (move1 w))
/-- A CWR of one of some control words (R309). -/
def cwrTo (l : List Nat) (w : Nat) : Bool := wordOp w == some .cwr && l.contains (bits w 51 38)

/-! ## The stimulus sequencer, one item at a time (R372, R377, R378) -/

/-- What stands next at the sequencer's position, once it has come up to date. -/
inductive SeqItem where
  | entry | decision | effect
deriving DecidableEq, Repr
def Block.seqItem (b : Block) (c : Nat) : Option SeqItem :=
  let x := b.stim c
  if x.endAt.isSome then none
  else match x.plays.getLast? with
    | none => some .entry
    | some p =>
      if p.stop ≤ x.fed then (if p.fixed.isSome then some .effect else some .entry)
      else if !p.decided ∧ p.start + p.reach (p.len - 256) ≤ x.fed then some .decision
      else none
/-- The item is taken at its position. -/
def Block.seqTake (m : Mem) (b : Block) (c : Nat) (k : SeqItem) : Block :=
  if b.isOff bSTM c ∨ b.life bSTM c = lStopping ∨ (b.stim c).ended then b
  else
    let b := b.stmRun m c
    if b.seqItem c ≠ some k then b
    else
      let x := b.stim c
      match k, x.plays.getLast? with
      | .entry, _ => b.seqEntry c
      | .decision, some p => b.decide' c p
      | .effect, some p => match p.fixed with
        | some j => (b.setStim c { x with plays := setLast x.plays { p with fixed := none } }).jumpEffect c j
        | none => b
      | _, none => b

/-! ## Plait -/

/-- The slots of lane `i` are free of every other lane that is not OFF (R21). -/
def Block.slotsFree (b : Block) (i : Nat) : Bool :=
  laneNumberOk (b.f K.LANE_CFG i 1 0) i &&
    (List.range 32).all (fun j => j == i || b.isOff bLANE j || Nat.land (b.lnSlotMask i) (b.lnSlotMask j) == 0)

/-- A BCP packet arrives over CTRL on a Plait port that is UP: a reply on its way back, or a request (R44, R452, R461). -/
def Block.ctrlArrives (b : Block) (m : Mem) (port op : Nat) (p : Packet) (again : Bool) : Block :=
  if !b.portHears port then b
  else
    let b := b.replayed port again
    if pkFlag p 0 then b.carryReply op p else b.packetAt m (17 + port) op p

/-! ## Links -/

/-- A release after an error: the lanes of a link that moved go through an input link change, and their calibration runs end (R100,
R126, R430). -/
def Block.jrxAgain (b : Block) (k lost : Nat) : Block :=
  if !b.clkLocked 1 then b
  else
    let (b, moved) := b.jrxReRelease k lost
    if !moved then b
    else (b.lanesOfLink k).foldl (fun b i =>
      if (b.lane i).running then (b.linkChange i (b.lnSource i) 0).calAbort i else b) b

end Sys2Proof.Machine
end

