-- ==== Sys2Proof/Machine/CmdBcp.lean ====
section
/-! DEFINITION. Commands of the BCP port and of the beat (R15, R33 to R69, R79). -/
namespace Sys2Proof.Machine

/-- A PING of an open session (R61) arrives. -/
def execPing (p : Packet) (s : State) : Host.Outcome State Fault Refusal := s.runPing .plain p
/-- Step 1 of the handshake (R39) arrives: a PING of session 0. -/
def execPingHandshakeOpen (p : Packet) (s : State) : Host.Outcome State Fault Refusal := s.runPing .step1 p
/-- Step 3 of the handshake (R39) arrives: a PING that names a handshake in progress. -/
def execPingHandshakeConfirm (p : Packet) (s : State) : Host.Outcome State Fault Refusal := s.runPing .step3 p
/-- A PING with CLOSE (R42) arrives. -/
def execPingClose (p : Packet) (s : State) : Host.Outcome State Fault Refusal := s.runPing .close p
/-- A packet with this opcode arrives (R61). -/
def execGet (p : Packet) (s : State) : Host.Outcome State Fault Refusal := s.runPacket 0x10 p
/-- A packet with this opcode arrives (R57). -/
def execSet (p : Packet) (s : State) : Host.Outcome State Fault Refusal := s.runPacket 0x11 p
/-- A packet with this opcode arrives (R58). -/
def execSetMany (p : Packet) (s : State) : Host.Outcome State Fault Refusal := s.runPacket 0x12 p
/-- A packet with this opcode arrives (R62). -/
def execArm (p : Packet) (s : State) : Host.Outcome State Fault Refusal := s.runPacket 0x20 p
/-- A packet with this opcode arrives (R62). -/
def execDisarm (p : Packet) (s : State) : Host.Outcome State Fault Refusal := s.runPacket 0x21 p
/-- A packet with this opcode arrives (R184). -/
def execForce (p : Packet) (s : State) : Host.Outcome State Fault Refusal := s.runPacket 0x22 p
/-- A packet with this opcode arrives (R63). -/
def execSchedule (p : Packet) (s : State) : Host.Outcome State Fault Refusal := s.runPacket 0x23 p
/-- A packet with this opcode arrives (R59). -/
def execPrepare (p : Packet) (s : State) : Host.Outcome State Fault Refusal := s.runPacket 0x30 p
/-- A packet with this opcode arrives (R60). -/
def execCommit (p : Packet) (s : State) : Host.Outcome State Fault Refusal := s.runPacket 0x31 p
/-- A packet with this opcode arrives (R60). -/
def execAbort (p : Packet) (s : State) : Host.Outcome State Fault Refusal := s.runPacket 0x32 p
/-- A packet with this opcode arrives (R64). -/
def execReadMem (p : Packet) (s : State) : Host.Outcome State Fault Refusal := s.runPacket 0x40 p
/-- A packet with this opcode arrives (R64). -/
def execWriteMem (p : Packet) (s : State) : Host.Outcome State Fault Refusal := s.runPacket 0x41 p
/-- A packet with this opcode arrives (R65). -/
def execLoadProgram (p : Packet) (s : State) : Host.Outcome State Fault Refusal := s.runPacket 0x50 p
/-- A packet with this opcode arrives (R66). -/
def execStartCore (p : Packet) (s : State) : Host.Outcome State Fault Refusal := s.runPacket 0x51 p
/-- A packet with this opcode arrives (R66). -/
def execStopCore (p : Packet) (s : State) : Host.Outcome State Fault Refusal := s.runPacket 0x52 p
/-- A packet with this opcode arrives (R67). -/
def execSubscribe (p : Packet) (s : State) : Host.Outcome State Fault Refusal := s.runPacket 0x60 p
/-- A packet with this opcode arrives (R67). -/
def execUnsubscribe (p : Packet) (s : State) : Host.Outcome State Fault Refusal := s.runPacket 0x61 p
/-- A packet with this opcode arrives (R429). -/
def execCalRun (p : Packet) (s : State) : Host.Outcome State Fault Refusal := s.runPacket 0x70 p
/-- A packet with this opcode arrives (R68). -/
def execSnapshot (p : Packet) (s : State) : Host.Outcome State Fault Refusal := s.runPacket 0x71 p
/-- A packet with this opcode arrives (R475). -/
def execEnterFlow (p : Packet) (s : State) : Host.Outcome State Fault Refusal := s.runPacket 0x80 p
/-- A packet with this opcode arrives (R69). -/
def execReset (p : Packet) (s : State) : Host.Outcome State Fault Refusal := s.runPacket 0x81 p
/-- A packet with an opcode that R61 does not list arrives (R37). -/
def execUnknownOpcodeRequest (op : BitVec 16) (p : Packet) (s : State) : Host.Outcome State Fault Refusal :=
  s.runLive (fun m b => if opKnown op.toNat then b else b.packetAt m p.port.val op.toNat p)
/-- A packet for another member arrives (R44). -/
def execForwardRequest (op : BitVec 16) (p : Packet) (s : State) : Host.Outcome State Fault Refusal :=
  s.runLive (fun m b => if pkFlag p 4 ∧ pkDest p ≠ b.member then b.packetAt m p.port.val op.toNat p else b)
/-- A handshake has waited for its step 3 (R41). -/
def execHandshakeTimeout (session : BitVec 32) (s : State) : Host.Outcome State Fault Refusal := s.runLive (fun _ b => b.shakeTimeout session.toNat)
/-- A session has been idle (R42). -/
def execSessionIdleTimeout (session : BitVec 32) (s : State) : Host.Outcome State Fault Refusal := s.runLive (fun _ b => b.idleTimeout session.toNat)
/-- A write to a parameter without a command of its own (R47). -/
def execParameterWrite (w : Write) (s : State) : Host.Outcome State Fault Refusal := s.runWrite selPlain w
/-- A write of 1 to an ENABLE (R50). -/
def execFunctionStartRequest (w : Write) (s : State) : Host.Outcome State Fault Refusal := s.runWrite (selEnable true) w
/-- A write of 0 to an ENABLE (R50). -/
def execFunctionStopRequest (w : Write) (s : State) : Host.Outcome State Fault Refusal := s.runWrite (selEnable false) w
/-- The beat in progress ends and the next begins (R15). -/
def execBeatBoundary (s : State) : Host.Outcome State Fault Refusal := s.run (fun m b => Block.beatBoundary m b)
/-- The oldest accepted request that is due is performed (R56). -/
def execRequestPerformance (s : State) : Host.Outcome State Fault Refusal := s.runBoundary (fun m b => Block.performOne m b)
/-- A schedule entry that is due performs its request (R63). -/
def execSchedulePerformance (entry : BitVec 32) (s : State) : Host.Outcome State Fault Refusal :=
  s.runBoundary (fun m b => Block.entryOne m b entry.toNat)
/-- The boundary of a prepared transaction has come (R60). -/
def execPreparedTxnExpiry (session seq : BitVec 32) (s : State) : Host.Outcome State Fault Refusal :=
  s.runBoundary (fun _ b => match b.txnsDue.find? (fun t => t.session == session.toNat && t.seq == seq.toNat) with | some t => b.txnExpire t | none => b)
/-- A held request of a function begins (R51). -/
def execHeldRequestBegin (blk inst : BitVec 8) (s : State) : Host.Outcome State Fault Refusal :=
  s.runBoundary (fun _ b => b.heldNow blk.toNat inst.toNat)
/-- A start or stop sequence of a function completes (R49). -/
def execFunctionSequenceComplete (blk inst : BitVec 8) (s : State) : Host.Outcome State Fault Refusal :=
  s.runBoundary (fun m b => if hasLife blk.toNat inst.toNat && b.moving blk.toNat inst.toNat then Block.fnBoundary m b blk.toNat inst.toNat else b)
/-- A window of 1,024 beats ends (R79). -/
def execLimitWindowEnd (s : State) : Host.Outcome State Fault Refusal := s.runBoundary (fun _ b => if b.windowDue b.beat then b.endWindow b.beat else b)

end Sys2Proof.Machine
end

