-- ==== Sys2Proof/Machine/CmdClock.lean ====
section
/-! DEFINITION. Commands of the PLLs, the lane calibration and the auxiliary converter (R410 to R445). -/
namespace Sys2Proof.Machine

/-- PLL n loses lock (R421). -/
def execPllUnlock (n : Fin 6) (s : State) : Host.Outcome State Fault Refusal := s.runLive (fun _ b => b.pllUnlock n.val)
/-- PLL n locks in a band, after `ns` (R416). -/
def execPllLockDone (n : Fin 6) (band : BitVec 6) (ns : BitVec 16) (s : State) : Host.Outcome State Fault Refusal :=
  s.runLive (fun _ b => b.pllLock n.val band.toNat ns.toNat)
/-- PLL n has not locked in 60 µs (R416). -/
def execPllLockTimeout (n : Fin 6) (s : State) : Host.Outcome State Fault Refusal := s.runLive (fun _ b => b.pllTimeout n.val)
/-- The next attempt of PLL n is due (R423). -/
def execPllRelockRetry (n : Fin 6) (s : State) : Host.Outcome State Fault Refusal := s.runLive (fun _ b => b.clkRetry n.val)
/-- PLL n reaches the target of a retune (R419). -/
def execPllSlewDone (n : Fin 6) (s : State) : Host.Outcome State Fault Refusal := s.runLive (fun _ b => b.pllSlewDone n.val)
/-- A write to RELOCK (R424). -/
def execRelock (w : Write) (s : State) : Host.Outcome State Fault Refusal := s.runWrite selRelock w
/-- Target t reads its temperature (R429). -/
def execCalTempReading (t : Fin 32) (s : State) : Host.Outcome State Fault Refusal := s.runLive (fun _ b => b.calReading t.val)
/-- A block of 2^16 samples of target t completes (R430). -/
def execCalBlock (t : Fin 32) (stats : CalStats) (s : State) : Host.Outcome State Fault Refusal := s.runLive (fun _ b => b.calBlock t.val stats)
/-- The values of a run of target t are computed (R432). -/
def execCalComputeDone (t : Fin 32) (s : State) : Host.Outcome State Fault Refusal := s.runLive (fun _ b => b.calComputed t.val)
/-- A run of target t has waited WAIT_MAX seconds (R430). -/
def execCalWaitTimeout (t : Fin 32) (s : State) : Host.Outcome State Fault Refusal := s.runLive (fun _ b => b.calTimeout t.val)
/-- A run's commit of target t is due (R437). -/
def execCalCommitApply (t : Fin 32) (s : State) : Host.Outcome State Fault Refusal := s.runBoundary (fun _ b => (b.calCommitRun t.val).lanesApply)
/-- An interpolation commit of target t is due (R436). -/
def execCalInterpCommit (t : Fin 32) (s : State) : Host.Outcome State Fault Refusal := s.runBoundary (fun _ b => (b.calCommitInterp t.val).lanesApply)
/-- A write to CAL COMMIT (R437). -/
def execCalCommit (w : Write) (s : State) : Host.Outcome State Fault Refusal := s.runWrite selCalCommit w
/-- A write to CLEAR_SETS (R437). -/
def execCalClearSets (w : Write) (s : State) : Host.Outcome State Fault Refusal := s.runWrite selCalClear w
/-- The auxiliary reference has settled (R441). -/
def execAuxRefReady (s : State) : Host.Outcome State Fault Refusal := s.runLive (fun _ b => b.auxRefReady)
/-- The filter starts on its boundary (R443). -/
def execAuxFilterStart (s : State) : Host.Outcome State Fault Refusal := s.runBoundary (fun _ b => b.auxBegin)
/-- A write to AUX START (R443). -/
def execAuxStart (w : Write) (s : State) : Host.Outcome State Fault Refusal := s.runWrite selAuxStart w
/-- A conversion result, in 2^-16 codes (R444). -/
def execAuxResult (raws : List Word) (s : State) : Host.Outcome State Fault Refusal := s.runLive (fun _ b => b.auxResult (raws.map (·.toInt)))
/-- A write to SELFCAL (R445). -/
def execAuxSelfcal (w : Write) (s : State) : Host.Outcome State Fault Refusal := s.runWrite selAuxSelfcal w
/-- A self-calibration phase completes with its mean readings (R445). -/
def execAuxSelfcalPhaseDone (raws : List Word) (s : State) : Host.Outcome State Fault Refusal :=
  s.runLive (fun _ b => b.auxPhaseDone (raws.map (·.toInt)))

end Sys2Proof.Machine
end

