-- ==== Sys2Proof/Machine/CmdLinks.lean ====
section
/-! DEFINITION. Commands of the event outputs, the converter links and SPI (R79 to R104). -/
namespace Sys2Proof.Machine

/-- The oldest record of a session's open packet has waited 2 µs (R83). -/
def execEventPacketTimeout (session : BitVec 32) (s : State) : Host.Outcome State Fault Refusal := s.runLive (fun _ b => b.closePacket session.toNat)
/-- A session's closed event packet has its turn (R81). -/
def execEventPacketSend (session : BitVec 32) (s : State) : Host.Outcome State Fault Refusal := s.runLive (fun _ b => b.eventSend session.toNat)
/-- A write to OUT_ACK (R84). -/
def execEvtOutAck (w : Write) (s : State) : Host.Outcome State Fault Refusal := s.runWrite selOutAck w
/-- The pulse of EVT_OUT_N[k] has run its width (R84). -/
def execEvtOutPulseEnd (k : Fin 2) (s : State) : Host.Outcome State Fault Refusal := s.runLive (fun _ b => b.pulseEnd k.val)
/-- The SerDes lanes of receive link k lock (R96). -/
def execJrxCdrLock (k : Fin 16) (s : State) : Host.Outcome State Fault Refusal := s.runLive (fun _ b => b.jrxCdrLock k.val)
/-- Receive link k aligns; `arrivals` are its lanes' arrivals in 1/16 input sample (R95). -/
def execJrxAlignDone (k : Fin 16) (arrivals : List (BitVec 32)) (s : State) : Host.Outcome State Fault Refusal :=
  s.runLive (fun _ b => b.jrxAlignDone k.val (arrivals.map (·.toNat)))
/-- Receive link k first releases samples (R96). -/
def execJrxRelease (k : Fin 16) (s : State) : Host.Outcome State Fault Refusal := s.runLive (fun _ b => (b.jrxRelease k.val).lanesLatency k.val)
/-- The start steps of receive link k are late; `mask` are the lanes that miss (R96). -/
def execJrxStartTimeout (k : Fin 16) (mask : Byte) (s : State) : Host.Outcome State Fault Refusal :=
  s.runLive (fun _ b => b.jrxTimeout k.val mask.toNat)
/-- Receive link k loses sync-header lock or code-group sync (R99). -/
def execJrxHeaderLoss (k : Fin 16) (mask : Byte) (s : State) : Host.Outcome State Fault Refusal :=
  s.runLive (fun _ b => b.jrxLoss k.val K.JRX_HDR_ERR rHeader mask.toNat 2)
/-- Receive link k loses its alignment (R99). -/
def execJrxAlignLoss (k : Fin 16) (mask : Byte) (s : State) : Host.Outcome State Fault Refusal :=
  s.runLive (fun _ b => b.jrxLoss k.val K.JRX_ALIGN_ERR rAlign mask.toNat 2)
/-- A CRC-12 of receive link k does not match (R99). -/
def execJrxCrcError (k : Fin 16) (mask : Byte) (s : State) : Host.Outcome State Fault Refusal := s.runLive (fun _ b => b.jrxCrc k.val mask.toNat)
/-- A character of JESD204B link k is wrong (R99). -/
def execJrxCharError (k : Fin 16) (mask : Byte) (s : State) : Host.Outcome State Fault Refusal := s.runLive (fun _ b => b.jrxChar k.val mask.toNat)
/-- The ILAS parameters of JESD204B link k differ from its configuration (R87). -/
def execJrxIlasMismatch (k : Fin 16) (mask : Byte) (s : State) : Host.Outcome State Fault Refusal :=
  s.runLive (fun _ b => if b.lkIsB bJRX k.val then b.jrxLoss k.val K.JRX_ALIGN_ERR rIlas mask.toNat 2 else b)
/-- The elastic buffer of receive link k leaves its window (R99). -/
def execJrxElasticError (k : Fin 16) (mask : Byte) (s : State) : Host.Outcome State Fault Refusal :=
  s.runLive (fun _ b => b.jrxLoss k.val K.JRX_ELASTIC_ERR rElastic mask.toNat 2)
/-- Receive link k loses its signal or CDR lock (R99). -/
def execJrxSignalLoss (k : Fin 16) (mask : Byte) (s : State) : Host.Outcome State Fault Refusal :=
  s.runLive (fun _ b => b.jrxLoss k.val K.JRX_HDR_ERR rHeader mask.toNat 1)
/-- Receive link k releases again, `lost` input samples later (R100). -/
def execJrxReRelease (k : Fin 16) (lost : BitVec 32) (s : State) : Host.Outcome State Fault Refusal :=
  s.runLive (fun _ b => b.jrxAgain k.val lost.toNat)
/-- A SYSREF pulse of receive link k disagrees with its epoch (R100). -/
def execJrxEpochMove (k : Fin 16) (s : State) : Host.Outcome State Fault Refusal := s.runLive (fun _ b => b.jrxEpochMove k.val)
/-- The rate error of receive link k, in 0.001 ppm (R90). -/
def execJrxRateError (k : Fin 16) (ppm : BitVec 32) (s : State) : Host.Outcome State Fault Refusal := s.runLive (fun _ b => b.jrxRate k.val ppm.toInt)
/-- JTX_SYNC_N of transmit link t is lost (R102). -/
def execJtxSyncLoss (t : Fin 4) (s : State) : Host.Outcome State Fault Refusal := s.runLive (fun _ b => b.jtxSyncLoss t.val)
/-- Transmit link t completes its start (R102). -/
def execJtxUp (t : Fin 4) (s : State) : Host.Outcome State Fault Refusal := s.runLive (fun _ b => b.jtxUp t.val)
/-- A write to SPI_GO (R103). -/
def execSpiGo (w : Write) (s : State) : Host.Outcome State Fault Refusal := s.runWrite selSpiGo w
/-- The transaction of SPI port j completes with the bits received (R103). -/
def execSpiDone (j : Fin 8) (rx : Word) (s : State) : Host.Outcome State Fault Refusal := s.runLive (fun _ b => b.spiDone j.val rx.toNat)
/-- The DAC of transmit link t resynchronises (R102). -/
def execJtxResynchronisation (t : Fin 4) (s : State) : Host.Outcome State Fault Refusal := s.runLive (fun _ b => b.jtxResync t.val)

end Sys2Proof.Machine
end

