-- ==== Sys2Proof/Machine/CmdMemory.lean ====
section
/-! DEFINITION. Commands of the HBM3E controller and the display (R235 to R286). -/
namespace Sys2Proof.Machine

/-- Pseudo-channel p takes new requests and serves one; `levels` are the bytes in the FIFOs of the reader ports 32 to 41, `draw` the draw at an ACT (R235, R236, R240). -/
def execHbmRequest (p : Fin 128) (asks : List HbmAsk) (levels : List (Fin 10 × BitVec 21)) (draw : Word) (s : State) : Host.Outcome State Fault Refusal :=
  s.runLive (fun _ b => let b := levels.foldl (fun b l => b.portLevel (32 + l.1.val) l.2.toNat (b.portOn (32 + l.1.val))) b.writerLevels
    b.hbmRequest p.val (asks.map (fun a => (a.port.map (·.val), a.slot.toNat, a.line.val, a.write))) draw.toNat)
/-- A refresh of pseudo-channel p falls due (R237). -/
def execRefreshTick (p : Fin 128) (s : State) : Host.Outcome State Fault Refusal := s.runLive (fun _ b => b.refreshTick p.val)
/-- A temperature reading of stack k in 1/16 °C (R238). -/
def execStackTempReading (k : Fin 4) (temp : BitVec 16) (s : State) : Host.Outcome State Fault Refusal :=
  s.runLive (fun _ b => b.stackRead k.val temp.toInt)
/-- The training slot of pseudo-channel p; `found` that the training found a working setting (R241). -/
def execRetrainSlot (p : Fin 128) (found : Bool) (s : State) : Host.Outcome State Fault Refusal := s.runLive (fun _ b => b.retrain p.val found)
/-- A transfer of pseudo-channel p fails once and `more` times again (R242). -/
def execTransferParityError (p : Fin 128) (lane : BitVec 8) (more : Fin 4) (slot : BitVec 21) (line : Fin 16) (write : Bool) (s : State) : Host.Outcome State Fault Refusal :=
  s.runLive (fun _ b => b.parityError p.val lane.toNat (more.val + 1) slot.toNat line.val write)
/-- The failing lane of pseudo-channel p is moved to a spare (R242). -/
def execLaneRepair (p : Fin 128) (s : State) : Host.Outcome State Fault Refusal := s.runLive (fun _ b => b.laneRepair p.val)
/-- Pseudo-channel p leaves service (R243). -/
def execPcRetirement (p : Fin 128) (s : State) : Host.Outcome State Fault Refusal := s.runBoundary (fun _ b => b.retireNow p.val)
/-- The close pass of plane p ends (R253). -/
def execDensityClosePassEnd (p : Fin 16) (late : Bool) (s : State) : Host.Outcome State Fault Refusal :=
  s.runLive (fun m b => Block.acting m (b.plPassEnd p.val (some late)))
/-- A write to CLEAR of a plane (R260). -/
def execDensityClear (w : Write) (s : State) : Host.Outcome State Fault Refusal := s.runWrite selDenClear w
/-- A line of spectrogram plane k is written (R263). -/
def execSpectrogramLineComplete (k : Fin 16) (s : State) : Host.Outcome State Fault Refusal := s.runLive (fun _ b => b.spgLine k.val)
/-- The compositor's tick (R267). -/
def execCompositeTick (s : State) : Host.Outcome State Fault Refusal := s.runLive (fun m b => b.compTick m)
/-- The frame in composition is complete (R267). -/
def execCompositeComplete (s : State) : Host.Outcome State Fault Refusal := s.runLive (fun _ b => b.compDone)
/-- A write to BUF_CFG (R281). -/
def execBufCfgWrite (w : Write) (s : State) : Host.Outcome State Fault Refusal := s.runWrite selBufCfg w
/-- The last reference to buffer k retires (R281). -/
def execBufReleased (k : Fin 16) (s : State) : Host.Outcome State Fault Refusal := s.runLive (fun _ b => b.bufSettle k.val)
/-- The frame boundary of output o (R277). -/
def execDisplayFrameBoundary (o : Fin 2) (s : State) : Host.Outcome State Fault Refusal := s.runLive (fun m b => b.dispFrame m o.val)
/-- An edge on TE_IN (R278). -/
def execTeInEdge (rising : Bool) (s : State) : Host.Outcome State Fault Refusal := s.runLive (fun m b => b.teEdge m rising)
/-- No TE_IN edge for TE_TIMEOUT (R278). -/
def execTeTimeout (s : State) : Host.Outcome State Fault Refusal := s.runLive (fun _ b => b.teTimeout)
/-- The line buffer of output o runs empty in a line (R279). -/
def execDisplayUnderflow (o : Fin 2) (line : BitVec 12) (s : State) : Host.Outcome State Fault Refusal :=
  s.runLive (fun _ b => b.dispUnderflow o.val line.toNat)
/-- The first frame of a new mode of output o starts (R283). -/
def execDisplayModeResume (o : Fin 2) (s : State) : Host.Outcome State Fault Refusal := s.runLive (fun _ b => b.dispResume o.val)
/-- DisplayPort link training ends (R285). -/
def execDpTrainingDone (ok : Bool) (s : State) : Host.Outcome State Fault Refusal := s.runLive (fun _ b => b.dpTrained ok)
/-- Link training is tried again (R285). -/
def execDpTrainingRetry (s : State) : Host.Outcome State Fault Refusal := s.runLive (fun _ b => b.dpRetry)
/-- HPD takes a level (R285). -/
def execHpdEdge (high : Bool) (s : State) : Host.Outcome State Fault Refusal := s.runLive (fun _ b => b.hpdEdge high)
/-- An IRQ_HPD; `lost` that the sink reports the link lost (R285). -/
def execIrqHpd (lost : Bool) (s : State) : Host.Outcome State Fault Refusal := s.runLive (fun _ b => b.irqHpd lost)
/-- A write to SIDE_GO (R286). -/
def execSideGo (w : Write) (s : State) : Host.Outcome State Fault Refusal := s.runWrite selSideGo w
/-- The side-channel transaction of output o completes (R286). -/
def execSideDone (o : Fin 2) (rx : Word) (err timeout : Bool) (s : State) : Host.Outcome State Fault Refusal :=
  s.runLive (fun _ b => b.sideDone o.val rx.toNat err timeout)
/-- The last line of the latched frame of output o has left its buffer (R277). -/
def execFrameRetire (o : Fin 2) (s : State) : Host.Outcome State Fault Refusal := s.runLive (fun _ b => b.outRetire o.val)

end Sys2Proof.Machine
end

