-- ==== Sys2Proof/Machine/CmdNet.lean ====
section
/-! DEFINITION. Commands of the network, the streams and the codec (R335 to R362). -/
namespace Sys2Proof.Machine

/-- The link of interface l comes up; 16 is the management port (R337). -/
def execNetLinkUp (l : Fin 17) (s : State) : Host.Outcome State Fault Refusal := s.runLive (fun _ b => b.netUp l.val)
/-- The link of interface l goes down (R337). -/
def execNetLinkDown (l : Fin 17) (s : State) : Host.Outcome State Fault Refusal := s.runLive (fun _ b => b.netDown l.val)
/-- An ARP request arrives (R336). -/
def execArpRequest (l : Fin 17) (mac : BitVec 48) (ip target : BitVec 32) (s : State) : Host.Outcome State Fault Refusal :=
  s.runLive (fun _ b => b.netArp l.val mac.toNat ip.toNat target.toNat)
/-- An IPv6 neighbour solicitation arrives (R336). -/
def execNeighbourSolicitation (l : Fin 17) (mac : BitVec 48) (ip target : BitVec 128) (s : State) : Host.Outcome State Fault Refusal :=
  s.runLive (fun _ b => b.netSolicit l.val mac.toNat ip.toNat target.toNat)
/-- An ICMP or ICMPv6 echo request arrives (R336). -/
def execEchoRequest (l : Fin 17) (v6 : Bool) (ip target : BitVec 128) (data : List Byte) (s : State) : Host.Outcome State Fault Refusal :=
  s.runLive (fun _ b => b.netEcho l.val v6 ip.toNat target.toNat data)
/-- A resolved neighbour is due for its refresh (R336). -/
def execNeighbourRefreshTimer (l : Fin 17) (v6 : Bool) (ip : BitVec 128) (s : State) : Host.Outcome State Fault Refusal :=
  s.runLive (fun _ b => b.netRefresh l.val v6 ip.toNat)
/-- A resolution without an answer is tried again (R336). -/
def execNeighbourRetry (l : Fin 17) (v6 : Bool) (ip : BitVec 128) (s : State) : Host.Outcome State Fault Refusal :=
  s.runLive (fun _ b => b.netRetry l.val v6 ip.toNat)
/-- The interface of stream k is ON and its neighbour resolved (R344). -/
def execStreamStartComplete (k : Fin 64) (s : State) : Host.Outcome State Fault Refusal := s.runLive (fun _ b => b.strStarted k.val)
/-- Stream k has its turn to send (R348). -/
def execStreamPacketSend (k : Fin 64) (s : State) : Host.Outcome State Fault Refusal := s.runLive (fun m b => b.strSend m k.val)
/-- An ACK reaches the queue pair of stream k (R353). -/
def execRoceAck (k : Fin 64) (psn : BitVec 24) (s : State) : Host.Outcome State Fault Refusal := s.runLive (fun _ b => b.roceAck k.val psn.toNat)
/-- A NAK reaches the queue pair of stream k (R353). -/
def execRoceNak (k : Fin 64) (psn : BitVec 24) (s : State) : Host.Outcome State Fault Refusal := s.runLive (fun _ b => b.roceNak k.val psn.toNat)
/-- The oldest packet of stream k waits for its ACK too long (R353). -/
def execRoceAckTimeout (k : Fin 64) (s : State) : Host.Outcome State Fault Refusal := s.runLive (fun _ b => b.roceTimeout k.val)
/-- Another RDMA request reaches the queue pair of stream k (R352). -/
def execRoceInvalidRequest (k : Fin 64) (psn : BitVec 24) (s : State) : Host.Outcome State Fault Refusal :=
  s.runLive (fun _ b => b.roceInvalid k.val psn.toNat)
/-- A write to RDMA_CREDIT (R352). -/
def execRdmaCreditWrite (w : Write) (s : State) : Host.Outcome State Fault Refusal := s.runWrite selCredit w
/-- Compressor k finishes its block; `mismatch` that the verifier disagrees (R359). -/
def execCodecBlockDone (k : Fin 4) (mismatch : Bool) (s : State) : Host.Outcome State Fault Refusal :=
  s.runLive (fun m b => b.codecDone m k.val mismatch)
/-- A datagram for a decompressor's port arrives (R361). -/
def execDecPacketArrival (l : Fin 16) (port : BitVec 16) (bytes : List Byte) (s : State) : Host.Outcome State Fault Refusal :=
  s.runLive (fun _ b => b.decPacket l.val port.toNat bytes)
/-- Decompressor d takes its next block (R362). -/
def execDecBlock (d : Fin 2) (s : State) : Host.Outcome State Fault Refusal := s.runLive (fun m b => b.decBlock m d.val)
/-- An ARP reply or neighbour advertisement arrives (R336). -/
def execNeighbourReply (l : Fin 17) (v6 : Bool) (ip : BitVec 128) (mac : BitVec 48) (s : State) : Host.Outcome State Fault Refusal :=
  s.runLive (fun _ b => b.netReply l.val v6 ip.toNat mac.toNat)
/-- A priority flow control frame arrives: the stream priority's mask bit and its quanta (R336). -/
def execPfcFrame (l : Fin 16) (mask : Byte) (quanta : BitVec 16) (s : State) : Host.Outcome State Fault Refusal :=
  s.runLive (fun _ b => b.netPfc l.val mask.toNat quanta.toNat)
/-- A frame is dropped, with the FEC codewords counted since the last (R341). -/
def execFrameDropped (l : Fin 17) (corrected uncorrected : BitVec 32) (s : State) : Host.Outcome State Fault Refusal :=
  s.runLive (fun _ b => b.netDropped l.val corrected.toNat uncorrected.toNat)

end Sys2Proof.Machine
end

