-- ==== Sys2Proof/Machine/CmdPlait.lean ====
section
/-! DEFINITION. Commands of the Plait links (R450 to R462). -/
namespace Sys2Proof.Machine

/-- Port p completes its start: the partner's node and port, the delays in ps, and the members' ports that are not UP (R450). -/
def execPltPortUp (p : Fin 4) (node : BitVec 18) (port : Fin 4) (out back : BitVec 48) (cut : List (Fin 16 × Fin 4)) (s : State) : Host.Outcome State Fault Refusal :=
  s.runLive (fun _ b => b.portUp p.val node.toNat port.val out.toInt back.toInt (cut.map (fun x => (x.1.val, x.2.val))))
/-- Port p repeats the exchange after a wiring fault (R450). -/
def execPltWiringRetry (p : Fin 4) (node : BitVec 18) (port : Fin 4) (out back : BitVec 48) (cut : List (Fin 16 × Fin 4)) (s : State) : Host.Outcome State Fault Refusal :=
  s.runLive (fun _ b => b.portRetry p.val node.toNat port.val out.toInt back.toInt (cut.map (fun x => (x.1.val, x.2.val))))
/-- Port p loses CDR lock, or 64 flits in a row fail their CRC (R450). -/
def execPltPortFault (p : Fin 4) (crc : Bool) (cut : List (Fin 16 × Fin 4)) (s : State) : Host.Outcome State Fault Refusal :=
  s.runLive (fun _ b => b.portFault p.val crc (cut.map (fun x => (x.1.val, x.2.val))))
/-- A two-way time exchange on port p, stamps in ps (R454). -/
def execPltTimeExchange (p : Fin 4) (t1 t2 t3 t4 : BitVec 80) (crcError : Bool) (s : State) : Host.Outcome State Fault Refusal :=
  s.runLive (fun _ b => b.timeExchange p.val t1.toInt t2.toInt t3.toInt t4.toInt crcError)
/-- The leader's beat number arrives on port p (R455). -/
def execPltBeatMessage (p : Fin 4) (n : Word) (quality : BitVec 2) (again : Bool) (s : State) : Host.Outcome State Fault Refusal :=
  s.runLive (fun _ b => b.beatMessage p.val n.toNat quality.toNat again)
/-- A member's quiet report arrives on port p (R455). -/
def execPltQuietReport (p : Fin 4) (member : Fin 16) (joined quiet again : Bool) (s : State) : Host.Outcome State Fault Refusal :=
  s.runLive (fun _ b => b.quietReport p.val member.val joined quiet again)
/-- A step notice arrives on port p (R455). -/
def execPltStepNotice (p : Fin 4) (atBeat step : Word) (again : Bool) (s : State) : Host.Outcome State Fault Refusal :=
  s.runLive (fun _ b => b.noticeArrives p.val atBeat.toNat step.toInt again)
/-- A BCP packet arrives over the CTRL class of a port (R44, R461). -/
def execPltCtrlMessage (port : Fin 4) (op : BitVec 16) (p : Packet) (again : Bool) (s : State) : Host.Outcome State Fault Refusal :=
  s.runLive (fun m b => b.ctrlArrives m port.val op.toNat p again)
/-- A member's outcome report arrives on port p (R462). -/
def execPltOutcomeReport (p : Fin 4) (member : Fin 16) (seq : BitVec 32) (status : BitVec 16) (again : Bool) (s : State) : Host.Outcome State Fault Refusal :=
  s.runLive (fun _ b => b.outcomeArrives p.val member.val seq.toNat status.toNat again)
/-- A context message arrives at import x (R458). -/
def execPltImportContext (x : Fin 8) (ctx : ExportContext) (s : State) : Host.Outcome State Fault Refusal :=
  s.runLive (fun _ b => b.impContext x.val ctx (b.slotsFree (b.impLane x.val)))
/-- A data frame arrives or is lost at import x (R458, R459). -/
def execPltImportFrame (x : Fin 8) (frame : ExportFrame) (late : Bool) (s : State) : Host.Outcome State Fault Refusal :=
  s.runLive (fun m b => Block.impDeliver m b x.val frame late)

end Sys2Proof.Machine
end

