-- ==== Sys2Proof/Machine/CmdReset.lean ====
section
/-! DEFINITION. Commands of reset, boot, keys, JTAG and supply (R467 to R504). -/
namespace Sys2Proof.Machine

/-- PORESET_N is asserted (R467). -/
def execPowerOnReset (s : State) : Host.Outcome State Fault Refusal := s.run (fun _ b => b.pinReset 0)
/-- RESET_N is asserted (R467). -/
def execColdResetPin (s : State) : Host.Outcome State Fault Refusal := s.run (fun _ b => b.pinReset 1)
/-- The watchdog expires (R467). -/
def execWatchdogReset (s : State) : Host.Outcome State Fault Refusal := s.run (fun _ b => b.watchdog)
/-- The crystal is qualified; the straps are sampled (R470). -/
def execResetEnd (member : BitVec 4) (bootMode : BitVec 2) (s : State) : Host.Outcome State Fault Refusal :=
  s.run (fun _ b => b.resetEnd member.toNat bootMode.toNat)
/-- The boot ROM checks a slot (R472). -/
def execBootSlot (slot : BootSlot) (s : State) : Host.Outcome State Fault Refusal := s.run (fun _ b => b.bootSlot slot)
/-- The image starts its reduced service (R470). -/
def execThawEntry (s : State) : Host.Outcome State Fault Refusal := s.run (fun _ b => b.thawEntry)
/-- HBM3E training ends; `bad` are the pseudo-channels without a working setting (R470). -/
def execHbmTrainingEnd (bad : List (Fin 128)) (s : State) : Host.Outcome State Fault Refusal := s.runLive (fun _ b => b.hbmTrained (bad.map (·.val)))
/-- The conditions for FLOW hold (R475). -/
def execFlowEntry (s : State) : Host.Outcome State Fault Refusal := s.runBoundary Block.flowEntry
/-- A write to FUSE_OP with SVN_ADVANCE (R473). -/
def execSvnAdvance (w : Write) (session seq : BitVec 32) (s : State) : Host.Outcome State Fault Refusal := s.runSec selSvn w session seq
/-- A write to FUSE_OP with REVOKE alone (R473). -/
def execRevoke (w : Write) (session seq : BitVec 32) (s : State) : Host.Outcome State Fault Refusal := s.runSec selRevoke w session seq
/-- A write to ZEROISE (R481). -/
def execZeroise (w : Write) (session seq : BitVec 32) (s : State) : Host.Outcome State Fault Refusal := s.runSec selZeroise w session seq
/-- A write to COMMIT of a host key with ENROLL (R480). -/
def execHostKeyEnroll (w : Write) (session seq : BitVec 32) (s : State) : Host.Outcome State Fault Refusal := s.runSec selHostEnroll w session seq
/-- A write to COMMIT of a host key with REMOVE (R480). -/
def execHostKeyRemove (w : Write) (session seq : BitVec 32) (s : State) : Host.Outcome State Fault Refusal := s.runSec selHostRemove w session seq
/-- A write to COMMIT of a group key with INSTALL (R480). -/
def execGroupKeyInstall (w : Write) (session seq : BitVec 32) (s : State) : Host.Outcome State Fault Refusal := s.runSec selGroupInstall w session seq
/-- A write to COMMIT of a group key with REMOVE (R480). -/
def execGroupKeyRemove (w : Write) (session seq : BitVec 32) (s : State) : Host.Outcome State Fault Refusal := s.runSec selGroupRemove w session seq
/-- A write to COMMIT of a stream key with INSTALL (R480). -/
def execStreamKeyInstall (w : Write) (session seq : BitVec 32) (s : State) : Host.Outcome State Fault Refusal :=
  s.runSec selStreamInstall w session seq
/-- A write to COMMIT of a stream key with REMOVE (R480). -/
def execStreamKeyRemove (w : Write) (session seq : BitVec 32) (s : State) : Host.Outcome State Fault Refusal := s.runSec selStreamRemove w session seq
/-- JTAG EXTEST with a boundary register of `len` bits (R478). -/
def execExtest (pins tdi len : Nat) (s : State) : Host.Outcome State Fault Refusal := s.run (fun _ b => b.jtagExtest pins tdi len)
/-- JTAG IDCODE (R478). -/
def execIdcode (s : State) : Host.Outcome State Fault Refusal := s.run (fun _ b => b.jtagShift 0x285160B3 32)
/-- JTAG SAMPLE/PRELOAD (R478). -/
def execSamplePreload (pins tdi len : Nat) (s : State) : Host.Outcome State Fault Refusal := s.run (fun _ b => b.jtagSample pins tdi len)
/-- JTAG HALT_CAUSE (R478). -/
def execHaltCause (s : State) : Host.Outcome State Fault Refusal := s.run (fun _ b => b.jtagShift b.haltWord 16)
/-- JTAG BYPASS, and every code not listed (R478). -/
def execBypass (tdi len : Nat) (s : State) : Host.Outcome State Fault Refusal := s.run (fun _ b => b.jtagBypass tdi len)
/-- The die sensors are read, in 1/16 °C (R498). -/
def execDieTempReading (temps : List (BitVec 16)) (s : State) : Host.Outcome State Fault Refusal :=
  s.runLive (fun _ b => b.dieReading (temps.map (·.toInt)))
/-- The core voltage target is updated: the lowest voltage in mV that leaves the margin, and DEVCLK_IN in Hz (R490, R496). -/
def execAvsUpdate (lowest : BitVec 12) (devclk : List (BitVec 32)) (s : State) : Host.Outcome State Fault Refusal :=
  s.runLive (fun _ b => b.avsUpdate lowest.toNat (devclk.map (·.toNat)))
/-- The margin falls below the requirement (R496). -/
def execAvsRaise (s : State) : Host.Outcome State Fault Refusal := s.runLive (fun _ b => b.avsRaise)
/-- PMB_ALERT_N is asserted (R496). -/
def execPmbAlert (s : State) : Host.Outcome State Fault Refusal := s.runLive (fun _ b => b.pmAlert)
/-- The last PMBus command is due again (R497). -/
def execAvsRetry (s : State) : Host.Outcome State Fault Refusal := s.runLive (fun _ b => b.pmRetry)
/-- A write to PEAK_CLEAR (R504). -/
def execPeakClear (w : Write) (s : State) : Host.Outcome State Fault Refusal := s.runWrite selPeakClear w
/-- PORESET_N (0) or RESET_N (1) is released (R467). -/
def execResetPinRelease (pin : Fin 2) (s : State) : Host.Outcome State Fault Refusal := s.run (fun _ b => b.pinRelease pin.val)
/-- An uncorrectable error in the keeper-core region (R477). -/
def execKeeperFault (s : State) : Host.Outcome State Fault Refusal := s.run (fun _ b => if b.dev = .halt then b else b.enterHalt 4)
/-- A PMBus transaction ends (R497). -/
def execPmbusTransactionEnd (result : PmbusEnd) (s : State) : Host.Outcome State Fault Refusal := s.runLive (fun _ b => b.pmEnd result)

end Sys2Proof.Machine
end

