-- ==== Sys2Proof/Machine/CmdSignal.lean ====
section
/-! DEFINITION. Commands of the lanes, views, trigger units and capture (R108 to R225). -/
namespace Sys2Proof.Machine

/-- The next converter positions of lane i run through it; `late` that what they decide is late (R108, R186). -/
def execLaneOutputSample (i : Fin 32) (raws : List RawSample) (late : Bool) (s : State) : Host.Outcome State Fault Refusal :=
  s.runLive (fun m b => Block.laneRun m b i.val raws late)
/-- The source of a waiting lane has released (R127). -/
def execLaneStartAfterRelease (i : Fin 32) (s : State) : Host.Outcome State Fault Refusal := s.runBoundary (fun _ b => b.laneReleaseBegin i.val)
/-- A write to NCO_SYNC (R115). -/
def execNcoSync (w : Write) (s : State) : Host.Outcome State Fault Refusal := s.runWrite selNcoSync w
/-- A write to SWAP_AT (R121). -/
def execSwapAtWrite (w : Write) (s : State) : Host.Outcome State Fault Refusal := s.runWrite selSwapAt w
/-- View j delivers the spectrum of its oldest complete window; `late` beyond its bound (R150). -/
def execSpectrumDelivered (j : BitVec 7) (late : Bool) (s : State) : Host.Outcome State Fault Refusal :=
  s.runLive (fun m b => Block.spectrumRun m b j.toNat late)
/-- Trace unit t delivers its oldest period that has ended (R158). -/
def execTracePeriodEnd (t : Fin 32) (s : State) : Host.Outcome State Fault Refusal := s.runLive (fun _ b => b.tracePeriodEnd t.val)
/-- A write to TRC_CLEAR (R159). -/
def execTrcClear (w : Write) (s : State) : Host.Outcome State Fault Refusal := s.runWrite selTrcClear w
/-- A write to WIN_CFG (R144). -/
def execWinCfgWrite (w : Write) (s : State) : Host.Outcome State Fault Refusal := s.runWrite selWinCfg w
/-- An edge on TRIG_IN[k], with its interpolator's code (R191). -/
def execTrigInEdge (k : Fin 8) (rising : Bool) (code : BitVec 16) (late : Bool) (s : State) : Host.Outcome State Fault Refusal :=
  s.runLive (fun m b => Block.acting m (b.trigInEdge k.val rising code.toNat late))
/-- An edge on TIU_IN[k], with its interpolator's code (R405). -/
def execTiuInEdge (k : Fin 8) (rising : Bool) (code : BitVec 16) (late : Bool) (s : State) : Host.Outcome State Fault Refusal :=
  s.runLive (fun m b => Block.acting m (b.tiuInEdge k.val rising code.toNat late))
/-- A trigger report arrives on a Plait port, replayed or not (R456). -/
def execPlaitReportArrival (port : Fin 4) (ch : BitVec 6) (node : BitVec 18) (unit : BitVec 8) (seq : BitVec 32) (tp : Stamp) (again : Bool) (s : State) : Host.Outcome State Fault Refusal :=
  s.runLive (fun m b => Block.acting m (b.plaitArrives port.val ch.toNat node.toNat unit.toNat seq.toNat ⟨tp.sec.toNat, tp.ns.toNat, tp.frac.toNat, tp.quality.toNat⟩ again))
/-- The next instant of TIME unit u has come (R182). -/
def execTriggerTimeInstant (u : Fin 16) (late : Bool) (s : State) : Host.Outcome State Fault Refusal :=
  s.runLive (fun m b => Block.acting m (b.timeUnit u.val late))
/-- Unit u has seen its last conditions (R169). -/
def execTriggerDrainEnd (u : Fin 16) (s : State) : Host.Outcome State Fault Refusal := s.runLive (fun _ b => b.trgDrain u.val true)
/-- The pulse of TRIG_OUT[k] has run its width (R192). -/
def execTrigOutPulseEnd (k : Fin 8) (s : State) : Host.Outcome State Fault Refusal := s.runLive (fun _ b => b.outPulseEnd k.val)
/-- A TIMED pulse of TRIG_OUT[k] is due (R192). -/
def execTrigOutTimedPulse (k : Fin 8) (s : State) : Host.Outcome State Fault Refusal := s.runLive (fun _ b => b.timedPulse k.val)
/-- The FIFO share of writer w has drained (R222). -/
def execCaptureFifoResume (w : Fin 32) (s : State) : Host.Outcome State Fault Refusal := s.runLive (fun _ b => b.cpDrain w.val)
/-- Ring space of STREAM_THROUGH writer w is free again (R209). -/
def execCaptureStreamResume (w : Fin 32) (s : State) : Host.Outcome State Fault Refusal := s.runLive (fun _ b => b.cpResume w.val)
/-- The hash chain first in order completes (R220). -/
def execEvidenceComplete (s : State) : Host.Outcome State Fault Refusal := s.runLive (fun m b => b.capEvidence m)
/-- A write to CAP MARK (R218). -/
def execCapMark (w : Write) (s : State) : Host.Outcome State Fault Refusal := s.runWrite selCapMark w
/-- Replay source r has buffered its first 4,096 samples (R225). -/
def execReplayBuffered (r : Fin 16) (s : State) : Host.Outcome State Fault Refusal := s.runLive (fun _ b => b.replayBuffered r.val)

end Sys2Proof.Machine
end

