-- ==== Sys2Proof/Machine/CmdStim.lean ====
section
/-! DEFINITION. Commands of the stimulus channels and the vector plane (R366 to R386). -/
namespace Sys2Proof.Machine

/-- A host sample datagram arrives (R379). -/
def execStimHostDatagram (l : Fin 16) (port : BitVec 16) (bytes : List Byte) (s : State) : Host.Outcome State Fault Refusal :=
  s.runLive (fun m b => b.stmDatagram m l.val port.toNat bytes)
/-- A write to JUMP (R376). -/
def execStmJump (w : Write) (s : State) : Host.Outcome State Fault Refusal := s.runWrite selStmJump w
/-- The sequencer of channel k stands at an entry (R372). -/
def execStmSeqEntry (k : Fin 4) (s : State) : Host.Outcome State Fault Refusal := s.runLive (fun m b => Block.seqTake m b k.val .entry)
/-- The sequencer of channel k stands at a decision point (R377). -/
def execStmDecisionPoint (k : Fin 4) (s : State) : Host.Outcome State Fault Refusal := s.runLive (fun m b => Block.seqTake m b k.val .decision)
/-- The sequencer of channel k stands at an effect point (R378). -/
def execStmJumpEffect (k : Fin 4) (s : State) : Host.Outcome State Fault Refusal := s.runLive (fun m b => Block.seqTake m b k.val .effect)
/-- The next output position of channel k; `late` that its stored sample is late (R374, R381). -/
def execStmOutputSample (k : Fin 4) (late : Bool) (s : State) : Host.Outcome State Fault Refusal := s.runLive (fun m b => b.stmOutput m k.val late)
/-- An under-run run of channel k ends (R381). -/
def execStmUnderrunEnd (k : Fin 4) (s : State) : Host.Outcome State Fault Refusal := s.runLive (fun _ b => b.stmRunEnd k.val)
/-- A vector tick (R384). -/
def execVecTick (s : State) : Host.Outcome State Fault Refusal := s.runLive (fun _ b => b.vecTick)
/-- The C pins are sampled (R385). -/
def execVecCompare (levels : BitVec 48) (s : State) : Host.Outcome State Fault Refusal := s.runLive (fun _ b => b.vecCompare levels.toNat)
/-- A write to VEC CLEAR (R385). -/
def execVecClear (w : Write) (s : State) : Host.Outcome State Fault Refusal := s.runWrite selVecClear w

end Sys2Proof.Machine
end

