-- ==== Sys2Proof/Machine/CmdTime.lean ====
section
/-! DEFINITION. Commands of the time base, PTP and the time-interval unit (R391 to R408). -/
namespace Sys2Proof.Machine

/-- A Sync arrives; times are in 2^-16 ns (R403). -/
def execPtpSyncRx (l : Fin 17) (seq : BitVec 16) (twoStep : Bool) (t1 : BitVec 96) (corr : Word) (frac : BitVec 16) (s : State) : Host.Outcome State Fault Refusal :=
  s.runLive (fun _ b => b.ptpSync l.val seq.toNat twoStep t1.toNat corr.toInt frac.toNat)
/-- A Follow_Up arrives (R403). -/
def execPtpFollowUpRx (l : Fin 17) (seq : BitVec 16) (t1 : BitVec 96) (corr : Word) (s : State) : Host.Outcome State Fault Refusal :=
  s.runLive (fun _ b => b.ptpFollowUp l.val seq.toNat t1.toNat corr.toInt)
/-- A Delay_Req arrives (R403). -/
def execPtpDelayReqRx (l : Fin 17) (seq : BitVec 16) (src : BitVec 80) (frac : BitVec 16) (s : State) : Host.Outcome State Fault Refusal :=
  s.runLive (fun _ b => b.ptpDelayReq l.val seq.toNat src.toNat frac.toNat)
/-- A Delay_Resp arrives (R403). -/
def execPtpDelayRespRx (l : Fin 17) (seq : BitVec 16) (t4 : BitVec 96) (corr : Word) (s : State) : Host.Outcome State Fault Refusal :=
  s.runLive (fun _ b => b.ptpDelayResp l.val seq.toNat t4.toNat corr.toInt)
/-- An Announce arrives: grandmaster, its class, whether time and frequency are traceable, steps removed (R403). -/
def execPtpAnnounceRx (l : Fin 17) (gm : Word) (cls : Byte) (time freq : Bool) (steps : BitVec 16) (s : State) : Host.Outcome State Fault Refusal :=
  s.runLive (fun _ b => b.ptpAnnounce l.val ⟨gm.toNat, cls.toNat, time, freq, steps.toNat⟩)
/-- A master port is due to send Sync (R403). -/
def execPtpSyncTx (l : Fin 17) (s : State) : Host.Outcome State Fault Refusal := s.runLive (fun _ b => b.ptpSyncTx l.val)
/-- A master port is due to send Announce (R403). -/
def execPtpAnnounceTx (l : Fin 17) (s : State) : Host.Outcome State Fault Refusal := s.runLive (fun _ b => b.ptpAnnounceTx l.val)
/-- A slave port is due to send Delay_Req (R403). -/
def execPtpDelayReqTx (l : Fin 17) (s : State) : Host.Outcome State Fault Refusal := s.runLive (fun _ b => b.ptpDelayReqTx l.val)
/-- An edge on PPS_IN, `frac` 2^-16 ns into the core cycle (R394). -/
def execPpsInEdge (rising : Bool) (frac : BitVec 16) (s : State) : Host.Outcome State Fault Refusal :=
  s.runLive (fun _ b => b.ppsEdge rising frac.toNat)
/-- The frequency error of REF_IN over 1,024 beats, in 10^-12 (R394). -/
def execRefInUpdate (err : Word) (s : State) : Host.Outcome State Fault Refusal := s.runLive (fun _ b => b.refUpdate err.toInt)
/-- The reference has been silent (R394, R395). -/
def execTimeRefLoss (s : State) : Host.Outcome State Fault Refusal := s.runLive (fun _ b => b.timSilent)
/-- HOLDOVER has lasted HOLD_MAX seconds (R395). -/
def execHoldoverExpiry (s : State) : Host.Outcome State Fault Refusal := s.runLive (fun _ b => b.holdExpire)
/-- The learned slope of the day is due (R393). -/
def execAgeingLearn (s : State) : Host.Outcome State Fault Refusal := s.runLive (fun _ b => b.ageLearn)
/-- A write to SET_BEAT (R397). -/
def execSetBeat (w : Write) (s : State) : Host.Outcome State Fault Refusal := s.runWrite selSetBeat w
/-- A held step of the servo may be made (R397). -/
def execHeldStep (s : State) : Host.Outcome State Fault Refusal := s.runBoundary (fun _ b => b.pltServoStep)
/-- A pulse of PPS_OUT[k] falls in this beat (R399). -/
def execPpsOutPulse (k : Fin 2) (s : State) : Host.Outcome State Fault Refusal := s.runLive (fun _ b => b.ppsPulse k.val)
/-- A write to SYSREF_SHOT (R401). -/
def execSysrefShot (w : Write) (s : State) : Host.Outcome State Fault Refusal := s.runWrite selShot w
/-- The oldest measurement may close (R408). -/
def execTiuMeasurementClose (s : State) : Host.Outcome State Fault Refusal := s.runLive (fun _ b => b.tiuClose)
/-- A write to CAL_GO (R407). -/
def execTiuCalGo (w : Write) (s : State) : Host.Outcome State Fault Refusal := s.runWrite selTiuCal w
/-- The die temperature, in 1/16 °C, has moved (R407). -/
def execTiuCalTempStart (temp : BitVec 16) (s : State) : Host.Outcome State Fault Refusal := s.runLive (fun _ b => b.tiuCalTemp temp.toInt)
/-- A calibration run ends, with the hits of every interpolator's codes (R407). -/
def execTiuCalEnd (hits : List (List (BitVec 32))) (temp : BitVec 16) (s : State) : Host.Outcome State Fault Refusal :=
  s.runLive (fun _ b => b.tiuCalEnd (hits.map (fun l => l.map (·.toNat))) temp.toInt)

end Sys2Proof.Machine
end

