-- ==== Sys2Proof/Machine/CmdWeaver.lean ====
section
/-! DEFINITION. Commands of the Weaver cores beside their words (R300 to R316). -/
namespace Sys2Proof.Machine

/-- Core c meets an illegal word (R319). -/
def execIllegalEncoding (c : Fin 64) (s : State) : Host.Outcome State Fault Refusal :=
  s.runLive (fun m b => if b.wordIllegal c.val then b.issue m c.val else b)
/-- Core c meets a word that was never loaded (R316). -/
def execUnloadedFetch (c : Fin 64) (s : State) : Host.Outcome State Fault Refusal :=
  s.runLive (fun m b => if (b.wordAt c.val).isNone then b.issue m c.val else b)
/-- A pending line of core c is taken (R301). -/
def execInterruptEntry (c : Fin 64) (s : State) : Host.Outcome State Fault Refusal := s.runLive (fun _ b => b.interrupt c.val)
/-- A beat start of core c that is due is taken (R303). -/
def execWeaverBeatStart (c : Fin 64) (s : State) : Host.Outcome State Fault Refusal := s.runLive (fun _ b => b.beatTake c.val)
/-- Core c issues a CWR to DMA_GO (R310). -/
def execDmaGo (c : Fin 64) (s : State) : Host.Outcome State Fault Refusal := s.runWord c (cwrTo [0x23])
/-- The descriptor first in the queue of core c has its turn (R311). -/
def execDmaDescriptorDone (c : Fin 64) (s : State) : Host.Outcome State Fault Refusal := s.runLive (fun m b => b.dmaDone m c.val)
/-- Core c issues a CWR to EVT_GO (R312). -/
def execEvtGo (c : Fin 64) (s : State) : Host.Outcome State Fault Refusal := s.runWord c (cwrTo [0x2B])
/-- Core c issues a CWR to TRQ_GO (R183). -/
def execTrqGo (c : Fin 64) (s : State) : Host.Outcome State Fault Refusal := s.runWord c (cwrTo [0x2E])
/-- Core c issues a CWR to GATE (R309). -/
def execGate (c : Fin 64) (s : State) : Host.Outcome State Fault Refusal := s.runWord c (cwrTo [0x2F])
/-- Core c issues a CWR to REQ_GO (R313). -/
def execReqGo (c : Fin 64) (s : State) : Host.Outcome State Fault Refusal := s.runWord c (cwrTo [0x30])
/-- Stenor answers the request block of core c (R313). -/
def execReqComplete (c : Fin 64) (s : State) : Host.Outcome State Fault Refusal := s.runLive (fun m b => b.coreRequest m c.val)
/-- Core c issues a CWR to SPI_CTL (R312). -/
def execSpiCtl (c : Fin 64) (s : State) : Host.Outcome State Fault Refusal := s.runWord c (cwrTo [0x34])
/-- Core c issues a CWR to STR_GO (R312). -/
def execStrGo (c : Fin 64) (s : State) : Host.Outcome State Fault Refusal := s.runWord c (cwrTo [0x3D])
/-- Core c issues a CWR to SVC_ANS (R314). -/
def execSvcAns (c : Fin 64) (s : State) : Host.Outcome State Fault Refusal := s.runWord c (cwrTo [0x3F])
/-- The oldest service record of core c has waited 40 µs (R314). -/
def execServiceTimeout (c : Fin 64) (s : State) : Host.Outcome State Fault Refusal := s.runLive (fun _ b => b.svcTimeout c.val)

end Sys2Proof.Machine
end

