-- ==== Sys2Proof/Machine/CmdWords.lean ====
section
/-! DEFINITION. The Weaver words: each command issues the word at its core's program counter where that is a word of the row (R319 to R333). -/
namespace Sys2Proof.Machine

/-- Core c issues its next word, of operation NOP. -/
def execNop (c : Fin 64) (s : State) : Host.Outcome State Fault Refusal := s.runOp c .nop
/-- Core c issues its next word, of operation ADD. -/
def execAdd (c : Fin 64) (s : State) : Host.Outcome State Fault Refusal := s.runOp c .add
/-- Core c issues its next word, of operation SUB. -/
def execSub (c : Fin 64) (s : State) : Host.Outcome State Fault Refusal := s.runOp c .sub
/-- Core c issues its next word, of operation NEG. -/
def execNeg (c : Fin 64) (s : State) : Host.Outcome State Fault Refusal := s.runOp c .neg
/-- Core c issues its next word, of operation ABS. -/
def execAbs (c : Fin 64) (s : State) : Host.Outcome State Fault Refusal := s.runOp c .abs
/-- Core c issues its next word, of operation MAX. -/
def execMax (c : Fin 64) (s : State) : Host.Outcome State Fault Refusal := s.runOp c .max
/-- Core c issues its next word, of operation MIN. -/
def execMin (c : Fin 64) (s : State) : Host.Outcome State Fault Refusal := s.runOp c .min
/-- Core c issues its next word, of operation SEL. -/
def execSel (c : Fin 64) (s : State) : Host.Outcome State Fault Refusal := s.runOp c .sel
/-- Core c issues its next word, of operation CMP. -/
def execCmp (c : Fin 64) (s : State) : Host.Outcome State Fault Refusal := s.runOp c .cmp
/-- Core c issues its next word, of operation TST. -/
def execTst (c : Fin 64) (s : State) : Host.Outcome State Fault Refusal := s.runOp c .tst
/-- Core c issues its next word, of operation AND. -/
def execAnd (c : Fin 64) (s : State) : Host.Outcome State Fault Refusal := s.runOp c .and
/-- Core c issues its next word, of operation OR. -/
def execOr (c : Fin 64) (s : State) : Host.Outcome State Fault Refusal := s.runOp c .or
/-- Core c issues its next word, of operation XOR. -/
def execXor (c : Fin 64) (s : State) : Host.Outcome State Fault Refusal := s.runOp c .xor
/-- Core c issues its next word, of operation NOT. -/
def execNot (c : Fin 64) (s : State) : Host.Outcome State Fault Refusal := s.runOp c .not
/-- Core c issues its next word, of operation ASR. -/
def execAsr (c : Fin 64) (s : State) : Host.Outcome State Fault Refusal := s.runOp c .asr
/-- Core c issues its next word, of operation LSR. -/
def execLsr (c : Fin 64) (s : State) : Host.Outcome State Fault Refusal := s.runOp c .lsr
/-- Core c issues its next word, of operation ASL. -/
def execAsl (c : Fin 64) (s : State) : Host.Outcome State Fault Refusal := s.runOp c .asl
/-- Core c issues its next word, of operation ASH. -/
def execAsh (c : Fin 64) (s : State) : Host.Outcome State Fault Refusal := s.runOp c .ash
/-- Core c issues its next word, of operation MOV. -/
def execMov (c : Fin 64) (s : State) : Host.Outcome State Fault Refusal := s.runOp c .mov
/-- Core c issues its next word, of operation CONJ. -/
def execConj (c : Fin 64) (s : State) : Host.Outcome State Fault Refusal := s.runOp c .conj
/-- Core c issues its next word, of operation SWAP. -/
def execSwap (c : Fin 64) (s : State) : Host.Outcome State Fault Refusal := s.runOp c .swap
/-- Core c issues its next word, of operation UNPK. -/
def execUnpk (c : Fin 64) (s : State) : Host.Outcome State Fault Refusal := s.runOp c .unpk
/-- Core c issues its next word, of operation VMAX. -/
def execVmax (c : Fin 64) (s : State) : Host.Outcome State Fault Refusal := s.runOp c .vmax
/-- Core c issues its next word, of operation IADD. -/
def execIadd (c : Fin 64) (s : State) : Host.Outcome State Fault Refusal := s.runOp c .iadd
/-- Core c issues its next word, of operation ISUB. -/
def execIsub (c : Fin 64) (s : State) : Host.Outcome State Fault Refusal := s.runOp c .isub
/-- Core c issues its next word, of operation BEXP. -/
def execBexp (c : Fin 64) (s : State) : Host.Outcome State Fault Refusal := s.runOp c .bexp
/-- Core c issues its next word, of operation EXP. -/
def execExp (c : Fin 64) (s : State) : Host.Outcome State Fault Refusal := s.runOp c .exp
/-- Core c issues its next word, of operation NORM. -/
def execNorm (c : Fin 64) (s : State) : Host.Outcome State Fault Refusal := s.runOp c .norm
/-- Core c issues its next word, of operation BXR. -/
def execBxr (c : Fin 64) (s : State) : Host.Outcome State Fault Refusal := s.runOp c .bxr
/-- Core c issues its next word, of operation MVA. -/
def execMva (c : Fin 64) (s : State) : Host.Outcome State Fault Refusal := s.runOp c .mva
/-- Core c issues its next word, of operation MVAR. -/
def execMvar (c : Fin 64) (s : State) : Host.Outcome State Fault Refusal := s.runOp c .mvar
/-- Core c issues its next word, of operation MPY. -/
def execMpy (c : Fin 64) (s : State) : Host.Outcome State Fault Refusal := s.runOp c .mpy
/-- Core c issues its next word, of operation MAC. -/
def execMac (c : Fin 64) (s : State) : Host.Outcome State Fault Refusal := s.runOp c .mac
/-- Core c issues its next word, of operation MSU. -/
def execMsu (c : Fin 64) (s : State) : Host.Outcome State Fault Refusal := s.runOp c .msu
/-- Core c issues its next word, of operation MPYJ. -/
def execMpyj (c : Fin 64) (s : State) : Host.Outcome State Fault Refusal := s.runOp c .mpyj
/-- Core c issues its next word, of operation MACJ. -/
def execMacj (c : Fin 64) (s : State) : Host.Outcome State Fault Refusal := s.runOp c .macj
/-- Core c issues its next word, of operation MAG2. -/
def execMag2 (c : Fin 64) (s : State) : Host.Outcome State Fault Refusal := s.runOp c .mag2
/-- Core c issues its next word, of operation CLR. -/
def execClr (c : Fin 64) (s : State) : Host.Outcome State Fault Refusal := s.runOp c .clr
/-- Core c issues its next word, of operation ADDA. -/
def execAdda (c : Fin 64) (s : State) : Host.Outcome State Fault Refusal := s.runOp c .adda
/-- Core c issues its next word, of operation LDA. -/
def execLda (c : Fin 64) (s : State) : Host.Outcome State Fault Refusal := s.runOp c .lda
/-- Core c issues its next word, of operation ASRA. -/
def execAsra (c : Fin 64) (s : State) : Host.Outcome State Fault Refusal := s.runOp c .asra
/-- Core c issues its next word, of operation ASLA. -/
def execAsla (c : Fin 64) (s : State) : Host.Outcome State Fault Refusal := s.runOp c .asla
/-- Core c issues its next word, of operation NEGA. -/
def execNega (c : Fin 64) (s : State) : Host.Outcome State Fault Refusal := s.runOp c .nega
/-- Core c issues its next word, of operation RND. -/
def execRnd (c : Fin 64) (s : State) : Host.Outcome State Fault Refusal := s.runOp c .rnd
/-- Core c issues its next word, of operation CMPA. -/
def execCmpa (c : Fin 64) (s : State) : Host.Outcome State Fault Refusal := s.runOp c .cmpa
/-- Core c issues its next word, of operation MVFS. -/
def execMvfs (c : Fin 64) (s : State) : Host.Outcome State Fault Refusal := s.runOp c .mvfs
/-- Core c issues its next word, of operation MVTS. -/
def execMvts (c : Fin 64) (s : State) : Host.Outcome State Fault Refusal := s.runOp c .mvts
/-- Core c issues its next word, of operation LDI. -/
def execLdi (c : Fin 64) (s : State) : Host.Outcome State Fault Refusal := s.runOp c .ldi
/-- Core c issues its next word, of operation LDIS. -/
def execLdis (c : Fin 64) (s : State) : Host.Outcome State Fault Refusal := s.runOp c .ldis
/-- Core c issues its next word, of operation IADDI. -/
def execIaddi (c : Fin 64) (s : State) : Host.Outcome State Fault Refusal := s.runOp c .iaddi
/-- Core c issues its next word, of operation ANDI. -/
def execAndi (c : Fin 64) (s : State) : Host.Outcome State Fault Refusal := s.runOp c .andi
/-- Core c issues its next word, of operation ORI. -/
def execOri (c : Fin 64) (s : State) : Host.Outcome State Fault Refusal := s.runOp c .ori
/-- Core c issues its next word, of operation XORI. -/
def execXori (c : Fin 64) (s : State) : Host.Outcome State Fault Refusal := s.runOp c .xori
/-- Core c issues its next word, of operation CMPI. -/
def execCmpi (c : Fin 64) (s : State) : Host.Outcome State Fault Refusal := s.runOp c .cmpi
/-- Core c issues its next word, of operation ADDP. -/
def execAddp (c : Fin 64) (s : State) : Host.Outcome State Fault Refusal := s.runOp c .addp
/-- Core c issues its next word, which has a load move (R321). -/
def execLoadMove (c : Fin 64) (s : State) : Host.Outcome State Fault Refusal := s.runWord c (hasMove (fun v => v.kind == 1))
/-- Core c issues its next word, which has a store move (R322). -/
def execStoreMove (c : Fin 64) (s : State) : Host.Outcome State Fault Refusal := s.runWord c (hasMove (fun v => v.kind == 2))
/-- Core c issues its next word, of operation BR. -/
def execBr (c : Fin 64) (s : State) : Host.Outcome State Fault Refusal := s.runOp c .br
/-- Core c issues its next word, of operation CALL. -/
def execCall (c : Fin 64) (s : State) : Host.Outcome State Fault Refusal := s.runOp c .call
/-- Core c issues its next word, of operation JMP. -/
def execJmp (c : Fin 64) (s : State) : Host.Outcome State Fault Refusal := s.runOp c .jmp
/-- Core c issues its next word, of operation RTI. -/
def execRti (c : Fin 64) (s : State) : Host.Outcome State Fault Refusal := s.runOp c .rti
/-- Core c issues its next word, of operation LOOP. -/
def execLoop (c : Fin 64) (s : State) : Host.Outcome State Fault Refusal := s.runOp c .loop
/-- Core c issues its next word, of operation LOOPD. -/
def execLoopd (c : Fin 64) (s : State) : Host.Outcome State Fault Refusal := s.runOp c .loopd
/-- Core c issues its next word, of operation REP. -/
def execRep (c : Fin 64) (s : State) : Host.Outcome State Fault Refusal := s.runOp c .rep
/-- Core c issues its next word, of operation REPD. -/
def execRepd (c : Fin 64) (s : State) : Host.Outcome State Fault Refusal := s.runOp c .repd
/-- Core c issues its next word, of operation WAITB. -/
def execWaitb (c : Fin 64) (s : State) : Host.Outcome State Fault Refusal := s.runOp c .waitb
/-- Core c issues its next word, of operation CRD. -/
def execCrd (c : Fin 64) (s : State) : Host.Outcome State Fault Refusal := s.runOp c .crd
/-- Core c issues its next word, of operation CWR. -/
def execCwr (c : Fin 64) (s : State) : Host.Outcome State Fault Refusal := s.runOp c .cwr

end Sys2Proof.Machine
end

