-- ==== Sys2Proof/Machine/Dispatch.lean ====
section
/-! DEFINITION. One arm for each command. -/
namespace Sys2Proof.Machine

def exec (i : Instr) (s : State) : Host.Outcome State Fault Refusal :=
  match i with
  | .ping p => Sys2Proof.Machine.execPing p s
  | .pingHandshakeOpen p => Sys2Proof.Machine.execPingHandshakeOpen p s
  | .pingHandshakeConfirm p => Sys2Proof.Machine.execPingHandshakeConfirm p s
  | .pingClose p => Sys2Proof.Machine.execPingClose p s
  | .get p => Sys2Proof.Machine.execGet p s
  | .set p => Sys2Proof.Machine.execSet p s
  | .setMany p => Sys2Proof.Machine.execSetMany p s
  | .arm p => Sys2Proof.Machine.execArm p s
  | .disarm p => Sys2Proof.Machine.execDisarm p s
  | .force p => Sys2Proof.Machine.execForce p s
  | .schedule p => Sys2Proof.Machine.execSchedule p s
  | .prepare p => Sys2Proof.Machine.execPrepare p s
  | .commit p => Sys2Proof.Machine.execCommit p s
  | .abort p => Sys2Proof.Machine.execAbort p s
  | .readMem p => Sys2Proof.Machine.execReadMem p s
  | .writeMem p => Sys2Proof.Machine.execWriteMem p s
  | .loadProgram p => Sys2Proof.Machine.execLoadProgram p s
  | .startCore p => Sys2Proof.Machine.execStartCore p s
  | .stopCore p => Sys2Proof.Machine.execStopCore p s
  | .subscribe p => Sys2Proof.Machine.execSubscribe p s
  | .unsubscribe p => Sys2Proof.Machine.execUnsubscribe p s
  | .calRun p => Sys2Proof.Machine.execCalRun p s
  | .snapshot p => Sys2Proof.Machine.execSnapshot p s
  | .enterFlow p => Sys2Proof.Machine.execEnterFlow p s
  | .reset p => Sys2Proof.Machine.execReset p s
  | .unknownOpcodeRequest op p => Sys2Proof.Machine.execUnknownOpcodeRequest op p s
  | .forwardRequest op p => Sys2Proof.Machine.execForwardRequest op p s
  | .handshakeTimeout session => Sys2Proof.Machine.execHandshakeTimeout session s
  | .sessionIdleTimeout session => Sys2Proof.Machine.execSessionIdleTimeout session s
  | .parameterWrite w => Sys2Proof.Machine.execParameterWrite w s
  | .functionStartRequest w => Sys2Proof.Machine.execFunctionStartRequest w s
  | .functionStopRequest w => Sys2Proof.Machine.execFunctionStopRequest w s
  | .beatBoundary => Sys2Proof.Machine.execBeatBoundary s
  | .requestPerformance => Sys2Proof.Machine.execRequestPerformance s
  | .schedulePerformance entry => Sys2Proof.Machine.execSchedulePerformance entry s
  | .preparedTxnExpiry session seq => Sys2Proof.Machine.execPreparedTxnExpiry session seq s
  | .heldRequestBegin blk inst => Sys2Proof.Machine.execHeldRequestBegin blk inst s
  | .functionSequenceComplete blk inst => Sys2Proof.Machine.execFunctionSequenceComplete blk inst s
  | .limitWindowEnd => Sys2Proof.Machine.execLimitWindowEnd s
  | .eventPacketTimeout session => Sys2Proof.Machine.execEventPacketTimeout session s
  | .eventPacketSend session => Sys2Proof.Machine.execEventPacketSend session s
  | .evtOutAck w => Sys2Proof.Machine.execEvtOutAck w s
  | .evtOutPulseEnd k => Sys2Proof.Machine.execEvtOutPulseEnd k s
  | .jrxCdrLock k => Sys2Proof.Machine.execJrxCdrLock k s
  | .jrxAlignDone k arrivals => Sys2Proof.Machine.execJrxAlignDone k arrivals s
  | .jrxRelease k => Sys2Proof.Machine.execJrxRelease k s
  | .jrxStartTimeout k mask => Sys2Proof.Machine.execJrxStartTimeout k mask s
  | .jrxHeaderLoss k mask => Sys2Proof.Machine.execJrxHeaderLoss k mask s
  | .jrxAlignLoss k mask => Sys2Proof.Machine.execJrxAlignLoss k mask s
  | .jrxCrcError k mask => Sys2Proof.Machine.execJrxCrcError k mask s
  | .jrxCharError k mask => Sys2Proof.Machine.execJrxCharError k mask s
  | .jrxIlasMismatch k mask => Sys2Proof.Machine.execJrxIlasMismatch k mask s
  | .jrxElasticError k mask => Sys2Proof.Machine.execJrxElasticError k mask s
  | .jrxSignalLoss k mask => Sys2Proof.Machine.execJrxSignalLoss k mask s
  | .jrxReRelease k lost => Sys2Proof.Machine.execJrxReRelease k lost s
  | .jrxEpochMove k => Sys2Proof.Machine.execJrxEpochMove k s
  | .jrxRateError k ppm => Sys2Proof.Machine.execJrxRateError k ppm s
  | .jtxSyncLoss t => Sys2Proof.Machine.execJtxSyncLoss t s
  | .jtxUp t => Sys2Proof.Machine.execJtxUp t s
  | .spiGo w => Sys2Proof.Machine.execSpiGo w s
  | .spiDone j rx => Sys2Proof.Machine.execSpiDone j rx s
  | .laneOutputSample n raws late => Sys2Proof.Machine.execLaneOutputSample n raws late s
  | .laneStartAfterRelease n => Sys2Proof.Machine.execLaneStartAfterRelease n s
  | .ncoSync w => Sys2Proof.Machine.execNcoSync w s
  | .swapAtWrite w => Sys2Proof.Machine.execSwapAtWrite w s
  | .spectrumDelivered j late => Sys2Proof.Machine.execSpectrumDelivered j late s
  | .tracePeriodEnd t => Sys2Proof.Machine.execTracePeriodEnd t s
  | .trcClear w => Sys2Proof.Machine.execTrcClear w s
  | .winCfgWrite w => Sys2Proof.Machine.execWinCfgWrite w s
  | .trigInEdge k rising code late => Sys2Proof.Machine.execTrigInEdge k rising code late s
  | .tiuInEdge k rising code late => Sys2Proof.Machine.execTiuInEdge k rising code late s
  | .plaitReportArrival port ch node unit seq tp again => Sys2Proof.Machine.execPlaitReportArrival port ch node unit seq tp again s
  | .triggerTimeInstant u late => Sys2Proof.Machine.execTriggerTimeInstant u late s
  | .triggerDrainEnd u => Sys2Proof.Machine.execTriggerDrainEnd u s
  | .trigOutPulseEnd k => Sys2Proof.Machine.execTrigOutPulseEnd k s
  | .trigOutTimedPulse k => Sys2Proof.Machine.execTrigOutTimedPulse k s
  | .captureFifoResume w => Sys2Proof.Machine.execCaptureFifoResume w s
  | .captureStreamResume w => Sys2Proof.Machine.execCaptureStreamResume w s
  | .evidenceComplete => Sys2Proof.Machine.execEvidenceComplete s
  | .capMark w => Sys2Proof.Machine.execCapMark w s
  | .replayBuffered r => Sys2Proof.Machine.execReplayBuffered r s
  | .hbmRequest p asks levels draw => Sys2Proof.Machine.execHbmRequest p asks levels draw s
  | .refreshTick p => Sys2Proof.Machine.execRefreshTick p s
  | .stackTempReading k temp => Sys2Proof.Machine.execStackTempReading k temp s
  | .retrainSlot p found => Sys2Proof.Machine.execRetrainSlot p found s
  | .transferParityError p lane more slot line write => Sys2Proof.Machine.execTransferParityError p lane more slot line write s
  | .laneRepair p => Sys2Proof.Machine.execLaneRepair p s
  | .pcRetirement p => Sys2Proof.Machine.execPcRetirement p s
  | .densityClosePassEnd p late => Sys2Proof.Machine.execDensityClosePassEnd p late s
  | .densityClear w => Sys2Proof.Machine.execDensityClear w s
  | .spectrogramLineComplete k => Sys2Proof.Machine.execSpectrogramLineComplete k s
  | .compositeTick => Sys2Proof.Machine.execCompositeTick s
  | .compositeComplete => Sys2Proof.Machine.execCompositeComplete s
  | .bufCfgWrite w => Sys2Proof.Machine.execBufCfgWrite w s
  | .bufReleased k => Sys2Proof.Machine.execBufReleased k s
  | .displayFrameBoundary o => Sys2Proof.Machine.execDisplayFrameBoundary o s
  | .teInEdge rising => Sys2Proof.Machine.execTeInEdge rising s
  | .teTimeout => Sys2Proof.Machine.execTeTimeout s
  | .displayUnderflow o line => Sys2Proof.Machine.execDisplayUnderflow o line s
  | .displayModeResume o => Sys2Proof.Machine.execDisplayModeResume o s
  | .dpTrainingDone ok => Sys2Proof.Machine.execDpTrainingDone ok s
  | .dpTrainingRetry => Sys2Proof.Machine.execDpTrainingRetry s
  | .hpdEdge high => Sys2Proof.Machine.execHpdEdge high s
  | .irqHpd lost => Sys2Proof.Machine.execIrqHpd lost s
  | .sideGo w => Sys2Proof.Machine.execSideGo w s
  | .sideDone o rx err timeout => Sys2Proof.Machine.execSideDone o rx err timeout s
  | .nop c => Sys2Proof.Machine.execNop c s
  | .add c => Sys2Proof.Machine.execAdd c s
  | .sub c => Sys2Proof.Machine.execSub c s
  | .neg c => Sys2Proof.Machine.execNeg c s
  | .abs c => Sys2Proof.Machine.execAbs c s
  | .max c => Sys2Proof.Machine.execMax c s
  | .min c => Sys2Proof.Machine.execMin c s
  | .sel c => Sys2Proof.Machine.execSel c s
  | .cmp c => Sys2Proof.Machine.execCmp c s
  | .tst c => Sys2Proof.Machine.execTst c s
  | .and c => Sys2Proof.Machine.execAnd c s
  | .or c => Sys2Proof.Machine.execOr c s
  | .xor c => Sys2Proof.Machine.execXor c s
  | .not c => Sys2Proof.Machine.execNot c s
  | .asr c => Sys2Proof.Machine.execAsr c s
  | .lsr c => Sys2Proof.Machine.execLsr c s
  | .asl c => Sys2Proof.Machine.execAsl c s
  | .ash c => Sys2Proof.Machine.execAsh c s
  | .mov c => Sys2Proof.Machine.execMov c s
  | .conj c => Sys2Proof.Machine.execConj c s
  | .swap c => Sys2Proof.Machine.execSwap c s
  | .unpk c => Sys2Proof.Machine.execUnpk c s
  | .vmax c => Sys2Proof.Machine.execVmax c s
  | .iadd c => Sys2Proof.Machine.execIadd c s
  | .isub c => Sys2Proof.Machine.execIsub c s
  | .bexp c => Sys2Proof.Machine.execBexp c s
  | .exp c => Sys2Proof.Machine.execExp c s
  | .norm c => Sys2Proof.Machine.execNorm c s
  | .bxr c => Sys2Proof.Machine.execBxr c s
  | .mva c => Sys2Proof.Machine.execMva c s
  | .mvar c => Sys2Proof.Machine.execMvar c s
  | .mpy c => Sys2Proof.Machine.execMpy c s
  | .mac c => Sys2Proof.Machine.execMac c s
  | .msu c => Sys2Proof.Machine.execMsu c s
  | .mpyj c => Sys2Proof.Machine.execMpyj c s
  | .macj c => Sys2Proof.Machine.execMacj c s
  | .mag2 c => Sys2Proof.Machine.execMag2 c s
  | .clr c => Sys2Proof.Machine.execClr c s
  | .adda c => Sys2Proof.Machine.execAdda c s
  | .lda c => Sys2Proof.Machine.execLda c s
  | .asra c => Sys2Proof.Machine.execAsra c s
  | .asla c => Sys2Proof.Machine.execAsla c s
  | .nega c => Sys2Proof.Machine.execNega c s
  | .rnd c => Sys2Proof.Machine.execRnd c s
  | .cmpa c => Sys2Proof.Machine.execCmpa c s
  | .mvfs c => Sys2Proof.Machine.execMvfs c s
  | .mvts c => Sys2Proof.Machine.execMvts c s
  | .ldi c => Sys2Proof.Machine.execLdi c s
  | .ldis c => Sys2Proof.Machine.execLdis c s
  | .iaddi c => Sys2Proof.Machine.execIaddi c s
  | .andi c => Sys2Proof.Machine.execAndi c s
  | .ori c => Sys2Proof.Machine.execOri c s
  | .xori c => Sys2Proof.Machine.execXori c s
  | .cmpi c => Sys2Proof.Machine.execCmpi c s
  | .addp c => Sys2Proof.Machine.execAddp c s
  | .loadMove c => Sys2Proof.Machine.execLoadMove c s
  | .storeMove c => Sys2Proof.Machine.execStoreMove c s
  | .br c => Sys2Proof.Machine.execBr c s
  | .call c => Sys2Proof.Machine.execCall c s
  | .jmp c => Sys2Proof.Machine.execJmp c s
  | .rti c => Sys2Proof.Machine.execRti c s
  | .loop c => Sys2Proof.Machine.execLoop c s
  | .loopd c => Sys2Proof.Machine.execLoopd c s
  | .rep c => Sys2Proof.Machine.execRep c s
  | .repd c => Sys2Proof.Machine.execRepd c s
  | .waitb c => Sys2Proof.Machine.execWaitb c s
  | .crd c => Sys2Proof.Machine.execCrd c s
  | .cwr c => Sys2Proof.Machine.execCwr c s
  | .illegalEncoding c => Sys2Proof.Machine.execIllegalEncoding c s
  | .unloadedFetch c => Sys2Proof.Machine.execUnloadedFetch c s
  | .interruptEntry c => Sys2Proof.Machine.execInterruptEntry c s
  | .weaverBeatStart c => Sys2Proof.Machine.execWeaverBeatStart c s
  | .dmaGo c => Sys2Proof.Machine.execDmaGo c s
  | .dmaDescriptorDone c => Sys2Proof.Machine.execDmaDescriptorDone c s
  | .evtGo c => Sys2Proof.Machine.execEvtGo c s
  | .trqGo c => Sys2Proof.Machine.execTrqGo c s
  | .gate c => Sys2Proof.Machine.execGate c s
  | .reqGo c => Sys2Proof.Machine.execReqGo c s
  | .reqComplete c => Sys2Proof.Machine.execReqComplete c s
  | .spiCtl c => Sys2Proof.Machine.execSpiCtl c s
  | .strGo c => Sys2Proof.Machine.execStrGo c s
  | .svcAns c => Sys2Proof.Machine.execSvcAns c s
  | .serviceTimeout c => Sys2Proof.Machine.execServiceTimeout c s
  | .netLinkUp l => Sys2Proof.Machine.execNetLinkUp l s
  | .netLinkDown l => Sys2Proof.Machine.execNetLinkDown l s
  | .arpRequest l mac ip target => Sys2Proof.Machine.execArpRequest l mac ip target s
  | .neighbourSolicitation l mac ip target => Sys2Proof.Machine.execNeighbourSolicitation l mac ip target s
  | .echoRequest l v6 ip target data => Sys2Proof.Machine.execEchoRequest l v6 ip target data s
  | .neighbourRefreshTimer l v6 ip => Sys2Proof.Machine.execNeighbourRefreshTimer l v6 ip s
  | .neighbourRetry l v6 ip => Sys2Proof.Machine.execNeighbourRetry l v6 ip s
  | .streamStartComplete k => Sys2Proof.Machine.execStreamStartComplete k s
  | .streamPacketSend k => Sys2Proof.Machine.execStreamPacketSend k s
  | .roceAck k psn => Sys2Proof.Machine.execRoceAck k psn s
  | .roceNak k psn => Sys2Proof.Machine.execRoceNak k psn s
  | .roceAckTimeout k => Sys2Proof.Machine.execRoceAckTimeout k s
  | .roceInvalidRequest k psn => Sys2Proof.Machine.execRoceInvalidRequest k psn s
  | .rdmaCreditWrite w => Sys2Proof.Machine.execRdmaCreditWrite w s
  | .codecBlockDone k mismatch => Sys2Proof.Machine.execCodecBlockDone k mismatch s
  | .decPacketArrival l port bytes => Sys2Proof.Machine.execDecPacketArrival l port bytes s
  | .decBlock d => Sys2Proof.Machine.execDecBlock d s
  | .ptpSyncRx l seq twoStep t1 corr frac => Sys2Proof.Machine.execPtpSyncRx l seq twoStep t1 corr frac s
  | .ptpFollowUpRx l seq t1 corr => Sys2Proof.Machine.execPtpFollowUpRx l seq t1 corr s
  | .ptpDelayReqRx l seq src frac => Sys2Proof.Machine.execPtpDelayReqRx l seq src frac s
  | .ptpDelayRespRx l seq t4 corr => Sys2Proof.Machine.execPtpDelayRespRx l seq t4 corr s
  | .ptpAnnounceRx l gm cls time freq steps => Sys2Proof.Machine.execPtpAnnounceRx l gm cls time freq steps s
  | .ptpSyncTx l => Sys2Proof.Machine.execPtpSyncTx l s
  | .ptpAnnounceTx l => Sys2Proof.Machine.execPtpAnnounceTx l s
  | .ptpDelayReqTx l => Sys2Proof.Machine.execPtpDelayReqTx l s
  | .stimHostDatagram l port bytes => Sys2Proof.Machine.execStimHostDatagram l port bytes s
  | .stmJump w => Sys2Proof.Machine.execStmJump w s
  | .stmSeqEntry k => Sys2Proof.Machine.execStmSeqEntry k s
  | .stmDecisionPoint k => Sys2Proof.Machine.execStmDecisionPoint k s
  | .stmJumpEffect k => Sys2Proof.Machine.execStmJumpEffect k s
  | .stmOutputSample k late => Sys2Proof.Machine.execStmOutputSample k late s
  | .stmUnderrunEnd k => Sys2Proof.Machine.execStmUnderrunEnd k s
  | .vecTick => Sys2Proof.Machine.execVecTick s
  | .vecCompare levels => Sys2Proof.Machine.execVecCompare levels s
  | .vecClear w => Sys2Proof.Machine.execVecClear w s
  | .ppsInEdge rising frac => Sys2Proof.Machine.execPpsInEdge rising frac s
  | .refInUpdate err => Sys2Proof.Machine.execRefInUpdate err s
  | .timeRefLoss => Sys2Proof.Machine.execTimeRefLoss s
  | .holdoverExpiry => Sys2Proof.Machine.execHoldoverExpiry s
  | .ageingLearn => Sys2Proof.Machine.execAgeingLearn s
  | .setBeat w => Sys2Proof.Machine.execSetBeat w s
  | .heldStep => Sys2Proof.Machine.execHeldStep s
  | .ppsOutPulse k => Sys2Proof.Machine.execPpsOutPulse k s
  | .sysrefShot w => Sys2Proof.Machine.execSysrefShot w s
  | .tiuMeasurementClose => Sys2Proof.Machine.execTiuMeasurementClose s
  | .tiuCalGo w => Sys2Proof.Machine.execTiuCalGo w s
  | .tiuCalTempStart temp => Sys2Proof.Machine.execTiuCalTempStart temp s
  | .tiuCalEnd hits temp => Sys2Proof.Machine.execTiuCalEnd hits temp s
  | .pllUnlock n => Sys2Proof.Machine.execPllUnlock n s
  | .pllLockDone n band ns => Sys2Proof.Machine.execPllLockDone n band ns s
  | .pllLockTimeout n => Sys2Proof.Machine.execPllLockTimeout n s
  | .pllRelockRetry n => Sys2Proof.Machine.execPllRelockRetry n s
  | .pllSlewDone n => Sys2Proof.Machine.execPllSlewDone n s
  | .relock w => Sys2Proof.Machine.execRelock w s
  | .calTempReading t => Sys2Proof.Machine.execCalTempReading t s
  | .calBlock t stats => Sys2Proof.Machine.execCalBlock t stats s
  | .calComputeDone t => Sys2Proof.Machine.execCalComputeDone t s
  | .calWaitTimeout t => Sys2Proof.Machine.execCalWaitTimeout t s
  | .calCommitApply t => Sys2Proof.Machine.execCalCommitApply t s
  | .calInterpCommit t => Sys2Proof.Machine.execCalInterpCommit t s
  | .calCommit w => Sys2Proof.Machine.execCalCommit w s
  | .calClearSets w => Sys2Proof.Machine.execCalClearSets w s
  | .auxRefReady => Sys2Proof.Machine.execAuxRefReady s
  | .auxFilterStart => Sys2Proof.Machine.execAuxFilterStart s
  | .auxStart w => Sys2Proof.Machine.execAuxStart w s
  | .auxResult raws => Sys2Proof.Machine.execAuxResult raws s
  | .auxSelfcal w => Sys2Proof.Machine.execAuxSelfcal w s
  | .auxSelfcalPhaseDone raws => Sys2Proof.Machine.execAuxSelfcalPhaseDone raws s
  | .pltPortUp p node port out back cut => Sys2Proof.Machine.execPltPortUp p node port out back cut s
  | .pltWiringRetry p node port out back cut => Sys2Proof.Machine.execPltWiringRetry p node port out back cut s
  | .pltPortFault p crc cut => Sys2Proof.Machine.execPltPortFault p crc cut s
  | .pltTimeExchange p t1 t2 t3 t4 crcError => Sys2Proof.Machine.execPltTimeExchange p t1 t2 t3 t4 crcError s
  | .pltBeatMessage p n quality again => Sys2Proof.Machine.execPltBeatMessage p n quality again s
  | .pltQuietReport p member joined quiet again => Sys2Proof.Machine.execPltQuietReport p member joined quiet again s
  | .pltStepNotice p atBeat step again => Sys2Proof.Machine.execPltStepNotice p atBeat step again s
  | .pltCtrlMessage port op p again => Sys2Proof.Machine.execPltCtrlMessage port op p again s
  | .pltOutcomeReport p member seq status again => Sys2Proof.Machine.execPltOutcomeReport p member seq status again s
  | .pltImportContext x ctx => Sys2Proof.Machine.execPltImportContext x ctx s
  | .pltImportFrame x frame late => Sys2Proof.Machine.execPltImportFrame x frame late s
  | .powerOnReset => Sys2Proof.Machine.execPowerOnReset s
  | .coldResetPin => Sys2Proof.Machine.execColdResetPin s
  | .watchdogReset => Sys2Proof.Machine.execWatchdogReset s
  | .resetEnd member bootMode => Sys2Proof.Machine.execResetEnd member bootMode s
  | .bootSlot slot => Sys2Proof.Machine.execBootSlot slot s
  | .thawEntry => Sys2Proof.Machine.execThawEntry s
  | .hbmTrainingEnd bad => Sys2Proof.Machine.execHbmTrainingEnd bad s
  | .flowEntry => Sys2Proof.Machine.execFlowEntry s
  | .svnAdvance w session seq => Sys2Proof.Machine.execSvnAdvance w session seq s
  | .revoke w session seq => Sys2Proof.Machine.execRevoke w session seq s
  | .zeroise w session seq => Sys2Proof.Machine.execZeroise w session seq s
  | .hostKeyEnroll w session seq => Sys2Proof.Machine.execHostKeyEnroll w session seq s
  | .hostKeyRemove w session seq => Sys2Proof.Machine.execHostKeyRemove w session seq s
  | .groupKeyInstall w session seq => Sys2Proof.Machine.execGroupKeyInstall w session seq s
  | .groupKeyRemove w session seq => Sys2Proof.Machine.execGroupKeyRemove w session seq s
  | .streamKeyInstall w session seq => Sys2Proof.Machine.execStreamKeyInstall w session seq s
  | .streamKeyRemove w session seq => Sys2Proof.Machine.execStreamKeyRemove w session seq s
  | .extest pins tdi len => Sys2Proof.Machine.execExtest pins tdi len s
  | .idcode => Sys2Proof.Machine.execIdcode s
  | .samplePreload pins tdi len => Sys2Proof.Machine.execSamplePreload pins tdi len s
  | .haltCause => Sys2Proof.Machine.execHaltCause s
  | .bypass tdi len => Sys2Proof.Machine.execBypass tdi len s
  | .dieTempReading temps => Sys2Proof.Machine.execDieTempReading temps s
  | .avsUpdate lowest devclk => Sys2Proof.Machine.execAvsUpdate lowest devclk s
  | .avsRaise => Sys2Proof.Machine.execAvsRaise s
  | .pmbAlert => Sys2Proof.Machine.execPmbAlert s
  | .avsRetry => Sys2Proof.Machine.execAvsRetry s
  | .peakClear w => Sys2Proof.Machine.execPeakClear w s
  | .resetPinRelease pin => Sys2Proof.Machine.execResetPinRelease pin s
  | .neighbourReply l v6 ip mac => Sys2Proof.Machine.execNeighbourReply l v6 ip mac s
  | .pfcFrame l mask quanta => Sys2Proof.Machine.execPfcFrame l mask quanta s
  | .frameDropped l corrected uncorrected => Sys2Proof.Machine.execFrameDropped l corrected uncorrected s
  | .keeperFault => Sys2Proof.Machine.execKeeperFault s
  | .pmbusTransactionEnd result => Sys2Proof.Machine.execPmbusTransactionEnd result s
  | .frameRetire o => Sys2Proof.Machine.execFrameRetire o s
  | .jtxResynchronisation t => Sys2Proof.Machine.execJtxResynchronisation t s

end Sys2Proof.Machine
end

