-- ==== Sys2Proof/Machine/Step.lean ====
section
/-! DEFINITION. One step: the command first in the queue acts; on an empty queue one core cycle passes. -/
namespace Sys2Proof.Machine

/-- One step of the block. -/
def step (s : State) : Host.Outcome State Fault Refusal :=
  match s.pending with
  | [] => .next { s with blk := s.blk.clockTick }
  | c :: rest => Sys2Proof.Machine.exec c { s with pending := rest }

/-- The state with the command that a word spells first in its queue; no word spells one, since the table gives no row bits. -/
def State.withFetchWord (s : State) (nbits w : Nat) : State :=
  match decodeTableWord nbits w with
  | some c => { s with pending := c :: s.pending }
  | none => s

end Sys2Proof.Machine
end

