-- ==== Sys2Proof/Safety.lean ====
section
/-! DEFINITION. What a safe state is, and the hypotheses and results that several statements share. -/
namespace Sys2Proof
open Machine

/-- The byte memories keep their canonical form. -/
def MemOk (s : Machine.State) : Prop := Machine.Memory.wf s.mem = true

/-- Core `c` is ON and free to issue, and the loaded word at its program counter is `w`, which is legal where it stands (R297, R303, R316,
R319). -/
abbrev Issues (s : Machine.State) (c : Fin 64) (w : Nat) : Prop :=
  s.blk.live = true ∧ s.blk.isOn bWVR c.val = true ∧ (s.blk.core c.val).halted = false ∧ (s.blk.core c.val).waitb = false ∧
    (s.blk.core c.val).abortDue = false ∧ s.blk.wordAt c.val = some w ∧ (s.blk.core c.val).illegal w = false

/-- The block once core `c` has become `y` by a word that does not lead it into WAITB. -/
def coreAfter (s : Machine.State) (c : Fin 64) (y : Core) : Block :=
  s.start.setCore c.val { y with fromWaitb := y.fromWaitb && !y.waitb }

/-- The block after an IMM word whose results are `l`. -/
def immAfter (s : Machine.State) (c : Fin 64) (_w : Nat) (l : List Flight) : Block := coreAfter s c ((s.blk.core c.val).step1 l)

/-- The block after a PAR word whose operation puts `l` in flight: the two moves load, store and modify their pointers (R321, R322). -/
def parAfter (s : Machine.State) (c : Fin 64) (w : Nat) (l : List Flight) : Block :=
  let x := s.blk.core c.val
  let rd : BankRead := fun bank i => s.start.rdWord48 s.mem c.val bank i
  (moveStore x (move0 w) ++ moveStore x (move1 w)).foldl (fun b t => b.coreStore c.val t.1 t.2.1 t.2.2)
    (coreAfter s c (x.step1 (l ++ moveResults rd x (move0 w) ++ moveResults rd x (move1 w))))

/-- What follows a word in the same issue: a beat start that waited for the end of a REP, and a stop (R304, R315). -/
def wordEnd (b : Block) (c : Fin 64) : Block := (if (b.core c.val).abortDue then b.beatTake c.val else b).coreLeaves c.val

/-- To the command port of a port in service comes the next request of the unicast session `x`, whole, tagged, for this engine and in form, with opcode `op`;
it is not the session's last, and does not close it (R33 to R44). -/
abbrev Comes (op : Nat) (p : Packet) (x : Session) (s : Machine.State) : Prop :=
  s.blk.live = true ∧ s.blk.bcpHears p.port.val p = true ∧ p.fragment = false ∧ s.blk.unprocessed p < 64 ∧ 48 ≤ p.udpLen ∧
    p.udpLen ≤ s.blk.payloadLimit p.port.val + 48 ∧ p.magic = 0x424350 ∧ (pkFlag p 4 = false ∨ pkDest p = s.blk.member) ∧ p.version = 3 ∧
    p.session ≠ 0 ∧ p.session.toNat < 2 ^ 31 ∧ s.blk.session p.session.toNat = some x ∧ p.seq.toNat = x.nextSeq ∧ p.seq ≠ 0xFFFFFFFF ∧
    formatOk op p = true ∧ pkFlag p 3 = false

/-- The tag of a packet holds under a key (R35). -/
abbrev Tagged (op : Nat) (p : Packet) (key : List Byte) : Prop := beNat (tagOf key (packetBytes op p)) = p.tag.toNat

/-- The beat of a request whose opcode acts at a beat (R53): the next one, or the one that it names; the engine has no step notice to obey
and room for the request (R55, R455). -/
abbrev Dated (p : Packet) (t : Nat) (s : Machine.State) : Prop :=
  ((p.target = 0 ∧ t = s.blk.beat + 1) ∨ (s.blk.beat < p.target.toNat ∧ p.target.toNat ≤ s.blk.beat + 2 ^ 32 ∧ t = p.target.toNat)) ∧
    (s.blk.plt.notice = none ∨ s.blk.leader = true) ∧ s.blk.waitingGroups < 256

/-- The block once the packet has arrived and the session has taken its request. -/
def opened (p : Packet) (x : Session) (s : Machine.State) : Block := (s.start.arrive p.port.val).taken x p.port.val p (p.seq.toNat + 1)

/-- The request that the packet carries. -/
def asked (op : Nat) (p : Packet) (x : Session) (t : Nat) : Req :=
  ⟨.session x.id p.seq.toNat, ⟨x.id, p.seq.toNat, op, pkFlag p 2, p.port.val, p.addr.toNat, p.dport.toNat⟩, p.target.toNat, t, p.payload⟩

end Sys2Proof
end

