-- ==== Sys2Proof/Certificates/Slice0/Obligations.lean ====
section
/-! DEFINITION. The statements about the block: what each command does where the specification says that it acts, what it leaves, and what
every step keeps. In each clause `s.start` is the block as the command finds it, `s.finish b` the state that holds the block `b` with its
events delivered and its stores in memory, and the queue as it was; what `b` does not name is unchanged. -/

section
open Sys2Proof Sys2Proof.Machine

/-- For every ADPLL n in THAW or FLOW: a loss while LOCKED or SLEWING counts in UNLOCKS, raises EV_CLK_UNLOCK with the state and band, and starts attempt 1 on the safe clock; lock in a sequence puts STATUS to LOCKED with the band, clears ATTEMPTS, records LAST_LOCK and raises EV_CLK_LOCKED; a sequence 60 us old counts in RELOCK_FAIL and waits, or after the third attempt is HALTED with EV_CLK_HALTED; 100 us after a failure the next attempt starts; a slew that ends reads LOCKED. Loss, lock and failure reach the domain through pllAct. Every other part of the state is as it was. Each completes: pllUnlock, pllLockDone, pllLockTimeout, pllRelockRetry, pllSlewDone. (R416, R421, R422, R423, R424, R425) -/
def Obligations.PllLossFailureAndRelock : Prop :=
  (∀ (n : Fin 6) (s : State), s.blk.live = true → s.blk.clkState n.val ≤ 1 →
    exec (.pllUnlock n) s = .next (s.finish (s.start.pllAct n.val (fun b =>
      let c := b.inc K.CLK_UNLOCKS n.val 1
      ((c.raise (864 + 4 * n.val + 1) (beBytes 1 (b.clkState n.val) ++ beBytes 1 (c.f K.CLK_STATUS n.val 8 3) ++ zeros 6 ++ beBytes 8 b.beat)).clkSequence
        n.val false).pf K.CLK_STATUS n.val 10 9 1)))) ∧
  (∀ (n : Fin 6) (band : BitVec 6) (ns : BitVec 16) (s : State), s.blk.live = true → s.blk.clkState n.val = 2 ∨ s.blk.clkState n.val = 3 →
    exec (.pllLockDone n band ns) s = .next (s.finish (s.start.pllAct n.val (fun b =>
      let c := ((b.setClkState n.val 0).pf K.CLK_STATUS n.val 8 3 band.toNat).pf K.CLK_STATUS n.val 10 9 0
      let d := (c.pf K.CLK_LAST_LOCK n.val 15 0 ns.toNat).pv K.CLK_FREQ_OUT n.val (c.clkTarget n.val)
      (d.setPll n.val { d.pll n.val with target := some (d.clkTarget n.val), change := false }).raise (864 + 4 * n.val)
        (beBytes 1 band.toNat ++ beBytes 1 (b.attempts n.val) ++ zeros 2 ++ beBytes 4 (bits ns.toNat 15 0) ++ beBytes 8 b.beat))))) ∧
  (∀ (n : Fin 6) (s : State), s.blk.live = true → s.blk.clkState n.val = 2 ∨ s.blk.clkState n.val = 3 →
    (s.blk.pll n.val).since + 96000 ≤ s.blk.ticks → (s.blk.pll n.val).change = false → s.blk.attempts n.val < 3 →
    exec (.pllLockTimeout n) s = .next (s.finish (s.start.pllAct n.val (fun b =>
      let c := b.inc K.CLK_RELOCK_FAIL n.val 1
      let d := c.setPll n.val { c.pll n.val with since := c.ticks, change := false }
      (d.setClkState n.val 4).pf K.CLK_STATUS n.val 10 9 (s.blk.attempts n.val))))) ∧
  (∀ (n : Fin 6) (s : State), s.blk.live = true → s.blk.clkState n.val = 2 ∨ s.blk.clkState n.val = 3 →
    (s.blk.pll n.val).since + 96000 ≤ s.blk.ticks → (s.blk.pll n.val).change = false → s.blk.attempts n.val = 3 →
    exec (.pllLockTimeout n) s = .next (s.finish (s.start.pllAct n.val (fun b =>
      let c := b.inc K.CLK_RELOCK_FAIL n.val 1
      let d := c.setPll n.val { c.pll n.val with since := c.ticks, change := false }
      (d.setClkState n.val 5).raise (864 + 4 * n.val + 2) (beBytes 1 3))))) ∧
  (∀ (n : Fin 6) (s : State), s.blk.live = true → s.blk.clkState n.val = 4 → (s.blk.pll n.val).since + 160000 ≤ s.blk.ticks →
    exec (.pllRelockRetry n) s = .next (s.finish
      ((s.start.clkSequence n.val false).pf K.CLK_STATUS n.val 10 9 (s.blk.attempts n.val + 1)))) ∧
  (∀ (n : Fin 6) (s : State), s.blk.live = true → s.blk.clkState n.val = 1 →
    exec (.pllSlewDone n) s = .next (s.finish
      (if n.val = 3 ∨ n.val = 4 then (s.start.setClkState n.val 0).outPllDone (n.val - 3) else s.start.setClkState n.val 0)))

/-- In THAW or FLOW: with AUTO, a reading at a beat that is a multiple of 1,024 writes TEMP and marks a run or an interpolation commit as due by the stated distances; in a run, a block with signal adds to the sums and BLOCKS, and 64 blocks make it COMPUTING, while a block without signal makes it WAITING_FOR_SIGNAL and raises event 945 once; in COMPUTING the values either pass the plausibility bounds (RUNS, the point set and LAST_OK advance, PASS) or do not (FAILS, FAIL); a wait of WAIT_MAX seconds ends NO_SIGNAL. A divisor of 0 in the estimate takes a free value (log entry 28). Each completes: calTempReading, calBlock, calComputeDone, calWaitTimeout. (R429, R430, R431, R432, R434, R435) -/
def Obligations.CalibrationRunProceeds : Prop :=
  (∀ (t : Fin 32) (s : State), s.blk.live = true → s.blk.f K.CAL_CFG t.val 0 0 = 1 → s.blk.beat % 1024 = 0 → (s.blk.cal t.val).readAt ≠ s.blk.beat + 1 →
    exec (.calTempReading t) s = .next (s.finish (
      let x := s.blk.cal t.val
      let heat := s.blk.calSource t.val
      let b := s.start.pf K.CAL_TEMP t.val 15 0 (uns 16 heat)
      b.setCal t.val { x with
        readAt := s.blk.beat + 1
        runDue := x.runDue || (b.calMay t.val && b.calRun t.val == 0 &&
          (match x.last with | some l => decide (8 * b.f K.CAL_CFG t.val 14 9 < (heat - l).natAbs) | none => true))
        interpDue := x.interpDue || (match x.commitAt with
          | some c => decide (b.f K.CAL_INTERP_DT 0x40 5 0 ≤ (heat - c).natAbs)
          | none => !x.points.isEmpty)
        heats := if b.calRun t.val = 1 ∨ b.calRun t.val = 2 then heat :: x.heats else x.heats }))) ∧
  (∀ (t : Fin 32) (st : CalStats) (s : State), s.blk.live = true → s.blk.calRun t.val = 2 → st.bad = false → 2 ^ 62 ≤ st.power * 10000 →
    exec (.calBlock t st) s = .next (s.finish (
      let x := s.blk.cal t.val
      let n := s.blk.f K.CAL_BLOCKS t.val 6 0 + 1
      ((s.start.setCal t.val { x with
          since := s.blk.ticks
          sums := { il := if x.sums.il.isEmpty then st.il else (x.sums.il.zip st.il).map (fun (p, q) => addLists p q)
                    dc := addLists x.sums.dc st.dc
                    iq := addLists x.sums.iq st.iq } }).pf K.CAL_BLOCKS t.val 6 0 n).setCalRun t.val (if 64 ≤ n then 3 else 2)))) ∧
  (∀ (t : Fin 32) (st : CalStats) (s : State), s.blk.live = true → s.blk.calRun t.val = 2 → (st.bad = true ∨ st.power * 10000 < 2 ^ 62) →
    (s.blk.cal t.val).told = false →
    exec (.calBlock t st) s = .next (s.finish (
      let b := s.start.setCalRun t.val 1
      (b.setCal t.val { s.blk.cal t.val with since := s.blk.ticks, told := true }).raise 945
        (beBytes 1 t.val ++ beBytes 1 (b.f K.CAL_BLOCKS t.val 6 0))))) ∧
  (∀ (t : Fin 32) (s : State), s.blk.live = true → s.blk.calRun t.val = 3 →
    calPlausible (s.blk.cal t.val).base (s.blk.calEstimate t.val) (!(s.blk.cal t.val).points.isEmpty) = true →
    exec (.calComputeDone t) s = .next (s.finish (
      let x := s.blk.cal t.val
      let heat := x.runTemp
      let b := s.start.tick.firnSet (ki K.CAL_RUNS t.val) ((s.blk.val (ki K.CAL_RUNS t.val) + 1) % 2 ^ 32)
      let b := b.setCal t.val { x with last := some heat }
      let b := (b.setCal t.val { b.cal t.val with
        points := calStore x.points (4 * b.f K.CAL_CFG t.val 14 9) heat (s.blk.calEstimate t.val) }).calShow t.val
      (((b.firnSet (ki K.CAL_LAST_OK_W0 t.val) b.now.w0).firnSet (ki K.CAL_LAST_OK_W1 t.val) b.now.w1).firnSet
        (ki K.CAL_LAST_OK_TEMP t.val) (uns 16 heat)).calEnd t.val 1 heat))) ∧
  (∀ (t : Fin 32) (s : State), s.blk.live = true → s.blk.calRun t.val = 3 →
    calPlausible (s.blk.cal t.val).base (s.blk.calEstimate t.val) (!(s.blk.cal t.val).points.isEmpty) = false →
    exec (.calComputeDone t) s = .next (s.finish (
      let x := s.blk.cal t.val
      let b := s.start.tick.firnSet (ki K.CAL_RUNS t.val) ((s.blk.val (ki K.CAL_RUNS t.val) + 1) % 2 ^ 32)
      let b := b.setCal t.val { x with last := some x.runTemp }
      (b.firnSet (ki K.CAL_FAILS t.val) ((b.val (ki K.CAL_FAILS t.val) + 1) % 2 ^ 32)).calEnd t.val 2 x.runTemp))) ∧
  (∀ (t : Fin 32) (s : State), s.blk.live = true → s.blk.calRun t.val = 1 → s.blk.f K.CAL_WAIT_MAX 0x40 15 0 ≠ 0 →
    s.blk.f K.CAL_WAIT_MAX 0x40 15 0 * secCycles ≤ (s.blk.cal t.val).waited + (s.blk.ticks - (s.blk.cal t.val).since) →
    exec (.calWaitTimeout t) s = .next (s.finish (s.start.calEnd t.val 4 (s.blk.cal t.val).runTemp)))

/-- At the first core cycle of a beat in THAW or FLOW: a run's commit takes the lock group's values at each member's temperature when no member runs and one is READY and not held; an interpolation commit does when one is due and every member is IDLE; the filter starts when the converter is ON, its reference ready, no self-calibration runs and the start falls due. In THAW or FLOW: the reference is ready after its wait, with event 960; a result that is due writes the eight codes, DATA_SEQ, its time and AUX_DATA flags; a self-calibration phase passes its readings on. Each completes: calCommitApply, calInterpCommit, auxResult, auxSelfcalPhaseDone, auxRefReady, auxFilterStart. (R436, R437, R441, R442, R443, R444, R445) -/
def Obligations.CalibrationCommitsAndAuxConverter : Prop :=
  (∀ (t : Fin 32) (s : State), s.blk.live = true → s.blk.cycle = 0 → s.blk.calBusy (s.blk.calGroup t.val) = false →
    (∃ j, j ∈ s.blk.calGroup t.val ∧ s.blk.calRun j = 4) →
    (∀ j, j ∈ s.blk.calGroup t.val → s.blk.calRun j = 4 → s.blk.f K.CAL_CFG j 1 1 = 0) →
    exec (.calCommitApply t) s = .next (s.finish (s.start.calCommitAll (s.blk.calGroup t.val) 0).lanesApply)) ∧
  (∀ (t : Fin 32) (s : State), s.blk.live = true → s.blk.cycle = 0 →
    (∃ j, j ∈ s.blk.calGroup t.val ∧ (s.blk.cal j).interpDue = true) → (∀ j, j ∈ s.blk.calGroup t.val → s.blk.calRun j = 0) →
    exec (.calInterpCommit t) s = .next (s.finish (s.start.calCommitAll (s.blk.calGroup t.val) 1).lanesApply)) ∧
  (∀ s : State, (s.blk.dev = .thaw ∨ s.blk.dev = .flow) → s.blk.auxReady = false →
    s.blk.aux.refAt + (match s.blk.f K.AUX_CFG 0 1 0 with | 0 => 6400000 | 1 => 1600000 | _ => 0) ≤ s.blk.ticks →
    exec .auxRefReady s = .next (s.finish (
      let b := s.start.pf K.AUX_STATUS 0 0 0 1
      (b.raise 960 (beBytes 1 1 ++ beBytes 1 (b.f K.AUX_CFG 0 1 0))).auxCalBegin))) ∧
  (∀ s : State, s.blk.live = true → s.blk.cycle = 0 → s.blk.isOn bAUX 0 = true → s.blk.auxReady = true → s.blk.aux.phase = 0 →
    s.blk.aux.start = none → s.blk.clkLocked 5 = true → (if s.blk.auxTriggered then s.blk.auxRunning = true else s.blk.beat % 625 = 0) →
    exec .auxFilterStart s = .next (s.finish (s.start.setAux { s.blk.aux with start := some (s.blk.beat, s.blk.ticks), results := 0 }))) ∧
  (∀ (raws : List Word) (beat at' : Nat) (s : State), s.blk.live = true → s.blk.aux.start = some (beat, at') → s.blk.isOn bAUX 0 = true →
    s.blk.auxPassed at' ((s.blk.auxN + s.blk.auxL - 1 + s.blk.aux.results * s.blk.auxL) * s.blk.auxD + 4) = true →
    exec (.auxResult raws) s = .next (s.finish (
      let codes := (List.range 8).map (fun i => s.blk.auxCode i ((raws.map (·.toInt)).getD i 0))
      let b := (codes.zipIdx).foldl (fun b ((c, o), i) =>
        let b := (b.pf K.AUX_DATA (auxCh i) 23 0 (uns 24 c)).pf K.AUX_DATA (auxCh i) 24 24 (b2n o)
        if o then b.inc K.AUX_OVR_COUNT (auxCh i) 1 else b) s.start
      let seq := (b.val K.AUX_DATA_SEQ + 1) % 2 ^ 64
      let t := timeAt beat ((s.blk.auxN + s.blk.auxL - 1 + s.blk.aux.results * s.blk.auxL) * s.blk.auxD * 3200000 : Nat) b.quality
      let b := ((b.pv K.AUX_DATA_SEQ 0 seq).pf K.AUX_DATA_TIME_W0 0 47 0 t.w0).pf K.AUX_DATA_TIME_W1 0 47 0 t.w1
      let mask := maskOf 8 (fun i => (codes.getD i (0, false)).2)
      let b := if mask = 0 then b else b.raise 962 (beBytes 1 mask ++ zeros 7 ++ beBytes 8 seq)
      if b.auxTriggered then b.auxStopFilter
      else (b.setAux { b.aux with results := b.aux.results + 1 }).pf K.AUX_STATUS 0 2 2 1))) ∧
  (∀ (raws : List Word) (s : State), s.blk.live = true → (s.blk.aux.phase = 1 ∨ s.blk.aux.phase = 2) → s.blk.clkLocked 5 = true →
    s.blk.auxPassed s.blk.aux.phaseAt ((s.blk.auxN + 16) * s.blk.auxD + 4) = true →
    exec (.auxSelfcalPhaseDone raws) s = .next (s.finish (s.start.setAux
      { s.blk.aux with phase := s.blk.aux.phase + 1, phaseAt := s.blk.ticks, codes := s.blk.aux.codes ++ [raws.map (·.toInt)] }))) ∧
  (∀ (raws : List Word) (s : State), s.blk.live = true → s.blk.aux.phase = 3 → s.blk.clkLocked 5 = true →
    s.blk.auxPassed s.blk.aux.phaseAt ((s.blk.auxN + 16) * s.blk.auxD + 4) = true →
    exec (.auxSelfcalPhaseDone raws) s = .next (s.finish (
      let get (p i : Nat) : Int := ((s.blk.aux.codes ++ [raws.map (·.toInt)]).getD p []).getD i 0
      let off (i : Nat) : Int := rndEven (get 0 i) 65536
      let gain (i : Nat) : Int := if 0 < get 1 i - get 2 i then rndEven (2 ^ 57) (get 1 i - get 2 i).toNat else 0
      let ok (i : Nat) : Bool := decide ((off i).natAbs ≤ 2 ^ 20) && decide (122880 ≤ gain i) && decide (gain i ≤ 139264)
      let bad := maskOf 8 (fun i => !ok i)
      let b := if bad ≠ 0 then s.start
        else (List.range 8).foldl (fun b i =>
          (b.firnSet (ki K.AUX_SC_OFFSET (auxCh i)) (uns 24 (off i))).firnSet (ki K.AUX_SC_GAIN (auxCh i)) (gain i).toNat) s.start
      ((b.setAux { b.aux with phase := 0, codes := [] }).pf K.AUX_STATUS 0 1 1 0).raise 961 (beBytes 1 (b2n (bad != 0)) ++ beBytes 1 bad))))

/-- In THAW or FLOW: when the oldest record of a session's open packet has waited, the packet is closed and the queue is empty; the oldest closed packet of a session leaves as an EVENT with the session's next event sequence number, when the link of its interface, or the Plait port that its requests come over, is up, with at most as many records as the interface's frames carry (the rest stay first), and the frame is counted; a pin in PULSE mode that has run its width is released. Nothing else changes. Each completes: eventPacketTimeout, eventPacketSend, evtOutPulseEnd. (R81, R83, R84, R337) -/
def Obligations.EventPacketsAndPulses : Prop :=
  (∀ (id : BitVec 32) (x : Session) (s : State), s.blk.live = true → s.blk.session id.toNat = some x → x.queue ≠ [] →
    exec (.eventPacketTimeout id) s = .next (s.finish (s.start.setSession { x with queue := [], closed := x.closed ++ [⟨x.queue⟩] }))) ∧
  (∀ (id : BitVec 32) (x : Session) (p : EvPkt) (rest : List EvPkt) (s : State), s.blk.live = true → s.blk.session id.toNat = some x →
    x.closed = p :: rest → x.iface < 17 → s.blk.netUsable x.iface = true →
    exec (.eventPacketSend id) s = .next (s.finish (
      let n := if s.blk.f K.NET_CFG x.iface 0 0 = 1 then 200 else 30
      let rest := if p.recs.drop n = [] then rest else ⟨p.recs.drop n⟩ :: rest
      ((s.start.setSession { x with closed := rest, evtSeq := (x.evtSeq + 1) % 2 ^ 32 }).inc K.NET_TX_FRAMES x.iface 1).send
        (.bcp x.iface x.addr x.evtPort (BcpMsg.signed ⟨1, 0xE0, id.toNat, x.evtSeq, 0, ((p.recs.take n).map (·.beat)).headD 0,
          ((p.recs.take n).map s.blk.recBytes).flatten, []⟩ x.e2h))))) ∧
  (∀ (id : BitVec 32) (x : Session) (p : EvPkt) (rest : List EvPkt) (m : BcpMsg) (s : State), s.blk.live = true →
    s.blk.session id.toNat = some x → x.closed = p :: rest → 17 ≤ x.iface → p.recs.length ≤ s.blk.recLimit x.iface →
    s.blk.portState (x.iface - 17) = 3 →
    m = BcpMsg.signed ⟨1, 0xE0, id.toNat, x.evtSeq, 0, (p.recs.map (·.beat)).headD 0, (p.recs.map s.blk.recBytes).flatten, []⟩ x.e2h →
    exec (.eventPacketSend id) s = .next (s.finish ((s.start.setSession { x with closed := rest, evtSeq := (x.evtSeq + 1) % 2 ^ 32 }).send
      (.ctrl (x.iface - 17) (m.bytes ++ m.tag) x.addr x.evtPort)))) ∧
  (∀ (k : Fin 2) (s : State), s.blk.live = true → bit (s.blk.val (K.EVT_OUT_CFG0 + k.val)) 0 = true → bit (s.blk.val K.EVT_OUT_STATE) k.val = true →
    tget 0 s.blk.evtEnd k.val ≤ s.blk.ticks →
    exec (.evtOutPulseEnd k) s = .next (s.finish ((s.start.pf K.EVT_OUT_STATE 0 k.val k.val 0).send (.pin "EVT_OUT_N" k.val true 0))))

/-- In THAW or FLOW: CDR and header lock at step 1 or 2 set the lock bits of all lanes of link k, release JRX_SYNC_N in JESD204B and lead to step 3; alignment at step 3 records ALIGNED, ARRIVAL and MARGIN, and with a MARGIN that is not negative at the configured release delay leads to step 4 with that delay; before any release a negative MARGIN raises EV_JRX_DOWN ALIGN with the lanes that are late and leaves the link at step 3; at step 4 with an epoch the first release sets RELEASED and LATENCY, raises EV_JRX_UP with them, SKEW and MARGIN, and gives the lanes that the link feeds its latency; a sequence 10 ms old that has not reached its release raises EV_JRX_DOWN ALIGN with the lanes that miss and starts again, with JRX_SYNC_N asserted in JESD204B. Each completes: jrxCdrLock, jrxAlignDone, jrxRelease, jrxStartTimeout. (R94, R95, R96, R97, R100, R510) -/
def Obligations.ReceiveLinkStartSequence : Prop :=
  (∀ (k : Fin 16) (s : State), s.blk.live = true → (s.blk.lnk bJRX k.val).step = 1 ∨ (s.blk.lnk bJRX k.val).step = 2 →
    exec (.jrxCdrLock k) s = .next (s.finish (
      let b := (s.start.pf K.JRX_STATUS k.val 7 0 (s.blk.allLanes bJRX k.val)).setLnk bJRX k.val { s.blk.lnk bJRX k.val with step := 3 }
      if b.lkIsB bJRX k.val then b.send (.pin "JRX_SYNC_N" k.val true 0) else b))) ∧
  (∀ (k : Fin 16) (arr : List (BitVec 32)) (s : State), s.blk.live = true → (s.blk.lnk bJRX k.val).step = 3 →
    (let a := (arr.map (·.toNat)).foldl max 0
     let b := (s.start.pf K.JRX_STATUS k.val 8 8 1).pv K.JRX_ARRIVAL k.val (a % 2 ^ 32)
     0 ≤ b.marginAt k.val (b.lkRBD bJRX k.val) a) →
    exec (.jrxAlignDone k arr) s = .next (s.finish (
      let a := (arr.map (·.toNat)).foldl max 0
      let x := s.blk.lnk bJRX k.val
      let b := (s.start.pf K.JRX_STATUS k.val 8 8 1).pv K.JRX_ARRIVAL k.val (a % 2 ^ 32)
      let r := b.lkRBD bJRX k.val
      ((b.pv K.JRX_MARGIN k.val (uns 32 (b.marginAt k.val r a))).setLnk bJRX k.val
        { x with step := 4, delay := r, changed := x.changed || x.delay != r }).takeEpoch bJRX k.val))) ∧
  (∀ (k : Fin 16) (arr : List (BitVec 32)) (s : State), s.blk.live = true → (s.blk.lnk bJRX k.val).step = 3 →
    (s.blk.lnk bJRX k.val).everReleased = false →
    (let a := (arr.map (·.toNat)).foldl max 0
     let b := (s.start.pf K.JRX_STATUS k.val 8 8 1).pv K.JRX_ARRIVAL k.val (a % 2 ^ 32)
     b.marginAt k.val (b.lkRBD bJRX k.val) a < 0) →
    exec (.jrxAlignDone k arr) s = .next (s.finish (
      let a := (arr.map (·.toNat)).foldl max 0
      let x := s.blk.lnk bJRX k.val
      let b := (s.start.pf K.JRX_STATUS k.val 8 8 1).pv K.JRX_ARRIVAL k.val (a % 2 ^ 32)
      let r := b.lkRBD bJRX k.val
      ((b.pv K.JRX_MARGIN k.val (uns 32 (b.marginAt k.val r a))).setLnk bJRX k.val { x with step := 3 }).raise (705 + 4 * k.val)
        (beBytes 1 rAlign ++ beBytes 1 (b.lateLanes k.val r (arr.map (·.toNat))))))) ∧
  (∀ (k : Fin 16) (e : Int) (s : State), s.blk.live = true → (s.blk.lnk bJRX k.val).step = 4 → (s.blk.lnk bJRX k.val).epoch = some e →
    (s.blk.lnk bJRX k.val).everReleased = false →
    exec (.jrxRelease k) s = .next (s.finish (
      let x := s.blk.lnk bJRX k.val
      let b := s.start.pf K.JRX_STATUS k.val 9 9 1
      let b := b.pv K.JRX_LATENCY k.val (b.latencyAt k.val x.delay % 2 ^ 32)
      let b := b.setLnk bJRX k.val { x with step := 0, everReleased := true, changed := false, shift := 0 }
      (b.raise (704 + 4 * k.val) (beBytes 4 (b.val (ki K.JRX_LATENCY k.val)) ++ beBytes 4 (uns 32 (b.skewOf k.val)) ++
        beBytes 4 (b.val (ki K.JRX_MARGIN k.val)))).lanesLatency k.val))) ∧
  (∀ (k : Fin 16) (mask : Byte) (s : State), s.blk.live = true → (s.blk.lnk bJRX k.val).step ≠ 0 →
    ¬((s.blk.lnk bJRX k.val).step = 4 ∧ (s.blk.lnk bJRX k.val).epoch.isSome = true) → (s.blk.lnk bJRX k.val).started + 16000000 ≤ s.blk.ticks →
    exec (.jrxStartTimeout k mask) s = .next (s.finish (
      let b := s.start.raise (705 + 4 * k.val) (beBytes 1 rAlign ++ beBytes 1 (mask.toNat % 2 ^ s.blk.lkL bJRX k.val))
      let y := (b.clearStatus bJRX k.val true).setLnk bJRX k.val { s.blk.lnk bJRX k.val with step := 1, started := s.blk.ticks }
      y.send (.pin "JRX_SYNC_N" k.val (!s.blk.lkIsB bJRX k.val) 0))))

/-- In THAW or FLOW, on a link k that is STARTING or ON: each error that loses samples advances its counter, clears RELEASED and the lock bits, asserts JRX_SYNC_N in JESD204B, goes back to its step and, once the link has released, raises EV_JRX_DOWN with its reason and lanes and keeps the first cause of the loss; a CRC-12 mismatch and a wrong character count and, once released, raise EV_JRX_CRC, the former with the samples that DROP discards, which become a gap unless the link is in a lost stretch; a moved epoch sends a released link, unless it is at an earlier step, to step 3 under the new epoch, with the shift that EV_JRX_LATENCY will carry; the rate error is written and beyond 20 ppm reported. Each completes: jrxHeaderLoss, jrxAlignLoss, jrxCrcError, jrxCharError, jrxIlasMismatch, jrxElasticError, jrxSignalLoss, jrxEpochMove, jrxRateError. (R87, R90, R99, R100, R101, R509, R510) -/
def Obligations.ReceiveLinkErrors : Prop :=
  (∀ (k : Fin 16) (mask : Byte) (s : State), s.blk.live = true → s.blk.linkLive k.val = true →
    let lossOf (counter reason back : Nat) : Block :=
      let b := s.start.inc counter k.val 1
      let x := s.blk.lnk bJRX k.val
      let b := if x.everReleased then b.raise (705 + 4 * k.val) (beBytes 1 reason ++ beBytes 1 (mask.toNat % 2 ^ b.lkL bJRX k.val)) else b
      let b := b.clearStatus bJRX k.val true
      let b := if b.lkIsB bJRX k.val then b.send (.pin "JRX_SYNC_N" k.val false 0) else b
      let lost := if x.everReleased then some (x.lost.getD reason) else none
      let started := if x.everReleased then b.ticks else x.started
      b.setLnk bJRX k.val { x with step := back, lost := lost, started := started }
    exec (.jrxHeaderLoss k mask) s = .next (s.finish (lossOf K.JRX_HDR_ERR 1 2)) ∧
    exec (.jrxAlignLoss k mask) s = .next (s.finish (lossOf K.JRX_ALIGN_ERR 2 2)) ∧
    exec (.jrxElasticError k mask) s = .next (s.finish (lossOf K.JRX_ELASTIC_ERR 3 2)) ∧
    exec (.jrxSignalLoss k mask) s = .next (s.finish (lossOf K.JRX_HDR_ERR 1 1)) ∧
    (s.blk.lkIsB bJRX k.val = true → exec (.jrxIlasMismatch k mask) s = .next (s.finish (lossOf K.JRX_ALIGN_ERR 4 2)))) ∧
  (∀ (k : Fin 16) (mask : Byte) (s : State), s.blk.live = true → s.blk.linkLive k.val = true → (s.blk.lnk bJRX k.val).everReleased = true →
    exec (.jrxCrcError k mask) s = .next (s.finish (
      let b := s.start.inc K.JRX_CRC_ERR k.val 1
      let n := if b.lkDrop bJRX k.val = true ∧ (s.blk.lnk bJRX k.val).lost = none then b.mbSamples bJRX k.val else 0
      let b := if n = 0 then b else b.jrxDrop k.val n
      b.raise (706 + 4 * k.val) (beBytes 1 (mask.toNat % 2 ^ b.lkL bJRX k.val) ++ beBytes 4 n)))) ∧
  (∀ (k : Fin 16) (mask : Byte) (s : State), s.blk.live = true → s.blk.linkLive k.val = true → (s.blk.lnk bJRX k.val).everReleased = false →
    exec (.jrxCrcError k mask) s = .next (s.finish (s.start.inc K.JRX_CRC_ERR k.val 1))) ∧
  (∀ (k : Fin 16) (mask : Byte) (s : State), s.blk.live = true → s.blk.linkLive k.val = true →
    exec (.jrxCharError k mask) s = .next (s.finish (
      let b := s.start.inc K.JRX_CRC_ERR k.val 1
      if (s.blk.lnk bJRX k.val).everReleased then b.raise (706 + 4 * k.val) (beBytes 1 (mask.toNat % 2 ^ b.lkL bJRX k.val) ++ beBytes 4 0) else b))) ∧
  (∀ (k : Fin 16) (old new : Int) (s : State), s.blk.live = true → s.blk.linkLive k.val = true → (s.blk.lnk bJRX k.val).epoch = some old →
    s.blk.sysrefEpoch (s.blk.lkSel bJRX k.val) = some new → s.blk.epochsAgree bJRX k.val old new = false →
    (s.blk.lnk bJRX k.val).everReleased = true → (s.blk.lnk bJRX k.val).lost = none →
    exec (.jrxEpochMove k) s = .next (s.finish ((s.start.clearStatus bJRX k.val false).setLnk bJRX k.val
      { s.blk.lnk bJRX k.val with
        epoch := some new
        step := if (s.blk.lnk bJRX k.val).step = 1 ∨ (s.blk.lnk bJRX k.val).step = 2 then (s.blk.lnk bJRX k.val).step else 3
        lost := some rAlign
        changed := true
        shift := s.blk.epochShift k.val old new
        drops := [] }))) ∧
  (∀ (k : Fin 16) (ppm : BitVec 32) (s : State), s.blk.live = true → s.blk.linkLive k.val = true →
    exec (.jrxRateError k ppm) s = .next (s.finish (
      let b := s.start.pv K.JRX_RATE_PPM k.val (uns 32 ppm.toInt)
      if 20000 < ppm.toInt.natAbs ∧ (s.blk.lnk bJRX k.val).everReleased = true then
        b.raise (705 + 4 * k.val) (beBytes 1 rRate ++ beBytes 1 (b.allLanes bJRX k.val)) else b)))

/-- In THAW or FLOW: an unmoved re-release sets RELEASED and LATENCY, adds the lost samples to GAP_SAMPLES and raises EV_JRX_UP; one under another release delay or epoch does the same, raises EV_JRX_LATENCY, and the lanes that the link feeds go through an input link change, which ends their calibration runs; a transmit link with an epoch completes its start with all lock bits, ALIGNED and RELEASED set, its LATENCY (an implementation-fixed number, log entry 11) and EV_JTX_UP; the loss of JTX_SYNC_N on a JESD204B link that is ON clears RELEASED and raises EV_JTX_DOWN, and the resynchronisation sets RELEASED again; a transaction on SPI port j ends with the received bits in RX, BUSY clear and EV_SPI_DONE. Each completes: jrxReRelease, jtxSyncLoss, jtxUp, spiDone, jtxResynchronisation. (R97, R99, R100, R102, R103) -/
def Obligations.ReReleaseTransmitLinksAndSpi : Prop :=
  (∀ (k : Fin 16) (lost : BitVec 32) (e : Int) (s : State), s.blk.live = true → s.blk.clkLocked 1 = true → (s.blk.lnk bJRX k.val).step = 4 →
    (s.blk.lnk bJRX k.val).epoch = some e → (s.blk.lnk bJRX k.val).everReleased = true → (s.blk.lnk bJRX k.val).changed = false →
    (let b := s.start.pf K.JRX_STATUS k.val 9 9 1
     let b := b.pv K.JRX_LATENCY k.val (b.latencyAt k.val (s.blk.lnk bJRX k.val).delay % 2 ^ 32)
     s.blk.val (ki K.JRX_LATENCY k.val) = (b.incSat K.JRX_GAP_SAMPLES k.val lost.toNat).val (ki K.JRX_LATENCY k.val)) →
    exec (.jrxReRelease k lost) s = .next (s.finish (
      let x := s.blk.lnk bJRX k.val
      let b := s.start.pf K.JRX_STATUS k.val 9 9 1
      let b := b.pv K.JRX_LATENCY k.val (b.latencyAt k.val x.delay % 2 ^ 32)
      let b := b.incSat K.JRX_GAP_SAMPLES k.val lost.toNat
      let b := b.setLnk bJRX k.val { x with step := 0, lost := none, changed := false, shift := 0 }
      b.raise (704 + 4 * k.val) (b.jrxUpPayload k.val)))) ∧
  (∀ (k : Fin 16) (lost : BitVec 32) (e : Int) (s : State), s.blk.live = true → s.blk.clkLocked 1 = true → (s.blk.lnk bJRX k.val).step = 4 →
    (s.blk.lnk bJRX k.val).epoch = some e → (s.blk.lnk bJRX k.val).everReleased = true → (s.blk.lnk bJRX k.val).changed = true →
    exec (.jrxReRelease k lost) s = .next (s.finish (
      let x := s.blk.lnk bJRX k.val
      let b := s.start.pf K.JRX_STATUS k.val 9 9 1
      let b := b.pv K.JRX_LATENCY k.val (b.latencyAt k.val x.delay % 2 ^ 32)
      let b := b.incSat K.JRX_GAP_SAMPLES k.val lost.toNat
      let b := b.raise (707 + 4 * k.val) (beBytes 4 (s.blk.val (ki K.JRX_LATENCY k.val)) ++ beBytes 4 (b.val (ki K.JRX_LATENCY k.val)) ++
        beBytes 4 (uns 32 x.shift))
      let b := b.setLnk bJRX k.val { x with step := 0, lost := none, changed := false, shift := 0 }
      let b := b.raise (704 + 4 * k.val) (b.jrxUpPayload k.val)
      (b.lanesOfLink k.val).foldl (fun b i => if (b.lane i).running then (b.linkChange i (b.lnSource i) 0).calAbort i else b) b))) ∧
  (∀ (t : Fin 4) (e : Int) (s : State), s.blk.live = true → (s.blk.lnk bJTX t.val).step ≠ 0 → (s.blk.lnk bJTX t.val).epoch = some e →
    s.blk.life bJTX t.val = lStarting →
    exec (.jtxUp t) s = .next (s.finish (
      let b := s.start.setVal (mkKey bJTX t.val 0x20) (s.blk.allLanes bJTX t.val + 2 ^ 8 + 2 ^ 9)
      let b := b.setVal (mkKey bJTX t.val 0x21) (Config.jtxLatency t.val).toNat
      (b.setLnk bJTX t.val { s.blk.lnk bJTX t.val with step := 0, everReleased := true }).raise (768 + 2 * t.val)
        (beBytes 4 (Config.jtxLatency t.val).toNat)))) ∧
  (∀ (t : Fin 4) (s : State), s.blk.live = true → s.blk.lkIsB bJTX t.val = true → (s.blk.lnk bJTX t.val).everReleased = true →
    s.blk.isOn bJTX t.val = true → (s.blk.lnk bJTX t.val).resync = false →
    exec (.jtxSyncLoss t) s = .next (s.finish (
      ((s.start.setVal (mkKey bJTX t.val 0x20) (setBits (s.blk.val (mkKey bJTX t.val 0x20)) 9 9 0)).setLnk bJTX t.val
        { s.blk.lnk bJTX t.val with resync := true }).raise (769 + 2 * t.val) (beBytes 1 rHeader)))) ∧
  (∀ (t : Fin 4) (s : State), s.blk.live = true → (s.blk.lnk bJTX t.val).resync = true →
    exec (.jtxResynchronisation t) s = .next (s.finish (
      (s.start.setVal (mkKey bJTX t.val 0x20) (setBits (s.blk.val (mkKey bJTX t.val 0x20)) 9 9 1)).setLnk bJTX t.val
        { s.blk.lnk bJTX t.val with resync := false }))) ∧
  (∀ (j : Fin 8) (rx : Word) (s : State), s.blk.live = true → s.blk.f K.JRX_SPI_STAT (0x40 + j.val) 0 0 = 1 → (tget {} s.blk.spi j.val).core = none →
    exec (.spiDone j rx) s = .next (s.finish (
      let x := tget {} s.blk.spi j.val
      ((s.start.pf K.JRX_SPI_STAT (0x40 + j.val) 0 0 0).pv K.JRX_SPI_RX (0x40 + j.val) (rx.toNat % 2 ^ x.len)).raise (776 + j.val / 2)
        (beBytes 1 j.val ++ beBytes 1 x.len ++ beBytes 8 (rx.toNat % 2 ^ x.len)))))

/-- In THAW or FLOW: the converter positions of a lane that numbers samples of its own and is STARTING or ON run through it one after the other, behind the positions without data that a link change or its start left, and each of its outputs is delivered; at the first core cycle of a beat a lane that waits for its source begins at that beat once the source has released, and its exports send their contexts; the oldest complete window of a view becomes a spectrum (its transform error free within R147's bound, log entry 14), which advances SPECTRA and, by its flags, UNSETTLED, GAPS, OVERRANGE and LATE, and reaches masks, planes, traces, writers, streams and taps; the oldest trace period that has ended becomes the unit's latest trace, advances TRC_SEQ and writes TRC_LAST_BEAT. Each completes: laneOutputSample, laneStartAfterRelease, spectrumDelivered, tracePeriodEnd. (R108, R126, R127, R139, R150, R151, R158, R161, R163) -/
def Obligations.LanesAndViewsDeliver : Prop :=
  (∀ (i : Fin 32) (raws : List RawSample) (late : Bool) (s : State), s.blk.live = true → (s.blk.lane i.val).running = true →
    s.blk.importOf i.val = none → (s.blk.life bLANE i.val = lStarting ∨ s.blk.life bLANE i.val = lOn) →
    exec (.laneOutputSample i raws late) s = .next (s.finish (
      raws.foldl (fun b r => Block.laneOne s.mem b i.val r late)
        (Block.laneFill (fun b o => Block.laneDeliver s.mem b i.val late o) s.start i.val)))) ∧
  (∀ (i : Fin 32) (s : State), s.blk.live = true → s.blk.cycle = 0 → (s.blk.lane i.val).waitRelease = true → s.blk.lnReleased i.val = true →
    exec (.laneStartAfterRelease i) s = .next (s.finish ((s.start.lnBegin i.val s.blk.beat).expReanchor i.val))) ∧
  (∀ (j : BitVec 7) (late : Bool) (w : Window) (rest : List Window) (s : State), s.blk.live = true → (s.blk.view j.toNat).ready = w :: rest →
    exec (.spectrumDelivered j late) s = .next (s.finish (
      let sp := s.blk.transform j.toNat w late
      let one (b : Block) (k i : Nat) : Block := if bit sp.flags i then b.inc k j.toNat 1 else b
      let b := (s.start.setView j.toNat { s.blk.view j.toNat with ready := rest, delivered := true }).tick
      let b := one (one (one (one (b.inc K.XFM_SPECTRA j.toNat 1) K.XFM_UNSETTLED 0) K.XFM_GAPS 1) K.XFM_OVERRANGE 2) K.XFM_LATE 3
      let r := b.fmaskAll sp
      let b := r.2.2.foldl (fun b v => b.tapVerdict sp.q v) (Block.acting s.mem (r.1, r.2.1))
      let b := Block.acting s.mem (b.plTakeAll sp)
      let b := (List.range 32).foldl (fun b t => b.trcTake t sp) b
      ((b.capView sp).strSpectrum sp).tapSpectrum sp))) ∧
  (∀ (t : Fin 32) (p : Period) (s : State), s.blk.live = true → (s.blk.trc t.val).periods.find? (fun p => decide (p.stop ≤ s.blk.beat)) = some p →
    exec (.tracePeriodEnd t) s = .next (s.finish (
      let r := s.blk.trcClose t.val (s.blk.trc t.val) p
      let b := ((s.start.setTrc t.val { r.2 with latest := some r.1 }).inc K.XFM_TRC_SEQ (trcInst t.val) 1).pv K.XFM_TRC_LAST_BEAT (trcInst t.val) r.1.start
      (((b.spgTake r.1).capTrace r.1).strTrace r.1).tapTrace r.1)))

/-- In THAW or FLOW: every edge on TRIG_IN[k] sets its level and the TRIG_OUT pins in PASS that follow it, and, unless it falls into the dead time, its stamp reaches the EXT units of the pin; an accepted edge on TIU_IN[k] reaches the measurements and the TIU units; a trigger report that arrives on a Plait port that is UP and has not been seen is remembered, passed on to the other ports and given to the PLAIT units of its channel, and one already seen does nothing more; an armed TIME unit takes its next instant. The fires of the core cycle act together. Each completes: trigInEdge, tiuInEdge, plaitReportArrival, triggerTimeInstant. (R181, R182, R191, R192, R405, R452, R456) -/
def Obligations.TriggerInputsFire : Prop :=
  (∀ (k : Fin 8) (rising : Bool) (code : BitVec 16) (late : Bool) (s : State), s.blk.live = true →
    exec (.trigInEdge k rising code late) s = .next (s.finish (Block.acting s.mem (
      let b := (s.start.pf K.TRG_IN_LEVEL (0x30 + k.val) 0 0 (b2n rising)).passPins k.val rising
      let r := b.tiuStamp (8 + k.val) code.toNat
      let a := r.1.tiuAccept (8 + k.val) r.2.1
      if a.2 then a.1.edgeAll 5 k.val rising r.2.1 a.1.quality late else (a.1, []))))) ∧
  (∀ (k : Fin 8) (rising : Bool) (code : BitVec 16) (late : Bool) (s : State), s.blk.live = true →
    exec (.tiuInEdge k rising code late) s = .next (s.finish (Block.acting s.mem (
      let r := s.start.tiuStamp k.val code.toNat
      let a := r.1.tiuAccept k.val r.2.1
      if a.2 then (a.1.tiuEdge k.val rising r.2.1 r.2.2).edgeAll 6 k.val rising r.2.1 a.1.quality late else (a.1, []))))) ∧
  (∀ (p : Fin 4) (ch : BitVec 6) (node : BitVec 18) (unit : BitVec 8) (seq : BitVec 32) (tp : Stamp) (s : State), s.blk.live = true →
    s.blk.portHears p.val = true → s.blk.plt.seen.contains (node.toNat, unit.toNat, seq.toNat) = false →
    exec (.plaitReportArrival p ch node unit seq tp false) s = .next (s.finish (Block.acting s.mem (
      let t : Fysiva := ⟨tp.sec.toNat, tp.ns.toNat, tp.frac.toNat, tp.quality.toNat⟩
      ((s.start.setPlt { s.blk.plt with seen := ((node.toNat, unit.toNat, seq.toNat) :: s.blk.plt.seen).take 256 }).pltFlood p.val 4
        (sentReport ch.toNat node.toNat unit.toNat seq.toNat t)).plaitAll ch.toNat t false)))) ∧
  (∀ (p : Fin 4) (ch : BitVec 6) (node : BitVec 18) (unit : BitVec 8) (seq : BitVec 32) (tp : Stamp) (s : State), s.blk.live = true →
    s.blk.portHears p.val = true → s.blk.plt.seen.contains (node.toNat, unit.toNat, seq.toNat) = true →
    exec (.plaitReportArrival p ch node unit seq tp true) s = .next (s.finish (
      (s.start.inc K.PLT_CRC_ERR (pltPort p.val) 1).inc K.PLT_REPLAYS (pltPort p.val) 1))) ∧
  (∀ (u : Fin 16) (late : Bool) (a : Arm) (s : State), s.blk.live = true → s.blk.tgSource u.val = 8 → s.blk.trg u.val = { arm := some a, drains := [] } →
    a.cfg = [] →
    exec (.triggerTimeInstant u late) s = .next (s.finish (Block.acting s.mem (
      let r := s.start.timeStep u.val a (late && s.blk.lateSpan)
      ((r.1.setTrg u.val { arm := r.2.1, drains := [] }).trgShow u.val, r.2.2)))))

/-- In THAW or FLOW: of a unit whose source is a pin, a report or a time, every draining interval ends with EV_TRG_DISARMED once its last edge has been seen; the pulse of TRIG_OUT[k] that has run its width is released; the earliest TIMED pulse whose instant lies in the beat in progress or before begins at its instant, and its width runs from there. Each completes: triggerDrainEnd, trigOutPulseEnd, trigOutTimedPulse. (R169, R192, R195) -/
def Obligations.TriggerDrainsAndPulses : Prop :=
  (∀ (u : Fin 16) (s : State), s.blk.live = true → s.blk.tgInstants u.val = true → (∀ a ∈ (s.blk.trg u.val).drains, a.cfg = []) →
    exec (.triggerDrainEnd u) s = .next (s.finish (
      (s.blk.trg u.val).drains.foldl (fun b a => b.trgEnded u.val a) ((s.start.setTrg u.val { s.blk.trg u.val with drains := [] }).trgShow u.val)))) ∧
  (∀ (k : Fin 8) (s : State), s.blk.live = true → (s.blk.outPin k.val).on = true → s.blk.f K.TRG_OUT_CFG (0x20 + k.val) 1 0 ≠ 2 →
    (s.blk.outPin k.val).stop ≤ s.blk.ticks * 625 →
    exec (.trigOutPulseEnd k) s = .next (s.finish (({ s.start with outPins := tset s.blk.outPins k.val { s.blk.outPin k.val with on := false } }).send
      (.pin "TRIG_OUT" k.val (s.blk.f K.TRG_OUT_CFG (0x20 + k.val) 2 2 == 1) 0)))) ∧
  (∀ (k : Fin 8) (t : Int) (r : List Int) (s : State), s.blk.live = true → (s.blk.outPin k.val).pend = t :: r →
    r.foldl min t < ((s.blk.beat + 1) * 1280000 * 65536 : Nat) →
    exec (.trigOutTimedPulse k) s = .next (s.finish (
      let t' := r.foldl min t
      ({ s.start with outPins := tset s.blk.outPins k.val { s.blk.outPin k.val with pend := (t :: r).erase t' } }).pulseOut k.val
        (some (rndEven (t' - (s.blk.beat * 1280000 * 65536 : Nat)) 655360 * 10)))))

/-- In THAW or FLOW: the FIFO share of writer w drains at 32 bytes a core cycle (that of a writer without a ring holds its packed samples) and stops discarding once it holds at most half; a STREAM_THROUGH writer with a backlog writes the records that wait while there is space and then, arm by arm, ends as it had to; the evidence chain first in order is written as an EVIDENCE record over the record hashes, the writer goes IDLE and EV_CAP_EVIDENCE follows; a replay source that is STARTING is ON once its first samples are buffered, and from a decompressor it starts at the index of its first block. Each completes: captureFifoResume, captureStreamResume, replayBuffered, evidenceComplete. (R209, R220, R222, R225) -/
def Obligations.CaptureFifoAndEvidence : Prop :=
  (∀ (w : Fin 32) (s : State), s.blk.live = true →
    exec (.captureFifoResume w) s = .next (s.finish (
      let x := s.blk.cap w.val
      let fill := if s.blk.cpDirect w.val then (x.pass.map (·.length)).foldl (· + ·) (x.blk.length * packBytes (s.blk.cpPack w.val))
        else x.fill - 32 * (s.blk.ticks - x.fillAt)
      s.start.setCap w.val { x with fill := fill, fillAt := s.blk.ticks, ovf := x.ovf && decide (262144 < fill) }))) ∧
  (∀ (w : Fin 32) (s : State), s.blk.live = true → s.blk.cpMode w.val = 4 → ((s.blk.cap w.val).backlog = true ∨ (s.blk.cap w.val).ending.isSome = true) →
    exec (.captureStreamResume w) s = .next (s.finish (
      let x := s.blk.cap w.val
      let r := x.drafts.foldl (fun (a : Block × List Draft) d =>
        if a.2.isEmpty then (if (a.1.cpPut w.val d false).2 then ((a.1.cpPut w.val d false).1, []) else (a.1, [d])) else (a.1, a.2 ++ [d]))
        (s.start.setCap w.val { x with drafts := [] }, [])
      let y := { r.1.cap w.val with drafts := r.2 }
      let free := r.1.cpBytes w.val - usedBytes y.recs
      let b := r.1.setCap w.val { y with backlog := !(r.2.isEmpty && decide (r.1.unitBytes w.val + 512 ≤ free)) }
      if r.2.isEmpty then (b.onTails w.val (fun b => b.cpEnded w.val)).cpEnded w.val else b))) ∧
  (∀ (w first last : Nat) (rest : List Nat) (s : State), s.blk.live = true → s.blk.evidence = w :: rest → (s.blk.cap w).evid = some (first, last) →
    exec .evidenceComplete s = .next (s.finish (
      let fp := (List.range 48).map (fun k => Config.deviceFingerprint k)
      let b := { s.start with evidence := rest }
      let recs := (s.blk.cap w).recs.filter (fun r => decide (first ≤ r.seq) && decide (r.seq ≤ last))
      let h := recs.foldl (fun h r => sha384 (h ++ b.ringRead s.mem w r.off r.len))
        (sha384 (fp ++ beBytes 4 (s.blk.val (ki K.CAP_ARM_SEQ w)) ++ beBytes 1 w))
      let t := s.blk.now.bytes
      let sig := (List.range 96).map (fun k => Config.identitySignature (beNat (sha384 (h ++ beBytes 8 first ++ beBytes 8 last ++ t ++ fp))) k)
      let c := (b.cpPut w { type := 0x1E, count := recs.length, index := first, body := beBytes 8 last ++ t ++ zeros 12 ++ h ++ sig ++ fp } true).1
      ((c.setCap w { c.cap w with evid := none }).setCpState w 0).raise 673 (beBytes 1 w ++ zeros 7 ++ beBytes 8 (s.blk.val (ki K.CAP_NEXT_SEQ w)))))) ∧
  (∀ (r : Fin 16) (s : State), s.blk.live = true → s.blk.life bCAP (0x20 + r.val) = lStarting → s.blk.f K.CAP_RPL_SRC (0x20 + r.val) 5 5 = 0 →
    exec (.replayBuffered r) s = .next (s.finish ((s.start.setLife bCAP (0x20 + r.val) lOn).setRplState r.val 2))) ∧
  (∀ (r : Fin 16) (d : DecRun) (rest : List DecRun) (s : State), s.blk.live = true → s.blk.life bCAP (0x20 + r.val) = lStarting →
    s.blk.f K.CAP_RPL_SRC (0x20 + r.val) 5 5 = 1 → (s.blk.dec (s.blk.f K.CAP_RPL_SRC (0x20 + r.val) 6 6)).out = d :: rest →
    exec (.replayBuffered r) s = .next (s.finish (
      ((s.start.setLife bCAP (0x20 + r.val) lOn).setRplState r.val 2).pv K.CAP_RPL_FIRST (0x20 + r.val) d.first)))

/-- In THAW or FLOW: the ports' FIFO levels are taken first, new requests wake the pseudo-channel, and a pause that it owes starts where it may; then a pseudo-channel in service that no wake, pause or burst holds queues the new requests with their time of arrival and serves the candidate of the lowest rank, the oldest within it, whose row is open afterwards, with neighbour refreshes when its bank had another row open; with nothing queued, or once the debt has reached 8, or 4 in the doubled region, a refresh that falls due is issued, closes the rows and takes 350 ns; with a queue and less debt it is postponed. Each completes: hbmRequest, refreshTick. (R235, R236, R237, R240) -/
def Obligations.HbmServesByRankAndRefreshes : Prop :=
  (∀ (p : Fin 128) (asks : List HbmAsk) (levels : List (Fin 10 × BitVec 21)) (draw : Word) (r : HbmReq) (a b : Block) (x : Pc) (s : State), s.blk.live = true →
    a = levels.foldl (fun b l => b.portLevel (32 + l.1.val) l.2.toNat (b.portOn (32 + l.1.val))) s.start.writerLevels →
    a.inService p.val = true → b = (if asks.isEmpty then a else (a.pcWake p.val).pauseOwed p.val) →
    x = { b.pc p.val with
      queue := (b.pc p.val).queue ++ asks.map (fun a => ⟨a.port.map (·.val), a.slot.toNat, a.line.val, a.write, b.ticks⟩)
      touched := (b.pc p.val).touched || !asks.isEmpty } →
    max x.readyAt (max x.pauseEnd x.burstEnd) ≤ b.ticks → (b.setPc p.val x).hbmPick x = some r →
    exec (.hbmRequest p asks levels draw) s = .next (s.finish (
      let b := b.setPc p.val x
      let c := (b.send (.hbm p.val (b.hbmRank x r) r.slot r.line r.write)).setPc p.val
        { x with queue := x.queue.erase r, open' := tset x.open' (r.slot % 48) (r.slot / 48) }
      if tfind x.open' (r.slot % 48) = some (r.slot / 48) then c else c.neighbours p.val (r.slot / 48) draw.toNat))) ∧
  (∀ (p : Fin 128) (b : Block) (s : State), s.blk.live = true → s.blk.inService p.val = true → s.blk.pcState p.val ≠ 2 →
    b = s.start.pauseOwed p.val → ((b.pc p.val).queue = [] ∨ (if b.doubled p.val then 4 else 8) ≤ b.debt p.val) →
    exec (.refreshTick p) s = .next (s.finish (b.setPc p.val { b.pc p.val with
      open' := []
      readyAt := max (b.pc p.val).readyAt (s.blk.ticks + 560)
      refreshEnd := max (b.pc p.val).readyAt (s.blk.ticks + 560) }))) ∧
  (∀ (p : Fin 128) (b : Block) (s : State), s.blk.live = true → s.blk.inService p.val = true → s.blk.pcState p.val ≠ 2 →
    b = s.start.pauseOwed p.val → (b.pc p.val).queue ≠ [] → b.debt p.val < (if b.doubled p.val then 4 else 8) →
    exec (.refreshTick p) s = .next (s.finish (b.setDebt p.val (b.debt p.val + 1))))

/-- In THAW or FLOW: a reading above 85.0 C in the normal region runs the debt bursts of the stack, sets the doubled region, counts in HOT_ENTRIES and raises EV_MEM_HOT; the second reading in a row at or below 83.0 C leaves the doubled region with EV_MEM_COOL; a training slot of an awake pseudo-channel in service, with no burst in progress nor ended within 2 us and no other of its stack paused, pauses it for 960 core cycles and records the beat when a setting is found, or counts TRAIN_FAIL and raises its event; else the pause is owed; parity errors count in LANE_ERR, and a write that has failed all four attempts counts in LINE_FAIL and leaves free data (log entry 23) in its line; a lane repair in a slot where a pause may start takes a spare and raises EV_MEM_LANE_REPAIR; at the first core cycle of a beat a retirement that was decided before it takes the pseudo-channel out of service. Each completes: stackTempReading, retrainSlot, transferParityError, laneRepair, pcRetirement. (R238, R239, R241, R242, R243) -/
def Obligations.HbmTemperatureTrainingAndFailures : Prop :=
  (∀ (k : Fin 4) (temp : BitVec 16) (s : State), s.blk.live = true → s.blk.f K.MEM_TEMP (stackInst k.val) 16 16 = 0 → 1360 < temp.toInt → temp.toInt ≤ 1680 →
    exec (.stackTempReading k temp) s = .next (s.finish (
      let b := s.start.pf K.MEM_TEMP (stackInst k.val) 15 0 (uns 16 temp.toInt)
      let pcs := (List.range 32).map (fun j => 32 * k.val + j)
      let d := pcs.foldl (fun a p => if b.inService p then max a (b.debt p) else a) 0
      let b := (((pcs.foldl Block.debtBurst b).pf K.MEM_TEMP (stackInst k.val) 16 16 1).inc K.MEM_HOT_ENTRIES (stackInst k.val) 1).raise 675
        (beBytes 1 k.val ++ zeros 1 ++ beBytes 2 (uns 16 temp.toInt) ++ beBytes 1 d)
      let b := { b with coolOnce := tset b.coolOnce k.val false }
      b.setSys { b.sys with stackHot := b.sys.stackHot.filter (· != k.val) }))) ∧
  (∀ (k : Fin 4) (temp : BitVec 16) (s : State), s.blk.live = true → s.blk.f K.MEM_TEMP (stackInst k.val) 16 16 = 1 → temp.toInt ≤ 1328 →
    tget false s.blk.coolOnce k.val = true →
    exec (.stackTempReading k temp) s = .next (s.finish (
      let b := ((s.start.pf K.MEM_TEMP (stackInst k.val) 15 0 (uns 16 temp.toInt)).pf K.MEM_TEMP (stackInst k.val) 16 16 0).raise 676
        (beBytes 1 k.val ++ zeros 1 ++ beBytes 2 (uns 16 temp.toInt))
      let b := { b with coolOnce := tset b.coolOnce k.val false }
      b.setSys { b.sys with stackHot := b.sys.stackHot.filter (· != k.val) }))) ∧
  (∀ (p : Fin 128) (found : Bool) (s : State), s.blk.live = true → s.blk.inService p.val = true → s.blk.pauseFree p.val = false →
    exec (.retrainSlot p found) s = .next (s.finish (s.start.setPc p.val { s.blk.pc p.val with pauseOwed := some found }))) ∧
  (∀ (p : Fin 128) (found : Bool) (s : State), s.blk.live = true → s.blk.inService p.val = true → s.blk.pcState p.val = 0 →
    ((s.blk.pc p.val).burstEnd = 0 ∨ (s.blk.pc p.val).burstEnd + 3200 ≤ s.blk.ticks) →
    (∀ k < 32, (s.blk.pc (32 * (p.val / 32) + k)).pauseEnd ≤ s.blk.ticks) →
    exec (.retrainSlot p found) s = .next (s.finish (
      let b := s.start.setPc p.val
        { s.blk.pc p.val with pauseEnd := max s.blk.ticks (s.blk.pc p.val).readyAt + 960, pauseOwed := none }
      if found then b.pv K.MEM_TRAIN_LAST_BEAT (pcInst p.val) s.blk.beat
      else (b.inc K.MEM_TRAIN_FAIL (pcInst p.val) 1).raise 677 (beBytes 1 p.val)))) ∧
  (∀ (p : Fin 128) (lane : BitVec 8) (more : Fin 4) (slot : BitVec 21) (line : Fin 16) (write : Bool) (s : State), s.blk.live = true →
    s.blk.inService p.val = true →
    exec (.transferParityError p lane more slot line write) s = .next (s.finish (
      let x := s.blk.pc p.val
      let errs := (x.errs.filter (fun e => decide (s.blk.ticks - 1600000 ≤ e.2))) ++ List.replicate (more.val + 1) (lane.toNat, s.blk.ticks)
      let b := (s.start.inc K.MEM_LANE_ERR (pcInst p.val) (more.val + 1)).setPc p.val { x with errs := errs }
      let failed := decide (more.val = 3)
      let b := if failed then b.inc K.MEM_LINE_FAIL (pcInst p.val) 1 else b
      let b := if failed ∧ write then
          (b.stBytes (spHbm (physical p.val slot.toNat line.val)) ((List.range 64).map (fun k => Config.failedLine b.fresh k))).tick
        else b
      if failed ∨ b.f K.MEM_ERR_LIMIT 0 7 0 < (errs.filter (fun e => e.1 == lane.toNat)).length then b.ladder p.val lane.toNat else b))) ∧
  (∀ (p : Fin 128) (lane : Nat) (s : State), s.blk.live = true → (s.blk.pc p.val).repair = some lane → s.blk.pauseFree p.val = true →
    exec (.laneRepair p) s = .next (s.finish (
      let sp := s.blk.spares p.val - 1
      ((s.start.pf K.MEM_PC_STATE (pcInst p.val) 8 7 sp).setPc p.val { s.blk.pc p.val with
        repair := none
        errs := (s.blk.pc p.val).errs.filter (fun e => e.1 != lane)
        pauseEnd := s.blk.ticks + 960 }).raise 678 (beBytes 1 p.val ++ beBytes 1 lane ++ beBytes 1 sp)))) ∧
  (∀ (p : Fin 128) (t : Nat) (s : State), s.blk.live = true → s.blk.cycle = 0 → (s.blk.pc p.val).retire = some t → t < s.blk.ticks →
    exec (.pcRetirement p) s = .next (s.finish (
      let b := s.start.retirePc p.val
      let b := (List.range 32).foldl (fun b w => b.capRetire w p.val) b
      ((List.range 16).foldl Block.spgRetire b).poolRetire.stmRetire)))

/-- In THAW or FLOW: the close pass of a plane with a closed frame writes its image and dump, advances FRAME_SEQ, stores WEIGHT, lets the DENSITY units act and carries the decayed cells over; the oldest trace of a spectrogram plane is stored as a line at its place of the ring, LINE_SEQ and VALID_FROM advance; a tick of a compositor that is not OFF, at its instant and once, takes the FRAME values and composes into a free frame buffer that is in service, or counts in COMP_SKIPPED when none is free; a complete composition becomes the latest frame and advances COMP_SEQ; a buffer that nothing references takes its waiting BUF_CFG with EV_DISP_BUF_RELEASED. Each completes: densityClosePassEnd, spectrogramLineComplete, bufReleased, compositeTick, compositeComplete. (R253, R254, R260, R262, R263, R266, R267, R281) -/
def Obligations.PlanesAndCompositor : Prop :=
  (∀ (p : Fin 16) (late : Bool) (c : Closing) (s : State), s.blk.live = true → (s.blk.plane p.val).closing = some c →
    exec (.densityClosePassEnd p late) s = .next (s.finish (Block.acting s.mem (
      let x := s.blk.plane p.val
      let mode := s.blk.plAt K.DEN_DECAY p.val c.stop 1 0
      let dec (n : Nat) : Nat := decayed mode (s.blk.plAt K.DEN_DECAY p.val c.stop 6 2) (s.blk.plAt K.DEN_DECAY p.val c.stop 31 16) n
      let w := satCount (x.wDecayed + c.incl)
      let sat := x.sat || (mode == 0 && w == 16777215)
      let b := (s.start.plWrite p.val c w sat).inc K.DEN_SAT_CELLS p.val (x.closed.filter (fun e => e.2 == 16777215)).length
      let b := b.pf K.DEN_WEIGHT p.val 23 0 w
      let b := b.pv K.DEN_FRAME_SEQ p.val (b.val (ki K.DEN_FRAME_SEQ p.val) + 1)
      let r := b.denAll p.val c w x.closed (some late)
      let left := if c.cleared then [] else (x.closed.map (fun e => (e.1, dec e.2))).filter (fun e => e.2 != 0)
      let y := { r.1.plane p.val with closing := none, closed := [], sat := sat, wDecayed := if c.cleared then 0 else dec w }
      let y := if x.stopAt = some c.stop then { y with finished := true }
        else if c.stop < x.start then { y with closed := left, closing := some ⟨c.stop, r.1.frameEnd p.val c.stop x, false, 0, 0, none, false⟩ }
        else { y with count := left.foldl (fun t e => tupd 0 t e.1 (fun n => satCount (n + e.2))) y.count }
      (r.1.setPlane p.val y, r.2))))) ∧
  (∀ (k : Fin 16) (t : Trace) (rest : List Trace) (s : State), s.blk.live = true → (s.blk.spg k.val).pend = t :: rest →
    exec (.spectrogramLineComplete k) s = .next (s.finish (
      let i := spgInst k.val
      let l := s.blk.f K.DEN_SPG_RING i 21 8 + 1
      let n := s.blk.val (ki K.DEN_LINE_SEQ i)
      let w := s.blk.f K.DEN_LINE_BYTES i 15 0
      let bytes := fixLen w (t.descriptor ++ beBytes 8 n ++ zeros 24 ++ ((if t.cols.isEmpty then t.pts else t.cols).map (fun v => beBytes 2 (uns 16 v))).flatten)
      let b := (s.start.hbmStores (s.blk.f K.DEN_BASE_ADDR i 47 0 + n % l * w) bytes).pv K.DEN_LINE_SEQ i (n + 1)
      let b := b.pv K.DEN_VALID_FROM i (max (b.val (ki K.DEN_VALID_FROM i)) (n + 1 - l))
      { b with spgs := tset b.spgs k.val { pend := rest } }))) ∧
  (∀ (k : Nat) (b : Block) (s : State), s.blk.live = true → s.blk.isOff bDEN compInst = false →
    s.blk.tickDue = true →
    b = { s.start.takeHeld bDEN compInst with comp := { s.blk.comp with tickAt := some s.blk.clock } } →
    b.comp.busy = none → b.compTarget = some k → b.bufOk k = true →
    exec .compositeTick s = .next (s.finish (
      let w := b.f K.DEN_COMP_OUT compInst 11 0
      let h := b.f K.DEN_COMP_OUT compInst 23 12
      let v := b.val (ki K.DEN_LAYERS compInst)
      let r1 := rect (b.val (ki K.DEN_L1_RECT compInst))
      let frame := ((List.range h).map (fun y => ((List.range w).map (fun x => beBytes 4 (b.composePixel s.mem x y))).flatten)).flatten
      let trace := ((List.range r1.2.2.2).map (fun y => ((List.range r1.2.2.1).map (fun x =>
        beBytes 4 (b.l1Pixel r1.2.2.1 r1.2.2.2 x y))).flatten)).flatten
      let c := { b with comp := { b.comp with busy := some ⟨k, b.layerBufs⟩ } }
      let c := if bit v 16 && c.bufIs (bits v 3 0) 0 r1.2.2.1 r1.2.2.2 then c.hbmStores (c.bufAddr (bits v 3 0)) trace else c
      c.hbmStores (c.bufAddr k) frame))) ∧
  (∀ s : State, s.blk.live = true → s.blk.isOff bDEN compInst = false →
    s.blk.tickDue = true →
    (s.blk.comp.busy.isSome = true ∨ (s.start.takeHeld bDEN compInst).compTarget = none) →
    exec .compositeTick s = .next (s.finish (({ s.start.takeHeld bDEN compInst with comp := { s.blk.comp with tickAt := some s.blk.clock } } : Block).inc K.DEN_COMP_SKIPPED compInst 1))) ∧
  (∀ (c : Composing) (s : State), s.blk.live = true → s.blk.comp.busy = some c →
    exec .compositeComplete s = .next (s.finish (
      (({ s.start with comp := { s.blk.comp with busy := none, latest := some c.fb } }).inc K.DEN_COMP_SEQ compInst 1).bufSettleAll))) ∧
  (∀ (k : Fin 16) (v : Nat) (s : State), s.blk.live = true → tfind s.blk.bufWait k.val = some v → s.blk.bufReferenced k.val = false →
    exec (.bufReleased k) s = .next (s.finish (
      (({ s.start with bufWait := tdel s.blk.bufWait k.val }).pv K.DEN_BUF_CFG (bufInst k.val) v).raise 903 (beBytes 1 k.val))))

/-- In THAW or FLOW: the vertical blanking of an output that is ON with its clock runs its frame boundary: FRAMES advances and, in no transition, the latest complete frame is latched and shown, each of its pixels at its place in the output's format without its alpha, and BORDER elsewhere; a TE_IN edge of the selected sense during a transfer counts in TE_MISSED; without an edge for TE_TIMEOUT ms the loss is reported once; the line buffer that runs empty counts in UNDERFLOW, shows BORDER for the rest of its line and is reported once a frame; the first frame of a new mode ends blanking with EV_DISP_MODE; a frame that has left its buffer retires, a waiting DSI packet goes out after a transfer, and deferred buffer changes come into force. Each completes: displayFrameBoundary, teInEdge, displayUnderflow, displayModeResume, frameRetire, teTimeout. (R272, R276, R277, R278, R279, R280, R283) -/
def Obligations.DisplayFramesAndTearing : Prop :=
  (∀ (o : Fin 2) (s : State), s.blk.live = true → s.blk.isOn bDEN (outInst o.val) = true → s.blk.outCmd o.val = false →
    (o.val = 1 → s.blk.outHpd 1 = true) → (s.blk.pll (outPll o.val)).down = false →
    exec (.displayFrameBoundary o) s = .next (s.finish (
      let i := outInst o.val
      let b := s.start.pv K.DEN_FRAMES i (s.blk.val (ki K.DEN_FRAMES i) + 1)
      let b := ((b.setOut o.val { b.out o.val with under := false, boundAt := b.ticks }).outStage o.val).sideFlush o.val
      match (b.out o.val).step with
      | 1 | 2 => b.setOut o.val { b.out o.val with blank := (b.out o.val).blank + 1 }
      | 3 => (b.setOut o.val { b.out o.val with step := 0, first := true, blank := (b.out o.val).blank + 1 }).outLatch s.mem o.val
      | _ => (b.setOut o.val { b.out o.val with first := true }).outLatch s.mem o.val))) ∧
  (∀ (o : Fin 2) (k : Nat) (s : State), s.blk.live = true → s.blk.isOn bDEN (outInst o.val) = true → s.blk.outCmd o.val = false →
    (o.val = 1 → s.blk.outHpd 1 = true) → (s.blk.pll (outPll o.val)).down = false → s.blk.heldFor bDEN (outInst o.val) = [] →
    (s.blk.out o.val).side = none → (s.blk.out o.val).step = 0 → s.blk.comp.latest = some k → s.blk.bufOk k = true → s.blk.bufWait = [] →
    exec (.displayFrameBoundary o) s = .next (s.finish (
      let i := outInst o.val
      let seq := s.blk.val (ki K.DEN_COMP_SEQ compInst)
      let f (key hi lo : Nat) : Nat := s.blk.f key i hi lo
      let w := s.blk.f K.DEN_COMP_OUT compInst 11 0
      let h := s.blk.f K.DEN_COMP_OUT compInst 23 12
      let x0 := (f K.DEN_H_TIMING 11 0 - w) / 2
      let y0 := (f K.DEN_V_TIMING 11 0 - h) / 2
      let fmt := f K.DEN_OUT_CFG 1 1
      let byte (c : Nat) : Nat := min 255 (rndEven c 4).toNat
      let shown (q : Nat) : Nat := if fmt = 1 then q % 2 ^ 30
        else byte (bits q 29 20) * 2 ^ 16 + byte (bits q 19 10) * 2 ^ 8 + byte (bits q 9 0)
      let pixel (x y : Nat) : Nat := if x0 ≤ x ∧ x < x0 + w ∧ y0 ≤ y ∧ y < y0 + h then shown (s.blk.bufPixel s.mem k (x - x0) (y - y0))
        else shown (f K.DEN_BORDER 29 0)
      let b := s.start.pv K.DEN_FRAMES i (s.blk.val (ki K.DEN_FRAMES i) + 1)
      let b := b.setOut o.val { b.out o.val with under := false, boundAt := b.ticks, first := true }
      let b := if (s.blk.out o.val).latched = some (k, seq) then b.inc K.DEN_REPEATS i 1 else b
      let b := (b.setOut o.val { b.out o.val with latched := some (k, seq), refs := true }).pv K.DEN_LATCHED_SEQ i seq
      b.send (.scan o.val fmt ((List.range (f K.DEN_V_TIMING 11 0)).map (fun y =>
        (List.range (f K.DEN_H_TIMING 11 0)).map (fun x => pixel x y))))))) ∧
  (∀ (rising : Bool) (s : State), s.blk.live = true → s.blk.isOff bDEN 0x80 = false → s.blk.outCmd 0 = true →
    ((s.blk.f K.DEN_TE_CFG 0x80 0 0 = 0) = rising) → (s.blk.out 0).transfer = true →
    exec (.teInEdge rising) s = .next (s.finish (
      (s.start.setOut 0 { s.blk.out 0 with teAt := s.blk.ticks, teOut := false }).inc K.DEN_TE_MISSED 0x80 1))) ∧
  (∀ s : State, s.blk.live = true → s.blk.isOff bDEN 0x80 = false → s.blk.outCmd 0 = true → (s.blk.out 0).teOut = false →
    (s.blk.out 0).teAt + 1600 * (1000 * s.blk.f K.DEN_TE_CFG 0x80 11 2) ≤ s.blk.ticks →
    exec .teTimeout s = .next (s.finish ((s.start.setOut 0 { s.blk.out 0 with teOut := true }).linkEvent 0 6))) ∧
  (∀ (o : Fin 2) (line : BitVec 12) (s : State), s.blk.live = true → s.blk.isOff bDEN (outInst o.val) = false →
    exec (.displayUnderflow o line) s = .next (s.finish (
      let b := (s.start.inc K.DEN_UNDERFLOW (outInst o.val) 1).send (.scanBorder o.val line.toNat (s.blk.borderPixel o.val))
      if (s.blk.out o.val).under then b
      else (b.setOut o.val { s.blk.out o.val with under := true }).raise (896 + 8 * o.val + 2)
        (beBytes 8 (b.val (ki K.DEN_FRAMES (outInst o.val))) ++ beBytes 2 line.toNat)))) ∧
  (∀ (o : Fin 2) (s : State), s.blk.live = true → (s.blk.out o.val).resume = true → (s.blk.out o.val).step = 0 →
    exec (.displayModeResume o) s = .next (s.finish (
      ((s.start.setOut o.val { s.blk.out o.val with resume := false, blank := 0 }).setBlanking o.val false).raise (896 + 8 * o.val + 1)
        (beBytes 8 (s.blk.val (ki K.DEN_FRAMES (outInst o.val))) ++ beBytes 1 (s.blk.out o.val).blank)))) ∧
  (∀ (o : Fin 2) (s : State), s.blk.live = true →
    exec (.frameRetire o) s = .next (s.finish (
      let b := (s.start.setOut o.val { s.blk.out o.val with refs := false, transfer := false }).bufSettleAll
      if (s.blk.out o.val).transfer then b.sideFlush o.val else b)))

/-- In THAW or FLOW, with output 1 not OFF: training that ends well puts the link up and, in a transition, sends the frame without pixels, or else leaves it FAILED, with EV_DISP_LINK; 100 ms after a failure the link trains again; a rising HPD retrains unless the PLL still starts, a falling one takes the link down and drops the frame; an IRQ_HPD with HPD high is reported, and retrains a link that was up and is lost. A side-channel transaction that is on its way ends with its status bits, the data received in SIDE_RX and EV_DISP_CMD_DONE. Each completes: dpTrainingDone, hpdEdge, irqHpd, sideDone, dpTrainingRetry. (R285, R286) -/
def Obligations.DisplayPortAndSideChannel : Prop :=
  (∀ s : State, s.blk.live = true → s.blk.isOff bDEN 0x81 = false → s.blk.outLink 1 = 1 →
    exec (.dpTrainingDone true) s = .next (s.finish (
      let b := ((s.start.setOutLink 1 2).setOut 1 { s.blk.out 1 with step := if (s.blk.out 1).step = 2 then 3 else (s.blk.out 1).step }).linkEvent 1 3
      if (s.blk.out 1).step = 2 then b.send (.scanBlank 1) else b)) ∧
    exec (.dpTrainingDone false) s = .next (s.finish (
      ((s.start.setOutLink 1 3).setOut 1 { s.blk.out 1 with failAt := s.blk.ticks }).linkEvent 1 4))) ∧
  (∀ s : State, s.blk.live = true → s.blk.isOff bDEN 0x81 = false → s.blk.outLink 1 = 3 → (s.blk.out 1).failAt + 160000000 ≤ s.blk.ticks →
    exec .dpTrainingRetry s = .next (s.finish (s.start.setOutLink 1 1))) ∧
  (∀ s : State, s.blk.live = true → s.blk.isOff bDEN 0x81 = false → s.blk.outHpd 1 = false →
    exec (.hpdEdge true) s = .next (s.finish (
      let b := (s.start.pf K.DEN_STATUS 0x81 2 2 1).linkEvent 1 2
      if (s.blk.out 1).step = 1 then b else (b.setOutLink 1 1).setOut 1 { s.blk.out 1 with step := 2 }))) ∧
  (∀ s : State, s.blk.live = true → s.blk.isOff bDEN 0x81 = false → s.blk.outHpd 1 = true →
    exec (.hpdEdge false) s = .next (s.finish (
      ((((s.start.pf K.DEN_STATUS 0x81 2 2 0).setOutLink 1 0).setOut 1 { s.blk.out 1 with
        refs := false
        latched := none
        step := if (s.blk.out 1).step = 1 then 1 else 2 }).linkEvent 1 1).bufSettleAll))) ∧
  (∀ (lost : Bool) (s : State), s.blk.live = true → s.blk.isOff bDEN 0x81 = false → s.blk.outHpd 1 = true →
    exec (.irqHpd lost) s = .next (s.finish (
      let b := s.start.linkEvent 1 5
      if lost ∧ b.outLink 1 = 2 then (b.setOutLink 1 1).setOut 1 { b.out 1 with step := if (b.out 1).step = 1 then 1 else 2 } else b))) ∧
  (∀ (o : Fin 2) (rx : Word) (err timeout : Bool) (s : State), s.blk.live = true → s.blk.sideBusy o.val = true → (s.blk.out o.val).side = none →
    exec (.sideDone o rx err timeout) s = .next (s.finish (
      ((s.start.pf K.DEN_SIDE_STAT (outInst o.val) 2 0 (2 * b2n err + 4 * b2n timeout)).pv K.DEN_SIDE_RX (outInst o.val) rx.toNat).raise (896 + 8 * o.val + 4)
        (beBytes 1 (2 * b2n err + 4 * b2n timeout) ++ zeros 7 ++ beBytes 8 rx.toNat))))

/-- A core that is ON, not halted, not in WAITB and not held for an overrun, with a loaded legal word of the row at its program counter, in THAW or FLOW: the word adds, subtracts, negates, takes the magnitude, adds and subtracts as integers with carry and borrow, adds an immediate, and takes the maximum and minimum. Its results and flags enter flight as the row gives them, with the results and stores of its two moves (a PAR word), what is due lands, and the core goes on to the next word. Nothing else changes. Each completes: add, sub, neg, abs, max, min, iadd, isub, iaddi. (R293, R294, R297, R319, R327, R328, R330) -/
def Obligations.WeaverArithmeticWords : Prop :=
  (∀ (c : Fin 64) (w : Nat) (s : State), Issues s c w → wordOp w = some .add →
    exec (.add c) s = .next (s.finish (parAfter s c w (let u := s.blk.core c.val; dRes w (lanes2 48 u.cplx (fS w) (· + ·) (s1 u w) (s2 u w)))))) ∧
  (∀ (c : Fin 64) (w : Nat) (s : State), Issues s c w → wordOp w = some .sub →
    exec (.sub c) s = .next (s.finish (parAfter s c w (let u := s.blk.core c.val; dRes w (lanes2 48 u.cplx (fS w) (· - ·) (s1 u w) (s2 u w)))))) ∧
  (∀ (c : Fin 64) (w : Nat) (s : State), Issues s c w → wordOp w = some .neg →
    exec (.neg c) s = .next (s.finish (parAfter s c w (let u := s.blk.core c.val; dRes w (lanes1 48 u.cplx (fS w) (fun x => -x) (s1 u w)))))) ∧
  (∀ (c : Fin 64) (w : Nat) (s : State), Issues s c w → wordOp w = some .abs →
    exec (.abs c) s = .next (s.finish (parAfter s c w (let u := s.blk.core c.val; dRes w (lanes1 48 u.cplx (fS w) (fun x => (x.natAbs : Int)) (s1 u w)))))) ∧
  (∀ (c : Fin 64) (w : Nat) (s : State), Issues s c w → wordOp w = some .iadd →
    exec (.iadd c) s = .next (s.finish (parAfter s c w (let u := s.blk.core c.val
      let r := iaddOf (fS w) (s1 u w) (s2 u w)
      ⟨.d (fR1 w), r.1.1, 1⟩ :: ccRes r.2 1 :: stickyRes (fS w) r.1.2 1)))) ∧
  (∀ (c : Fin 64) (w : Nat) (s : State), Issues s c w → wordOp w = some .isub →
    exec (.isub c) s = .next (s.finish (parAfter s c w (let u := s.blk.core c.val
      let r := fit 48 (fS w) (sgn 48 (s1 u w) - sgn 48 (s2 u w)); let z := znvl 48 (fS w) r
      ⟨.d (fR1 w), r.1, 1⟩ :: ccRes ⟨z.mask + ccC, z.val + b2n (decide (s1 u w < s2 u w)) * ccC⟩ 1 :: stickyRes (fS w) r.2 1)))) ∧
  (∀ (c : Fin 64) (w : Nat) (s : State), Issues s c w → wordOp w = some .iaddi →
    exec (.iaddi c) s = .next (s.finish (immAfter s c w (let u := s.blk.core c.val
      let r := iaddOf (fS w) (u.dreg (fReg w)) (fV w)
      ⟨.d (fReg w), r.1.1, 1⟩ :: ccRes r.2 1 :: stickyRes (fS w) r.1.2 1)))) ∧
  (∀ (c : Fin 64) (w : Nat) (s : State), Issues s c w → wordOp w = some .max →
    exec (.max c) s = .next (s.finish (parAfter s c w (let u := s.blk.core c.val
      let t := decide (sgn 48 (s2 u w) > sgn 48 (s1 u w)); let v := if t then s2 u w else s1 u w
      [⟨.d (fR1 w), v, 1⟩, ccRes ⟨ccZ + ccN + ccC, znOf 48 v + b2n t * ccC⟩ 1])))) ∧
  (∀ (c : Fin 64) (w : Nat) (s : State), Issues s c w → wordOp w = some .min →
    exec (.min c) s = .next (s.finish (parAfter s c w (let u := s.blk.core c.val
      let t := decide (sgn 48 (s2 u w) < sgn 48 (s1 u w)); let v := if t then s2 u w else s1 u w
      [⟨.d (fR1 w), v, 1⟩, ccRes ⟨ccZ + ccN + ccC, znOf 48 v + b2n t * ccC⟩ 1]))))

/-- A core that is ON, not halted, not in WAITB and not held for an overrun, with a loaded legal word of the row at its program counter, in THAW or FLOW: the word combines bits, selects by a condition, compares without a result, and copies, swaps, conjugates or unpacks. Its results and flags enter flight as the row gives them, with the results and stores of its two moves (a PAR word), what is due lands, and the core goes on to the next word. Nothing else changes. Each completes: sel, cmp, tst, and, or, xor, not, mov, conj, swap, unpk, andi, ori, xori, cmpi. (R297, R319, R323, R326, R327, R328, R330) -/
def Obligations.WeaverLogicAndCompareWords : Prop :=
  (∀ (c : Fin 64) (w : Nat) (s : State), Issues s c w → wordOp w = some .and →
    exec (.and c) s = .next (s.finish (parAfter s c w (let u := s.blk.core c.val; dResZN w (Nat.land (s1 u w) (s2 u w)))))) ∧
  (∀ (c : Fin 64) (w : Nat) (s : State), Issues s c w → wordOp w = some .or →
    exec (.or c) s = .next (s.finish (parAfter s c w (let u := s.blk.core c.val; dResZN w (Nat.lor (s1 u w) (s2 u w)))))) ∧
  (∀ (c : Fin 64) (w : Nat) (s : State), Issues s c w → wordOp w = some .xor →
    exec (.xor c) s = .next (s.finish (parAfter s c w (let u := s.blk.core c.val; dResZN w (Nat.xor (s1 u w) (s2 u w)))))) ∧
  (∀ (c : Fin 64) (w : Nat) (s : State), Issues s c w → wordOp w = some .not →
    exec (.not c) s = .next (s.finish (parAfter s c w (let u := s.blk.core c.val; dResZN w (2 ^ 48 - 1 - s1 u w))))) ∧
  (∀ (c : Fin 64) (w : Nat) (s : State), Issues s c w → wordOp w = some .sel →
    exec (.sel c) s = .next (s.finish (parAfter s c w (let u := s.blk.core c.val; [⟨.d (fR1 w), if condHolds (bits w 39 36) u.cc.toNat then s1 u w else s2 u w, 1⟩])))) ∧
  (∀ (c : Fin 64) (w : Nat) (s : State), Issues s c w → wordOp w = some .cmp →
    exec (.cmp c) s = .next (s.finish (parAfter s c w (let u := s.blk.core c.val; [ccRes (cmpFlags (s1 u w) (s2 u w)) 1])))) ∧
  (∀ (c : Fin 64) (w : Nat) (s : State), Issues s c w → wordOp w = some .tst →
    exec (.tst c) s = .next (s.finish (parAfter s c w (let u := s.blk.core c.val; [ccRes ⟨31, znOf 48 (s1 u w)⟩ 1])))) ∧
  (∀ (c : Fin 64) (w : Nat) (s : State), Issues s c w → wordOp w = some .andi →
    exec (.andi c) s = .next (s.finish (immAfter s c w (let u := s.blk.core c.val; immRes w (Nat.land (u.dreg (fReg w)) (fV w)))))) ∧
  (∀ (c : Fin 64) (w : Nat) (s : State), Issues s c w → wordOp w = some .ori →
    exec (.ori c) s = .next (s.finish (immAfter s c w (let u := s.blk.core c.val; immRes w (Nat.lor (u.dreg (fReg w)) (fV w)))))) ∧
  (∀ (c : Fin 64) (w : Nat) (s : State), Issues s c w → wordOp w = some .xori →
    exec (.xori c) s = .next (s.finish (immAfter s c w (let u := s.blk.core c.val; immRes w (Nat.xor (u.dreg (fReg w)) (fV w)))))) ∧
  (∀ (c : Fin 64) (w : Nat) (s : State), Issues s c w → wordOp w = some .cmpi →
    exec (.cmpi c) s = .next (s.finish (immAfter s c w (let u := s.blk.core c.val; [ccRes (cmpFlags (u.dreg (fReg w)) (fV w)) 1])))) ∧
  (∀ (c : Fin 64) (w : Nat) (s : State), Issues s c w → wordOp w = some .mov →
    exec (.mov c) s = .next (s.finish (parAfter s c w (let u := s.blk.core c.val; [⟨.d (fR1 w), s1 u w, 1⟩])))) ∧
  (∀ (c : Fin 64) (w : Nat) (s : State), Issues s c w → wordOp w = some .swap →
    exec (.swap c) s = .next (s.finish (parAfter s c w (let u := s.blk.core c.val; [⟨.d (fR1 w), pair 24 (s1 u w % 2 ^ 24) (s1 u w / 2 ^ 24), 1⟩])))) ∧
  (∀ (c : Fin 64) (w : Nat) (s : State), Issues s c w → wordOp w = some .conj →
    exec (.conj c) s = .next (s.finish (parAfter s c w (let u := s.blk.core c.val
      let q := fit 24 (fS w) (-(comp 24 2 1 (s1 u w)))
      dRes w (pair 24 (s1 u w / 2 ^ 24) q.1, q.2))))) ∧
  (∀ (c : Fin 64) (w : Nat) (s : State), Issues s c w → wordOp w = some .unpk →
    exec (.unpk c) s = .next (s.finish (parAfter s c w (let u := s.blk.core c.val
      let k := bits w 37 36
      dResZN w (uns 48 (sgn 16 (bits (s1 u w) (47 - 16 * k) (32 - 16 * k))))))))

/-- A core that is ON, not halted, not in WAITB and not held for an overrun, with a loaded legal word of the row at its program counter, in THAW or FLOW: the word shifts (the carry of a shift by 0, and of a complex right shift, is a free value, log entry 10), tracks a maximum, block exponents and normalisation, and reads an accumulator out. Its results and flags enter flight as the row gives them, with the results and stores of its two moves (a PAR word), what is due lands, and the core goes on to the next word. Nothing else changes. Each completes: asr, lsr, asl, ash, vmax, bexp, exp, norm, bxr, mva, mvar. (R293, R294, R297, R319, R327, R328) -/
def Obligations.WeaverShiftWords : Prop :=
  (∀ (c : Fin 64) (w : Nat) (s : State), Issues s c w → wordOp w = some .asr →
    exec (.asr c) s = .next (s.finish (parAfter s c w (let u := s.blk.core c.val
      let k := bits w 41 36
      let v := (lanes1 48 u.cplx false (fun x => x.fdiv ((2 ^ k : Nat) : Int)) (s1 u w)).1
      [⟨.d (fR1 w), v, 1⟩, ccRes ⟨ccZ + ccN + ccC, znOf 48 v + b2n (shiftCarry u.cplx (s1 u w) k) * ccC⟩ 1])))) ∧
  (∀ (c : Fin 64) (w : Nat) (s : State), Issues s c w → wordOp w = some .lsr →
    exec (.lsr c) s = .next (s.finish (parAfter s c w (let u := s.blk.core c.val
      let k := bits w 41 36
      let v := s1 u w / 2 ^ k
      [⟨.d (fR1 w), v, 1⟩, ccRes ⟨ccZ + ccN + ccC, znOf 48 v + b2n (shiftCarry false (s1 u w) k) * ccC⟩ 1])))) ∧
  (∀ (c : Fin 64) (w : Nat) (s : State), Issues s c w → wordOp w = some .asl →
    exec (.asl c) s = .next (s.finish (parAfter s c w (let u := s.blk.core c.val; dRes w (lanes1 48 u.cplx (fS w) (fun x => x * ((2 ^ bits w 41 36 : Nat) : Int)) (s1 u w)))))) ∧
  (∀ (c : Fin 64) (w : Nat) (s : State), Issues s c w → wordOp w = some .ash →
    exec (.ash c) s = .next (s.finish (parAfter s c w (let u := s.blk.core c.val; dRes w (lanes1 48 u.cplx (fS w) (ashOf (sgn 7 (s2 u w))) (s1 u w)))))) ∧
  (∀ (c : Fin 64) (w : Nat) (s : State), Issues s c w → wordOp w = some .vmax →
    exec (.vmax c) s = .next (s.finish (parAfter s c w (let u := s.blk.core c.val
      if sgn 48 (s1 u w) > sgn 48 (u.dreg (fR1 w)) then
        [⟨.d (fR1 w), s1 u w, 1⟩, ⟨.d (fR3 w), u.lc.toNat * 4 + bits w 37 36, 1⟩, ccRes ⟨ccC, ccC⟩ 1]
      else [ccRes ⟨ccC, 0⟩ 1])))) ∧
  (∀ (c : Fin 64) (w : Nat) (s : State), Issues s c w → wordOp w = some .bexp →
    exec (.bexp c) s = .next (s.finish (parAfter s c w (let u := s.blk.core c.val; [⟨.bx, min u.bx.toNat (lscMode u.cplx (s1 u w)), 1⟩])))) ∧
  (∀ (c : Fin 64) (w : Nat) (s : State), Issues s c w → wordOp w = some .exp →
    exec (.exp c) s = .next (s.finish (parAfter s c w (let u := s.blk.core c.val; [⟨.d (fR1 w), lscMode u.cplx (s1 u w), 1⟩])))) ∧
  (∀ (c : Fin 64) (w : Nat) (s : State), Issues s c w → wordOp w = some .norm →
    exec (.norm c) s = .next (s.finish (parAfter s c w (let u := s.blk.core c.val
      let n := if bit w 42 then bits w 41 36 else u.bx.toNat
      dRes w (lanes1 48 u.cplx (fS w) (fun x => x * ((2 ^ n : Nat) : Int)) (s1 u w)) ++
        [⟨.d (fR3 w), uns 48 (sgn 48 (u.dreg (fR3 w)) - n), 1⟩])))) ∧
  (∀ (c : Fin 64) (w : Nat) (s : State), Issues s c w → wordOp w = some .bxr →
    exec (.bxr c) s = .next (s.finish (parAfter s c w ([⟨.bx, 47, 1⟩])))) ∧
  (∀ (c : Fin 64) (w : Nat) (s : State), Issues s c w → wordOp w = some .mva →
    exec (.mva c) s = .next (s.finish (parAfter s c w (let u := s.blk.core c.val; dRes w (accStore u.cplx false (fS w) (u.areg (bits w 48 47))))))) ∧
  (∀ (c : Fin 64) (w : Nat) (s : State), Issues s c w → wordOp w = some .mvar →
    exec (.mvar c) s = .next (s.finish (parAfter s c w (let u := s.blk.core c.val; dRes w (accStore u.cplx true (fS w) (u.areg (bits w 48 47)))))))

/-- A core that is ON, not halted, not in WAITB and not held for an overrun, with a loaded legal word of the row at its program counter, in THAW or FLOW: the word multiplies, accumulates, clears, adds, loads, shifts, negates, rounds and compares accumulators, the newest result in flight being the accumulate input. Its results and flags enter flight as the row gives them, with the results and stores of its two moves (a PAR word), what is due lands, and the core goes on to the next word. Nothing else changes. Each completes: mpy, mac, msu, mpyj, macj, mag2, clr, adda, lda, asra, asla, nega, rnd, cmpa. (R293, R294, R297, R319, R327, R329) -/
def Obligations.WeaverAccumulatorWords : Prop :=
  (∀ (c : Fin 64) (w : Nat) (s : State), Issues s c w → wordOp w = some .mpy →
    exec (.mpy c) s = .next (s.finish (parAfter s c w (let u := s.blk.core c.val; aRes w (accJoin u.cplx (fS w) (prodParts u.cplx false (s1 u w) (s2 u w))))))) ∧
  (∀ (c : Fin 64) (w : Nat) (s : State), Issues s c w → wordOp w = some .mac →
    exec (.mac c) s = .next (s.finish (parAfter s c w (let u := s.blk.core c.val; aRes w (accJoin u.cplx (fS w) (parts2 (· + ·) (accParts u.cplx (u.chain (fR1 w))) (prodParts u.cplx false (s1 u w) (s2 u w)))))))) ∧
  (∀ (c : Fin 64) (w : Nat) (s : State), Issues s c w → wordOp w = some .msu →
    exec (.msu c) s = .next (s.finish (parAfter s c w (let u := s.blk.core c.val; aRes w (accJoin u.cplx (fS w) (parts2 (· - ·) (accParts u.cplx (u.chain (fR1 w))) (prodParts u.cplx false (s1 u w) (s2 u w)))))))) ∧
  (∀ (c : Fin 64) (w : Nat) (s : State), Issues s c w → wordOp w = some .mpyj →
    exec (.mpyj c) s = .next (s.finish (parAfter s c w (let u := s.blk.core c.val; aRes w (accJoin u.cplx (fS w) (prodParts u.cplx true (s1 u w) (s2 u w))))))) ∧
  (∀ (c : Fin 64) (w : Nat) (s : State), Issues s c w → wordOp w = some .macj →
    exec (.macj c) s = .next (s.finish (parAfter s c w (let u := s.blk.core c.val; aRes w (accJoin u.cplx (fS w) (parts2 (· + ·) (accParts u.cplx (u.chain (fR1 w))) (prodParts u.cplx true (s1 u w) (s2 u w)))))))) ∧
  (∀ (c : Fin 64) (w : Nat) (s : State), Issues s c w → wordOp w = some .mag2 →
    exec (.mag2 c) s = .next (s.finish (parAfter s c w (let u := s.blk.core c.val
      let i := comp 24 2 0 (s1 u w); let q := comp 24 2 1 (s1 u w)
      aRes w (fit 104 (fS w) (sgn 104 (u.chain (fR1 w)) + (i * i + q * q) * ((2 ^ 48 : Nat) : Int))))))) ∧
  (∀ (c : Fin 64) (w : Nat) (s : State), Issues s c w → wordOp w = some .clr →
    exec (.clr c) s = .next (s.finish (parAfter s c w ([⟨.a (fR1 w), 0, 3⟩, ccRes ⟨ccZ + ccN + ccV + ccL, ccZ⟩ 3])))) ∧
  (∀ (c : Fin 64) (w : Nat) (s : State), Issues s c w → wordOp w = some .adda →
    exec (.adda c) s = .next (s.finish (parAfter s c w (let u := s.blk.core c.val; aRes w (accJoin u.cplx (fS w) (parts2 (· + ·) (accParts u.cplx (u.chain (fR1 w))) (accParts u.cplx (u.areg (bits w 48 47))))))))) ∧
  (∀ (c : Fin 64) (w : Nat) (s : State), Issues s c w → wordOp w = some .lda →
    exec (.lda c) s = .next (s.finish (parAfter s c w (let u := s.blk.core c.val
      let v := if u.cplx then pair 52 (uns 52 (comp 24 2 0 (s1 u w) * ((2 ^ 23 : Nat) : Int))) (uns 52 (comp 24 2 1 (s1 u w) * ((2 ^ 23 : Nat) : Int)))
        else uns 104 (sgn 48 (s1 u w) * ((2 ^ 47 : Nat) : Int))
      [⟨.a (fR1 w), v, 3⟩, ccRes (znOnly 104 v) 3])))) ∧
  (∀ (c : Fin 64) (w : Nat) (s : State), Issues s c w → wordOp w = some .asra →
    exec (.asra c) s = .next (s.finish (parAfter s c w (let u := s.blk.core c.val
      let v := (lanes1 104 u.cplx false (fun x => x.fdiv ((2 ^ bits w 41 36 : Nat) : Int)) (u.chain (fR1 w))).1
      [⟨.a (fR1 w), v, 3⟩, ccRes (znOnly 104 v) 3])))) ∧
  (∀ (c : Fin 64) (w : Nat) (s : State), Issues s c w → wordOp w = some .asla →
    exec (.asla c) s = .next (s.finish (parAfter s c w (let u := s.blk.core c.val; aRes w (lanes1 104 u.cplx (fS w) (fun x => x * ((2 ^ bits w 41 36 : Nat) : Int)) (u.chain (fR1 w))))))) ∧
  (∀ (c : Fin 64) (w : Nat) (s : State), Issues s c w → wordOp w = some .nega →
    exec (.nega c) s = .next (s.finish (parAfter s c w (let u := s.blk.core c.val; aRes w (lanes1 104 u.cplx (fS w) (fun x => -x) (u.chain (fR1 w))))))) ∧
  (∀ (c : Fin 64) (w : Nat) (s : State), Issues s c w → wordOp w = some .rnd →
    exec (.rnd c) s = .next (s.finish (parAfter s c w (let u := s.blk.core c.val
      let sh := if u.cplx then 23 else 47
      aRes w (lanes1 104 u.cplx (fS w) (fun x => rndEven x (2 ^ sh) * ((2 ^ sh : Nat) : Int)) (u.chain (fR1 w))))))) ∧
  (∀ (c : Fin 64) (w : Nat) (s : State), Issues s c w → wordOp w = some .cmpa →
    exec (.cmpa c) s = .next (s.finish (parAfter s c w (let u := s.blk.core c.val
      let x := u.areg (fR1 w); let y := u.areg (bits w 48 47)
      [ccRes ⟨31, b2n (x == y) * ccZ + b2n (decide (sgn 104 x < sgn 104 y)) * ccN⟩ 3]))))

/-- A core that is ON, not halted, not in WAITB and not held for an overrun, with a loaded legal word of the row at its program counter, in THAW or FLOW: the word does nothing, reads or writes a special register, loads an immediate, and advances a pointer or modifier. Its results and flags enter flight as the row gives them, with the results and stores of its two moves (a PAR word), what is due lands, and the core goes on to the next word. Nothing else changes. Each completes: nop, mvfs, mvts, ldi, ldis, addp. (R297, R298, R319, R323, R325, R330) -/
def Obligations.WeaverSpecialWordsAndImmediates : Prop :=
  (∀ (c : Fin 64) (w : Nat) (s : State), Issues s c w → wordOp w = some .nop →
    exec (.nop c) s = .next (s.finish (parAfter s c w ([])))) ∧
  (∀ (c : Fin 64) (w : Nat) (s : State), Issues s c w → wordOp w = some .mvfs →
    exec (.mvfs c) s = .next (s.finish (parAfter s c w (let u := s.blk.core c.val; [⟨.d (fR1 w), u.sreg (bits w 40 36), 2⟩])))) ∧
  (∀ (c : Fin 64) (w : Nat) (s : State), Issues s c w → wordOp w = some .mvts →
    exec (.mvts c) s = .next (s.finish (parAfter s c w (let u := s.blk.core c.val; sregResults (bits w 40 36) (s1 u w) 2)))) ∧
  (∀ (c : Fin 64) (w : Nat) (s : State), Issues s c w → wordOp w = some .ldi →
    exec (.ldi c) s = .next (s.finish (immAfter s c w ([⟨.d (fReg w), fV w, 1⟩])))) ∧
  (∀ (c : Fin 64) (w : Nat) (s : State), Issues s c w → wordOp w = some .ldis →
    exec (.ldis c) s = .next (s.finish (immAfter s c w (sregResults (fReg w) (fV w) 2)))) ∧
  (∀ (c : Fin 64) (w : Nat) (s : State), Issues s c w → wordOp w = some .addp →
    exec (.addp c) s = .next (s.finish (immAfter s c w (let u := s.blk.core c.val; sregResults (fReg w) ((u.sreg (fReg w) + fV w % 2 ^ 16) % 2 ^ 16) 2))))

/-- For a core that may issue the legal word at its program counter, in THAW or FLOW: a PAR word with a load or a store does its operation and both moves; a branch, call or jump whose condition holds leads to its target after two delay slots, a call with the address after them in its pointer register, and one whose condition fails goes on; RTI leads to IRA and restores SR from ISR; LOOP and LOOPD put LC, LB and LE in flight. Nothing else changes. Each completes: loadMove, storeMove, br, call, jmp, rti, loop, loopd. (R291, R297, R298, R319, R321, R322, R326, R331, R332) -/
def Obligations.WeaverMovesAndBranches : Prop :=
  (∀ (c : Fin 64) (w : Nat) (op : WOp) (s : State), Issues s c w → hasMove (fun v => v.kind == 1) w = true → wordOp w = some op →
    exec (.loadMove c) s = .next (s.finish (parAfter s c w (opResults op (s.blk.core c.val) w)))) ∧
  (∀ (c : Fin 64) (w : Nat) (op : WOp) (s : State), Issues s c w → hasMove (fun v => v.kind == 2) w = true → wordOp w = some op →
    exec (.storeMove c) s = .next (s.finish (parAfter s c w (opResults op (s.blk.core c.val) w)))) ∧
  (∀ (c : Fin 64) (w : Nat) (s : State), Issues s c w → wordOp w = some .br →
    exec (.br c) s = .next (s.finish (coreAfter s c (
      if condHolds (bits w 55 52) (s.blk.core c.val).cc.toNat then (s.blk.core c.val).stepTo (bits w 51 38) [] else (s.blk.core c.val).step1 [])))) ∧
  (∀ (c : Fin 64) (w : Nat) (s : State), Issues s c w → wordOp w = some .call →
    exec (.call c) s = .next (s.finish (coreAfter s c (
      if condHolds (bits w 55 52) (s.blk.core c.val).cc.toNat then
        (s.blk.core c.val).stepTo (bits w 51 38) [⟨.p (bits w 7 5), (s.blk.core c.val).pc.toNat + 3, 2⟩]
      else (s.blk.core c.val).step1 [])))) ∧
  (∀ (c : Fin 64) (w : Nat) (s : State), Issues s c w → wordOp w = some .jmp →
    exec (.jmp c) s = .next (s.finish (coreAfter s c (
      if condHolds (bits w 55 52) (s.blk.core c.val).cc.toNat then (s.blk.core c.val).stepTo ((s.blk.core c.val).preg (bits w 7 5)) []
      else (s.blk.core c.val).step1 [])))) ∧
  (∀ (c : Fin 64) (w : Nat) (s : State), Issues s c w → wordOp w = some .rti →
    exec (.rti c) s = .next (s.finish (coreAfter s c (
      (s.blk.core c.val).stepTo (s.blk.core c.val).ira.toNat [⟨.sr, (s.blk.core c.val).isr.toNat % 2 ^ 9, 2⟩])))) ∧
  (∀ (c : Fin 64) (w : Nat) (s : State), Issues s c w → wordOp w = some .loop →
    exec (.loop c) s = .next (s.finish (coreAfter s c ((s.blk.core c.val).step1
      (sregResults 0x10 (bits w 23 8) 2 ++ sregResults 0x11 (bits w 37 24) 2 ++ sregResults 0x12 (bits w 51 38) 2))))) ∧
  (∀ (c : Fin 64) (w : Nat) (s : State), Issues s c w → wordOp w = some .loopd →
    exec (.loopd c) s = .next (s.finish (coreAfter s c ((s.blk.core c.val).step1
      (sregResults 0x10 ((s.blk.core c.val).dreg (bits w 4 1) % 2 ^ 16) 2 ++ sregResults 0x11 (bits w 37 24) 2 ++
        sregResults 0x12 (bits w 51 38) 2)))))

/-- For a core that may issue the legal word at its program counter, in THAW or FLOW: REP and REPD with a count up to REP_CAP repeat the next word, a count of 0 in a register skips it, and a greater count halts the core; WAITB clears SR.BH, idles the core and, in a beat handler, writes LAST_CYCLES and MAX_CYCLES; CRD puts the control word in flight to its register; CWR of a word that only holds a value stores it. Each completes: rep, repd, waitb, crd, cwr. (R297, R299, R303, R309, R316, R319, R331, R333) -/
def Obligations.WeaverRepeatsWaitAndControlWords : Prop :=
  (∀ (c : Fin 64) (w : Nat) (s : State), Issues s c w → wordOp w = some .rep → bits w 23 8 ≤ s.blk.repCap c.val →
    exec (.rep c) s = .next (s.finish (coreAfter s c { (s.blk.core c.val).step1 [] with rep := some (bits w 23 8) }))) ∧
  (∀ (c : Fin 64) (w : Nat) (s : State), Issues s c w → wordOp w = some .rep → s.blk.repCap c.val < bits w 23 8 →
    exec (.rep c) s = .next (s.finish (s.start.coreHalt c.val 2))) ∧
  (∀ (c : Fin 64) (w : Nat) (s : State), Issues s c w → wordOp w = some .repd → 0 < (s.blk.core c.val).dreg (bits w 4 1) % 2 ^ 16 →
    (s.blk.core c.val).dreg (bits w 4 1) % 2 ^ 16 ≤ s.blk.repCap c.val →
    exec (.repd c) s = .next (s.finish (coreAfter s c
      { (s.blk.core c.val).step1 [] with rep := some ((s.blk.core c.val).dreg (bits w 4 1) % 2 ^ 16) }))) ∧
  (∀ (c : Fin 64) (w : Nat) (s : State), Issues s c w → wordOp w = some .repd → (s.blk.core c.val).dreg (bits w 4 1) % 2 ^ 16 = 0 →
    exec (.repd c) s = .next (s.finish (coreAfter s c
      { (s.blk.core c.val).step1 [] with pc := ((s.blk.core c.val).step1 []).pc + 1 }))) ∧
  (∀ (c : Fin 64) (w : Nat) (s : State), Issues s c w → wordOp w = some .waitb → (s.blk.core c.val).bh = false →
    exec (.waitb c) s = .next (s.finish (coreAfter s c
      { (s.blk.core c.val).step1 [] with
        waitb := true
        pc := (s.blk.core c.val).pc
        late := false
        sr := BitVec.ofNat 16 (setBits ((s.blk.core c.val).step1 []).sr.toNat 5 5 0) }))) ∧
  (∀ (c : Fin 64) (w : Nat) (s : State), Issues s c w → wordOp w = some .waitb → (s.blk.core c.val).bh = true →
    exec (.waitb c) s = .next (s.finish (
      let y := (s.blk.core c.val).step1 []
      let b := coreAfter s c { y with
        waitb := true
        pc := (s.blk.core c.val).pc
        late := false
        sr := BitVec.ofNat 16 (setBits y.sr.toNat 5 5 0) }
      let b := b.pv K.WVR_LAST_CYCLES c.val ((s.blk.core c.val).hcycles % 2 ^ 32)
      b.pv K.WVR_MAX_CYCLES c.val (max (b.val (ki K.WVR_MAX_CYCLES c.val)) ((s.blk.core c.val).hcycles % 2 ^ 32))))) ∧
  (∀ (c : Fin 64) (w : Nat) (s : State), Issues s c w → wordOp w = some .crd →
    exec (.crd c) s = .next (s.finish ((coreAfter s c ((s.blk.core c.val).step1
      [⟨.d (bits w 4 1), s.blk.cwRead c.val (bits w 51 38) % 2 ^ 48, 2⟩])).cwReads c.val (bits w 51 38)))) ∧
  (∀ (c : Fin 64) (w : Nat) (s : State), Issues s c w → wordOp w = some .cwr →
    [0x20, 0x21, 0x22, 0x28, 0x29, 0x2A, 0x2C, 0x2D, 0x35, 0x36, 0x3C, 0x3E].contains (bits w 51 38) = true →
    exec (.cwr c) s = .next (s.finish (
      let b := coreAfter s c ((s.blk.core c.val).step1 [])
      b.setCore c.val { b.core c.val with cw := tset (b.core c.val).cw (bits w 51 38) ((s.blk.core c.val).dreg (bits w 4 1)) })))

/-- For a core that may issue a legal CWR at its program counter, in THAW or FLOW: DMA_GO queues a descriptor of the three DMA words while fewer than 8 wait, and is answered ST_BUSY in DMA_STAT with a fault beside that; EVT_GO raises the core's event with its payload; TRQ_GO requests its unit when that is armed with a WEAVER source; GATE notes the unit and value for the next boundary; REQ_GO hands over the request block, and is a fault while one is in progress; SPI_CTL starts a transaction on a free port that is the cores'; STR_GO hands a block of its bank to its stream; SVC_ANS answers the service record with its tag. Each completes: dmaGo, evtGo, trqGo, gate, reqGo, spiCtl, strGo, svcAns. (R183, R309, R310, R311, R312, R313, R314) -/
def Obligations.WeaverControlWordActions : Prop :=
  (∀ (c : Fin 64) (w : Nat) (s : State), Issues s c w → wordOp w = some .cwr → bits w 51 38 = 0x23 → (s.blk.core c.val).dma.length < 8 →
    exec (.dmaGo c) s = .next (s.finish (
      let b := coreAfter s c ((s.blk.core c.val).step1 [])
      let x := b.core c.val
      b.setCore c.val { x with
        dma := x.dma ++ [⟨tget 0 x.cw 0x20, tget 0 x.cw 0x21, tget 0 x.cw 0x22, (s.blk.core c.val).dreg (bits w 4 1) % 2 ^ 16⟩] }))) ∧
  (∀ (c : Fin 64) (w : Nat) (s : State), Issues s c w → wordOp w = some .cwr → bits w 51 38 = 0x23 → 8 ≤ (s.blk.core c.val).dma.length →
    exec (.dmaGo c) s = .next (s.finish (
      let b := coreAfter s c ((s.blk.core c.val).step1 [])
      (b.setCore c.val { b.core c.val with dmaTag := (s.blk.core c.val).dreg (bits w 4 1) % 2 ^ 16, dmaStatus := 0x10 }).wvrFault c.val 4 false
        (b.core c.val).last.toNat 0x10))) ∧
  (∀ (c : Fin 64) (w : Nat) (s : State), Issues s c w → wordOp w = some .cwr → bits w 51 38 = 0x2B →
    exec (.evtGo c) s = .next (s.finish (
      let b := coreAfter s c ((s.blk.core c.val).step1 [])
      let x := b.core c.val
      b.raise (385 + 4 * c.val) (((List.range 3).map (fun k => beBytes 6 (tget 0 x.cw (0x28 + k)))).flatten.take 15 ++ beBytes 1 (b2n x.late))))) ∧
  (∀ (c : Fin 64) (w : Nat) (s : State), Issues s c w → wordOp w = some .cwr → bits w 51 38 = 0x2E →
    (coreAfter s c ((s.blk.core c.val).step1 [])).tgTakes ((s.blk.core c.val).dreg (bits w 4 1) % 16) (fun b =>
      b.tgSource ((s.blk.core c.val).dreg (bits w 4 1) % 16) == 9) = true →
    exec (.trqGo c) s = .next (s.finish (wordEnd (
      let b := coreAfter s c ((s.blk.core c.val).step1 [])
      Block.acting s.mem (b.trgRequest ((s.blk.core c.val).dreg (bits w 4 1) % 16) ((b.core c.val).cw64 0x2C) (b.core c.val).late)) c))) ∧
  (∀ (c : Fin 64) (w : Nat) (s : State), Issues s c w → wordOp w = some .cwr → bits w 51 38 = 0x2F →
    exec (.gate c) s = .next (s.finish (
      let b := coreAfter s c ((s.blk.core c.val).step1 [])
      let v := (s.blk.core c.val).dreg (bits w 4 1)
      b.setCore c.val { b.core c.val with gates := (b.core c.val).gates ++ [(v % 16, bits v 4 4)] }))) ∧
  (∀ (c : Fin 64) (w : Nat) (s : State), Issues s c w → wordOp w = some .cwr → bits w 51 38 = 0x30 → (s.blk.core c.val).reqBusy = false →
    exec (.reqGo c) s = .next (s.finish (
      let b := coreAfter s c ((s.blk.core c.val).step1 [])
      b.setCore c.val { b.core c.val with reqBusy := true, reqAddr := (s.blk.core c.val).dreg (bits w 4 1) % 2 ^ 14 }))) ∧
  (∀ (c : Fin 64) (w : Nat) (s : State), Issues s c w → wordOp w = some .cwr → bits w 51 38 = 0x34 →
    s.blk.spiBusy (bits ((s.blk.core c.val).dreg (bits w 4 1)) 2 0) = false →
    s.blk.f K.JRX_SPI_CFG (0x40 + bits ((s.blk.core c.val).dreg (bits w 4 1)) 2 0) 17 17 ≠ 0 →
    exec (.spiCtl c) s = .next (s.finish (
      let b := coreAfter s c ((s.blk.core c.val).step1 [])
      let v := (s.blk.core c.val).dreg (bits w 4 1)
      let x := b.core c.val
      (b.setCore c.val { x with spi := bits v 2 0 :: x.spi.erase (bits v 2 0) }).spiStart (bits v 2 0) (bits v 8 3 + 1) (bits v 9 9) (x.cw64 0x35)
        (some c.val)))) ∧
  (∀ (c : Fin 64) (w : Nat) (s : State), Issues s c w → wordOp w = some .cwr → bits w 51 38 = 0x3D →
    bits (tget 0 ((s.blk.core c.val).step1 []).cw 0x3C) 47 46 < 2 →
    bits (tget 0 ((s.blk.core c.val).step1 []).cw 0x3C) 45 32 + bits (tget 0 ((s.blk.core c.val).step1 []).cw 0x3C) 31 16 ≤ 16384 →
    exec (.strGo c) s = .next (s.finish (wordEnd (
      let b := coreAfter s c ((s.blk.core c.val).step1 [])
      let v := tget 0 (b.core c.val).cw 0x3C
      let r := b.strWeaver (bits v 5 0) c.val ((List.range (bits v 31 16)).map (fun k =>
        beBytes 6 (b.rdWord48 s.mem c.val (bits v 47 46) (bits v 45 32 + k)))).flatten (b.core c.val).late
      if r.2 then r.1 else r.1.wvrFaultFree c.val 7 false (b.core c.val).last.toNat) c))) ∧
  (∀ (c : Fin 64) (w : Nat) (s : State), Issues s c w → wordOp w = some .cwr → bits w 51 38 = 0x3F →
    exec (.svcAns c) s = .next (s.finish (wordEnd (
      let b := coreAfter s c ((s.blk.core c.val).step1 [])
      let v := (s.blk.core c.val).dreg (bits w 4 1)
      b.svcAnswer c.val (v % 2 ^ 16) (bits v 31 16) (tget 0 (b.core c.val).cw 0x3E)) c)))

/-- In THAW or FLOW: a core that may issue halts at an illegal word and at a word never loaded, with its results landed, FAULT written and EV_WVR_FAULT raised (the status number of the event free, log entry 26); a pending line that is enabled interrupts a core that runs outside REP and delay slots: IRA, ISR and the vector as the rule says; a beat start that is due is taken by a core in WAITB, and by one whose handler was aborted; the descriptor first in the queue is checked and moved, its status goes to DMA_STAT, and its line becomes pending or a fault is reported; the request block of a core is served as a request of its core session; the oldest service record that has waited 40 us is answered ST_BUSY and counted. Each completes: illegalEncoding, unloadedFetch, interruptEntry, weaverBeatStart, dmaDescriptorDone, reqComplete, serviceTimeout. (R297, R300, R301, R303, R304, R311, R313, R314, R316, R318, R319) -/
def Obligations.WeaverEventsOfACore : Prop :=
  (∀ (c : Fin 64) (w : Nat) (s : State), s.blk.live = true → s.blk.mayIssue c.val = true → s.blk.wordAt c.val = some w →
    (s.blk.core c.val).illegal w = true →
    exec (.illegalEncoding c) s = .next (s.finish (
      let b := s.start.wvrQuiesce c.val
      let b := b.setCore c.val { b.core c.val with halted := true }
      b.wvrFaultFree c.val 1 true (b.core c.val).pc.toNat))) ∧
  (∀ (c : Fin 64) (s : State), s.blk.live = true → s.blk.mayIssue c.val = true → s.blk.wordAt c.val = none →
    exec (.unloadedFetch c) s = .next (s.finish (
      let b := s.start.wvrQuiesce c.val
      let b := b.setCore c.val { b.core c.val with halted := true }
      b.wvrFaultFree c.val 3 true (b.core c.val).pc.toNat))) ∧
  (∀ (c : Fin 64) (l : Nat) (s : State), s.blk.live = true → s.blk.isOn bWVR c.val = true → (s.blk.core c.val).halted = false →
    (s.blk.core c.val).rep = none → (s.blk.core c.val).delay = none → (s.blk.core c.val).abortDue = false →
    ((s.blk.core c.val).waitb = false ∨ (s.blk.core c.val).beatDue = false) → (s.blk.core c.val).lineDue = some l →
    exec (.interruptEntry c) s = .next (s.finish (
      let y := (s.blk.core c.val).landAll
      s.start.setCore c.val { y with
        ira := y.pc
        isr := y.sr
        sr := BitVec.ofNat 16 (setBits y.sr.toNat 0 0 0)
        pc := BitVec.ofNat 14 (bits (s.blk.val (ki K.WVR_IVEC c.val)) (14 * l + 13) (14 * l))
        pend := tset y.pend l (tget 0 y.pend l - 1)
        waitb := false
        fromWaitb := y.fromWaitb || y.waitb
        hcycles := y.hcycles + 4 }))) ∧
  (∀ (c : Fin 64) (s : State), s.blk.live = true → s.blk.isOn bWVR c.val = true → (s.blk.core c.val).halted = false →
    (s.blk.core c.val).abortDue = false → (s.blk.core c.val).waitb = true → (s.blk.core c.val).beatDue = true →
    exec (.weaverBeatStart c) s = .next (s.finish (s.start.setCore c.val { s.blk.core c.val with
      waitb := false
      fromWaitb := false
      beatDue := false
      abortDue := false
      delay := none
      rep := none
      hcycles := 4
      late := false
      sr := BitVec.ofNat 16 (setBits (s.blk.core c.val).sr.toNat 5 5 1)
      pc := BitVec.ofNat 14 (s.blk.f K.WVR_CFG c.val 13 0) }))) ∧
  (∀ (c : Fin 64) (s : State), s.blk.live = true → s.blk.isOn bWVR c.val = true → (s.blk.core c.val).halted = false →
    (s.blk.core c.val).abortDue = true → (s.blk.core c.val).rep = none →
    exec (.weaverBeatStart c) s = .next (s.finish (
      (s.start.setCore c.val { (s.blk.core c.val).landAll with lc := 0, clc := 0 }).beatStart c.val))) ∧
  (∀ (c : Fin 64) (x : DmaDesc) (t : List DmaDesc) (s : State), s.blk.live = true → (s.blk.core c.val).dma = x :: t →
    (s.start.setCore c.val { s.blk.core c.val with dma := t }).dmaCheck x = .ok →
    exec (.dmaDescriptorDone c) s = .next (s.finish (
      let b := (s.start.setCore c.val { s.blk.core c.val with dma := t }).dmaMove s.mem c.val x
      let b := b.setCore c.val { b.core c.val with dmaTag := x.tag, dmaStatus := 0 }
      if 1 ≤ bits x.len 30 28 ∧ bits x.len 30 28 ≤ 4 then b.pendLine c.val (bits x.len 30 28 - 1) else b))) ∧
  (∀ (c : Fin 64) (x : DmaDesc) (t : List DmaDesc) (e : Status) (s : State), s.blk.live = true → (s.blk.core c.val).dma = x :: t → e ≠ .ok →
    (s.start.setCore c.val { s.blk.core c.val with dma := t }).dmaCheck x = e →
    exec (.dmaDescriptorDone c) s = .next (s.finish (
      (s.start.setCore c.val { s.blk.core c.val with dma := t, dmaTag := x.tag, dmaStatus := e.num }).wvrFault c.val 4 false
        (s.blk.core c.val).last.toNat e.num))) ∧
  (∀ (c : Fin 64) (s : State), s.blk.live = true → (s.blk.core c.val).reqBusy = true →
    exec (.reqComplete c) s = .next (s.finish (
      let w (k : Nat) : Nat := s.start.rdWord48 s.mem c.val 0 (((s.blk.core c.val).reqAddr + k) % 16384)
      let len := min (w 3 % 2 ^ 32) 98304
      s.start.serve s.mem (w 0 % 2 ^ 16) (.core c.val) ⟨0, 0, 0, false, 0, 0, 0⟩ (w 1 + w 2 % 2 ^ 16 * 2 ^ 48)
        ((((List.range (ceilDiv len 6)).map (fun k => beBytes 6 (w (4 + k)))).flatten).take len)))) ∧
  (∀ (c : Fin 64) (r : SvcRec) (t : List SvcRec) (s : State), s.blk.live = true → (s.blk.core c.val).svcRecs = r :: t → r.since + 64000 ≤ s.blk.ticks →
    exec (.serviceTimeout c) s = .next (s.finish (
      ((s.start.setCore c.val { s.blk.core c.val with svcRecs := t }).inc K.WVR_SVC_LATE c.val 1).heldFill r.reply r.place 0x10 [])))

/-- In THAW or FLOW: a link that comes up on an interface that is starting, ON or the management port, and one that goes down, sets STATUS with its speed code and raises its event; on a link that is up, an ARP request, a neighbour solicitation or an echo request for the interface's own address counts as received and is answered, and one for another address is dropped; an answer for a neighbour that was asked for resolves it; an unanswered request is tried again after 1 s and a resolved neighbour is refreshed after 60 s; a PFC frame for the stream priority of an interface with PFC pauses its streams; dropped frames count with their FEC codewords. Each completes: netLinkUp, netLinkDown, arpRequest, neighbourSolicitation, echoRequest, neighbourRefreshTimer, neighbourRetry, neighbourReply, pfcFrame, frameDropped. (R336, R337, R341) -/
def Obligations.NetworkLinksAndNeighbours : Prop :=
  (∀ (l : Fin 17) (s : State), s.blk.live = true → (l.val = 16 ∨ s.blk.life bNET l.val = lStarting ∨ s.blk.isOn bNET l.val = true) →
    s.blk.linkUp l.val = false →
    exec (.netLinkUp l) s = .next (s.finish (
      ((s.start.pf K.NET_STATUS l.val 0 0 1).pf K.NET_STATUS l.val 3 1 (s.blk.netCode l.val)).raise (780 + l.val)
        (beBytes 1 1 ++ beBytes 1 (s.blk.netCode l.val))))) ∧
  (∀ (l : Fin 17) (s : State), s.blk.live = true → s.blk.linkUp l.val = true →
    exec (.netLinkDown l) s = .next (s.finish (
      ((s.start.pf K.NET_STATUS l.val 0 0 0).pf K.NET_STATUS l.val 3 1 (s.blk.netCode l.val)).raise (780 + l.val)
        (beBytes 1 0 ++ beBytes 1 (s.blk.netCode l.val))))) ∧
  (∀ (l : Fin 17) (mac : BitVec 48) (ip target : BitVec 32) (s : State), s.blk.live = true → s.blk.linkUp l.val = true →
    exec (.arpRequest l mac ip target) s = .next (s.finish (
      if target.toNat ≠ 0 ∧ target.toNat = (s.blk.netIp l.val false).1 then
        (s.start.netRx l.val).netSend l.val 1 [2, s.blk.val (ki K.NET_MAC l.val), target.toNat, mac.toNat, ip.toNat] []
      else s.start.netDrop l.val))) ∧
  (∀ (l : Fin 17) (mac : BitVec 48) (ip target : BitVec 128) (s : State), s.blk.live = true → s.blk.linkUp l.val = true →
    exec (.neighbourSolicitation l mac ip target) s = .next (s.finish (
      if target.toNat ≠ 0 ∧ target.toNat = (s.blk.netIp l.val true).1 then
        (s.start.netRx l.val).netSend l.val 2 [136, s.blk.val (ki K.NET_MAC l.val), target.toNat, mac.toNat, ip.toNat] []
      else s.start.netDrop l.val))) ∧
  (∀ (l : Fin 17) (v6 : Bool) (ip target : BitVec 128) (data : List Byte) (s : State), s.blk.live = true → s.blk.linkUp l.val = true →
    exec (.echoRequest l v6 ip target data) s = .next (s.finish (
      if target.toNat ≠ 0 ∧ target.toNat = (s.blk.netIp l.val v6).1 then (s.start.netRx l.val).netSend l.val 3 [b2n v6, ip.toNat] data
      else s.start.netDrop l.val))) ∧
  (∀ (l : Fin 17) (v6 : Bool) (ip : BitVec 128) (mac : BitVec 48) (x : Neigh) (s : State), s.blk.live = true → s.blk.linkUp l.val = true →
    s.blk.neigh l.val v6 ip.toNat = some x →
    exec (.neighbourReply l v6 ip mac) s = .next (s.finish (
      (s.start.netRx l.val).setNeigh { x with mac := some mac.toNat, asked := false, since := s.blk.ticks }))) ∧
  (∀ (l : Fin 17) (v6 : Bool) (ip : BitVec 128) (x : Neigh) (s : State), s.blk.live = true → s.blk.neigh l.val v6 ip.toNat = some x →
    x.asked = true → x.since + 1600000000 ≤ s.blk.ticks →
    exec (.neighbourRetry l v6 ip) s = .next (s.finish ((s.start.netAsk l.val v6 ip.toNat).setNeigh { x with since := s.blk.ticks }))) ∧
  (∀ (l : Fin 17) (v6 : Bool) (ip : BitVec 128) (x : Neigh) (s : State), s.blk.live = true → s.blk.neigh l.val v6 ip.toNat = some x →
    x.asked = false → x.since + 96000000000 ≤ s.blk.ticks →
    exec (.neighbourRefreshTimer l v6 ip) s = .next (s.finish (
      (s.start.netAsk l.val v6 ip.toNat).setNeigh { x with asked := true, since := s.blk.ticks }))) ∧
  (∀ (l : Fin 16) (mask : Byte) (quanta : BitVec 16) (s : State), s.blk.live = true → s.blk.linkUp l.val = true →
    s.blk.f K.NET_CFG l.val 1 1 = 1 → bit mask.toNat (s.blk.f K.NET_CFG l.val 4 2) = true →
    exec (.pfcFrame l mask quanta) s = .next (s.finish (
      let b := s.start.netRx l.val
      { b with pfc := tset b.pfc l.val (b.ticks + ceilDiv (quanta.toNat * 512 * 1600) (b.netRate l.val)) }))) ∧
  (∀ (l : Fin 17) (corrected uncorrected : BitVec 32) (s : State), s.blk.live = true → s.blk.linkUp l.val = true →
    exec (.frameDropped l corrected uncorrected) s = .next (s.finish (
      ((s.start.netDrop l.val).inc K.NET_FEC_CORR l.val corrected.toNat).inc K.NET_FEC_UNCORR l.val uncorrected.toNat)))

/-- In THAW or FLOW: a stream that is STARTING with its interface ON and its neighbour resolved notes it; a native UDP stream that is ON with an item ready, nothing to send again and neither link, RATE nor PFC in its way sends one packet of it; on an up link an ACK of a RoCEv2 stream retires the packets up to its PSN, a NAK those before it and starts a retry of the rest, and any other request is answered with a NAK; the oldest packet that has waited 131 us for its ACK starts a retry. Each completes: streamStartComplete, streamPacketSend, roceAck, roceNak, roceAckTimeout, roceInvalidRequest. (R340, R344, R346, R348, R352, R353) -/
def Obligations.StreamsAndRoce : Prop :=
  (∀ (k : Fin 64) (s : State), s.blk.live = true → s.blk.life bSTR k.val = lStarting → s.blk.strReady k.val = true →
    exec (.streamStartComplete k) s = .next (s.finish (s.start.setStr k.val { s.blk.str k.val with resolved := true }))) ∧
  (∀ (k : Fin 64) (b : Block) (it : StrItem) (rest : List StrItem) (s : State), s.blk.live = true → s.blk.isOn bSTR k.val = true →
    b = (s.start.strRead s.mem k.val).strSkip k.val 64 → (b.str k.val).items = it :: rest → it.ready = true → (b.str k.val).resend = 0 →
    b.strVita k.val = false → b.strRoce k.val = false → b.netUsable (b.strIface k.val) = true → b.isOn bNET (b.strIface k.val) = true →
    (b.str k.val).readyAt ≤ b.ticks → tget 0 b.pfc (b.strIface k.val) ≤ b.ticks →
    exec (.streamPacketSend k) s = .next (s.finish (
      let r := b.nativePacket k.val it
      ((b.setStrStatus k.val 1).strUdp k.val r.1).strSent k.val r.2.1 r.2.2.1 (b.wireBytes k.val r.1.length r.2.2.2.1 r.2.2.2.2)))) ∧
  (∀ (k : Fin 64) (psn : BitVec 24) (s : State), s.blk.live = true → s.blk.isOff bSTR k.val = false → s.blk.strRoce k.val = true →
    s.blk.linkUp (s.blk.strIface k.val) = true → ((s.blk.str k.val).unacked.filter (fun p => !psnLe p.psn psn.toNat)).length ≠ (s.blk.str k.val).unacked.length →
    exec (.roceAck k psn) s = .next (s.finish (
      let b := s.start.netRx (s.blk.strIface k.val)
      let left := (s.blk.str k.val).unacked.filter (fun p => !psnLe p.psn psn.toNat)
      b.setStr k.val { s.blk.str k.val with unacked := left, retries := 0, resend := min (s.blk.str k.val).resend left.length }))) ∧
  (∀ (k : Fin 64) (psn : BitVec 24) (s : State), s.blk.live = true → s.blk.isOff bSTR k.val = false → s.blk.strRoce k.val = true →
    s.blk.linkUp (s.blk.strIface k.val) = true → ((s.blk.str k.val).unacked.filter (fun p => psnLe psn.toNat p.psn)) ≠ [] →
    exec (.roceNak k psn) s = .next (s.finish (
      let b := s.start.netRx (s.blk.strIface k.val)
      let x := s.blk.str k.val
      let left := x.unacked.filter (fun p => psnLe psn.toNat p.psn)
      let retries := if left.length < x.unacked.length then 0 else x.retries
      (b.setStr k.val { x with retries := retries, unacked := left }).roceRetry k.val psn.toNat))) ∧
  (∀ (k : Fin 64) (p : RocePkt) (rest : List RocePkt) (s : State), s.blk.live = true → (s.blk.str k.val).unacked = p :: rest → p.since + 209600 ≤ s.blk.ticks →
    exec (.roceAckTimeout k) s = .next (s.finish (
      (s.start.setStr k.val { s.blk.str k.val with
        unacked := (p :: rest).map (fun q => { q with since := s.blk.ticks }) }).roceRetry k.val p.psn))) ∧
  (∀ (k : Fin 64) (psn : BitVec 24) (s : State), s.blk.live = true → s.blk.isOff bSTR k.val = false → s.blk.strRoce k.val = true →
    s.blk.linkUp (s.blk.strIface k.val) = true →
    exec (.roceInvalidRequest k psn) s = .next (s.finish (
      let b := s.start.netRx (s.blk.strIface k.val)
      b.netSend (s.blk.strIface k.val) 5 [k.val, b.strDest k.val, b.f K.STR_RDMA_QP k.val 23 0, psn.toNat, 4, 0, 0] [])))

/-- In THAW or FLOW: a compressor with a block releases it coded, or raw where coding gains nothing or the verifier disagrees, counts in BLOCKS, RAW_BLOCKS and VERIFY_FAIL (with its event) and updates the stream's WIRE_GAIN; a datagram for the port of decompressors that are ON and take packets, with the native header, reaches each of them, and one for no decompressor is dropped; a decompressor that is ON takes its next block: one of no sample or more than 4,096 fails with cause 1, one that decodes within its limits is output. Each completes: codecBlockDone, decPacketArrival, decBlock. (R356, R359, R361, R362) -/
def Obligations.CodecBlocks : Prop :=
  (∀ (k : Fin 4) (mismatch : Bool) (j : Job) (s : State), s.blk.live = true → tfind s.blk.jobs k.val = some j →
    exec (.codecBlockDone k mismatch) s = .next (s.finish (
      let r := codeBlock j.w j.pred j.data mismatch
      let b := ({ s.start with jobs := tdel s.blk.jobs k.val }).inc K.CDC_BLOCKS k.val 1
      let b := if r.2 then b.inc K.CDC_RAW_BLOCKS k.val 1 else b
      let b := if mismatch then
          (b.inc K.CDC_VERIFY_FAIL k.val 1).raise 800 (beBytes 1 k.val ++ beBytes 1 j.stream ++ zeros 6 ++ beBytes 8 j.index)
        else b
      let x := b.str j.stream
      let items := x.items.map (fun it => if !it.ready && it.index == j.index then { it with data := it.flags ++ r.1, ready := true } else it)
      let gains := ((b.wireTotal j.stream j.data.length (64 * (j.w / 4)), b.wireTotal j.stream (32 + r.1.length) 1) :: x.gains).take 1024
      let u : Nat := (gains.map (·.1)).foldl (· + ·) 0
      let v : Nat := (gains.map (·.2)).foldl (· + ·) 0
      ((b.setStr j.stream { x with items := items, gains := gains }).pf K.STR_WIRE_GAIN j.stream 15 0
        (min 65535 (rndEven (u * 256) (max 1 v)).toNat)).strRead s.mem j.stream))) ∧
  (∀ (l : Fin 16) (port : BitVec 16) (bytes : List Byte) (ds : List Nat) (s : State), s.blk.live = true → s.blk.netUsable l.val = true →
    ds = which 2 (fun d => s.blk.isOn bCDC (0x10 + d) && s.blk.f K.CDC_DEC_CFG (0x10 + d) 16 16 == 0 &&
      s.blk.f K.CDC_DEC_CFG (0x10 + d) 15 0 == port.toNat) → ds ≠ [] →
    beNat (bytes.take 3) = 0x465953 → bytes.getD 3 0 = 1 → bytes.getD 4 0 = 2 → 64 ≤ bytes.length →
    exec (.decPacketArrival l port bytes) s = .next (s.finish (ds.foldl (fun b d => b.decFragment d bytes) (s.start.netRx l.val)))) ∧
  (∀ (l : Fin 16) (port : BitVec 16) (bytes : List Byte) (s : State), s.blk.live = true → s.blk.netUsable l.val = true →
    which 2 (fun d => s.blk.isOn bCDC (0x10 + d) && s.blk.f K.CDC_DEC_CFG (0x10 + d) 16 16 == 0 &&
      s.blk.f K.CDC_DEC_CFG (0x10 + d) 15 0 == port.toNat) = [] →
    exec (.decPacketArrival l port bytes) s = .next (s.finish (s.start.netDrop l.val))) ∧
  (∀ (d : Fin 2) (b : Block) (first : Nat) (l : List Byte) (s : State), s.blk.live = true → s.blk.isOn bCDC (0x10 + d.val) = true →
    s.start.decNext s.mem d.val = some (b, first, l) → (beNat ((l.drop 2).take 2) = 0 ∨ 4096 < beNat ((l.drop 2).take 2)) →
    exec (.decBlock d) s = .next (s.finish (b.decFail d.val 1))) ∧
  (∀ (d : Fin 2) (b : Block) (first : Nat) (l : List Byte) (vals : List (Int × Int)) (s : State), s.blk.live = true →
    s.blk.isOn bCDC (0x10 + d.val) = true → s.start.decNext s.mem d.val = some (b, first, l) →
    0 < beNat ((l.drop 2).take 2) → beNat ((l.drop 2).take 2) ≤ 4096 →
    beNat ((l.drop 2).take 2) * 16 ≤ b.f K.CDC_DEC_CFG (0x10 + d.val) 28 17 * (16 + beNat ((l.drop 4).take 4) + beNat ((l.drop 8).take 4)) →
    decodeBlock l = some vals → (∀ e, (b.dec d.val).next = some e → e ≤ first) → b.f K.CDC_OUT_LIMIT (0x10 + d.val) 47 0 = 0 →
    exec (.decBlock d) s = .next (s.finish (b.decEmit d.val first vals)))

/-- In THAW or FLOW, for a channel that is neither OFF nor STOPPING and has not ended, once its sequencer has come up to date: a PLAY entry begins a play at the position reached, unless its segment has length 0, which ends playback with reason 2; a LOOP entry counts, and goes to its target until COUNT + 1 passes are made and else to NEXT with its counter 0; an END entry ends playback with reason 1, and a seventeenth entry without a PLAY with reason 2; a decision point fixes the request held to the play; the effect point of a fixed jump clears the loop counters and makes the requested entry the next one. A host datagram whose header is not that of the channel counts in HOST_DROPPED, and one for no channel is dropped by its interface; a well-formed one that lies within the FIFO stores each of its samples at its place and notes their numbers, once the sequencer has come up to date. Each completes: stimHostDatagram, stmSeqEntry, stmDecisionPoint, stmJumpEffect. (R370, R372, R373, R377, R378, R379) -/
def Obligations.StimulusSequencer : Prop :=
  (∀ (k : Fin 4) (b : Block) (e left : Nat) (s : State), s.blk.live = true → s.blk.isOff bSTM k.val = false → s.blk.life bSTM k.val ≠ lStopping →
    (s.blk.stim k.val).ended = false → b = s.start.stmRun s.mem k.val → b.seqItem k.val = some .entry → (b.stim k.val).again = some e →
    left = (b.stim k.val).left →
    bits (b.val (K.STM_SEG + bits (b.stim k.val).word 49 38 + stmStore * 65536)) 27 4 ≠ 0 →
    exec (.stmSeqEntry k) s = .next (s.finish (
      let x := b.stim k.val
      let seg := b.val (K.STM_SEG + bits x.word 49 38 + stmStore * 65536)
      let ratio := b.f (K.STM_SEG_RATIO + bits x.word 49 38) stmStore 31 0
      b.setStim k.val { x with
        plays := x.plays ++ [{ entry := e, seg := seg, ratio := ratio, start := x.fed, d := playLen (256 * bits seg 27 4) ratio, vec := x.vec, jumped := x.jump }]
        idle := 0, jump := none, left := left - 1, again := if 1 < left then some e else none, entry := bits x.word 13 2 }))) ∧
  (∀ (k : Fin 4) (b : Block) (q : Nat) (s : State), s.blk.live = true → s.blk.isOff bSTM k.val = false → s.blk.life bSTM k.val ≠ lStopping →
    (s.blk.stim k.val).ended = false → b = s.start.stmRun s.mem k.val → b.seqItem k.val = some .entry → (b.stim k.val).again = none →
    (b.stim k.val).idle < 16 → q = b.val (K.STM_SEQ + (b.stim k.val).entry + stmStore * 65536) → bits q 1 0 = 0 →
    exec (.stmSeqEntry k) s = .next (s.finish (
      let x := b.stim k.val
      (b.setStim k.val { x with word := q, vec := b.val (K.STM_SEQV + x.entry + stmStore * 65536) }).playBegin k.val x.entry (bits q 37 14 + 1)))) ∧
  (∀ (k : Fin 4) (b : Block) (q : Nat) (s : State), s.blk.live = true → s.blk.isOff bSTM k.val = false → s.blk.life bSTM k.val ≠ lStopping →
    (s.blk.stim k.val).ended = false → b = s.start.stmRun s.mem k.val → b.seqItem k.val = some .entry → (b.stim k.val).again = none →
    (b.stim k.val).idle < 16 → q = b.val (K.STM_SEQ + (b.stim k.val).entry + stmStore * 65536) → bits q 1 0 = 1 →
    exec (.stmSeqEntry k) s = .next (s.finish (
      let x := b.stim k.val
      let n := tget 0 x.loops x.entry + 1
      if n < bits q 37 14 + 1 then b.setStim k.val { x with loops := tset x.loops x.entry n, entry := bits q 49 38, idle := x.idle + 1 }
      else b.setStim k.val { x with loops := tset x.loops x.entry 0, entry := bits q 13 2, idle := x.idle + 1 }))) ∧
  (∀ (k : Fin 4) (b : Block) (q : Nat) (s : State), s.blk.live = true → s.blk.isOff bSTM k.val = false → s.blk.life bSTM k.val ≠ lStopping →
    (s.blk.stim k.val).ended = false → b = s.start.stmRun s.mem k.val → b.seqItem k.val = some .entry → (b.stim k.val).again = none →
    q = b.val (K.STM_SEQ + (b.stim k.val).entry + stmStore * 65536) → (bits q 1 0 = 2 ∨ 16 ≤ (b.stim k.val).idle) →
    exec (.stmSeqEntry k) s = .next (s.finish (
      let x := b.stim k.val
      b.setStim k.val { x with endAt := some (x.fed, if 16 ≤ x.idle then 2 else 1, x.entry) }))) ∧
  (∀ (k : Fin 4) (b : Block) (p : Play) (s : State), s.blk.live = true → s.blk.isOff bSTM k.val = false → s.blk.life bSTM k.val ≠ lStopping →
    (s.blk.stim k.val).ended = false → b = s.start.stmRun s.mem k.val → b.seqItem k.val = some .decision → (b.stim k.val).plays.getLast? = some p →
    exec (.stmDecisionPoint k) s = .next (s.finish (
      let x := b.stim k.val
      (b.setStim k.val { x with plays := x.plays.dropLast ++ [{ p with decided := true, fixed := x.held }], held := none }).pf K.STM_STATUS k.val 3 3 0))) ∧
  (∀ (k : Fin 4) (b : Block) (p : Play) (j : JumpReq) (s : State), s.blk.live = true → s.blk.isOff bSTM k.val = false → s.blk.life bSTM k.val ≠ lStopping →
    (s.blk.stim k.val).ended = false → b = s.start.stmRun s.mem k.val → b.seqItem k.val = some .effect → (b.stim k.val).plays.getLast? = some p →
    p.fixed = some j →
    exec (.stmJumpEffect k) s = .next (s.finish (
      let b := b.setStim k.val { b.stim k.val with plays := (b.stim k.val).plays.dropLast ++ [{ p with fixed := none }] }
      b.setStim k.val { b.stim k.val with loops := [], again := none, left := 0, idle := 0, entry := j.entry, jump := some j }))) ∧
  (∀ (l : Fin 16) (port : BitVec 16) (bytes : List Byte) (s : State), s.blk.live = true → s.blk.netUsable l.val = true →
    s.blk.isOn bNET l.val = true → which 4 (fun c => !s.blk.isOff bSTM c && s.blk.f K.STM_HOST_PORT c 15 0 == port.toNat) = [] →
    exec (.stimHostDatagram l port bytes) s = .next (s.finish (s.start.netDrop l.val))) ∧
  (∀ (l : Fin 16) (port : BitVec 16) (bytes : List Byte) (c : Nat) (rest : List Nat) (s : State), s.blk.live = true → s.blk.netUsable l.val = true →
    s.blk.isOn bNET l.val = true → which 4 (fun c => !s.blk.isOff bSTM c && s.blk.f K.STM_HOST_PORT c 15 0 == port.toNat) = c :: rest →
    (bytes.length < 16 ∨ beNat (bytes.take 4) ≠ 0x46594801 ∨ beNat ((bytes.drop 4).take 1) ≠ c ∨ beNat ((bytes.drop 6).take 2) ≠ 0) →
    exec (.stimHostDatagram l port bytes) s = .next (s.finish ((s.start.netRx l.val).inc K.STM_HOST_DROPPED c 1))) ∧
  (∀ (l : Fin 16) (port : BitVec 16) (bytes data : List Byte) (c first n pb : Nat) (rest : List Nat) (b : Block) (s : State), s.blk.live = true → s.blk.netUsable l.val = true →
    s.blk.isOn bNET l.val = true → which 4 (fun c => !s.blk.isOff bSTM c && s.blk.f K.STM_HOST_PORT c 15 0 == port.toNat) = c :: rest →
    16 ≤ bytes.length → beNat (bytes.take 4) = 0x46594801 → beNat ((bytes.drop 4).take 1) = c → beNat ((bytes.drop 5).take 1) = s.blk.stPack c →
    beNat ((bytes.drop 6).take 2) = 0 → data = bytes.drop 16 → pb = packBytes (s.blk.stPack c) → data.length % pb = 0 → n = data.length / pb →
    first = beNat ((bytes.drop 8).take 8) → b = (s.start.netRx l.val).stmRun s.mem c →
    (b.stim c).hostNext ≤ first → first + n ≤ (b.stim c).hostNext + b.fifoLen c → 0 < n →
    exec (.stimHostDatagram l port bytes) s = .next (s.finish (
      let b' := (List.range n).foldl (fun b i => b.hbmStores (b.fifoAt c (first + i)) ((data.drop (i * pb)).take pb)) (b.inc K.STM_LATE_SAMPLES c 0)
      b'.setStim c { b.stim c with have' := addRange first (first + n) (b.stim c).have' })))

/-- In THAW or FLOW: a channel that is not OFF and not ON outputs zeros; one that is ON and whose sequencer stands no further than LEAD ahead inserts a zero and counts in SLIP_TOTAL and as an under-run sample of cause 1 (the model's choice, log entry 163; stated with the vector plane OFF); past the end of playback it reports the end once and outputs zeros; in a play of a stored segment it outputs the interpolated sample, zeros with an under-run of cause 2 where the store data is late, and its position advances; the end of an under-run run counts it and raises its event with its first position, length and cause. A vector tick drives the tick's words and waits for its comparison, or drives the safe vector and counts in SAFE_TICKS; a comparison shows the pins, counts in COMPARES where a pin is in state C, and where one fails counts in FAILS and, if FIRST_TICK is all ones, fills the first-failure record and raises event 928. Each completes: stmOutputSample, stmUnderrunEnd, vecCompare, vecTick. (R374, R381, R384, R385, R386) -/
def Obligations.StimulusOutputAndVectors : Prop :=
  (∀ (k : Fin 4) (late : Bool) (s : State), s.blk.live = true → s.blk.isOff bSTM k.val = false → s.blk.isOn bSTM k.val = false →
    exec (.stmOutputSample k late) s = .next (s.finish (s.start.dacSend k.val (0, 0)))) ∧
  (∀ (k : Fin 4) (late : Bool) (b : Block) (s : State), s.blk.live = true → s.blk.isOn bSTM k.val = true → b = s.start.stmRun s.mem k.val →
    (b.stim k.val).ended = false → (b.stim k.val).endAt = none → (b.stim k.val).fed ≤ (b.stim k.val).pos + stmLead → b.isOn bVEC 0 = false →
    exec (.stmOutputSample k late) s = .next (s.finish (
      (((b.pv K.STM_SLIP_TOTAL k.val (b.val (ki K.STM_SLIP_TOTAL k.val) + 1)).stmUnder k.val (b.stim k.val).pos 1).dacSend k.val (0, 0))))) ∧
  (∀ (k : Fin 4) (late : Bool) (b : Block) (p r e : Nat) (s : State), s.blk.live = true → s.blk.isOn bSTM k.val = true → b = s.start.stmRun s.mem k.val →
    (b.stim k.val).ended = false → (b.stim k.val).endAt = some (p, r, e) → p ≤ (b.stim k.val).pos → (b.stim k.val).run = none →
    exec (.stmOutputSample k late) s = .next (s.finish (
      let b := ((b.stmEnd k.val r e).vecAt s.mem k.val (b.stim k.val).pos none false).dacSend k.val (0, 0)
      b.setStim k.val { b.stim k.val with pos := (b.stim k.val).pos + 1 }))) ∧
  (∀ (k : Fin 4) (b : Block) (n : Nat) (p : Play) (s : State), s.blk.live = true → s.blk.isOn bSTM k.val = true → b = s.start.stmRun s.mem k.val →
    (b.stim k.val).ended = false → (b.stim k.val).endAt = none → (b.stim k.val).pos + stmLead < (b.stim k.val).fed →
    (b.stim k.val).plays.findIdx? (fun p => decide (p.start ≤ (b.stim k.val).pos) && decide ((b.stim k.val).pos < p.stop)) = some n →
    (b.stim k.val).plays[n]? = some p → p.kind = 0 → p.jumped = none → (b.lnk bJTX (b.stLink k.val)).resync = false → (b.pll 0).down = false →
    (b.stim k.val).run = none →
    exec (.stmOutputSample k false) s = .next (s.finish (
      let x := b.stim k.val
      let b := ((b.pf K.STM_STATUS k.val 15 4 p.entry).vecAt s.mem k.val x.pos (some p) false)
      let b := b.dacSend k.val (b.playOut s.mem k.val x.plays n (x.pos - p.start))
      (b.setStim k.val { b.stim k.val with
        pos := x.pos + 1, plays := if x.pos + 1 = p.stop then x.plays.drop n else x.plays }).pf K.STM_STATUS k.val 3 3 (b2n x.held.isSome)))) ∧
  (∀ (k : Fin 4) (b : Block) (n : Nat) (p : Play) (s : State), s.blk.live = true → s.blk.isOn bSTM k.val = true → b = s.start.stmRun s.mem k.val →
    (b.stim k.val).ended = false → (b.stim k.val).endAt = none → (b.stim k.val).pos + stmLead < (b.stim k.val).fed →
    (b.stim k.val).plays.findIdx? (fun p => decide (p.start ≤ (b.stim k.val).pos) && decide ((b.stim k.val).pos < p.stop)) = some n →
    (b.stim k.val).plays[n]? = some p → p.kind = 0 → p.jumped = none → (b.lnk bJTX (b.stLink k.val)).resync = false →
    exec (.stmOutputSample k true) s = .next (s.finish (
      let x := b.stim k.val
      let b := (((b.stmUnder k.val x.pos 2).pf K.STM_STATUS k.val 15 4 p.entry).vecAt s.mem k.val x.pos (some p) true).dacSend k.val (0, 0)
      (b.setStim k.val { b.stim k.val with
        pos := x.pos + 1, plays := if x.pos + 1 = p.stop then x.plays.drop n else x.plays }).pf K.STM_STATUS k.val 3 3 (b2n x.held.isSome)))) ∧
  (∀ (k : Fin 4) (first n cause : Nat) (s : State), s.blk.live = true → (s.blk.stim k.val).run = some (first, n, cause) →
    exec (.stmUnderrunEnd k) s = .next (s.finish (
      (((s.start.setStim k.val { s.blk.stim k.val with run := none }).inc K.STM_UNDERRUN_RUNS k.val 1).pf K.STM_STATUS k.val 2 2 0).raise
        (913 + 4 * k.val) (beBytes 8 first ++ beBytes 4 (min n (2 ^ 32 - 1)) ++ beBytes 1 cause ++ zeros 3)))) ∧
  (∀ (t : VecDue) (rest : List VecDue) (s : State), s.blk.live = true → s.blk.vec.due = t :: rest → t.safe = false →
    exec .vecTick s = .next (s.finish (
      let w := t.words.getD (s.blk.vec.w0, s.blk.vec.w1)
      let b := ({ s.start with vec := { s.blk.vec with due := rest } }).vecDrive w (s.start.vecTime t.pos)
      { b with vec := { b.vec with cmp := some { t with words := some w } } }))) ∧
  (∀ (t : VecDue) (rest : List VecDue) (s : State), s.blk.live = true → s.blk.vec.due = t :: rest → t.safe = true →
    exec .vecTick s = .next (s.finish (
      let b := (({ s.start with vec := { s.blk.vec with due := rest } }).vecDrive s.blk.safeVec (s.start.vecTime t.pos)).inc K.VEC_SAFE_TICKS 0 1
      { b with vec := { b.vec with cmp := none } }))) ∧
  (∀ (levels : BitVec 48) (t : VecDue) (w : Nat × Nat) (bad : Nat) (s : State), s.blk.live = true → s.blk.vec.cmp = some t → w = t.words.getD (s.blk.vec.w0, s.blk.vec.w1) →
    which 32 (fun p => vecPin w p == 1) ≠ [] → bad = maskOf 32 (fun p => vecPin w p == 1 && bit levels.toNat p != bit w.2 (16 + p)) →
    bad ≠ 0 → s.blk.val K.VEC_FIRST_TICK = 2 ^ 64 - 1 →
    exec (.vecCompare levels) s = .next (s.finish (
      let b := { s.start with vec := { s.blk.vec with cmp := none } }
      let b := b.pf K.VEC_PINS 0 31 0 (maskOf 32 (fun p => if vecPin (s.blk.vec.w0, s.blk.vec.w1) p < 2 then bit levels.toNat p else vecPin (s.blk.vec.w0, s.blk.vec.w1) p == 3))
      let b := (b.inc K.VEC_COMPARES 0 1).inc K.VEC_FAILS 0 1
      let time := b.vecTime t.pos
      let b := (b.pv K.VEC_FIRST_TICK 0 t.tick).pf K.VEC_FIRST_PINS 0 31 0 bad
      let b := (b.pf K.VEC_FIRST_TIME_W0 0 47 0 time.w0).pf K.VEC_FIRST_TIME_W1 0 47 0 time.w1
      b.raise 928 (beBytes 8 t.tick ++ beBytes 4 bad ++ zeros 4)))) ∧
  (∀ (levels : BitVec 48) (t : VecDue) (w : Nat × Nat) (s : State), s.blk.live = true → s.blk.vec.cmp = some t → w = t.words.getD (s.blk.vec.w0, s.blk.vec.w1) →
    which 32 (fun p => vecPin w p == 1) ≠ [] → maskOf 32 (fun p => vecPin w p == 1 && bit levels.toNat p != bit w.2 (16 + p)) = 0 →
    exec (.vecCompare levels) s = .next (s.finish (
      let b := { s.start with vec := { s.blk.vec with cmp := none } }
      (b.pf K.VEC_PINS 0 31 0 (maskOf 32 (fun p => if vecPin (s.blk.vec.w0, s.blk.vec.w1) p < 2 then bit levels.toNat p else vecPin (s.blk.vec.w0, s.blk.vec.w1) p == 3))).inc K.VEC_COMPARES 0 1)))

/-- In FLOW over a link that is usable, a slave port: notes a two-step Sync with its arrival until its Follow_Up, computes its offset from a one-step Sync or from the Follow_Up with the same sequence number, takes the mean path delay from the Delay_Resp to its latest Delay_Req, keeps Announce data, and when due sends a Delay_Req and keeps its time; a master port answers a Delay_Req with its arrival time, and when due sends Sync with its Follow_Up, or Sync with the time inside in one-step operation, and Announce. The state machine of the port is the model's choice (log entry 27). Each completes: ptpSyncRx, ptpFollowUpRx, ptpDelayReqRx, ptpDelayRespRx, ptpAnnounceRx, ptpSyncTx, ptpAnnounceTx, ptpDelayReqTx. (R402, R403) -/
def Obligations.PtpMessages : Prop :=
  (∀ (l : Fin 17) (seq frac : BitVec 16) (t1 : BitVec 96) (corr : Word) (s : State), s.blk.dev = .flow → s.blk.ptpRuns l.val 2 = true →
    exec (.ptpSyncRx l seq true t1 corr frac) s = .next (s.finish (
      let b := s.start.ptpRx l.val
      b.setPtp l.val { s.blk.ptp l.val with waitSync := some (seq.toNat, b.instant frac.toNat, corr.toInt) }))) ∧
  (∀ (l : Fin 17) (seq frac : BitVec 16) (t1 : BitVec 96) (corr : Word) (s : State), s.blk.dev = .flow → s.blk.ptpRuns l.val 2 = true →
    exec (.ptpSyncRx l seq false t1 corr frac) s = .next (s.finish (
      let b := s.start.ptpRx l.val
      b.ptpOffset l.val t1.toNat (b.instant frac.toNat) corr.toInt))) ∧
  (∀ (l : Fin 17) (seq : BitVec 16) (t1 : BitVec 96) (corr : Word) (t2 c : Int) (s : State), s.blk.dev = .flow → s.blk.ptpRuns l.val 2 = true →
    (s.blk.ptp l.val).waitSync = some (seq.toNat, t2, c) →
    exec (.ptpFollowUpRx l seq t1 corr) s = .next (s.finish (
      ((s.start.ptpRx l.val).setPtp l.val { s.blk.ptp l.val with waitSync := none }).ptpOffset l.val t1.toNat t2 (c + corr.toInt)))) ∧
  (∀ (l : Fin 17) (seq frac : BitVec 16) (src : BitVec 80) (s : State), s.blk.dev = .flow → s.blk.ptpRuns l.val 1 = true →
    exec (.ptpDelayReqRx l seq src frac) s = .next (s.finish (
      let b := s.start.ptpRx l.val
      b.ptpSend l.val 9 ([seq.toNat, src.toNat] ++ b.stampFields (b.instant frac.toNat))))) ∧
  (∀ (l : Fin 17) (seq : BitVec 16) (t4 : BitVec 96) (corr : Word) (t3 ms : Int) (s : State), s.blk.dev = .flow → s.blk.ptpRuns l.val 2 = true →
    (s.blk.ptp l.val).t3 = some (seq.toNat, t3) → (s.blk.ptp l.val).ms = some ms →
    exec (.ptpDelayRespRx l seq t4 corr) s = .next (s.finish (
      let b := s.start.ptpRx l.val
      let sm : Int := t4.toNat - t3 - corr.toInt + rndEven (sgn 32 (b.f K.TIM_PTP_ASYM (ptpInst l.val) 31 0) * 65536) 1000
      (b.setPtp l.val { s.blk.ptp l.val with t3 := none }).pf K.TIM_PTP_MPD (ptpInst l.val) 31 0 (satU 32 (rndEven ((ms + sm) * 1000) 131072).toNat)))) ∧
  (∀ (l : Fin 17) (gm : Word) (cls : Byte) (time freq : Bool) (steps : BitVec 16) (s : State), s.blk.dev = .flow → s.blk.ptpRuns l.val 2 = true →
    (s.blk.timSrc ≠ 3 ∨ s.blk.f K.TIM_CFG 0 9 5 ≠ l.val) →
    exec (.ptpAnnounceRx l gm cls time freq steps) s = .next (s.finish (
      ((s.start.ptpRx l.val).setPtp l.val { s.blk.ptp l.val with
        ann := some ⟨gm.toNat, cls.toNat, time, freq, steps.toNat⟩, annAt := s.blk.ticks }).ptpSettle l.val))) ∧
  (∀ (l : Fin 17) (x : PtpPort) (s : State), s.blk.dev = .flow → s.blk.ptpRuns l.val 1 = true → x = s.blk.ptp l.val →
    x.syncAt + logInterval (sgn 4 (bits (s.blk.val (ki K.TIM_PTP_CFG (ptpInst l.val))) 8 5)) ≤ s.blk.ticks →
    exec (.ptpSyncTx l) s = .next (s.finish (
      let b := s.start.setPtp l.val { x with seq := (x.seq + 1) % 65536, syncAt := s.blk.ticks }
      let t := b.stampFields (b.instant 0)
      if bit (s.blk.val (ki K.TIM_PTP_CFG (ptpInst l.val))) 4 = true then b.ptpSend l.val 0 ([x.seq, 0] ++ t)
      else (b.ptpSend l.val 0 [x.seq, 1]).ptpSend l.val 8 ([x.seq] ++ t)))) ∧
  (∀ (l : Fin 17) (x : PtpPort) (s : State), s.blk.dev = .flow → s.blk.ptpRuns l.val 1 = true → x = s.blk.ptp l.val →
    x.annAt + logInterval (sgn 4 (bits (s.blk.val (ki K.TIM_PTP_CFG (ptpInst l.val))) 12 9)) ≤ s.blk.ticks →
    exec (.ptpAnnounceTx l) s = .next (s.finish (
      let b := s.start.setPtp l.val { x with annSeq := (x.annSeq + 1) % 65536, annAt := s.blk.ticks }
      b.ptpSend l.val 11 (x.annSeq :: 128 :: 128 :: b.ptpOwn)))) ∧
  (∀ (l : Fin 17) (x : PtpPort) (s : State), s.blk.dev = .flow → s.blk.ptpRuns l.val 2 = true → x = s.blk.ptp l.val →
    x.reqAt + logInterval (sgn 4 (bits (s.blk.val (ki K.TIM_PTP_CFG (ptpInst l.val))) 16 13)) ≤ s.blk.ticks →
    exec (.ptpDelayReqTx l) s = .next (s.finish (
      (s.start.setPtp l.val { x with
        reqSeq := (x.reqSeq + 1) % 65536, reqAt := s.blk.ticks, t3 := some (x.reqSeq, s.start.instant 0) }).ptpSend l.val 1 [x.reqSeq])))

/-- In THAW or FLOW: the selected edge of PPS_IN with source 0 or 2 updates the servo with its offset from a whole second, good within 100 ns, and while LOCKED heard as a pulse only within 1 microsecond (log entry 164); a frequency of REF_IN within 100 ppm updates it without an offset, and a larger error is a loss; in FLOW, while DISCIPLINED or GRANDMASTER and LOCKED, silence of the source for its time puts the time base into HOLDOVER with y at its mean over TAU, counts in REF_LOSSES and raises event 833; HOLD_MAX seconds of HOLDOVER end in FREE; with AGE_LEARN a day of lock learns the slope, writes AGEING and keeps it in the Firn store; at a boundary of a quiet engine a servo step that waits is made while STEP_EN is set. Each completes: ppsInEdge, refInUpdate, timeRefLoss, holdoverExpiry, ageingLearn, heldStep. (R392, R393, R394, R395, R397) -/
def Obligations.TimeReferences : Prop :=
  (∀ (rising : Bool) (frac : BitVec 16) (offset : Int) (s : State), s.blk.live = true → (s.blk.timSrc = 0 ∨ s.blk.timSrc = 2) →
    rising ≠ (s.blk.f K.TIM_PTP_DOMAIN 0 8 8 == 1) →
    -500000000 * 65536 ≤ offset → offset < 500000000 * 65536 →
    (s.start.instant frac.toNat - rndEven (sgn 32 (s.blk.f K.TIM_IN_DELAY 0 31 0) * 65536) 1000 - offset).emod (1000000000 * 65536) = 0 →
    exec (.ppsInEdge rising frac) s = .next (s.finish (
      s.start.servoUpdate (some offset) 0 (decide (offset.natAbs < lockLimit)) true (!s.blk.timLocked || decide (offset.natAbs ≤ 65536000))))) ∧
  (∀ (err : Word) (s : State), s.blk.live = true → (s.blk.timSrc = 1 ∨ s.blk.timSrc = 2) → err.toInt.natAbs ≤ 100000000 →
    exec (.refInUpdate err) s = .next (s.finish (
      s.start.servoUpdate none err.toInt (decide (err.toInt.natAbs < 1000)) (s.blk.timSrc == 1)))) ∧
  (∀ (err : Word) (s : State), s.blk.live = true → (s.blk.timSrc = 1 ∨ s.blk.timSrc = 2) → 100000000 < err.toInt.natAbs →
    exec (.refInUpdate err) s = .next (s.finish s.start.timLoss)) ∧
  (∀ (b : Block) (s : State), s.blk.dev = .flow → s.blk.timSrc = 0 → s.blk.tim.lost = false → (s.blk.timState = 1 ∨ s.blk.timState = 3) →
    s.blk.timLocked = true → s.blk.tim.refAt + (2 * 1600000000 + 1600) ≤ s.blk.ticks →
    b = ((s.start.inc K.TIM_REF_LOSSES 0 1).raise 833 (beBytes 1 0)).pf K.TIM_STATE 0 6 6 0 →
    exec .timeRefLoss s = .next (s.finish (
      let b := b.setTim { b.tim with lost := true, back := 0, good := 0, bad := 0 }
      let q := b.quality
      let b := b.setY b.yMean
      let b := b.setTim { b.tim with before := q, holdAt := s.blk.ticks, holdBase := 0 }
      (b.pf K.TIM_HOLD_SECONDS 0 31 0 0).setTimState 2 false))) ∧
  (∀ (s : State), s.blk.live = true → s.blk.timState = 2 → s.blk.f K.TIM_HOLD_MAX 0 31 0 ≤ s.blk.holdSeconds →
    exec .holdoverExpiry s = .next (s.finish (
      (s.start.pf K.TIM_HOLD_SECONDS 0 31 0 s.blk.holdSeconds).ageRestart.setTimState 0 false))) ∧
  (∀ (s : State), s.blk.live = true → s.blk.f K.TIM_CFG 0 12 12 = 1 → s.blk.timLocked = true →
    s.blk.tim.lockedAt + 86400 * 1600000000 ≤ s.blk.ticks → s.blk.tim.learnAt + 86400 * 1600000000 ≤ s.blk.ticks →
    exec .ageingLearn s = .next (s.finish (
      let a := (Config.ageFit s.blk.tim.hist).toNat
      let b := s.start.ageRestart.pf K.TIM_AGEING 0 31 0 a
      { b.setTim { b.tim with learnAt := b.ticks } with firn := tset b.firn K.TIM_AGEING (BitVec.ofNat 64 a) }))) ∧
  (∀ (d : Int) (s : State), s.blk.live = true → s.blk.cycle = 0 → s.blk.tim.step = true → s.blk.f K.TIM_CFG 0 11 11 = 1 → s.blk.quiet = true → s.blk.topology = 0 →
    d = (sgn 64 (s.blk.val K.TIM_OFFSET)).tdiv (5 * 1280 * 65536) * 5 → d ≠ 0 →
    exec .heldStep s = .next (s.finish (
      let b := (s.start.setTim { s.blk.tim with step := false }).pf K.TIM_STATE 0 5 5 0
      (b.pv K.TIM_OFFSET 0 (uns 64 (sgn 64 (b.val K.TIM_OFFSET) - d * (1280 * 65536)))).stepTo ((s.blk.beat : Int) - d).toNat))) ∧
  (∀ (d : Int) (s : State), s.blk.live = true → s.blk.cycle = 0 → s.blk.tim.step = true → s.blk.f K.TIM_CFG 0 11 11 = 1 → s.blk.leader = true → s.blk.plt.notice = none →
    s.blk.groupQuiet = true → d = (sgn 64 (s.blk.val K.TIM_OFFSET)).tdiv (5 * 1280 * 65536) * 5 → d ≠ 0 →
    exec .heldStep s = .next (s.finish (
      let b := (s.start.setTim { s.blk.tim with step := false }).pf K.TIM_STATE 0 5 5 0
      (b.pv K.TIM_OFFSET 0 (uns 64 (sgn 64 (b.val K.TIM_OFFSET) - d * (1280 * 65536)))).stepNotice (-d))))

/-- In THAW or FLOW: PPS_OUT[k], enabled and with quality enough, rises once where a whole second plus PPS_DELAY falls in the beat and falls WIDTH microseconds later; the oldest measurement closes once no later edge of a stop input can lie in its window, or the service is not ON, and no stop edge that waits can belong to it, counts in MEASUREMENTS and gives each stop input's results; a die temperature more than CAL_DT from that of the last run starts a calibration run in FLOW; a run in FLOW that ends with 16 histograms that pass leaves its table to come into force at the next boundary, one that fails counts in CAL_FAIL and keeps the old table; each raises event 838. Each completes: ppsOutPulse, tiuCalTempStart, tiuCalEnd, tiuMeasurementClose. (R399, R407, R408) -/
def Obligations.TimeOutputsAndIntervals : Prop :=
  (∀ (k : Fin 2) (n : Nat) (d : Int) (s : State), s.blk.live = true → bit (s.blk.val (ki K.TIM_PPS_CFG (ppsInst k.val))) 0 = true →
    bit (s.blk.val (ki K.TIM_PPS_CFG (ppsInst k.val))) 1 = false →
    (n : Int) * 1000000000000 + sgn 32 (s.blk.f K.TIM_PPS_DELAY (ppsInst k.val) 31 0) - s.blk.beat * 1280000 = d → 0 ≤ d → d < 1280000 →
    tget 0 s.blk.tim.pps k.val ≠ n + 1 →
    exec (.ppsOutPulse k) s = .next (s.finish (
      let b := s.start.setTim { s.blk.tim with pps := tset s.blk.tim.pps k.val (n + 1) }
      (b.send (.pin "PPS_OUT" k.val true d)).send
        (.pin "PPS_OUT" k.val false (d + bits (s.blk.val (ki K.TIM_PPS_CFG (ppsInst k.val))) 20 2 * 1000000))))) ∧
  (∀ (b : Block) (m : Meas) (rest : List Meas) (s : State), s.blk.live = true → b = s.start.tiuSweep → b.tiu.meas = m :: rest →
    b.tiuOver m.s = true → b.tiu.edges.any (fun e => b.tiuIn m.s e.2.1) = false →
    exec .tiuMeasurementClose s = .next (s.finish (
      (which 8 (fun i => bit (b.f K.TIU_MEAS 0 10 3) i)).foldl (fun b i => b.tiuResults m i)
        ((b.setTiu { b.tiu with meas := rest }).inc K.TIU_MEASUREMENTS 0 1)))) ∧
  (∀ (temp : BitVec 16) (s : State), s.blk.dev = .flow → s.blk.f K.TIU_CAL_CFG 0 7 0 * 8 < (temp.toInt - s.blk.tiu.temp).natAbs →
    exec (.tiuCalTempStart temp) s = .next (s.finish ((s.start.setTiu { s.blk.tiu with running := true }).pf K.TIU_CAL_STATE 0 1 0 1))) ∧
  (∀ (temp : BitVec 16) (s : State), s.blk.dev = .flow → (temp.toInt - s.blk.tiu.temp).natAbs ≤ s.blk.f K.TIU_CAL_CFG 0 7 0 * 8 →
    exec (.tiuCalTempStart temp) s = .next (s.finish s.start)) ∧
  (∀ (hits : List (List (BitVec 32))) (h : List (List Nat)) (temp : BitVec 16) (s : State), s.blk.dev = .flow → s.blk.tiu.running = true →
    h = hits.map (fun l => l.map (·.toNat)) → h.length = 16 → h.all histPass = true →
    exec (.tiuCalEnd hits temp) s = .next (s.finish (
      let b := s.start.setTiu { s.blk.tiu with running := false, temp := temp.toInt, owed := s.blk.tiu.owed && s.blk.coreSafe, next := some (h, temp.toInt) }
      (b.pf K.TIU_CAL_STATE 0 1 0 2).raise 838 (beBytes 1 0 ++ beBytes 2 (codesUsed (h.headD [])) ++ zeros 5 ++ beBytes 8 (s.blk.beat + 1))))) ∧
  (∀ (hits : List (List (BitVec 32))) (bad : List Nat) (temp : BitVec 16) (s : State), s.blk.dev = .flow → s.blk.tiu.running = true →
    ((hits.map (fun l => l.map (·.toNat))).take 16).find? (fun h => !histPass h) = some bad → s.blk.tiu.next = none →
    exec (.tiuCalEnd hits temp) s = .next (s.finish (
      let b := s.start.setTiu { s.blk.tiu with running := false, temp := temp.toInt, owed := s.blk.tiu.owed && s.blk.coreSafe }
      let b := (b.inc K.TIU_CAL_FAIL 0 1).pf K.TIU_CAL_STATE 0 1 0 (if s.blk.tiu.passed then 2 else 0)
      b.raise 838 (beBytes 1 1 ++ beBytes 2 (codesUsed bad) ++ zeros 5 ++ beBytes 8 0))))

/-- In THAW or FLOW, while the Plait clock is locked: a port that is STARTING or ON and not yet UP and whose exchange names the partner that its wiring gives records it with its delays and becomes UP; one that names another partner becomes WIRING_FAULT, from which the exchange may be repeated after 100 ms; a port that loses its link starts again at step 1, with 64 errors counted where CRCs failed. On a port that is UP: a time exchange with a CRC error only counts it, and otherwise is noted, and on the upstream port of a member DISCIPLINED to SRC 4 updates its servo with its time less the partner's; a leader keeps or drops a member's quiet report, records a member's outcome, and a member passes on the leader's beat number and a step notice, which it keeps while JOINED; a packet over CTRL goes back along its route if it is a reply, and else is taken as at a BCP port. Each completes: pltPortUp, pltWiringRetry, pltPortFault, pltTimeExchange, pltBeatMessage, pltQuietReport, pltStepNotice, pltCtrlMessage, pltOutcomeReport. (R450, R452, R454, R455, R461, R462) -/
def Obligations.PlaitPortsAndTime : Prop :=
  (∀ (p : Fin 4) (node : BitVec 18) (port : Fin 4) (out back : BitVec 48) (cut : List (Fin 16 × Fin 4)) (b : Block) (s : State), s.blk.live = true →
    (s.blk.life bPLT (pltPort p.val) = lStarting ∨ s.blk.life bPLT (pltPort p.val) = lOn) → s.blk.portState p.val ≠ 3 → s.blk.portState p.val ≠ 0 →
    s.blk.clkLocked 2 = true →
    b = ((s.start.setPlt { s.blk.plt with cut := cut.map (fun x => (x.1.val, x.2.val)) }).pf K.PLT_PORT_STATE (pltPort p.val) 20 3 node.toNat).pf
      K.PLT_PORT_STATE (pltPort p.val) 22 21 port.val →
    b.wiring b.member p.val = some (node.toNat % 16, port.val) → b.portState p.val ≠ 0 →
    exec (.pltPortUp p node port out back cut) s = .next (s.finish (
      let b := b.setPortState p.val 2
      let b := (b.pv K.PLT_DELAY (pltPort p.val) (uns 32 (rndEven (out.toInt + back.toInt) 2))).pv K.PLT_ASYM (pltPort p.val)
        (uns 32 (rndEven (out.toInt - back.toInt) 2))
      (b.setPPort p.val { step := 0, since := b.ticks, exchangeAt := b.ticks }).setPortState p.val 3))) ∧
  (∀ (p : Fin 4) (node : BitVec 18) (port : Fin 4) (out back : BitVec 48) (cut : List (Fin 16 × Fin 4)) (b : Block) (s : State), s.blk.live = true →
    (s.blk.life bPLT (pltPort p.val) = lStarting ∨ s.blk.life bPLT (pltPort p.val) = lOn) → s.blk.portState p.val ≠ 3 → s.blk.clkLocked 2 = true →
    b = ((s.start.setPlt { s.blk.plt with cut := cut.map (fun x => (x.1.val, x.2.val)) }).pf K.PLT_PORT_STATE (pltPort p.val) 20 3 node.toNat).pf
      K.PLT_PORT_STATE (pltPort p.val) 22 21 port.val →
    b.wiring b.member p.val ≠ some (node.toNat % 16, port.val) →
    exec (.pltPortUp p node port out back cut) s = .next (s.finish (
      (b.setPPort p.val { b.pPort p.val with step := 3, since := b.ticks }).setPortState p.val 4))) ∧
  (∀ (p : Fin 4) (node : BitVec 18) (port : Fin 4) (out back : BitVec 48) (cut : List (Fin 16 × Fin 4)) (s : State), s.blk.live = true →
    s.blk.portState p.val = 4 → (s.blk.pPort p.val).since + 160000000 ≤ s.blk.ticks →
    exec (.pltWiringRetry p node port out back cut) s = exec (.pltPortUp p node port out back cut) s) ∧
  (∀ (p : Fin 4) (node : BitVec 18) (port : Fin 4) (out back : BitVec 48) (cut : List (Fin 16 × Fin 4)) (s : State), (s.blk.portState p.val ≠ 4 ∨ s.blk.ticks < (s.blk.pPort p.val).since + 160000000) →
    exec (.pltWiringRetry p node port out back cut) s = .next (s.finish s.start)) ∧
  (∀ (p : Fin 4) (crc : Bool) (cut : List (Fin 16 × Fin 4)) (s : State), s.blk.live = true →
    (s.blk.life bPLT (pltPort p.val) = lStarting ∨ s.blk.life bPLT (pltPort p.val) = lOn) →
    exec (.pltPortFault p crc cut) s = .next (s.finish (
      let b := (s.start.setPlt { s.blk.plt with cut := cut.map (fun x => (x.1.val, x.2.val)) }).setPPort p.val
        { s.blk.pPort p.val with step := 1, since := s.blk.ticks }
      let b := if crc = true then b.inc K.PLT_CRC_ERR (pltPort p.val) 64 else b
      b.setPortState p.val (if s.blk.life bPLT (pltPort p.val) = lOn then 0 else 1)))) ∧
  (∀ (p : Fin 4) (t1 t2 t3 t4 : BitVec 80) (s : State), s.blk.live = true → s.blk.portHears p.val = true →
    exec (.pltTimeExchange p t1 t2 t3 t4 true) s = .next (s.finish (s.start.inc K.PLT_CRC_ERR (pltPort p.val) 1))) ∧
  (∀ (p : Fin 4) (t1 t2 t3 t4 : BitVec 80) (s : State), s.blk.live = true → s.blk.portHears p.val = true → s.blk.timSrc ≠ 4 →
    exec (.pltTimeExchange p t1 t2 t3 t4 false) s = .next (s.finish (s.start.setPPort p.val { s.blk.pPort p.val with exchangeAt := s.blk.ticks }))) ∧
  (∀ (p : Fin 4) (t1 t2 t3 t4 : BitVec 80) (h : Nat) (offset : Int) (s : State), s.blk.live = true → s.blk.portHears p.val = true → s.blk.timSrc = 4 →
    s.blk.timMode = 1 → s.blk.upstream = some (p.val, h) →
    offset = rndEven (((t4.toInt - t3.toInt) - (t2.toInt - t1.toInt) + 2 * sgn 32 (s.blk.val (ki K.PLT_ASYM (pltPort p.val)))) * 65536) 2000 →
    exec (.pltTimeExchange p t1 t2 t3 t4 false) s = .next (s.finish (
      ((s.start.setPPort p.val { s.blk.pPort p.val with exchangeAt := s.blk.ticks }).servoUpdate (some offset) 0
        (decide (offset.natAbs < lockLimit)) true).pltSettle))) ∧
  (∀ (p : Fin 4) (n : Word) (quality : BitVec 2) (h : Nat) (s : State), s.blk.live = true → s.blk.portHears p.val = true → s.blk.topology ≠ 0 →
    s.blk.leader = false → s.blk.upstream = some (p.val, h) → s.blk.timSrc ≠ 4 →
    exec (.pltBeatMessage p n quality false) s = .next (s.finish (
      let b := s.start.pltFlood p.val 1 [n.toNat, quality.toNat]
      (b.setPlt { s.blk.plt with toward := some ((n.toNat : Int) - s.blk.beat) }).pltSettle))) ∧
  (∀ (p : Fin 4) (member : Fin 16) (joined quiet : Bool) (s : State), s.blk.live = true → s.blk.portHears p.val = true → s.blk.leader = true →
    exec (.pltQuietReport p member joined quiet false) s = .next (s.finish (
      s.start.setPlt { s.blk.plt with
        quiets := if joined = true then tset s.blk.plt.quiets member.val quiet else tdel s.blk.plt.quiets member.val }))) ∧
  (∀ (p : Fin 4) (atBeat step : Word) (h : Nat) (s : State), s.blk.live = true → s.blk.portHears p.val = true → s.blk.leader = false →
    s.blk.upstream = some (p.val, h) → s.blk.joinedNow = true →
    exec (.pltStepNotice p atBeat step false) s = .next (s.finish (
      (s.start.pltFlood p.val 3 [atBeat.toNat, uns 64 step.toInt]).setPlt { s.blk.plt with notice := some (atBeat.toNat, step.toInt) }))) ∧
  (∀ (p : Fin 4) (member : Fin 16) (seq : BitVec 32) (status : BitVec 16) (s : State), s.blk.live = true → s.blk.portHears p.val = true →
    s.blk.leader = true → s.blk.val K.PLT_OUT_SEQ = seq.toNat → s.blk.f K.PLT_OUT_DONE 0 15 0 &&& (2 ^ s.blk.grpSize - 1) = 2 ^ s.blk.grpSize - 1 →
    exec (.pltOutcomeReport p member seq status false) s = .next (s.finish (
      ((s.start.pf K.PLT_OUT_DONE 0 member.val member.val 1).pf K.PLT_OUT_OK 0 member.val member.val
        (b2n (status.toNat == 0 || status.toNat == 1))).setVal (K.PLT_OUT_STATUS + member.val) (status.toNat % 65536)))) ∧
  (∀ (p : Fin 4) (op : BitVec 16) (q : Packet) (s : State), s.blk.live = true → s.blk.portHears p.val = true → pkFlag q 0 = true →
    exec (.pltCtrlMessage p op q false) s = .next (s.finish (s.start.carryReply op.toNat q))) ∧
  (∀ (p : Fin 4) (op : BitVec 16) (q : Packet) (s : State), s.blk.live = true → s.blk.portHears p.val = true → pkFlag q 0 = false →
    exec (.pltCtrlMessage p op q false) s = .next (s.finish (s.start.packetAt s.mem (17 + p.val) op.toNat q)))

/-- In THAW or FLOW, for an import that is STARTING or ON: the first context message that arrives on its port, of the kind of its lane and with its slots free, gives the lane the exporter's epoch, anchor, step and rate, records the source and starts the lane; one of another kind, or whose slots are taken, ends the import with event 813 of reason 1 or 2; once it has a context, a lost frame counts in DATA_LOST (and CRC_ERR where its CRC failed) and its samples are missing, the end of the export is reported once with reason 4, and after it the samples are missing and count in IMP_MISSING alone, and a data frame of one sample gives the lane that sample with its flags. Each completes: pltImportContext, pltImportFrame. (R458, R459) -/
def Obligations.PlaitImports : Prop :=
  (∀ (x : Fin 8) (ctx : ExportContext) (i : Nat) (s : State), s.blk.live = true → i = s.blk.impLane x.val → s.blk.portHears (s.blk.impPort x.val) = true →
    (s.blk.life bPLT (pltImp x.val) = lStarting ∨ s.blk.life bPLT (pltImp x.val) = lOn) → ctx.kind = s.blk.f K.LANE_CFG i 1 0 →
    (s.blk.imp x.val).stopped = false → (s.blk.imp x.val).context = false → s.blk.slotsFree i = true →
    exec (.pltImportContext x ctx) s = .next (s.finish (
      let b := s.start.setImp x.val { s.blk.imp x.val with pack := ctx.pack }
      let b := b.pf K.PLT_IMP_SRC (pltImp x.val) 22 0 (ctx.node % 2 ^ 18 + ctx.lane % 32 * 2 ^ 18)
      let b := ((b.pv K.LANE_EPOCH_BEAT i ctx.epoch).pv K.LANE_ANCHOR_INDEX i ctx.anchorIndex).pv K.LANE_ANCHOR_INPUT i ctx.anchorInput
      let b := (b.pv K.LANE_STEP_Q i ctx.stepQ).pf K.LANE_F_IN i 39 0 (rndEven (ctx.finN : Int) (max 1 ctx.finD)).toNat
      let b := (b.setImp x.val { b.imp x.val with context := true }).setLane i { running := true, finN := ctx.finN, finD := ctx.finD }
      b.setLife bLANE i lStarting))) ∧
  (∀ (x : Fin 8) (ctx : ExportContext) (s : State), s.blk.live = true → s.blk.portHears (s.blk.impPort x.val) = true →
    (s.blk.life bPLT (pltImp x.val) = lStarting ∨ s.blk.life bPLT (pltImp x.val) = lOn) → ctx.kind ≠ s.blk.f K.LANE_CFG (s.blk.impLane x.val) 1 0 →
    (s.blk.imp x.val).stopped = false →
    exec (.pltImportContext x ctx) s = .next (s.finish ((s.start.impEvent x.val 1 0 0).impStop x.val))) ∧
  (∀ (x : Fin 8) (ctx : ExportContext) (s : State), s.blk.live = true → s.blk.portHears (s.blk.impPort x.val) = true →
    (s.blk.life bPLT (pltImp x.val) = lStarting ∨ s.blk.life bPLT (pltImp x.val) = lOn) → ctx.kind = s.blk.f K.LANE_CFG (s.blk.impLane x.val) 1 0 →
    (s.blk.imp x.val).stopped = false → (s.blk.imp x.val).context = false → s.blk.slotsFree (s.blk.impLane x.val) = false →
    exec (.pltImportContext x ctx) s = .next (s.finish ((s.start.impEvent x.val 2 0 0).impStop x.val))) ∧
  (∀ (x : Fin 8) (late : Bool) (s : State), s.blk.live = true →
    (s.blk.life bPLT (pltImp x.val) = lStarting ∨ s.blk.life bPLT (pltImp x.val) = lOn) → (s.blk.imp x.val).context = true →
    (s.blk.imp x.val).stopped = false →
    exec (.pltImportFrame x .stopped late) s = .next (s.finish (
      (s.start.setImp x.val { s.blk.imp x.val with stopped := true }).impEvent x.val 4 0 0))) ∧
  (∀ (x : Fin 8) (first count : Nat) (crc late : Bool) (s : State), s.blk.live = true →
    (s.blk.life bPLT (pltImp x.val) = lStarting ∨ s.blk.life bPLT (pltImp x.val) = lOn) → (s.blk.imp x.val).context = true →
    (s.blk.imp x.val).stopped = false →
    exec (.pltImportFrame x (.lost first count crc) late) s = .next (s.finish (
      let p := pltPort (s.blk.impPort x.val)
      let i := s.blk.impLane x.val
      let b := s.start.inc K.PLT_DATA_LOST p 1
      let b := if crc = true then b.inc K.PLT_CRC_ERR p 1 else b
      let r := b.impLost x.val first count
      r.2.foldl (fun b o => Block.laneDeliver s.mem (b.impOut i o) i late o) r.1))) ∧
  (∀ (x : Fin 8) (first count : Nat) (crc late : Bool) (s : State), s.blk.live = true →
    (s.blk.life bPLT (pltImp x.val) = lStarting ∨ s.blk.life bPLT (pltImp x.val) = lOn) → (s.blk.imp x.val).context = true →
    (s.blk.imp x.val).stopped = true →
    exec (.pltImportFrame x (.lost first count crc) late) s = .next (s.finish (
      let i := s.blk.impLane x.val
      let b := (s.start.setImp x.val { s.blk.imp x.val with left := true }).inc K.PLT_IMP_MISSING (pltImp x.val) count
      let o (k : Nat) : LaneOut := ⟨first + k, 0, 0, false, some (1, 0x10 + s.blk.impPort x.val), false, false, false, false, none⟩
      (List.range count).foldl (fun b k => Block.laneDeliver s.mem (b.impOut i (o k)) i late (o k)) b))) ∧
  (∀ (x : Fin 8) (first seq cause detail i w : Nat) (sm : ExportSample) (late : Bool) (s : State), s.blk.live = true →
    (s.blk.life bPLT (pltImp x.val) = lStarting ∨ s.blk.life bPLT (pltImp x.val) = lOn) → (s.blk.imp x.val).context = true →
    (s.blk.imp x.val).stopped = false → s.blk.portHears (s.blk.impPort x.val) = true → i = s.blk.impLane x.val → w = 4 * packBytes (s.blk.imp x.val).pack → sm.flags = 0x10 →
    exec (.pltImportFrame x (.data first seq cause detail [sm]) late) s = .next (s.finish (
      let b := (s.start.setLane i { s.blk.lane i with rateSeq := seq % 65536 }).setImp x.val { s.blk.imp x.val with left := true }
      let o : LaneOut := ⟨first, sgn w (uns w sm.i) * (2 ^ (24 - w) : Nat), sgn w (uns w sm.q) * (2 ^ (24 - w) : Nat), true, none, false, false, false,
        false, none⟩
      Block.laneDeliver s.mem (b.impOut i o) i late o)))

/-- In THAW, FLOW and HALT: an asserted PORESET_N begins a power-on reset and RESET_N a cold one, each with its cause and the pin noted as held; a released pin is no longer held. In THAW and FLOW the watchdog begins a warm reset with cause 4, counts in WDOG_RESETS, and where two such resets came in the last 10 s enters HALT with cause 3. The end of a power-on or cold reset with no pin held samples the straps and enters BOOT with the slots that the boot mode gives, or HALT with cause 2 in mode 3; in BOOT a slot that passes every check is accepted with its version, one that fails is passed over with its cause, and the last enters HALT with cause 1; an accepted image enters THAW at beat 0, with the regulator's VOUT_MODE asked for, if the Firn store reads, and otherwise HALT with cause 6; an uncorrectable error of the keeper enters HALT with cause 4. Each completes: resetEnd, bootSlot, resetPinRelease, powerOnReset, coldResetPin, watchdogReset, thawEntry, keeperFault. (R467, R469, R470, R471, R472, R477) -/
def Obligations.ResetAndBoot : Prop :=
  (∀ (s : State), s.blk.dev ≠ .reset → s.blk.dev ≠ .boot →
    exec .powerOnReset s = .next (s.finish (
      let b := (s.start.coldBlock 0).pf K.SYS_RESET_CAUSE 0 2 0 0
      b.setSys { b.sys with held := b.sys.held ||| 1 }))) ∧
  (∀ (s : State), s.blk.dev ≠ .reset → s.blk.dev ≠ .boot →
    exec .coldResetPin s = .next (s.finish (
      let b := (s.start.coldBlock 1).pf K.SYS_RESET_CAUSE 0 2 0 1
      b.setSys { b.sys with held := b.sys.held ||| 2 }))) ∧
  (∀ (s : State), (s.blk.dev = .reset ∨ s.blk.dev = .boot) → s.blk.sys.kind = 0 →
    exec .coldResetPin s = .next (s.finish (
      let b := (s.start.coldBlock 0).pf K.SYS_RESET_CAUSE 0 2 0 (s.blk.f K.SYS_RESET_CAUSE 0 2 0)
      b.setSys { b.sys with held := b.sys.held ||| 2 }))) ∧
  (∀ (pin : Fin 2) (s : State), exec (.resetPinRelease pin) s = .next (s.finish (s.start.setSys { s.blk.sys with held := setBits s.blk.sys.held pin.val pin.val 0 }))) ∧
  (∀ (recent : List Nat) (s : State), s.blk.live = true → recent = s.blk.sys.wdogs.filter (fun t => decide (s.blk.ticks < t + 10 * 1600000000)) →
    recent.length < 2 →
    exec .watchdogReset s = .next (s.finish (
      let b := s.start.firnSet K.SYS_WDOG_RESETS ((s.blk.val K.SYS_WDOG_RESETS + 1) % 2 ^ 32)
      ((b.setSys { b.sys with wdogs := recent ++ [s.blk.ticks] }).warmBlock).pf K.SYS_RESET_CAUSE 0 2 0 4))) ∧
  (∀ (s : State), s.blk.live = true → 2 ≤ (s.blk.sys.wdogs.filter (fun t => decide (s.blk.ticks < t + 10 * 1600000000))).length →
    exec .watchdogReset s = .next (s.finish (s.start.enterHalt 3))) ∧
  (∀ (member : BitVec 4) (bootMode : BitVec 2) (s : State), s.blk.dev = .reset → s.blk.sys.held = 0 → s.blk.sys.kind ≠ 2 → bootMode ≠ 3 →
    exec (.resetEnd member bootMode) s = .next (s.finish { s.start with
      dev := .boot
      sys := { s.blk.sys with
        member := member.toNat, bootMode := bootMode.toNat, booted := false, rejected := 0, slots := [[0, 1], [1, 0], [0], []].getD bootMode.toNat [] } })) ∧
  (∀ (member : BitVec 4) (s : State), s.blk.dev = .reset → s.blk.sys.held = 0 → s.blk.sys.kind ≠ 2 →
    exec (.resetEnd member 3) s = .next (s.finish ((s.start.setSys { s.blk.sys with
      member := member.toNat, bootMode := 3, booted := false, rejected := 0, slots := [] }).enterHalt 2))) ∧
  (∀ (slot : BootSlot) (k : Nat) (rest : List Nat) (s : State), s.blk.dev = .boot → s.blk.sys.booted = false → s.blk.sys.slots = k :: rest →
    exec (.bootSlot slot) s = .next (s.finish (
      if s.start.bootCheck slot = 0 then
        let first := s.blk.sys.rejected
        let image := beNat ((slot.header.drop 6).take 2) % 64 + k * 64 + b2n (first != 0) * 128 + beNat ((slot.header.drop 16).take 1) % 4 * 256 + first * 1024
        ((s.start.pv K.SEC_IMAGE 0 image).pv K.SYS_FW_VERSION 0 (beNat ((slot.header.drop 8).take 4))).setSys { s.blk.sys with slots := rest, booted := true }
      else
        let b := s.start.setSys { s.blk.sys with slots := rest, rejected := s.start.bootCheck slot }
        if rest.isEmpty = true then b.enterHalt 1 else b))) ∧
  (∀ (s : State), s.blk.dev = .boot → s.blk.sys.booted = true →
    exec .thawEntry s = .next (s.finish (
      if Config.firnReadable s.blk.fresh = true then
        let b := [0, 1, 2, 5].foldl Block.pllSeries { s.start with dev := .thaw, beat := 0, tim := { s.blk.tim with ageAt := s.blk.ticks } }
        let b := b.sys.group.foldl (fun b (_, id, h2e, e2h) => b.groupSession id h2e e2h) b
        let b := b.tiuCalStart
        let b := b.cals.foldl (fun b (t, _) => b.calShow t) b
        (((b.setAux { b.aux with want := true }).auxRefStart).tick.pltSettle).pmQueue false [(pmVoutMode, 0)]
      else s.start.tick.enterHalt 6))) ∧
  (∀ (s : State), s.blk.dev ≠ .halt → exec .keeperFault s = .next (s.finish (s.start.enterHalt 4)))

/-- In THAW, once: the end of training sets PC_OK, N_PC and UNIT_BYTES from the pseudo-channels with a working setting and retires the others, raising EV_MEM_RETIRED for each; with none a pending request for FLOW is dropped. At a boundary of a trained engine in THAW, with a pending request, a pseudo-channel in service and the core clock locked, or where FLOW_CFG asks for it and its own conditions hold, the engine is in FLOW after FLOW_ENTRY, with no request pending; where neither holds nothing changes. Each completes: hbmTrainingEnd, flowEntry. (R243, R246, R470, R475, R476) -/
def Obligations.TrainingAndFlow : Prop :=
  (∀ (bad : List (Fin 128)) (s : State), s.blk.dev = .thaw → s.blk.sys.trained = false → (which 128 (fun p => !(bad.map (·.val)).contains p)) ≠ [] →
    exec (.hbmTrainingEnd bad) s = .next (s.finish (
      let ok (p : Nat) : Bool := !(bad.map (·.val)).contains p
      let n := (which 128 ok).length
      let b := (List.range 4).foldl (fun b s => b.pv K.MEM_PC_OK (stackInst s) (maskOf 32 (fun c => ok (32 * s + c)))) s.start
      let b := (b.pf K.MEM_N_PC 0 7 0 n).pv K.MEM_UNIT_BYTES 0 (n * 8388608)
      let gone := which 128 (fun p => !ok p)
      let b := (gone.mapIdx (fun k p => (k, p))).foldl (fun b e =>
        (b.setPcState e.2 3).raise 679 (beBytes 1 e.2 ++ beBytes 1 (127 - e.1) ++ zeros 6 ++ beBytes 8 b.beat)) b
      let b := { b with firstRetired := gone.head? }
      b.setSys { b.sys with trained := true }))) ∧
  (∀ (s : State), s.blk.dev = .thaw → s.blk.cycle = 0 → s.blk.sys.trained = true → s.blk.unreleased = none →
    s.blk.f K.SYS_FLOW_PENDING 0 0 0 = 1 → 128 ≤ s.blk.nPc → s.blk.clkState 0 = 0 → s.blk.clkState 1 = 0 → s.blk.clkState 2 = 0 →
    (List.range 6).find? (fun n => s.blk.clkState n == 5) = none →
    exec .flowEntry s = .next (s.finish (
      let b := Block.capFlowEntry s.mem s.start
      let b := { b with dev := .flow, stores := .clear (spThaw 0) (spThaw (2 ^ 26)) :: b.stores }
      let b := (List.range 32).foldl Block.cpRingShow (b.pf K.SYS_FLOW_PENDING 0 0 0 0)
      let b := if b.nPc < 128 then b.setCause 1 (mkKey bMEM (pcInst (b.firstRetired.getD 0)) 0) else b
      let b := match b.unreleased with | some k => b.setCause 5 (mkKey bJRX k 0) | none => b
      let b := b.setSys { b.sys with flowPlls := [] }
      let b := match (List.range 6).find? (fun n => b.clkState n == 5) with | some n => b.setCause 4 (clkUnit n) | none => b
      let b := ([3, 4].foldl Block.pllSeries b).tiuCalStart
      b.raise 976 (beBytes 4 b.stateWord ++ beBytes 4 2)))) ∧
  (∀ (s : State), s.blk.dev = .thaw → s.blk.cycle = 0 → s.blk.sys.trained = true → (s.blk.flowAuto = true ∨ s.blk.flowRequested = true) →
    ∃ t : State, exec .flowEntry s = .next t ∧ t.blk.dev = .flow) ∧
  (∀ (s : State), s.blk.dev = .thaw → (s.blk.sys.trained = false ∨ (s.blk.flowAuto = false ∧ s.blk.flowRequested = false)) →
    exec .flowEntry s = .next (s.finish s.start))

/-- In every state of the device: IDCODE shifts out 32 bits of 0x285160B3, HALT_CAUSE 16 bits of the cause of HALT (0 outside HALT) and the device state, BYPASS its input one bit late; each releases the pins. SAMPLE/PRELOAD shifts out the pins and keeps what is shifted in as the boundary register; EXTEST does the same and drives the pins with it. The length of the boundary register is the operand's. Nothing else of the block changes, and only the shifted bits are sent. Each completes: extest, samplePreload, bypass, idcode, haltCause. (R478) -/
def Obligations.JtagInstructions : Prop :=
  (∀ (s : State), ∃ t : State, exec .idcode s = .next t ∧ t.mem = s.mem ∧ t.pending = s.pending ∧
    t.blk = { s.start with sys := { s.blk.sys with extest := false }, sent := [.tdo 0x285160B3 32] }) ∧
  (∀ (s : State), ∃ t : State, exec .haltCause s = .next t ∧ t.mem = s.mem ∧ t.pending = s.pending ∧
    t.blk = { s.start with
      sys := { s.blk.sys with extest := false }
      sent := [.tdo ((if s.blk.dev = .halt then s.blk.sys.halt else 0) + s.blk.stateWord % 8 * 256) 16] }) ∧
  (∀ (tdi len : Nat) (s : State), ∃ t : State, exec (.bypass tdi len) s = .next t ∧ t.mem = s.mem ∧ t.pending = s.pending ∧
    t.blk = { s.start with sys := { s.blk.sys with extest := false }, sent := [.tdo (tdi * 2 % 2 ^ len) len] }) ∧
  (∀ (pins tdi len : Nat) (s : State), pins < 2 ^ len → tdi < 2 ^ len → ∃ t : State, exec (.samplePreload pins tdi len) s = .next t ∧ t.mem = s.mem ∧
    t.pending = s.pending ∧
    t.blk = { s.start with sys := { s.blk.sys with boundary := tdi, extest := false }, sent := [.tdo pins len] }) ∧
  (∀ (pins tdi len : Nat) (s : State), pins < 2 ^ len → tdi < 2 ^ len → ∃ t : State, exec (.extest pins tdi len) s = .next t ∧ t.mem = s.mem ∧
    t.pending = s.pending ∧
    t.blk = { s.start with sys := { s.blk.sys with boundary := tdi, extest := true }, sent := [.tdo pins len] })

/-- In THAW and FLOW: a reading shows the highest sensor in DIE_TEMP and raises DIE_MAX; the second in a row above TSHUT enters HALT with cause 5. Outside FAULT an update shows the DEVCLK frequencies, moves the target at most 5 mV down in ADAPTIVE and asks for voltage, current and status; a margin too low raises the target by 10 mV, up to 800 mV, in place of a voltage that waits and ahead of what else waits; PMB_ALERT_N asks for the status and clears the faults ahead of what waits but a voltage that leaves first. A transaction that ends well shows what it read; the third failure in a row is FAULT, in which the last command is sent again after 1 s. Each completes: dieTempReading, avsUpdate, pmbusTransactionEnd, avsRaise, pmbAlert, avsRetry. (R490, R496, R497, R498) -/
def Obligations.ThermalAndSupply : Prop :=
  (∀ (temps : List (BitVec 16)) (t : BitVec 16) (rest : List (BitVec 16)) (top : Int) (s : State), s.blk.live = true → temps = t :: rest →
    top = (rest.map (·.toInt)).foldl max t.toInt → top ≤ sgn 16 (s.blk.f K.THM_DIE_MAX 0 15 0) → s.blk.sys.hot = false →
    exec (.dieTempReading temps) s = .next (s.finish (
      let b := s.start.pf K.THM_DIE_TEMP 0 15 0 (uns 16 top)
      b.setSys { b.sys with hot := decide (sgn 16 (b.f K.THM_TSHUT 0 15 0) < top) }))) ∧
  (∀ (temps : List (BitVec 16)) (t : BitVec 16) (rest : List (BitVec 16)) (top : Int) (b : Block) (s : State), s.blk.live = true → temps = t :: rest →
    top = (rest.map (·.toInt)).foldl max t.toInt → sgn 16 (s.blk.f K.THM_DIE_MAX 0 15 0) < top → s.blk.sys.hot = true →
    b = (s.start.pf K.THM_DIE_TEMP 0 15 0 (uns 16 top)).pf K.THM_DIE_MAX 0 15 0 (uns 16 top) → sgn 16 (b.f K.THM_TSHUT 0 15 0) < top →
    exec (.dieTempReading temps) s = .next (s.finish (b.enterHalt 5))) ∧
  (∀ (lowest : BitVec 12) (devclk : List (BitVec 32)) (b : Block) (s : State), s.blk.live = true →
    b = (List.range 4).foldl (fun b k => b.pv K.THM_DEVCLK (0x10 + k) ((devclk.map (·.toNat)).getD k 0 % 2 ^ 32)) s.start →
    b.avsFault = false → b.avsMode = 0 →
    exec (.avsUpdate lowest devclk) s = .next (s.finish (
      ((b.avsShow).avsCommand (max (max 720 (min 800 lowest.toNat)) (b.avsShow.avsTarget - 5)) false).pmQueue false
        [(pmReadVout, 0), (pmReadIout, 0), (pmStatusWord, 0)]))) ∧
  (∀ (s : State), s.blk.live = true → s.blk.avsFault = false → s.blk.avsMode = 0 →
    exec .avsRaise s = .next (s.finish (
      let b := s.start.setSys { s.blk.sys with pmQueue := s.blk.sys.pmQueue.filter (fun c => c.1 != pmVoutCommand) }
      (b.pf K.THM_AVS_STATE 0 11 2 (min 800 (s.blk.avsTarget + 10))).pmQueue true [(pmVoutCommand, min 800 (s.blk.avsTarget + 10))]))) ∧
  (∀ (s : State), s.blk.live = true →
    exec .pmbAlert s = .next (s.finish (
      let volts (c : Nat × Nat) : Bool := c.1 == pmVoutCommand
      (s.start.setSys { s.blk.sys with
        pmQueue := s.blk.sys.pmQueue.takeWhile volts ++ [(pmStatusWord, 0), (pmClearFaults, 0)] ++ s.blk.sys.pmQueue.dropWhile volts }).pmNext))) ∧
  (∀ (w : BitVec 16) (v : Nat) (s : State), s.blk.live = true → s.blk.sys.pmBus = some (0x8B, v) → s.blk.avsFault = false → s.blk.sys.pmAgain = false →
    tfind s.blk.waiting K.THM_AVS_CFG = none →
    exec (.pmbusTransactionEnd (.ok w)) s = .next (s.finish (
      ((s.start.pf K.THM_VCORE 0 11 0 w.toNat).setSys { s.blk.sys with pmBus := none, pmFails := 0, pmAgain := false }).pmNext))) ∧
  (∀ (c v : Nat) (b : Block) (s : State), s.blk.live = true → s.blk.sys.pmBus = some (c, v) → 2 ≤ s.blk.sys.pmFails →
    b = (s.start.inc K.THM_AVS_ERR 0 1).setSys { s.blk.sys with
      pmFails := s.blk.sys.pmFails + 1, pmAgain := s.blk.sys.pmAgain || (c == pmVoutCommand && v == 800 && (s.start.inc K.THM_AVS_ERR 0 1).avsMode == 2) } →
    b.avsFault = false →
    exec (.pmbusTransactionEnd .failed) s = .next (s.finish (
      (b.setSys { b.sys with pmRetryAt := s.blk.ticks }).pf K.THM_AVS_STATE 0 1 0 3))) ∧
  (∀ (c v : Nat) (s : State), s.blk.live = true → s.blk.sys.pmBus = some (c, v) → s.blk.avsFault = true →
    s.blk.sys.pmRetryAt + 1600000000 ≤ s.blk.ticks →
    exec .avsRetry s = .next (s.finish (
      let b := s.start.setSys { s.blk.sys with pmRetryAt := s.blk.ticks }
      (b.setSys { b.sys with pmBus := some (c, v) }).send (.pmbus (s.blk.f K.THM_PMBUS_ADDR 0 6 0) c (if c = pmVoutCommand then beBytes 2 v else [])))))

/-- In THAW or FLOW: a handshake that has waited 1 s is dropped and no other; a session idle for BCP_IDLE_TIMEOUT seconds closes with its subscriptions and its transactions that no COMMIT has reached, raising event 985 with reason 1. At a boundary: a prepared transaction whose beat has come leaves, with event 984 and ST_TOO_LATE if no COMMIT has reached it; a held start of a function that was OFF before the boundary, and a held stop of one that was ON, begins; a function that is STARTING or STOPPING and whose sequence is done reaches ON or OFF (said in full of the links); and at a multiple of 1,024 beats that begins a new window the limit window ends, reporting once what it withheld. Each completes: handshakeTimeout, sessionIdleTimeout, preparedTxnExpiry, heldRequestBegin, functionSequenceComplete, limitWindowEnd. (R41, R42, R51, R60, R79) -/
def Obligations.SessionsAndWindowsEnd : Prop :=
  (∀ (id : BitVec 32) (s : State), s.blk.live = true →
    exec (.handshakeTimeout id) s = .next (s.finish
      { s.start with shakes := s.blk.shakes.filter (fun x => x.id != id.toNat || decide (s.blk.ticks < x.since + 1600000000)) })) ∧
  (∀ (id : BitVec 32) (x : Session) (s : State), s.blk.live = true → s.blk.session id.toNat = some x →
    x.lastAccept + s.blk.f K.SYS_BCP_IDLE_TIMEOUT 0 11 0 * 1600000000 ≤ s.blk.ticks →
    exec (.sessionIdleTimeout id) s = .next (s.finish (
      ({ s.start with
        sessions := s.blk.sessions.filter (fun x => x.id != id.toNat)
        txns := s.blk.txns.filter (fun t => t.committed || t.session != id.toNat) }).raise 985 (beBytes 4 id.toNat ++ beBytes 1 1)))) ∧
  (∀ (id seq : BitVec 32) (t : Txn) (s : State), s.blk.live = true → s.blk.cycle = 0 →
    (s.blk.txns.filter (fun t => decide (t.target ≤ s.blk.beat))).find? (fun t => t.session == id.toNat && t.seq == seq.toNat) = some t →
    t.committed = false →
    exec (.preparedTxnExpiry id seq) s = .next (s.finish (
      ({ s.start with txns := s.blk.txns.filter (fun x => x != t) }).raise 984 (beBytes 4 t.session ++ beBytes 4 t.seq ++ beBytes 2 4)))) ∧
  (∀ (id seq : BitVec 32) (t : Txn) (s : State), s.blk.live = true → s.blk.cycle = 0 →
    (s.blk.txns.filter (fun t => decide (t.target ≤ s.blk.beat))).find? (fun t => t.session == id.toNat && t.seq == seq.toNat) = some t →
    t.committed = true →
    exec (.preparedTxnExpiry id seq) s = .next (s.finish { s.start with txns := s.blk.txns.filter (fun x => x != t) })) ∧
  (∀ (blk inst : BitVec 8) (s : State), s.blk.live = true → s.blk.cycle = 0 → s.blk.heldReq blk.toNat inst.toNat = 1 →
    s.blk.life blk.toNat inst.toNat = lOff → tget 0 s.blk.reached (mkKey blk.toNat inst.toNat 2) < s.blk.ticks →
    exec (.heldRequestBegin blk inst) s = .next (s.finish ((s.start.setHeld blk.toNat inst.toNat 0).startFn blk.toNat inst.toNat))) ∧
  (∀ (blk inst : BitVec 8) (s : State), s.blk.live = true → s.blk.cycle = 0 → s.blk.heldReq blk.toNat inst.toNat = 2 →
    s.blk.life blk.toNat inst.toNat = lOn → tget 0 s.blk.reached (mkKey blk.toNat inst.toNat 2) < s.blk.ticks →
    exec (.heldRequestBegin blk inst) s = .next (s.finish ((s.start.setHeld blk.toNat inst.toNat 0).stopFn blk.toNat inst.toNat))) ∧
  (∀ (blk inst : BitVec 8) (s : State), s.blk.live = true → s.blk.cycle = 0 → hasLife blk.toNat inst.toNat = true →
    (s.blk.life blk.toNat inst.toNat = lStarting ∨ s.blk.life blk.toNat inst.toNat = lStopping) →
    exec (.functionSequenceComplete blk inst) s = .next (s.finish (Block.fnBoundary s.mem s.start blk.toNat inst.toNat))) ∧
  (∀ (blk : Nat) (code k : BitVec 8) (s : State), s.blk.live = true → s.blk.cycle = 0 → (blk = bJRX ∨ blk = bJTX) → code.toNat = blk →
    hasLife blk k.toNat = true → s.blk.life blk k.toNat = lStarting → (s.blk.lnk blk k.toNat).everReleased = true →
    exec (.functionSequenceComplete code k) s = .next (s.finish (s.start.setLife blk k.toNat lOn))) ∧
  (∀ (blk : Nat) (code k : BitVec 8) (s : State), s.blk.live = true → s.blk.cycle = 0 → (blk = bJRX ∨ blk = bJTX) → code.toNat = blk →
    hasLife blk k.toNat = true → s.blk.life blk k.toNat = lStopping →
    exec (.functionSequenceComplete code k) s = .next (s.finish (s.start.setLife blk k.toNat lOff))) ∧
  (∀ (first : Nat) (s : State), s.blk.live = true → s.blk.cycle = 0 → s.blk.beat % 1024 = 0 → s.blk.winBeat ≠ s.blk.beat →
    s.blk.supFirst = some first →
    exec .limitWindowEnd s = .next (s.finish
      { s.start.raise 979 (beBytes 2 first ++ zeros 2 ++ beBytes 4 s.blk.supTotal ++ beBytes 2 s.blk.supSrcs.length) with
        srcWin := [], supFirst := none, supTotal := 0, supSrcs := [], winBeat := s.blk.beat })) ∧
  (∀ (s : State), s.blk.live = true → s.blk.cycle = 0 → s.blk.beat % 1024 = 0 → s.blk.winBeat ≠ s.blk.beat → s.blk.supFirst = none →
    exec .limitWindowEnd s = .next (s.finish
      { s.start with srcWin := [], supFirst := none, supTotal := 0, supSrcs := [], winBeat := s.blk.beat }))

/-- Outside THAW and FLOW a boundary only ends the beat: its number goes on in a warm reset alone. In THAW and FLOW it ends the beat's items, begins the next with its completions and the engine's own items, accepts the due entries' requests afresh, discards due transactions, performs the requests that are due and still pass their checks, in order of acceptance, with all the starts in the first core cycle, lets the SYSREF outputs restart the links' counters and send their waves, begins held requests, sends the Plait messages, reads snapshots and makes resets last; the order among the boundary's items is the model's choice where R56 leaves it open. Taken alone at a boundary: the first accepted request that is due is performed if it passes its checks again and raises event 984 otherwise; a due entry accepts its request afresh, is dated anew, and ends when it has performed as often as asked. Each completes: schedulePerformance, beatBoundary, requestPerformance. (R15, R50, R51, R54, R55, R56, R63, R68, R69) -/
def Obligations.BeatAndPerformance : Prop :=
  (∀ (s : State), s.blk.live = false →
    exec .beatBoundary s = .next (s.finish { s.start with
      ticks := s.blk.ticks + (2048 - s.blk.cycle)
      cycle := 0
      beat := if s.blk.dev = .reset ∧ s.blk.sys.kind = 2 then (s.blk.beat + 1) % 2 ^ 64 else s.blk.beat })) ∧
  (∀ (s : State), s.blk.live = true →
    exec .beatBoundary s = .next (s.finish (
      let b := Block.beatUnits s.mem (Block.beatBegin s.mem (Block.beatEnd s.mem s.start))
      let b := (b.sched.filter (fun e => decide (e.next ≤ b.beat) && e.left != some 0)).foldl (fun b e => Block.entryRun s.mem b e) b
      let b := (b.txns.filter (fun t => decide (t.target ≤ b.beat))).foldl Block.txnExpire b
      let due := b.accepted.filter (fun x => decide (x.target ≤ b.beat))
      let r := ({ b with accepted := b.accepted.filter (fun x => !decide (x.target ≤ b.beat)) } : Block).judgeAll due
      let y := performFirst s.mem r.1 r.2
      let b := Block.sysrefEdges (Starting.go ((which 64 y.1.wvrTakes).foldl Block.coreBeat y.1, y.2))
      let b := (List.range 8).foldl Block.sysrefWave b
      let b := (b.lives.foldl (fun b x => b.heldNow x.1 x.2) b.entriesEnd).panicOff
      r.2.foldl Block.performReset (r.2.foldl Block.performLast b.pltBeat)))) ∧
  (∀ (x : Accepted) (b : Block) (s : State), s.blk.live = true → s.blk.cycle = 0 → s.blk.accepted.find? (fun x => decide (x.target ≤ s.blk.beat)) = some x →
    b = { s.start with accepted := s.blk.accepted.erase x } → (b.judgeNow [] x).good = true →
    exec .requestPerformance s = .next (s.finish (
      ((Starting.go (performFirst s.mem b [x])).performLast x).performReset x))) ∧
  (∀ (x : Accepted) (b : Block) (s : State), s.blk.live = true → s.blk.cycle = 0 → s.blk.accepted.find? (fun x => decide (x.target ≤ s.blk.beat)) = some x →
    b = { s.start with accepted := s.blk.accepted.erase x } → (b.judgeNow [] x).good = false →
    exec .requestPerformance s = .next (s.finish (
      Starting.go (performFirst s.mem (b.schedFailed x.asker (b.judgeNow [] x).num) [])))) ∧
  (∀ (id : BitVec 32) (e : SchedEntry) (s : State), s.blk.live = true → s.blk.cycle = 0 →
    (s.blk.sched.filter (fun e => decide (e.next ≤ s.blk.beat) && e.left != some 0)).find? (fun e => e.id == id.toNat) = some e →
    e.opcode = 0 → s.blk.accepted = [] →
    exec (.schedulePerformance id) s = .next (s.finish (
      let b := { s.start with
        sched := (s.blk.sched.map (fun x => if x.id = id.toNat then { x with next := x.next + x.period, left := x.left.map (· - 1) } else x)) }
      let b := Starting.go (performFirst s.mem b [])
      { b with sched := b.sched.filter (fun e => e.left != some 0) }))) ∧
  (∀ (id : BitVec 32) (e : SchedEntry) (s : State), s.blk.live = true → s.blk.cycle = 0 →
    (s.blk.sched.filter (fun e => decide (e.next ≤ s.blk.beat) && e.left != some 0)).find? (fun e => e.id == id.toNat) = some e →
    exec (.schedulePerformance id) s = .next (s.finish (
      let old := s.blk.accepted.length
      let b := Block.entryRun s.mem s.start e
      let now := (b.accepted.drop old).filter (fun x => decide (x.target ≤ b.beat))
      let keep := b.accepted.take old ++ (b.accepted.drop old).filter (fun x => !decide (x.target ≤ b.beat))
      ((Block.performDue s.mem { b with accepted := keep } now false).1).entriesEnd)))

/-- To the command port of a port in service: PING of an open session with at most 64 bytes is answered with STATE, the beat, the time and the bytes that came; step 1 of the handshake on the management port is refused as FORMAT, PARAM_RANGE, SESSIONS or AUTH where the rules say so, and otherwise leaves a handshake under the smallest free identifier and sends step 2 with the nonce, the key, the signature and the certificate; step 3 of a handshake, with no payload where it names no host key and with the signature of the enrolled key where it names one, opens its session, is answered, and with CLOSE ends it, and any other is refused with ST_AUTH; a PING with CLOSE is answered and ends the session with reason 0. Each completes: ping, pingHandshakeOpen, pingHandshakeConfirm, pingClose. (R39, R40, R41, R42, R43, R61, R506) -/
def Obligations.PingAndHandshake : Prop :=
  (∀ (p : Packet) (x : Session) (b : Block) (s : State), Comes 1 p x s → Tagged 1 p x.h2e → s.blk.shakes.any (fun h => h.id == p.session.toNat) = false →
    p.target = 0 → p.payload.length ≤ 64 → b = opened p x s →
    exec (.ping p) s = .next (s.finish (b.reply (asked 1 p x 0).rto 0 b.beat (beBytes 4 b.stateWord ++ beBytes 8 b.beat ++ b.now.bytes ++ p.payload)))) ∧
  (∀ (p : Packet) (s : State), s.blk.live = true → s.blk.bcpHears p.port.val p = true → p.fragment = false → s.blk.unprocessed p < 64 → 48 ≤ p.udpLen →
    p.udpLen ≤ s.blk.payloadLimit p.port.val + 48 → p.magic = 0x424350 → pkFlag p 4 = false → p.version = 3 → p.session = 0 →
    exec (.pingHandshakeOpen p) s = .next (s.finish (
      let b := s.start.arrive p.port.val
      let refuse (r : Status) : Block := b.replyBare p.port.val p.addr.toNat p.dport.toNat 1 0 p.seq.toNat r.num s.blk.beat []
      let pub := (p.payload.drop 20).take 97
      let index := beNat (p.payload.take 1)
      if formatOk 1 p = false ∨ p.payload.length ≠ 120 ∨ beNat ((p.payload.drop 1).take 3) ≠ 0 ∨ beNat (p.payload.drop 117) ≠ 0 then refuse .format
      else if p.target ≠ 0 then refuse .paramRange
      else if 16 ≤ s.blk.sessions.length + s.blk.shakes.length ∨ 4 ≤ s.blk.shakes.length then refuse .sessions
      else if Config.onCurve pub = false ∨ s.blk.hostKeyOk index p.port.val = false then refuse .auth
      else
        let nonce := beBytes 16 (Config.random 128 s.blk.fresh)
        let own := (List.range 97).map (Config.ephemeralKey s.blk.fresh)
        let id := s.blk.freeSession
        let said := p.payload ++ nonce ++ own ++ beBytes 4 id
        let sign := (List.range 96).map (Config.identitySignature (beNat (sha384 said)))
        let secret := (List.range 48).map (Config.sharedSecret s.blk.fresh pub)
        let key (info : String) : List Byte :=
          hkdf384 secret ((p.payload.drop 4).take 16 ++ nonce) (info.toList.map (fun c => BitVec.ofNat 8 c.toNat))
        let hs : Handshake :=
          ⟨id, said, sign, index, key "BCP3 h2e", key "BCP3 e2h", key "BCP3 wrap", s.blk.ticks, p.port.val, p.addr.toNat, p.dport.toNat⟩
        ({ b with shakes := s.blk.shakes ++ [hs], fresh := s.blk.fresh + 1 } : Block).replyBare p.port.val p.addr.toNat p.dport.toNat 1 id p.seq.toNat 0
          s.blk.beat (nonce ++ own ++ zeros 3 ++ beBytes 2 Config.certificate.length ++ zeros 2 ++ sign ++ Config.certificate)))) ∧
  (∀ (p : Packet) (h : Handshake) (s : State), s.blk.live = true → s.blk.bcpHears p.port.val p = true → p.fragment = false → s.blk.unprocessed p < 64 →
    48 ≤ p.udpLen → p.udpLen ≤ s.blk.payloadLimit p.port.val + 48 → p.magic = 0x424350 → pkFlag p 4 = false → p.version = 3 → p.session ≠ 0 →
    s.blk.session p.session.toNat = none → s.blk.shakes.find? (fun x => x.id == p.session.toNat) = some h → p.seq = 1 → Tagged 1 p h.h2e →
    formatOk 1 p = true → p.target = 0 →
    exec (.pingHandshakeConfirm p) s = .next (s.finish (
      let b : Block := { s.start.arrive p.port.val with shakes := s.blk.shakes.filter (fun x => x.id != h.id) }
      let signed : Bool := match tfind b.sys.host h.hostKey with
        | some key => Config.signatureVerifies (beBytes 97 key) (sha384 (h.step1 ++ h.engine)) p.payload
        | none => false
      if (h.hostKey = 255 ∧ p.payload = []) ∨ (h.hostKey ≠ 255 ∧ p.payload.length = 96 ∧ signed = true) then
        let c := ({ b with sessions := b.sessions ++ [{
          id := h.id, h2e := h.h2e, e2h := h.e2h, wrap := h.wrap, lastAccept := b.ticks, addr := p.addr.toNat, dport := p.dport.toNat
          iface := p.port.val, cache := [(1, none)] }] } : Block).reply ⟨h.id, 1, 1, false, p.port.val, p.addr.toNat, p.dport.toNat⟩ 0 b.beat []
        if pkFlag p 3 = true then c.closeSession h.id 0 else c
      else
        (b.sendMsg p.port.val p.addr.toNat p.dport.toNat (({
          flags := 1, opcode := 1, session := h.id, seq := 1, status := Status.auth.num, target := b.beat, payload := [], tag := [] } :
          BcpMsg).signed h.e2h)).authFail p))) ∧
  (∀ (p : Packet) (x : Session) (b : Block) (s : State), Comes 1 { p with flags := p.flags &&& 0xFFF7 } x s → pkFlag p 3 = true → Tagged 1 p x.h2e →
    s.blk.shakes.any (fun h => h.id == p.session.toNat) = false → formatOk 1 p = true → p.target = 0 → p.payload.length ≤ 64 → b = opened p x s →
    exec (.pingClose p) s = .next (s.finish (
      (b.reply (asked 1 p x 0).rto 0 b.beat (beBytes 4 b.stateWord ++ beBytes 8 b.beat ++ b.now.bytes ++ p.payload)).closeSession x.id 0)))

/-- For the next request of a session, where its beat is in range and there is room: GET of one readable record is answered with its value; SET of one record that passes its checks and is not immediate is accepted for the beat, one that does not pass changes nothing but the staging words of a commit, and SET_MANY whose records all pass is accepted whole, all answered with the records' statuses; ARM, DISARM, FORCE and CAL_RUN of units that all pass are accepted and answered with each unit's status. Each completes: get, set, setMany, arm, disarm, force, calRun. (R46, R53, R55, R57, R58, R62, R63, R184, R429) -/
def Obligations.WriteRequests : Prop :=
  (∀ (p : Packet) (x : Session) (b b' : Block) (k st : Nat) (v : List Byte) (s : State), Comes 0x10 p x s → Tagged 0x10 p x.h2e → p.target = 0 →
    b = opened p x s → parseRecs 256 p.payload = some [⟨k, 0, 0⟩] → serviceCore k = none → b.readTooBig (asked 0x10 p x s.blk.beat) [⟨k, 0, 0⟩] = false →
    b.readRecord k = (b', st, v) →
    exec (.get p) s = .next (s.finish (b'.reply (asked 0x10 p x 0).rto (packetStatus [st]) s.blk.beat (recordBytes k st v)))) ∧
  (∀ (p : Packet) (x : Session) (b : Block) (q : Req) (r : WireRec) (st : Status) (t : Nat) (s : State), Comes 0x11 p x s → Tagged 0x11 p x.h2e →
    Dated p t s → b = opened p x s → q = asked 0x11 p x t → parseRecs 256 p.payload = some [r] → serviceCore r.key = none →
    (p.target ≠ 0 ∨ isEnable r.key = true ∨ b.keyRow r.key = none ∨ ∃ row, b.keyRow r.key = some row ∧ effectOf r.key row ≠ .imm) →
    st = b.checkWrite ⟨q.asker, t, false, p.target == 0⟩ [] r.write r.len → st.good = true → r.key ≠ K.SEC_ZEROISE →
    exec (.set p) s = .next (s.finish (
      (b.accept q [.write (b.settled ⟨q.asker, t, false, p.target == 0⟩ r.write)]).reply q.rto (packetStatus [st.num]) t (recordBytes r.key st.num [])))) ∧
  (∀ (p : Packet) (x : Session) (b : Block) (q : Req) (r : WireRec) (st : Status) (t : Nat) (s : State), Comes 0x11 p x s → Tagged 0x11 p x.h2e →
    Dated p t s → b = opened p x s → q = asked 0x11 p x t → parseRecs 256 p.payload = some [r] → serviceCore r.key = none →
    (p.target ≠ 0 ∨ isEnable r.key = true ∨ b.keyRow r.key = none ∨ ∃ row, b.keyRow r.key = some row ∧ effectOf r.key row ≠ .imm) →
    st = b.checkWrite ⟨q.asker, t, false, p.target == 0⟩ [] r.write r.len → st.good = false →
    exec (.set p) s = .next (s.finish ((b.commitRefused r.key r.val st).reply q.rto (packetStatus [st.num]) t (recordBytes r.key st.num [])))) ∧
  (∀ (p : Packet) (x : Session) (b : Block) (q : Req) (recs : List WireRec) (a : Ask) (t : Nat) (s : State), Comes 0x12 p x s → Tagged 0x12 p x.h2e →
    Dated p t s → b = opened p x s → q = asked 0x12 p x t → parseRecs 256 p.payload = some recs → a = ⟨q.asker, t, true, p.target.toNat == 0⟩ →
    (b.checkMany a recs).all (·.good) = true →
    exec (.setMany p) s = .next (s.finish (
      let l := (b.checkMany a recs).map Status.num
      (b.accept q [.writeMany (recs.map (fun r => b.settled a r.write))]).reply q.rto (packetStatus l) t (recsBytes ((recs.zip l).map (fun (r, x) => (r.key, x, [])))))) ) ∧
  (∀ (p : Packet) (x : Session) (b : Block) (q : Req) (op t : Nat) (i : Instr) (body : List Nat → ReqBody) (l : List Status) (s : State),
    ((op = 0x20 ∧ i = .arm p ∧ body = .arm) ∨ (op = 0x21 ∧ i = .disarm p ∧ body = .disarm) ∨ (op = 0x22 ∧ i = .force p ∧ body = .force) ∨
      (op = 0x70 ∧ i = .calRun p ∧ body = .calRun)) → Comes op p x s → Tagged op p x.h2e →
    Dated p t s → b = opened p x s → q = asked op p x t → p.payload.length % 4 = 0 → unitRefs p.payload ≠ [] →
    2 * p.payload.length ≤ b.payloadLimit p.port.val →
    l = (unitRefs p.payload).map (fun k => b.unitCheck (b.foresee t b.planned) q.asker op k t) → l.all (·.good) = true →
    exec i s = .next (s.finish (
      (b.accept q [body (unitRefs p.payload)]).reply q.rto (packetStatus (l.map Status.num)) t
          (((unitRefs p.payload).zip (l.map Status.num)).map (fun (k, x) => beBytes 4 k ++ beBytes 2 x ++ zeros 2)).flatten)))

/-- For the next request of a session in a state that offers it: SCHEDULE of a known opcode with room gives an entry its identifier, and one with CANCEL removes the entry; PREPARE whose records all pass is held as a transaction; COMMIT of it at its beat marks it and accepts its writes, and ABORT discards it; SNAPSHOT is accepted and answered at its beat; RESET is accepted and answered; ENTER_FLOW in THAW makes a request for FLOW pending. Each completes: schedule, prepare, commit, abort, snapshot, enterFlow, reset. (R59, R60, R63, R68, R69, R475) -/
def Obligations.StandingRequests : Prop :=
  (∀ (p : Packet) (x : Session) (b : Block) (q : Req) (t : Nat) (f : Nat → Nat → Nat) (s : State), Comes 0x23 p x s → Tagged 0x23 p x.h2e → s.blk.dev = .flow →
    Dated p t s → p.target ≠ 0 → b = opened p x s → q = asked 0x23 p x t → f = (fun o n => beNat ((p.payload.drop o).take n)) →
    p.payload.length = 32 + f 28 4 → f 0 2 = 0 → f 2 2 = 0 → f 20 4 = 0 → f 26 2 = 0 → f 24 2 ∈ [0x0000, 0x11, 0x12, 0x20, 0x21, 0x22, 0x70] →
    b.sched.length < 64 →
    exec (.schedule p) s = .next (s.finish (
      ({ b with
        sched := b.sched ++ [⟨b.nextEntry, x.id, p.seq.toNat, t, f 8 8,
          if f 8 8 = 0 then some 1 else if f 16 4 = 0 then none else some (f 16 4), f 24 2, p.payload.drop 32⟩]
        nextEntry := (b.nextEntry + 1) % 2 ^ 32 } : Block).reply q.rto 0 t (beBytes 4 b.nextEntry)))) ∧
  (∀ (p : Packet) (x : Session) (b : Block) (q : Req) (t : Nat) (f : Nat → Nat → Nat) (s : State), Comes 0x23 p x s → Tagged 0x23 p x.h2e → s.blk.dev = .flow →
    Dated p t s → b = opened p x s → q = asked 0x23 p x t → f = (fun o n => beNat ((p.payload.drop o).take n)) →
    p.payload.length = 32 + f 28 4 → f 0 2 = 1 → f 2 2 = 0 → f 20 4 = 0 → f 26 2 = 0 → b.sched.any (fun e => e.id == f 4 4) = true →
    exec (.schedule p) s = .next (s.finish (
      ({ b with sched := b.sched.filter (fun e => e.id != f 4 4) } : Block).reply q.rto 0 t (beBytes 4 (f 4 4))))) ∧
  (∀ (p : Packet) (x : Session) (b : Block) (q : Req) (recs : List WireRec) (a : Ask) (t : Nat) (s : State), Comes 0x30 p x s → Tagged 0x30 p x.h2e →
    s.blk.dev = .flow → Dated p t s → p.target ≠ 0 → b = opened p x s → q = asked 0x30 p x t → parseRecs 256 p.payload = some recs →
    (b.txns.filter (fun t => !t.committed)).length < 8 → a = ⟨q.asker, t, true, false⟩ → (b.checkMany a recs).all (·.good) = true →
    exec (.prepare p) s = .next (s.finish (
      let l := (b.checkMany a recs).map Status.num
      ({ b with txns := b.txns ++ [⟨x.id, p.seq.toNat, t, recs.map (fun r => b.settled a r.write), false⟩] } : Block).reply q.rto (packetStatus l) t
        (recsBytes ((recs.zip l).map (fun (r, x) => (r.key, x, []))))))) ∧
  (∀ (p : Packet) (x : Session) (b : Block) (q : Req) (y : Txn) (t : Nat) (s : State), Comes 0x31 p x s → Tagged 0x31 p x.h2e → s.blk.dev = .flow →
    Dated p t s → b = opened p x s → q = asked 0x31 p x t → p.payload.length = 4 →
    b.txns.find? (fun t => t.session == x.id && t.seq == beNat p.payload) = some y → y.committed = false → y.target = p.target.toNat →
    exec (.commit p) s = .next (s.finish (
      (({ b with txns := b.txns.map (fun z => if z = y then { z with committed := true } else z) } : Block).accept q [.writeMany y.recs]).reply q.rto 0 t []))) ∧
  (∀ (p : Packet) (x : Session) (b : Block) (q : Req) (y : Txn) (s : State), Comes 0x32 p x s → Tagged 0x32 p x.h2e → s.blk.dev = .flow →
    p.target = 0 → b = opened p x s → q = asked 0x32 p x s.blk.beat → p.payload.length = 4 →
    b.txns.find? (fun t => t.session == x.id && t.seq == beNat p.payload) = some y → y.committed = false →
    exec (.abort p) s = .next (s.finish (({ b with txns := b.txns.erase y } : Block).reply q.rto 0 s.blk.beat []))) ∧
  (∀ (p : Packet) (x : Session) (b : Block) (q : Req) (recs : List WireRec) (t : Nat) (s : State), Comes 0x71 p x s → Tagged 0x71 p x.h2e →
    Dated p t s → b = opened p x s → q = asked 0x71 p x t → parseRecs 256 p.payload = some recs → t ≤ s.blk.beat + 781250 → b.readTooBig q recs = false →
    exec (.snapshot p) s = .next (s.finish (
      b.accept q [.snapshot (recs.map (fun r => (r.key,
        if (b.keyRow r.key).isNone = true then Status.paramKey.num else if r.len ≠ 0 then Status.paramRange.num else 0))) q.rto]))) ∧
  (∀ (p : Packet) (x : Session) (b : Block) (q : Req) (t : Nat) (s : State), Comes 0x81 p x s → Tagged 0x81 p x.h2e → Dated p t s → b = opened p x s →
    q = asked 0x81 p x t → p.payload.length = 4 → beNat (p.payload.drop 1) = 0 → beNat (p.payload.take 1) ≤ 1 →
    exec (.reset p) s = .next (s.finish ((b.accept q [.reset (beNat (p.payload.take 1))]).reply q.rto 0 t []))) ∧
  (∀ (p : Packet) (x : Session) (b : Block) (q : Req) (s : State), Comes 0x80 p x s → Tagged 0x80 p x.h2e → s.blk.dev = .thaw → p.target = 0 →
    b = opened p x s → q = asked 0x80 p x s.blk.beat → p.payload = [] → (s.blk.sys.trained = false ∨ 1 ≤ s.blk.nPc) →
    exec (.enterFlow p) s = .next (s.finish ((b.pf K.SYS_FLOW_PENDING 0 0 0 1).reply q.rto 0 s.blk.beat [])))

/-- For the next request of a session: READ_MEM of any space that passes its checks answers its preamble and the bytes there, WRITE_MEM with as many bytes as it says stores them in its space and answers its preamble; LOAD_PROGRAM of a chunk without LAST into a core that is OFF loads its words and leaves the image unverified, and one with LAST verifies it where the digest is that of the whole image, and answers ST_IMAGE where it is not; START_CORE of verified cores and STOP_CORE that pass are accepted; SUBSCRIBE and UNSUBSCRIBE change the session's mask and answer it; an unknown opcode is answered ST_OPCODE. A packet for another member is carried on over the port toward it, with its way back noted, or answered ST_UNREACHABLE with no tag. Each completes: readMem, writeMem, loadProgram, startCore, stopCore, subscribe, unsubscribe, unknownOpcodeRequest, forwardRequest. (R37, R44, R64, R65, R66, R67, R461) -/
def Obligations.MemoryAndProgramRequests : Prop :=
  (∀ (p : Packet) (x : Session) (b : Block) (q : Req) (a : MemAsk) (s : State), Comes 0x40 p x s → Tagged 0x40 p x.h2e → p.target = 0 →
    b = opened p x s → q = asked 0x40 p x s.blk.beat → p.payload.length = 24 → memAsk p.payload = some a →
    b.memCheck (b.payloadLimit p.port.val) a false = .ok →
    exec (.readMem p) s = .next (s.finish (b.reply q.rto 0 s.blk.beat (p.payload ++ (
      if a.space = 0 then b.hbmReads s.mem a.addr a.len
      else if a.space = 1 then b.rdBytes s.mem (spShared a.addr) a.len
      else if a.space = 5 then b.rdBytes s.mem (spThaw a.addr) a.len
      else if a.space = 4 then ((List.range (a.len / 8)).map (fun k => beBytes 8 (tget 0 (b.core a.inst).prog (a.addr + k)).toNat)).flatten
      else ((List.range (a.len / 6)).map (fun k => beBytes 6 (b.rdWord48 s.mem a.inst (a.space - 2) (a.addr + k)))).flatten))))) ∧
  (∀ (p : Packet) (x : Session) (b : Block) (q : Req) (a : MemAsk) (s : State), Comes 0x41 p x s → Tagged 0x41 p x.h2e → p.target = 0 →
    b = opened p x s → q = asked 0x41 p x s.blk.beat → memAsk p.payload = some a → p.payload.length = 24 + a.len →
    b.memCheck (b.payloadLimit p.port.val) a true = .ok →
    exec (.writeMem p) s = .next (s.finish (
      let data := p.payload.drop 24
      let c := if a.space = 0 then b.hbmStores a.addr data
        else if a.space = 1 then b.stBytes (spShared a.addr) data
        else if a.space = 5 then b.stBytes (spThaw a.addr) data
        else ((chunks 6 data).zip (List.range data.length)).foldl (fun b e => b.stWord48 a.inst (a.space - 2) (a.addr + e.2) (beNat e.1)) b
      c.reply q.rto 0 s.blk.beat (p.payload.take 24)))) ∧
  (∀ (p : Packet) (x : Session) (b : Block) (q : Req) (c off : Nat) (words : List Nat) (prog : Tab Word) (s : State), Comes 0x50 p x s → Tagged 0x50 p x.h2e →
    p.target = 0 → b = opened p x s → q = asked 0x50 p x s.blk.beat → 8 ≤ p.payload.length → (p.payload.length - 8) % 8 = 0 →
    c = beNat (p.payload.take 1) → c ≤ 63 → beNat ((p.payload.drop 1).take 1) = 0 → beNat ((p.payload.drop 2).take 2) = 0 →
    off = beNat ((p.payload.drop 4).take 4) → b.isOff bWVR c = true → words = (chunks 8 ((p.payload.drop 8).take (p.payload.length - 8))).map beNat →
    off + words.length ≤ 16384 →
    prog = (words.zip (List.range words.length)).foldl (fun t p => tset t (off + p.2) (BitVec.ofNat 64 p.1)) (b.core c).prog →
    exec (.loadProgram p) s = .next (s.finish (((b.setCore c { b.core c with prog := prog }).pf K.WVR_IMAGE c 0 0 0).reply q.rto 0 s.blk.beat []))) ∧
  (∀ (p : Packet) (x : Session) (b : Block) (q : Req) (c off : Nat) (words : List Nat) (prog : Tab Word) (s : State), Comes 0x50 p x s → Tagged 0x50 p x.h2e →
    p.target = 0 → b = opened p x s → q = asked 0x50 p x s.blk.beat → 56 ≤ p.payload.length → (p.payload.length - 56) % 8 = 0 →
    c = beNat (p.payload.take 1) → c ≤ 63 → beNat ((p.payload.drop 1).take 1) = 1 → beNat ((p.payload.drop 2).take 2) = 0 →
    off = beNat ((p.payload.drop 4).take 4) → b.isOff bWVR c = true → words = (chunks 8 ((p.payload.drop 8).take (p.payload.length - 56))).map beNat →
    off + words.length ≤ 16384 →
    prog = (words.zip (List.range words.length)).foldl (fun t p => tset t (off + p.2) (BitVec.ofNat 64 p.1)) (b.core c).prog →
    exec (.loadProgram p) s = .next (s.finish (
      let image := ((List.range (off + words.length)).map (fun k => beBytes 8 (tget (0 : Word) prog k).toNat)).flatten
      let ok := sha384 image == p.payload.drop (p.payload.length - 48)
      ((b.setCore c { b.core c with prog := prog }).pf K.WVR_IMAGE c 0 0 (b2n ok)).reply q.rto (if ok = true then 0 else Status.image.num) s.blk.beat []))) ∧
  (∀ (p : Packet) (x : Session) (b : Block) (q : Req) (cores : List Nat) (t : Nat) (s : State), Comes 0x51 p x s → Tagged 0x51 p x.h2e →
    Dated p t s → b = opened p x s → q = asked 0x51 p x t → p.payload.length = 16 → beNat ((p.payload.drop 8).take 2) < 16384 →
    beNat ((p.payload.drop 10).take 6) = 0 → cores = which 64 (fun c => bit (beNat (p.payload.take 8)) c) → cores ≠ [] → cores.all (fun c => b.verified c) = true →
    (b.checkMany ⟨q.asker, t, true, p.target.toNat == 0⟩ (cores.map (fun c => ⟨mkKey bWVR c 1, 4, 1⟩))).all (·.good) = true →
    exec (.startCore p) s = .next (s.finish (
      (b.accept q [.startCores cores (beNat ((p.payload.drop 8).take 2))]).reply q.rto
        (packetStatus ((b.checkMany ⟨q.asker, t, true, p.target.toNat == 0⟩ (cores.map (fun c => ⟨mkKey bWVR c 1, 4, 1⟩))).map Status.num)) t []))) ∧
  (∀ (p : Packet) (x : Session) (b : Block) (q : Req) (cores : List Nat) (t : Nat) (s : State), Comes 0x52 p x s → Tagged 0x52 p x.h2e →
    Dated p t s → b = opened p x s → q = asked 0x52 p x t → p.payload.length = 8 → cores = which 64 (fun c => bit (beNat (p.payload.take 8)) c) → cores ≠ [] →
    (b.checkMany ⟨q.asker, t, true, p.target.toNat == 0⟩ (cores.map (fun c => ⟨mkKey bWVR c 1, 4, 0⟩))).all (·.good) = true →
    exec (.stopCore p) s = .next (s.finish (
      (b.accept q [.stopCores cores]).reply q.rto
        (packetStatus ((b.checkMany ⟨q.asker, t, true, p.target.toNat == 0⟩ (cores.map (fun c => ⟨mkKey bWVR c 1, 4, 0⟩))).map Status.num)) t []))) ∧
  (∀ (p : Packet) (x y : Session) (b : Block) (q : Req) (s : State), Comes 0x60 p x s → Tagged 0x60 p x.h2e → p.target = 0 → b = opened p x s →
    q = asked 0x60 p x s.blk.beat → b.session x.id = some y → p.payload.length = 132 → beNat ((p.payload.drop 2).take 1) ≤ 4 →
    beNat ((p.payload.drop 3).take 1) = 0 →
    exec (.subscribe p) s = .next (s.finish (
      let port := beNat (p.payload.take 2)
      let z := { y with
        mask := y.mask ||| beNat (p.payload.drop 4), minSev := beNat ((p.payload.drop 2).take 1)
        evtPort := if port = 0 then b.f K.SYS_BCP_EVT_PORT 0 15 0 else port }
      (b.setSession z).reply q.rto 0 s.blk.beat (beBytes 128 z.mask)))) ∧
  (∀ (p : Packet) (x y : Session) (b : Block) (q : Req) (s : State), Comes 0x61 p x s → Tagged 0x61 p x.h2e → p.target = 0 → b = opened p x s →
    q = asked 0x61 p x s.blk.beat → b.session x.id = some y → p.payload.length = 128 →
    exec (.unsubscribe p) s = .next (s.finish (
      let m := y.mask - (y.mask &&& beNat p.payload)
      (b.setSession { y with mask := m }).reply q.rto 0 s.blk.beat (beBytes 128 m)))) ∧
  (∀ (op : BitVec 16) (p : Packet) (x : Session) (b : Block) (s : State), Comes op.toNat p x s → Tagged op.toNat p x.h2e → opKnown op.toNat = false →
    b = opened p x s →
    exec (.unknownOpcodeRequest op p) s = .next (s.finish (b.reply (asked op.toNat p x 0).rto Status.opcode.num s.blk.beat []))) ∧
  (∀ (op : BitVec 16) (p : Packet) (k : Nat) (s : State), s.blk.live = true → s.blk.bcpHears p.port.val p = true → p.fragment = false → s.blk.unprocessed p < 64 →
    48 ≤ p.udpLen → p.udpLen ≤ s.blk.payloadLimit p.port.val + 48 → p.magic = 0x424350 → pkFlag p 4 = true → pkDest p ≠ s.blk.member →
    s.blk.portToward (pkDest p) = some k →
    exec (.forwardRequest op p) s = .next (s.finish (
      ((s.start.arrive p.port.val).noteRoute p p.port.val).send (.ctrl k (packetWhole op.toNat p) p.addr.toNat p.dport.toNat)))) ∧
  (∀ (op : BitVec 16) (p : Packet) (s : State), s.blk.live = true → s.blk.bcpHears p.port.val p = true → p.fragment = false → s.blk.unprocessed p < 64 →
    48 ≤ p.udpLen → p.udpLen ≤ s.blk.payloadLimit p.port.val + 48 → p.magic = 0x424350 → pkFlag p 4 = true → pkDest p ≠ s.blk.member →
    s.blk.portToward (pkDest p) = none →
    exec (.forwardRequest op p) s = .next (s.finish (
      (s.start.arrive p.port.val).replyBare p.port.val p.addr.toNat p.dport.toNat op.toNat p.session.toNat p.seq.toNat Status.unreachable.num s.blk.beat [])))

/-- A write command whose key is of its own row, to a register that no core serves and whose value is not taken at once, is checked as a record of a SET; in THAW and FLOW, with its beat in range and room for it, one that passes is accepted for its beat, last in the order of acceptance, and one that does not changes nothing; the status is what the command sends. The rows are PARAMETER_WRITE (keys without a row of their own), the two ENABLE requests, and the writes to SPI_GO, NCO_SYNC, SWAP_AT, TRC_CLEAR, MARK, the planes' CLEAR, SIDE_GO, JUMP, the vector plane's CLEAR, SET_BEAT, SHOT, CAL_GO, RELOCK, COMMIT, CLEAR_SETS, AUX START and SELFCAL, and PEAK_CLEAR. Each completes: parameterWrite, functionStartRequest, functionStopRequest, spiGo, ncoSync, swapAtWrite, trcClear, capMark, densityClear, sideGo, stmJump, vecClear, setBeat, sysrefShot, tiuCalGo, relock, calCommit, calClearSets, auxStart, auxSelfcal, peakClear. (R50, R53, R54, R55, R56, R57) -/
def Obligations.WritesForABeat : Prop :=
  (∀ (i : Instr) (w : Write) (t : Nat) (row : Row) (a : Ask) (st : Status) (s : State),
    ((i = .parameterWrite w ∧ selPlain w.key.toNat w.val.toNat = true) ∨ (i = .functionStartRequest w ∧ selEnable true w.key.toNat w.val.toNat = true) ∨
      (i = .functionStopRequest w ∧ selEnable false w.key.toNat w.val.toNat = true) ∨ (i = .spiGo w ∧ selSpiGo w.key.toNat 0 = true) ∨
      (i = .ncoSync w ∧ selNcoSync w.key.toNat 0 = true) ∨ (i = .swapAtWrite w ∧ selSwapAt w.key.toNat 0 = true) ∨
      (i = .trcClear w ∧ selTrcClear w.key.toNat 0 = true) ∨ (i = .capMark w ∧ selCapMark w.key.toNat 0 = true) ∨
      (i = .densityClear w ∧ selDenClear w.key.toNat 0 = true) ∨ (i = .sideGo w ∧ selSideGo w.key.toNat 0 = true) ∨
      (i = .stmJump w ∧ selStmJump w.key.toNat 0 = true) ∨ (i = .vecClear w ∧ selVecClear w.key.toNat 0 = true) ∨
      (i = .setBeat w ∧ selSetBeat w.key.toNat 0 = true) ∨ (i = .sysrefShot w ∧ selShot w.key.toNat 0 = true) ∨
      (i = .tiuCalGo w ∧ selTiuCal w.key.toNat 0 = true) ∨ (i = .relock w ∧ selRelock w.key.toNat 0 = true) ∨
      (i = .calCommit w ∧ selCalCommit w.key.toNat 0 = true) ∨ (i = .calClearSets w ∧ selCalClear w.key.toNat 0 = true) ∨
      (i = .auxStart w ∧ selAuxStart w.key.toNat 0 = true) ∨ (i = .auxSelfcal w ∧ selAuxSelfcal w.key.toNat 0 = true) ∨
      (i = .peakClear w ∧ selPeakClear w.key.toNat 0 = true)) →
    s.blk.live = true → ((w.target = 0 ∧ t = s.blk.beat + 1) ∨ (s.blk.beat < w.target.toNat ∧ w.target.toNat ≤ s.blk.beat + 2 ^ 32 ∧ t = w.target.toNat)) →
    (s.blk.plt.notice = none ∨ s.blk.leader = true) → s.blk.waitingGroups < 256 → serviceCore w.key.toNat = none → w.key.toNat ≠ K.SEC_ZEROISE →
    s.blk.keyRow w.key.toNat = some row → (effectOf w.key.toNat row ≠ .imm ∨ w.target ≠ 0 ∨ isEnable w.key.toNat = true) →
    a = ⟨.session 0 0, t, false, w.target.toNat == 0⟩ → st = s.start.checkWrite a [] ⟨w.key.toNat, w.val.toNat⟩ row.width →
    exec i s = .next (s.finish (
      if st.good = true then
        { s.start with
          accepted := s.blk.accepted ++ [⟨.session 0 0, s.blk.nextGroup, t, .write (s.start.settled a ⟨w.key.toNat, w.val.toNat⟩)⟩]
          nextGroup := s.blk.nextGroup + 1
          sent := [.result st.num] }
      else { s.start with sent := [.result st.num] }))) ∧
  (∀ (w : Write) (s : State), s.blk.live = true → selPlain w.key.toNat w.val.toNat = true → w.target ≠ 0 → w.target.toNat ≤ s.blk.beat →
    exec (.parameterWrite w) s = .next (s.finish { s.start with sent := [.result Status.tooLate.num] })) ∧
  (∀ (w : Write) (s : State), s.blk.live = true → selPlain w.key.toNat w.val.toNat = true → s.blk.beat + 2 ^ 32 < w.target.toNat →
    exec (.parameterWrite w) s = .next (s.finish { s.start with sent := [.result Status.paramRange.num] })) ∧
  (∀ (w : Write) (s : State), s.blk.live = true → selPlain w.key.toNat w.val.toNat = true → w.target = 0 → s.blk.plt.notice ≠ none → s.blk.leader = false →
    exec (.parameterWrite w) s = .next (s.finish { s.start with sent := [.result Status.state.num] })) ∧
  (∀ (w : Write) (s : State), s.blk.live = true → selPlain w.key.toNat w.val.toNat = true → w.target = 0 → (s.blk.plt.notice = none ∨ s.blk.leader = true) →
    256 ≤ s.blk.waitingGroups →
    exec (.parameterWrite w) s = .next (s.finish { s.start with sent := [.result Status.busy.num] }))

/-- A write that is taken at once and passes its checks as a record of a SET without a target beat has its effect at once and is answered ST_OK, and one that does not pass is answered with its status and changes nothing: OUT_ACK releases the pins it names, the window table's CFG takes its storage, a buffer's CFG claims or frees its storage, RDMA_CREDIT takes its value, and so any other IMM parameter without a row of its own. Each completes: parameterWrite, evtOutAck, winCfgWrite, bufCfgWrite, rdmaCreditWrite. (R8, R56, R84, R146, R346) -/
def Obligations.ImmediateWrites : Prop :=
  (∀ (w : Write) (row : Row) (st : Status) (s : State), s.blk.live = true → w.target = 0 → (s.blk.plt.notice = none ∨ s.blk.leader = true) →
    s.blk.waitingGroups < 256 → selOutAck w.key.toNat 0 = true → s.blk.keyRow w.key.toNat = some row →
    st = s.start.checkWrite ⟨.session 0 0, s.blk.beat, false, true⟩ [] ⟨w.key.toNat, w.val.toNat⟩ row.width →
    exec (.evtOutAck w) s = .next (s.finish (
      if st.good = true then (((s.start.storeVal w.key.toNat w.val.toNat).outAck w.val.toNat).lanesApply).send (.result st.num)
      else s.start.send (.result st.num)))) ∧
  (∀ (w : Write) (row : Row) (st : Status) (s : State), s.blk.live = true → w.target = 0 → (s.blk.plt.notice = none ∨ s.blk.leader = true) →
    s.blk.waitingGroups < 256 → selWinCfg w.key.toNat 0 = true → s.blk.keyRow w.key.toNat = some row →
    st = s.start.checkWrite ⟨.session 0 0, s.blk.beat, false, true⟩ [] ⟨w.key.toNat, w.val.toNat⟩ row.width →
    exec (.winCfgWrite w) s = .next (s.finish (
      if st.good = true then ((s.start.placeVal w.key.toNat row w.val.toNat).winConfigure (keyInst w.key.toNat - 0xC0) w.val.toNat).lanesApply.send (.result st.num)
      else s.start.send (.result st.num)))) ∧
  (∀ (w : Write) (row : Row) (st : Status) (s : State), s.blk.live = true → w.target = 0 → (s.blk.plt.notice = none ∨ s.blk.leader = true) →
    s.blk.waitingGroups < 256 → selBufCfg w.key.toNat 0 = true → s.blk.keyRow w.key.toNat = some row →
    st = s.start.checkWrite ⟨.session 0 0, s.blk.beat, false, true⟩ [] ⟨w.key.toNat, w.val.toNat⟩ row.width →
    exec (.bufCfgWrite w) s = .next (s.finish (
      if st.good = true then ((s.start.bufCfg (keyInst w.key.toNat - 0x50) w.val.toNat).1).lanesApply.send (.result st.num)
      else s.start.send (.result st.num)))) ∧
  (∀ (w : Write) (row : Row) (st : Status) (s : State), s.blk.live = true → w.target = 0 → (s.blk.plt.notice = none ∨ s.blk.leader = true) →
    s.blk.waitingGroups < 256 → selCredit w.key.toNat 0 = true → s.blk.keyRow w.key.toNat = some row →
    st = s.start.checkWrite ⟨.session 0 0, s.blk.beat, false, true⟩ [] ⟨w.key.toNat, w.val.toNat⟩ row.width →
    exec (.rdmaCreditWrite w) s = .next (s.finish (
      if st.good = true then (s.start.setVal w.key.toNat (mergeVal row (s.blk.val w.key.toNat) w.val.toNat)).lanesApply.send (.result st.num)
      else s.start.send (.result st.num)))) ∧
  (∀ (w : Write) (row : Row) (st : Status) (s : State), s.blk.live = true → w.target = 0 → (s.blk.plt.notice = none ∨ s.blk.leader = true) →
    s.blk.waitingGroups < 256 → selPlain w.key.toNat w.val.toNat = true → serviceCore w.key.toNat = none → s.blk.keyRow w.key.toNat = some row →
    effectOf w.key.toNat row = .imm → st = s.start.checkWrite ⟨.session 0 0, s.blk.beat, false, true⟩ [] ⟨w.key.toNat, w.val.toNat⟩ row.width →
    exec (.parameterWrite w) s = .next (s.finish (
      if st.good = true then (s.start.writeVal s.mem w.key.toNat w.val.toNat 0 0).lanesApply.send (.result st.num)
      else s.start.send (.result st.num))))

/-- A write to a SEC command register without a target beat, in a session and sequence, that passes its checks, acts at once and is answered ST_OK, and one that does not pass is answered with its status and changes nothing but the staging words of a commit, which every commit clears that its sender may write: SVN_ADVANCE raises the fuse's version to the image's, REVOKE burns the keys it names; ENROLL and REMOVE of a host key, INSTALL and REMOVE of a group key and of a stream key change the Firn store's keys and raise event 982, and each clears its staging words; INSTALL takes what the session's wrap key opens; ZEROISE erases every key and begins a cold reset with cause 5. Each completes: svnAdvance, revoke, zeroise, hostKeyEnroll, hostKeyRemove, groupKeyInstall, groupKeyRemove, streamKeyInstall, streamKeyRemove. (R473, R479, R480, R481) -/
def Obligations.KeyAndFuseWrites : Prop :=
  (∀ (i : Instr) (w : Write) (id seq : BitVec 32) (row : Row) (st : Status) (b : Block) (s : State),
    ((i = .svnAdvance w id seq ∧ bit w.val.toNat 0 = true) ∨ (i = .revoke w id seq ∧ bit w.val.toNat 0 = false)) → w.key.toNat = K.SEC_FUSE_OP →
    s.blk.live = true → w.target = 0 → (s.blk.plt.notice = none ∨ s.blk.leader = true) → s.blk.waitingGroups < 256 →
    s.blk.keyRow w.key.toNat = some row →
    st = s.start.checkWrite ⟨.session id.toNat seq.toNat, s.blk.beat, false, true⟩ [] ⟨w.key.toNat, w.val.toNat⟩ row.width →
    b = s.start.storeVal w.key.toNat w.val.toNat →
    exec i s = .next (s.finish (
      if st.good = true then
        let fuse := b.val K.SEC_FUSE_STATE
        let fuse := if bit w.val.toNat 0 = true then setBits fuse 5 0 (max (bits fuse 5 0) (b.f K.SEC_IMAGE 0 5 0)) else fuse
        ((b.firnSet K.SEC_FUSE_STATE (setBits fuse 9 6 (bits fuse 9 6 ||| bits w.val.toNat 4 1))).lanesApply).send (.result st.num)
      else s.start.send (.result st.num)))) ∧
  (∀ (k : Fin 8) (w : Write) (id seq : BitVec 32) (row : Row) (st : Status) (b : Block) (s : State), bit w.val.toNat 1 = false → bit w.val.toNat 0 = true →
    w.key.toNat = ki K.SEC_HOST_COMMIT (0x10 + k.val) →
    s.blk.live = true → w.target = 0 → (s.blk.plt.notice = none ∨ s.blk.leader = true) → s.blk.waitingGroups < 256 →
    s.blk.keyRow w.key.toNat = some row →
    st = s.start.checkWrite ⟨.session id.toNat seq.toNat, s.blk.beat, false, true⟩ [] ⟨w.key.toNat, w.val.toNat⟩ row.width →
    b = s.start.storeVal w.key.toNat w.val.toNat →
    exec (.hostKeyEnroll w id seq) s = .next (s.finish (
      if st.good = true then
        let c := (b.setSys { b.sys with host := tset b.sys.host k.val (beNat ((b.staged (0x10 + k.val) 13).take 97)) }).firnSet K.SEC_HOST_KEYS
          (setBits (b.val K.SEC_HOST_KEYS) k.val k.val 1)
        (((c.raise 982 (beBytes 1 0 ++ beBytes 1 k.val ++ beBytes 1 0 ++ beBytes 2 0 ++ zeros 3 ++ beBytes 4 id.toNat)).unstage (0x10 + k.val) 13).lanesApply).send
          (.result st.num)
      else (s.start.commitRefused w.key.toNat w.val.toNat st).send (.result st.num)))) ∧
  (∀ (k : Fin 8) (w : Write) (id seq : BitVec 32) (row : Row) (st : Status) (b : Block) (s : State), bit w.val.toNat 1 = true → bit w.val.toNat 0 = false →
    w.key.toNat = ki K.SEC_HOST_COMMIT (0x10 + k.val) → bit (b.val K.SEC_HOST_KEYS) k.val = true →
    s.blk.live = true → w.target = 0 → (s.blk.plt.notice = none ∨ s.blk.leader = true) → s.blk.waitingGroups < 256 →
    s.blk.keyRow w.key.toNat = some row →
    st = s.start.checkWrite ⟨.session id.toNat seq.toNat, s.blk.beat, false, true⟩ [] ⟨w.key.toNat, w.val.toNat⟩ row.width →
    b = s.start.storeVal w.key.toNat w.val.toNat →
    exec (.hostKeyRemove w id seq) s = .next (s.finish (
      if st.good = true then
        let c := (b.setSys { b.sys with host := tdel b.sys.host k.val }).firnSet K.SEC_HOST_KEYS (setBits (b.val K.SEC_HOST_KEYS) k.val k.val 0)
        (((c.raise 982 (beBytes 1 0 ++ beBytes 1 k.val ++ beBytes 1 1 ++ beBytes 2 0 ++ zeros 3 ++ beBytes 4 id.toNat)).unstage (0x10 + k.val) 13).lanesApply).send
          (.result st.num)
      else (s.start.commitRefused w.key.toNat w.val.toNat st).send (.result st.num)))) ∧
  (∀ (g : Fin 4) (w : Write) (id seq : BitVec 32) (row : Row) (st : Status) (b : Block) (s : State), bit w.val.toNat 1 = false → bit w.val.toNat 0 = true →
    w.key.toNat = ki K.SEC_GROUP_COMMIT (0x20 + g.val) →
    s.blk.live = true → w.target = 0 → (s.blk.plt.notice = none ∨ s.blk.leader = true) → s.blk.waitingGroups < 256 →
    s.blk.keyRow w.key.toNat = some row →
    st = s.start.checkWrite ⟨.session id.toNat seq.toNat, s.blk.beat, false, true⟩ [] ⟨w.key.toNat, w.val.toNat⟩ row.width →
    b = s.start.storeVal w.key.toNat w.val.toNat → tfind b.sys.group g.val = none →
    exec (.groupKeyInstall w id seq) s = .next (s.finish (
      if st.good = true then
        match b.unwrap (0x20 + g.val) 80 w.key.toNat id.toNat seq.toNat with
        | none => ((b.unstage (0x20 + g.val) 10).lanesApply).send (.result st.num)
        | some keys =>
          let n := b.val (ki K.SEC_GROUP_ID (0x20 + g.val))
          let c := b.groupSession n (keys.take 32) ((keys.drop 32).take 32)
          let c := (c.setSys { c.sys with group := tset c.sys.group g.val (n, keys.take 32, (keys.drop 32).take 32) }).firnSet
            (ki K.SEC_GROUP_STATE (0x20 + g.val)) 1
          (((c.raise 982 (beBytes 1 1 ++ beBytes 1 g.val ++ beBytes 1 0 ++ beBytes 2 0 ++ zeros 3 ++ beBytes 4 id.toNat)).unstage (0x20 + g.val) 10).lanesApply).send
            (.result st.num)
      else (s.start.commitRefused w.key.toNat w.val.toNat st).send (.result st.num)))) ∧
  (∀ (g : Fin 4) (w : Write) (id seq : BitVec 32) (row : Row) (st : Status) (b : Block) (n : Nat) (h e : List Byte) (s : State), bit w.val.toNat 1 = true →
    bit w.val.toNat 0 = false → w.key.toNat = ki K.SEC_GROUP_COMMIT (0x20 + g.val) →
    s.blk.live = true → w.target = 0 → (s.blk.plt.notice = none ∨ s.blk.leader = true) → s.blk.waitingGroups < 256 →
    s.blk.keyRow w.key.toNat = some row →
    st = s.start.checkWrite ⟨.session id.toNat seq.toNat, s.blk.beat, false, true⟩ [] ⟨w.key.toNat, w.val.toNat⟩ row.width →
    b = s.start.storeVal w.key.toNat w.val.toNat → tfind b.sys.group g.val = some (n, h, e) →
    exec (.groupKeyRemove w id seq) s = .next (s.finish (
      if st.good = true then
        let c := { b with sessions := b.sessions.filter (fun s => s.id != n) }
        let c := (c.setSys { c.sys with group := tdel c.sys.group g.val }).firnSet (ki K.SEC_GROUP_STATE (0x20 + g.val)) 0
        (((c.raise 982 (beBytes 1 1 ++ beBytes 1 g.val ++ beBytes 1 1 ++ beBytes 2 0 ++ zeros 3 ++ beBytes 4 id.toNat)).unstage (0x20 + g.val) 10).lanesApply).send
          (.result st.num)
      else (s.start.commitRefused w.key.toNat w.val.toNat st).send (.result st.num)))) ∧
  (∀ (k : Fin 8) (w : Write) (id seq : BitVec 32) (row : Row) (st : Status) (b : Block) (s : State), bit w.val.toNat 1 = false → bit w.val.toNat 0 = true →
    w.key.toNat = ki K.SEC_STREAM_COMMIT (0x30 + k.val) →
    s.blk.live = true → w.target = 0 → (s.blk.plt.notice = none ∨ s.blk.leader = true) → s.blk.waitingGroups < 256 →
    s.blk.keyRow w.key.toNat = some row →
    st = s.start.checkWrite ⟨.session id.toNat seq.toNat, s.blk.beat, false, true⟩ [] ⟨w.key.toNat, w.val.toNat⟩ row.width →
    b = s.start.storeVal w.key.toNat w.val.toNat →
    exec (.streamKeyInstall w id seq) s = .next (s.finish (
      if st.good = true then
        match b.unwrap (0x30 + k.val) 52 w.key.toNat id.toNat seq.toNat with
        | none => ((b.unstage (0x30 + k.val) 7).lanesApply).send (.result st.num)
        | some key =>
          let c := ({ b with streamKeys := tset b.streamKeys k.val (beNat (key.take 32), beNat ((key.drop 32).take 4)) } : Block).firnSet
            (ki K.SEC_STREAM_STATE (0x30 + k.val)) 1
          (((c.raise 982 (beBytes 1 2 ++ beBytes 1 k.val ++ beBytes 1 0 ++ beBytes 2 0 ++ zeros 3 ++ beBytes 4 id.toNat)).unstage (0x30 + k.val) 7).lanesApply).send
            (.result st.num)
      else (s.start.commitRefused w.key.toNat w.val.toNat st).send (.result st.num)))) ∧
  (∀ (k : Fin 8) (w : Write) (id seq : BitVec 32) (row : Row) (st : Status) (b : Block) (s : State), bit w.val.toNat 1 = true → bit w.val.toNat 0 = false →
    w.key.toNat = ki K.SEC_STREAM_COMMIT (0x30 + k.val) →
    s.blk.live = true → w.target = 0 → (s.blk.plt.notice = none ∨ s.blk.leader = true) → s.blk.waitingGroups < 256 →
    s.blk.keyRow w.key.toNat = some row →
    st = s.start.checkWrite ⟨.session id.toNat seq.toNat, s.blk.beat, false, true⟩ [] ⟨w.key.toNat, w.val.toNat⟩ row.width →
    b = s.start.storeVal w.key.toNat w.val.toNat → (tfind b.streamKeys k.val).isSome = true →
    exec (.streamKeyRemove w id seq) s = .next (s.finish (
      if st.good = true then
        let c := ({ b with streamKeys := tdel b.streamKeys k.val } : Block).firnSet (ki K.SEC_STREAM_STATE (0x30 + k.val)) 0
        (((c.raise 982 (beBytes 1 2 ++ beBytes 1 k.val ++ beBytes 1 1 ++ beBytes 2 0 ++ zeros 3 ++ beBytes 4 id.toNat)).unstage (0x30 + k.val) 7).lanesApply).send
          (.result st.num)
      else (s.start.commitRefused w.key.toNat w.val.toNat st).send (.result st.num)))) ∧
  (∀ (w : Write) (id seq : BitVec 32) (row : Row) (st : Status) (s : State), bit w.val.toNat 0 = true → w.key.toNat = K.SEC_ZEROISE →
    s.blk.live = true → w.target = 0 → (s.blk.plt.notice = none ∨ s.blk.leader = true) → s.blk.waitingGroups < 256 →
    s.blk.keyRow w.key.toNat = some row →
    st = s.start.checkWrite ⟨.session id.toNat seq.toNat, s.blk.beat, false, true⟩ [] ⟨w.key.toNat, w.val.toNat⟩ row.width → st.good = true →
    exec (.zeroise w id seq) s = .next (s.finish ((s.start.zeroise).send (.result st.num))))

/-- When a write comes to be performed: GO of an SPI port begins its transaction; CLEAR of a trace unit, of a plane and of the vector plane clears it; MARK marks the capture; SIDE_GO begins a side-channel transaction; JUMP puts the entry to the sequencer as a host request; SET_BEAT renumbers a quiet engine, which the leader does by a step notice; SHOT sends a SYSREF pulse; CAL_GO starts a run of the time-interval unit; RELOCK starts the PLL's sequence; COMMIT and CLEAR_SETS of a calibration target act on its values and points; START and SELFCAL act on the auxiliary converter; PEAK_CLEAR takes the present temperature; each beside the value that the register itself takes. Each completes: spiGo, trcClear, capMark, sideGo, stmJump, vecClear, sysrefShot, calCommit, auxStart, auxSelfcal. (R103, R215, R282, R376, R385, R397, R401, R407, R423, R435, R441, R504) -/
def Obligations.WriteActions : Prop :=
  (∀ (b : Block) (m : Mem) (j : Fin 8) (v id seq : Nat), b.writeVal m (ki K.JRX_SPI_GO (0x40 + j.val)) v id seq =
    (b.storeVal (ki K.JRX_SPI_GO (0x40 + j.val)) v).spiGo j.val v) ∧
  (∀ (b : Block) (m : Mem) (t : Fin 32) (v id seq : Nat), bit v 0 = true → b.writeVal m (ki K.XFM_TRC_CLEAR (0x80 + t.val)) v id seq =
    (b.storeVal (ki K.XFM_TRC_CLEAR (0x80 + t.val)) v).trcClear t.val) ∧
  (∀ (b : Block) (m : Mem) (w : Fin 32) (v id seq : Nat), bit v 0 = true → b.writeVal m (ki K.CAP_MARK w.val) v id seq =
    (b.storeVal (ki K.CAP_MARK w.val) v).capMark w.val) ∧
  (∀ (b : Block) (m : Mem) (p : Fin 16) (v id seq : Nat), bit v 0 = true → b.writeVal m (ki K.DEN_CLEAR p.val) v id seq =
    (b.storeVal (ki K.DEN_CLEAR p.val) v).plClear p.val) ∧
  (∀ (b : Block) (m : Mem) (k : Fin 2) (v id seq : Nat), bit v 0 = true → b.writeVal m (ki K.DEN_SIDE_GO (0x80 + k.val)) v id seq =
    (b.storeVal (ki K.DEN_SIDE_GO (0x80 + k.val)) v).sideGo k.val v) ∧
  (∀ (b : Block) (m : Mem) (c : Fin 4) (v id seq : Nat), bit v 12 = true → b.writeVal m (ki K.STM_JUMP c.val) v id seq =
    ((b.storeVal (ki K.STM_JUMP c.val) v).stmJump m c.val (bits v 11 0) 0 0).1) ∧
  (∀ (b : Block) (m : Mem) (v id seq : Nat), bit v 0 = true → b.writeVal m K.VEC_CLEAR v id seq = (b.storeVal K.VEC_CLEAR v).vecClear) ∧
  (∀ (b : Block) (m : Mem) (v id seq : Nat), b.writeVal m K.TIM_SET_BEAT v id seq =
    (let c := b.storeVal K.TIM_SET_BEAT v
     if v = c.beat then c
     else if c.leader = true then (if c.groupQuiet = true ∧ c.plt.notice = none then c.stepNotice ((v : Int) - c.beat) else c)
     else if c.quiet = true then c.stepTo v else c)) ∧
  (∀ (b : Block) (m : Mem) (j : Fin 8) (v id seq : Nat), bit v 0 = true → b.writeVal m (ki K.TIM_SYSREF_SHOT (0x10 + j.val)) v id seq =
    (b.storeVal (ki K.TIM_SYSREF_SHOT (0x10 + j.val)) v).sysrefShot j.val) ∧
  (∀ (b : Block) (m : Mem) (v id seq : Nat), bit v 0 = true → b.writeVal m K.TIU_CAL_GO v id seq = (b.storeVal K.TIU_CAL_GO v).tiuCalStart) ∧
  (∀ (b : Block) (m : Mem) (n : Fin 6) (v id seq : Nat), bit v 0 = true → b.writeVal m (ki K.CLK_RELOCK n.val) v id seq =
    (b.storeVal (ki K.CLK_RELOCK n.val) v).pllRelock n.val) ∧
  (∀ (b : Block) (m : Mem) (i : Fin 32) (v id seq : Nat), bit v 0 = true → b.writeVal m (ki K.CAL_COMMIT i.val) v id seq =
    (b.storeVal (ki K.CAL_COMMIT i.val) v).calCommit i.val) ∧
  (∀ (b : Block) (m : Mem) (i : Fin 32) (v id seq : Nat), bit v 0 = true → b.writeVal m (ki K.CAL_CLEAR_SETS i.val) v id seq =
    (b.storeVal (ki K.CAL_CLEAR_SETS i.val) v).calClear i.val) ∧
  (∀ (b : Block) (m : Mem) (v id seq : Nat), bit v 0 = true → b.writeVal m K.AUX_START v id seq = (b.storeVal K.AUX_START v).auxStart) ∧
  (∀ (b : Block) (m : Mem) (v id seq : Nat), bit v 0 = true → b.writeVal m K.AUX_SELFCAL v id seq = (b.storeVal K.AUX_SELFCAL v).auxSelfcal) ∧
  (∀ (b : Block) (m : Mem) (v id seq : Nat), bit v 0 = true → b.writeVal m K.THM_PEAK_CLEAR v id seq =
    (let c := b.storeVal K.THM_PEAK_CLEAR v
     c.pf K.THM_DIE_MAX 0 15 0 (c.f K.THM_DIE_TEMP 0 15 0)))

/-- Whatever command stands first in the queue, a step is that command's meaning on the state with the rest of the queue. (The queue is the model's own.) (R55, R56) -/
def Obligations.StepTakesTheFront : Prop :=
  ∀ (c : Instr) (rest : List Instr) (s : State), s.pending = c :: rest → step s = exec c { s with pending := rest }

/-- With no command waiting a step lets one core cycle pass, which is four units of the beat on the safe clock: the place within the beat and the count of units advance by as much, but never beyond the last unit of the beat, which ends with its boundary; nothing else changes. That a step is a core cycle, and that the last unit stays, are the model's choices (log entries 8 and 9). (R12, R414) -/
def Obligations.IdleCycle : Prop :=
  (∀ (s : State), s.pending = [] → s.blk.cycle + (if s.blk.coreSafe = true then 4 else 1) ≤ 2047 →
    step s = .next { s with blk := { s.blk with
      cycle := s.blk.cycle + (if s.blk.coreSafe = true then 4 else 1), ticks := s.blk.ticks + (if s.blk.coreSafe = true then 4 else 1) } }) ∧
  (∀ (s : State), s.pending = [] → s.blk.cycle = 2047 → step s = .next s)

/-- No command faults or is refused, in any state: each answers a next state, with the queue as it was; and the outcome does not depend on what the command before it sent, stored or raised. (R37, R55, R477) -/
def Obligations.EveryCommandCompletes : Prop :=
  (∀ (c : Instr) (s : State), ∃ t : State, exec c s = .next t ∧ t.pending = s.pending) ∧
  (∀ (c : Instr) (s u : State), s.start = u.start → s.mem = u.mem → s.pending = u.pending → exec c s = exec c u)

/-- From any state the commands waiting are served first in, first out, one a step: after as many steps as there are commands the queue is empty, and no step on the way stops. (The queue is the model's own.) (R55) -/
def Obligations.QueueIsServed : Prop :=
  ∀ (s : State), ∃ t : State, Host.Core.run Sys2Proof.core s.pending.length s = .next t ∧ t.pending = []

/-- In every state in which the byte memories list strictly rising addresses and no byte equal to what an unlisted one reads as, the state after a step has that form too. That an unlisted byte reads 0 is the model's choice for HBM3E (log entry 2). (R64, R234) -/
def Obligations.MemoryStaysCanonical : Prop :=
  ∀ (s t : State), MemOk s → step s = .next t → MemOk t

/-- After any command every byte of the memories reads as the newest of the command's own stores that names it gives it, and every byte that none names reads as before; READ_MEM stores nothing; a WRITE_MEM of the shared scratch that passes its checks stores exactly its bytes, one after the other from the address it names. (R64) -/
def Obligations.MemoryChangesByStores : Prop :=
  (∀ (c : Instr) (s t : State) (a : Nat), MemOk s → exec c s = .next t → memRead t.mem a = opsRead s.mem t.blk.stores a) ∧
  (∀ (p : Packet) (x : Session) (q : MemAsk) (k : Nat) (s t : State), MemOk s → Comes 0x41 p x s → Tagged 0x41 p x.h2e → p.target = 0 →
    memAsk p.payload = some q → q.space = 1 → p.payload.length = 24 + q.len →
    (opened p x s).memCheck ((opened p x s).payloadLimit p.port.val) q true = .ok → exec (.writeMem p) s = .next t → k < q.len →
    memRead t.mem (spShared (q.addr + k)) = p.payload.getD (24 + k) 0) ∧
  (∀ (p : Packet) (x : Session) (q : MemAsk) (a : Nat) (s t : State), MemOk s → Comes 0x41 p x s → Tagged 0x41 p x.h2e → p.target = 0 →
    memAsk p.payload = some q → q.space = 1 → p.payload.length = 24 + q.len →
    (opened p x s).memCheck ((opened p x s).payloadLimit p.port.val) q true = .ok → exec (.writeMem p) s = .next t →
    (a < spShared q.addr ∨ spShared (q.addr + q.len) ≤ a) → memRead t.mem a = memRead s.mem a) ∧
  (∀ (p : Packet) (x : Session) (s t : State), Comes 0x40 p x s → Tagged 0x40 p x.h2e → p.target = 0 → exec (.readMem p) s = .next t → t.mem = s.mem)

/-- After reset the queue is empty, the memories list nothing and have their canonical form, the engine is in THAW at beat 0 with no session, request, entry or transaction, and every parameter holds the value that its Reset column gives on entering THAW: among them BCP_CMD_PORT 4792, BCP_EVT_PORT 4793, BCP_IDLE_TIMEOUT 60, F of a link's FRAME 3, the NCO's phase continuous, a lane's SWAP_AT all ones, GAIN 1, a view's order 10 code and range, a unit's mask limits, and the management port ON while every lane is OFF. That State.reset is the entry to THAW after a power-on reset is the model's choice (log entry 3). (R5, R38, R76, R91, R132, R299, R335, R383, R404, R470) -/
def Obligations.ResetState : Prop :=
  State.reset.pending = [] ∧ State.reset.mem = [] ∧ MemOk State.reset ∧ State.reset.blk.dev = .thaw ∧ State.reset.blk.beat = 0 ∧
  State.reset.blk.sessions = [] ∧ State.reset.blk.accepted = [] ∧ State.reset.blk.sched = [] ∧ State.reset.blk.txns = [] ∧
  State.reset.blk.val K.SYS_BCP_CMD_PORT = 0x12B8 ∧ State.reset.blk.val K.SYS_BCP_EVT_PORT = 0x12B9 ∧
  State.reset.blk.f K.SYS_BCP_IDLE_TIMEOUT 0 11 0 = 0x3C ∧ State.reset.blk.f K.EVT_OUT_CFG0 0 10 1 = 0x0A ∧
  State.reset.blk.f K.JRX_FRAME 15 15 9 = 3 ∧ State.reset.blk.f K.LANE_NCO_CTRL 31 16 16 = 1 ∧
  State.reset.blk.val (ki K.LANE_SWAP_AT 31) = 2 ^ 64 - 1 ∧ State.reset.blk.f K.LANE_GAIN 31 22 5 = 0x20000 ∧
  State.reset.blk.f K.XFM_CFG 0 4 0 = 0x0A ∧ State.reset.blk.f K.XFM_OUT_RANGE 0x7E 31 0 = 0x3FFE00 ∧
  State.reset.blk.f K.TRG_TEST_LIM 15 31 0 = 0x80007FFF ∧ State.reset.blk.f K.STM_HOST_PORT 3 15 0 = 0x12C5 ∧
  State.reset.blk.isOn bNET 16 = true ∧ (∀ i < 32, State.reset.blk.isOff bLANE i = true) ∧ (∀ c < 64, State.reset.blk.isOff bWVR c = true)

/-- In RESET, BOOT and HALT every request packet and every event packet that falls due leaves the block as it finds it, and no command of any kind that leaves the engine there sends a BCP packet or passes one on; in THAW and FLOW, SYS[0].STATE reads 2 in THAW and 3 in FLOW, with bit 3 set in FLOW where a cause of DEGRADED holds. (R32) -/
def Obligations.ServiceOnlyInThawAndFlow : Prop :=
  (∀ (c : Instr) (p : Packet) (op : BitVec 16) (k : Fin 4) (again : Bool) (id : BitVec 32) (s : State), s.blk.live = false →
    c ∈ [.ping p, .pingHandshakeOpen p, .pingHandshakeConfirm p, .pingClose p, .get p, .set p, .setMany p, .arm p, .disarm p, .force p, .schedule p,
      .prepare p, .commit p, .abort p, .readMem p, .writeMem p, .loadProgram p, .startCore p, .stopCore p, .subscribe p, .unsubscribe p, .calRun p,
      .snapshot p, .enterFlow p, .reset p, .unknownOpcodeRequest op p, .forwardRequest op p, .pltCtrlMessage k op p again, .eventPacketSend id,
      .eventPacketTimeout id] →
    exec c s = .next (s.finish s.start)) ∧
  (∀ (c : Instr) (s t : State), s.blk.live = false → exec c s = .next t → t.blk.live = false →
    t.blk.sent.all (fun x => match x with | .bcp .. => false | .ctrl .. => false | _ => true) = true) ∧
  (∀ (s : State), s.blk.live = true → s.blk.readRecord K.SYS_STATE = (s.blk, 0, beBytes 4
    (if s.blk.dev = .thaw then 2 else if s.blk.f K.SYS_DEGRADED_CAUSES 0 5 0 = 0 then 3 else 11)))

/-- A key made of a block code, an instance and an item lies within 32 bits and gives each back, every 32-bit number is the key of its three fields, the fields stand in bits 31 to 24, 23 to 16 and 15 to 0, and item 0x0010 of instance 3 of block 0x05 has the key 0x05030010. (R4) -/
def Obligations.KeyComposition : Prop :=
  (∀ (blk inst item : Nat), blk < 256 → inst < 256 → item < 65536 →
    mkKey blk inst item < 2 ^ 32 ∧ keyBlock (mkKey blk inst item) = blk ∧ keyInst (mkKey blk inst item) = inst ∧ keyItem (mkKey blk inst item) = item) ∧
  (∀ (k : BitVec 32), mkKey (k.extractLsb' 24 8).toNat (k.extractLsb' 16 8).toNat (k.extractLsb' 0 16).toNat = k.toNat ∧
    keyBlock k.toNat = (k.extractLsb' 24 8).toNat ∧ keyInst k.toNat = (k.extractLsb' 16 8).toNat ∧ keyItem k.toNat = (k.extractLsb' 0 16).toNat) ∧
  mkKey 0x05 3 0x0010 = 0x05030010 ∧ bLANE = 0x05

/-- Bit n of an event mask is bit n mod 8 of byte 127 - n div 8 of the 128 bytes that carry it. For the next request of a session: after a SUBSCRIBE in form a bit of the session's mask is set if it was set or the request's is, the session's event packets go to the packet's source address at the port given, BCP_EVT_PORT for a port of 0, and the severity given is the session's; after an UNSUBSCRIBE a bit is set if it was set and the request's is not, and the port and the severity stay; of the other sessions none changes. A closed event packet leaves for the session's source address and that port. An occurrence of event n that LIMIT does not withhold is queued for a session with room whose mask has bit n and whose severity the source meets, and an occurrence leaves every session alone that lacks the bit or asks for more. (R67) -/
def Obligations.SubscriptionMask : Prop :=
  (∀ (p : Packet) (x : Session) (s t : State), Comes 0x60 p x s → Tagged 0x60 p x.h2e → p.target = 0 → p.payload.length = 132 →
    beNat ((p.payload.drop 2).take 1) ≤ 4 → beNat ((p.payload.drop 3).take 1) = 0 → exec (.subscribe p) s = .next t →
    (∃ y : Session, t.blk.session p.session.toNat = some y ∧
      (∀ n < 1024, bit y.mask n = (bit x.mask n || bit (p.payload.getD (131 - n / 8) 0).toNat (n % 8))) ∧ y.addr = p.addr.toNat ∧
      y.evtPort = (if beNat (p.payload.take 2) = 0 then s.blk.f K.SYS_BCP_EVT_PORT 0 15 0 else beNat (p.payload.take 2)) ∧
      y.minSev = beNat ((p.payload.drop 2).take 1)) ∧
    (∀ id : Nat, id ≠ p.session.toNat → t.blk.session id = s.blk.session id)) ∧
  (∀ (p : Packet) (x : Session) (s t : State), Comes 0x61 p x s → Tagged 0x61 p x.h2e → p.target = 0 → p.payload.length = 128 →
    exec (.unsubscribe p) s = .next t →
    (∃ y : Session, t.blk.session p.session.toNat = some y ∧
      (∀ n < 1024, bit y.mask n = (bit x.mask n && !bit (p.payload.getD (127 - n / 8) 0).toNat (n % 8))) ∧ y.addr = p.addr.toNat ∧
      y.evtPort = x.evtPort ∧ y.minSev = x.minSev) ∧
    (∀ id : Nat, id ≠ p.session.toNat → t.blk.session id = s.blk.session id)) ∧
  (∀ (id : BitVec 32) (x : Session) (s : State), s.blk.live = true → s.blk.session id.toNat = some x → x.closed ≠ [] →
    x.iface < 17 → s.blk.netUsable x.iface = true →
    ∃ (t : State) (m : BcpMsg), exec (.eventPacketSend id) s = .next t ∧ t.blk.sent = [.bcp x.iface x.addr x.evtPort m]) ∧
  (∀ (b : Block) (o : Occ) (x : Session), o.id < 1024 → b.session x.id = some x → bit x.mask o.id = true → x.minSev ≤ b.srcCfg o.id 2 0 →
    x.full = false → x.taken < 256 →
    (o.id = 978 ∨ o.id = 979 ∨ b.srcCfg o.id 15 4 = 0 ∨ tget 0 b.srcWin o.id < b.srcCfg o.id 15 4) →
    ∃ y : Session, (b.occur o).session x.id = some y ∧ x.taken < y.taken) ∧
  (∀ (b : Block) (o : Occ) (n : Nat), o.id < 1024 → (∀ y ∈ b.sessions, y.id = n → (bit y.mask o.id = false ∨ b.srcCfg o.id 2 0 < y.minSev)) →
    (b.occur o).session n = b.session n)

/-- When the engine writes bits hi to lo of a parameter, every other parameter holds what it held, the written bits hold the value's low bits, and every other bit of the parameter below bit 64 is as it was; a 32-bit counter that advances holds the sum modulo 2^32; a function whose life moves keeps its held request. (R2, R47) -/
def Obligations.ParameterFrame : Prop :=
  (∀ (b : Block) (k i hi lo v k' : Nat), k' ≠ ki k i → (b.pf k i hi lo v).val k' = b.val k') ∧
  (∀ (b : Block) (k i hi lo v : Nat), lo ≤ hi → hi < 64 → (b.pf k i hi lo v).f k i hi lo = v % 2 ^ (hi + 1 - lo)) ∧
  (∀ (b : Block) (k i hi lo v n : Nat), lo ≤ hi → hi < 64 → n < 64 → (n < lo ∨ hi < n) → bit ((b.pf k i hi lo v).val (ki k i)) n = bit (b.val (ki k i)) n) ∧
  (∀ (b : Block) (k i n : Nat), (b.inc k i n).val (ki k i) = (b.val (ki k i) + n) % 2 ^ 32) ∧
  (∀ (b : Block) (blk i l : Nat), l < 4 → (b.setLife blk i l).life blk i = l ∧ (b.setLife blk i l).heldReq blk i = b.heldReq blk i)

end
end

