-- ==== Sys2Proof/Laws/Bits.lean ====
section
/-! SUPPORT. Laws of the bit fields and the byte order. -/
namespace Sys2Proof
open Machine

theorem bit_testBit (v i : Nat) : bit v i = v.testBit i := by
  simp [bit, Nat.testBit_eq_decide_div_mod_eq, Bool.beq_eq_decide_eq]

theorem testBit_bits (v hi lo n : Nat) : (bits v hi lo).testBit n = (decide (n < hi + 1 - lo) && v.testBit (n + lo)) := by
  simp only [bits, Nat.testBit_mod_two_pow, Nat.testBit_div_two_pow, Nat.add_comm]

theorem bits_lt (v hi lo : Nat) : bits v hi lo < 2 ^ (hi + 1 - lo) := Nat.mod_lt _ (Nat.two_pow_pos _)

/-- A field replaced leaves what lies above and below it. -/
theorem setBits_split (v hi lo x : Nat) (h : lo ≤ hi + 1) :
    setBits v hi lo x = v / 2 ^ (hi + 1) * 2 ^ (hi + 1) + (x % 2 ^ (hi + 1 - lo) * 2 ^ lo + v % 2 ^ lo) := by
  have e : 2 ^ (hi + 1) = 2 ^ lo * 2 ^ (hi + 1 - lo) := by rw [← Nat.pow_add]; congr 1; omega
  have d : v / 2 ^ (hi + 1) = v / 2 ^ lo / 2 ^ (hi + 1 - lo) := by rw [e, Nat.div_div_eq_div_mul]
  have a := Nat.div_add_mod v (2 ^ lo)
  have b := Nat.div_add_mod (v / 2 ^ lo) (2 ^ (hi + 1 - lo))
  have c : v = v / 2 ^ (hi + 1) * 2 ^ (hi + 1) + (bits v hi lo * 2 ^ lo + v % 2 ^ lo) := by
    rw [d, e, bits]
    conv => lhs; rw [← a, ← b]
    rw [Nat.mul_add, Nat.mul_comm (2 ^ lo) (v / 2 ^ lo % 2 ^ (hi + 1 - lo)), ← Nat.mul_assoc, Nat.mul_comm (v / 2 ^ lo / 2 ^ (hi + 1 - lo)) _,
      Nat.add_assoc]
  rw [setBits]
  omega

theorem testBit_setBits (v hi lo x n : Nat) (h : lo ≤ hi + 1) :
    (setBits v hi lo x).testBit n = if lo ≤ n ∧ n ≤ hi then x.testBit (n - lo) else v.testBit n := by
  rw [setBits_split v hi lo x h, Nat.mul_comm, Nat.testBit_two_pow_mul_add, Nat.mul_comm, Nat.testBit_two_pow_mul_add]
  · by_cases a : n < hi + 1
    · by_cases b : n < lo
      · rw [if_pos a, if_pos b, if_neg (by omega), Nat.testBit_mod_two_pow]; simp [b]
      · rw [if_pos a, if_neg b, if_pos (by omega), Nat.testBit_mod_two_pow]
        have : n - lo < hi + 1 - lo := by omega
        simp [this]
    · rw [if_neg a, if_neg (by omega), Nat.testBit_div_two_pow]; congr 1; omega
  · exact Nat.mod_lt _ (Nat.two_pow_pos _)
  · have e : 2 ^ (hi + 1) = 2 ^ (hi + 1 - lo) * 2 ^ lo := by rw [← Nat.pow_add]; congr 1; omega
    have p := Nat.mod_lt v (Nat.two_pow_pos lo)
    have q := Nat.mod_lt x (Nat.two_pow_pos (hi + 1 - lo))
    have r : (x % 2 ^ (hi + 1 - lo) + 1) * 2 ^ lo ≤ 2 ^ (hi + 1 - lo) * 2 ^ lo := Nat.mul_le_mul_right _ q
    rw [e]; rw [Nat.add_mul] at r; omega

theorem bits_setBits_same (v hi lo x : Nat) (h : lo ≤ hi + 1) : bits (setBits v hi lo x) hi lo = x % 2 ^ (hi + 1 - lo) := by
  apply Nat.eq_of_testBit_eq; intro n
  rw [testBit_bits, testBit_setBits _ _ _ _ _ h, Nat.testBit_mod_two_pow]
  by_cases a : n < hi + 1 - lo
  · rw [if_pos (by omega)]; simp [a]
  · simp [a]

theorem bits_setBits_ne (v hi lo x hi' lo' : Nat) (h : lo ≤ hi + 1) (d : hi' < lo ∨ hi < lo') : bits (setBits v hi lo x) hi' lo' = bits v hi' lo' := by
  apply Nat.eq_of_testBit_eq; intro n
  rw [testBit_bits, testBit_bits, testBit_setBits _ _ _ _ _ h]
  by_cases a : n < hi' + 1 - lo'
  · rw [if_neg (by omega)]
  · simp [a]

theorem bits_mod (v hi lo w : Nat) (h : hi < w) : bits (v % 2 ^ w) hi lo = bits v hi lo := by
  apply Nat.eq_of_testBit_eq; intro n
  rw [testBit_bits, testBit_bits, Nat.testBit_mod_two_pow]
  by_cases a : n < hi + 1 - lo
  · have : n + lo < w := by omega
    simp [this]
  · simp [a]

theorem bit_mod (v i w : Nat) (h : i < w) : bit (v % 2 ^ w) i = bit v i := by simp [bit_testBit, Nat.testBit_mod_two_pow, h]

theorem beNat_step (l : List Byte) (a : Nat) : l.foldl (fun a (b : Byte) => a * 256 + b.toNat) a = a * 256 ^ l.length + beNat l := by
  induction l generalizing a with
  | nil => simp [beNat]
  | cons x t ih =>
    simp only [List.foldl_cons, beNat, List.length_cons]
    rw [ih, ih (0 * 256 + x.toNat), Nat.pow_succ, Nat.add_mul, Nat.mul_assoc, Nat.mul_comm 256, Nat.zero_mul, Nat.zero_add, Nat.add_assoc]

theorem beNat_cons (x : Byte) (t : List Byte) : beNat (x :: t) = x.toNat * 256 ^ t.length + beNat t := by
  have := beNat_step t (0 * 256 + x.toNat)
  simpa [beNat] using this

theorem beNat_lt (l : List Byte) : beNat l < 2 ^ (8 * l.length) := by
  induction l with
  | nil => simp [beNat]
  | cons x t ih =>
    have h : (2 : Nat) ^ (8 * t.length) = 256 ^ t.length := by rw [Nat.pow_mul]
    rw [beNat_cons, List.length_cons, Nat.mul_add, Nat.pow_add, h]
    rw [h] at ih
    have q := Nat.mul_le_mul_right (256 ^ t.length) (Nat.succ_le_of_lt x.isLt)
    simp only [Nat.succ_eq_add_one, Nat.add_mul, Nat.one_mul] at q
    have : (2 : Nat) ^ (8 * 1) = 256 := by decide
    rw [this, Nat.mul_comm (256 ^ _)]
    have e : (2 : Nat) ^ 8 = 256 := by decide
    rw [e] at q
    omega

/-- Bit `n` of the number that bytes spell is bit `n` mod 8 of the byte `n` / 8 from the end. -/
theorem bit_beNat (l : List Byte) (n : Nat) (h : n < 8 * l.length) : bit (beNat l) n = bit (l.getD (l.length - 1 - n / 8) 0).toNat (n % 8) := by
  induction l with
  | nil => simp at h
  | cons x t ih =>
    have e : (256 : Nat) ^ t.length = 2 ^ (8 * t.length) := by rw [Nat.pow_mul]
    rw [beNat_cons, e, Nat.mul_comm, bit_testBit, Nat.testBit_two_pow_mul_add _ (beNat_lt t)]
    simp only [List.length_cons] at h ⊢
    by_cases a : n < 8 * t.length
    · rw [if_pos a, ← bit_testBit, ih a]
      have : t.length + 1 - 1 - n / 8 = (t.length - 1 - n / 8) + 1 := by omega
      rw [this, List.getD_cons_succ]
    · rw [if_neg a]
      have p : t.length + 1 - 1 - n / 8 = 0 := by omega
      rw [p, List.getD_cons_zero, bit_testBit]
      congr 1; omega

end Sys2Proof
end

