-- ==== Sys2Proof/Laws/Exec.lean ====
section
/-! SUPPORT. What every command and every step is: a function of the block and the memories, run on the state. -/
namespace Sys2Proof
open Machine

/-- A meaning runs some function of the memories and the block. -/
def Runs (g : Machine.State → Host.Outcome Machine.State Fault Refusal) : Prop := ∃ f : Mem → Block → Block, ∀ s : Machine.State, g s = s.run f

theorem runs_run (f : Mem → Block → Block) : Runs (State.run f) := ⟨f, fun _ => rfl⟩
theorem runs_live (f : Mem → Block → Block) : Runs (State.runLive f) := ⟨fun m b => if b.live then f m b else b, fun _ => rfl⟩
theorem runs_boundary (f : Mem → Block → Block) : Runs (State.runBoundary f) := runs_live _
theorem runs_ping (k : PingKind) (p : Packet) : Runs (State.runPing k p) := runs_live _
theorem runs_packet (op : Nat) (p : Packet) : Runs (State.runPacket op p) := runs_live _
theorem runs_write (sel : Nat → Nat → Bool) (w : Write) : Runs (State.runWrite sel w) := runs_live _
theorem runs_sec (sel : Nat → Nat → Bool) (w : Write) (session seq : BitVec 32) : Runs (State.runSec sel w session seq) := runs_live _
theorem runs_word (c : Fin 64) (p : Nat → Bool) : Runs (State.runWord c p) := runs_live _
theorem runs_op (c : Fin 64) (op : WOp) : Runs (State.runOp c op) := runs_word _ _

/-- Every command runs some function of the memories and the block. -/
theorem exec_run : ∀ c : Instr, Runs (exec c)
  | .ping _ => runs_ping _ _
  | .pingHandshakeOpen _ => runs_ping _ _
  | .pingHandshakeConfirm _ => runs_ping _ _
  | .pingClose _ => runs_ping _ _
  | .get _ => runs_packet _ _
  | .set _ => runs_packet _ _
  | .setMany _ => runs_packet _ _
  | .arm _ => runs_packet _ _
  | .disarm _ => runs_packet _ _
  | .force _ => runs_packet _ _
  | .schedule _ => runs_packet _ _
  | .prepare _ => runs_packet _ _
  | .commit _ => runs_packet _ _
  | .abort _ => runs_packet _ _
  | .readMem _ => runs_packet _ _
  | .writeMem _ => runs_packet _ _
  | .loadProgram _ => runs_packet _ _
  | .startCore _ => runs_packet _ _
  | .stopCore _ => runs_packet _ _
  | .subscribe _ => runs_packet _ _
  | .unsubscribe _ => runs_packet _ _
  | .calRun _ => runs_packet _ _
  | .snapshot _ => runs_packet _ _
  | .enterFlow _ => runs_packet _ _
  | .reset _ => runs_packet _ _
  | .unknownOpcodeRequest _ _ => by show Runs (execUnknownOpcodeRequest _ _); unfold execUnknownOpcodeRequest; exact runs_live _
  | .forwardRequest _ _ => by show Runs (execForwardRequest _ _); unfold execForwardRequest; exact runs_live _
  | .handshakeTimeout _ => by show Runs (execHandshakeTimeout _); unfold execHandshakeTimeout; exact runs_live _
  | .sessionIdleTimeout _ => by show Runs (execSessionIdleTimeout _); unfold execSessionIdleTimeout; exact runs_live _
  | .parameterWrite _ => runs_write _ _
  | .functionStartRequest _ => runs_write _ _
  | .functionStopRequest _ => runs_write _ _
  | .beatBoundary => by show Runs (execBeatBoundary); unfold execBeatBoundary; exact runs_run _
  | .requestPerformance => by show Runs (execRequestPerformance); unfold execRequestPerformance; exact runs_boundary _
  | .schedulePerformance _ => by show Runs (execSchedulePerformance _); unfold execSchedulePerformance; exact runs_boundary _
  | .preparedTxnExpiry _ _ => by show Runs (execPreparedTxnExpiry _ _); unfold execPreparedTxnExpiry; exact runs_boundary _
  | .heldRequestBegin _ _ => by show Runs (execHeldRequestBegin _ _); unfold execHeldRequestBegin; exact runs_boundary _
  | .functionSequenceComplete _ _ => by show Runs (execFunctionSequenceComplete _ _); unfold execFunctionSequenceComplete; exact runs_boundary _
  | .limitWindowEnd => by show Runs (execLimitWindowEnd); unfold execLimitWindowEnd; exact runs_boundary _
  | .eventPacketTimeout _ => by show Runs (execEventPacketTimeout _); unfold execEventPacketTimeout; exact runs_live _
  | .eventPacketSend _ => by show Runs (execEventPacketSend _); unfold execEventPacketSend; exact runs_live _
  | .evtOutAck _ => runs_write _ _
  | .evtOutPulseEnd _ => by show Runs (execEvtOutPulseEnd _); unfold execEvtOutPulseEnd; exact runs_live _
  | .jrxCdrLock _ => by show Runs (execJrxCdrLock _); unfold execJrxCdrLock; exact runs_live _
  | .jrxAlignDone _ _ => by show Runs (execJrxAlignDone _ _); unfold execJrxAlignDone; exact runs_live _
  | .jrxRelease _ => by show Runs (execJrxRelease _); unfold execJrxRelease; exact runs_live _
  | .jrxStartTimeout _ _ => by show Runs (execJrxStartTimeout _ _); unfold execJrxStartTimeout; exact runs_live _
  | .jrxHeaderLoss _ _ => by show Runs (execJrxHeaderLoss _ _); unfold execJrxHeaderLoss; exact runs_live _
  | .jrxAlignLoss _ _ => by show Runs (execJrxAlignLoss _ _); unfold execJrxAlignLoss; exact runs_live _
  | .jrxCrcError _ _ => by show Runs (execJrxCrcError _ _); unfold execJrxCrcError; exact runs_live _
  | .jrxCharError _ _ => by show Runs (execJrxCharError _ _); unfold execJrxCharError; exact runs_live _
  | .jrxIlasMismatch _ _ => by show Runs (execJrxIlasMismatch _ _); unfold execJrxIlasMismatch; exact runs_live _
  | .jrxElasticError _ _ => by show Runs (execJrxElasticError _ _); unfold execJrxElasticError; exact runs_live _
  | .jrxSignalLoss _ _ => by show Runs (execJrxSignalLoss _ _); unfold execJrxSignalLoss; exact runs_live _
  | .jrxReRelease _ _ => by show Runs (execJrxReRelease _ _); unfold execJrxReRelease; exact runs_live _
  | .jrxEpochMove _ => by show Runs (execJrxEpochMove _); unfold execJrxEpochMove; exact runs_live _
  | .jrxRateError _ _ => by show Runs (execJrxRateError _ _); unfold execJrxRateError; exact runs_live _
  | .jtxSyncLoss _ => by show Runs (execJtxSyncLoss _); unfold execJtxSyncLoss; exact runs_live _
  | .jtxUp _ => by show Runs (execJtxUp _); unfold execJtxUp; exact runs_live _
  | .spiGo _ => runs_write _ _
  | .spiDone _ _ => by show Runs (execSpiDone _ _); unfold execSpiDone; exact runs_live _
  | .laneOutputSample _ _ _ => by show Runs (execLaneOutputSample _ _ _); unfold execLaneOutputSample; exact runs_live _
  | .laneStartAfterRelease _ => by show Runs (execLaneStartAfterRelease _); unfold execLaneStartAfterRelease; exact runs_boundary _
  | .ncoSync _ => runs_write _ _
  | .swapAtWrite _ => runs_write _ _
  | .spectrumDelivered _ _ => by show Runs (execSpectrumDelivered _ _); unfold execSpectrumDelivered; exact runs_live _
  | .tracePeriodEnd _ => by show Runs (execTracePeriodEnd _); unfold execTracePeriodEnd; exact runs_live _
  | .trcClear _ => runs_write _ _
  | .winCfgWrite _ => runs_write _ _
  | .trigInEdge _ _ _ _ => by show Runs (execTrigInEdge _ _ _ _); unfold execTrigInEdge; exact runs_live _
  | .tiuInEdge _ _ _ _ => by show Runs (execTiuInEdge _ _ _ _); unfold execTiuInEdge; exact runs_live _
  | .plaitReportArrival _ _ _ _ _ _ _ => by show Runs (execPlaitReportArrival _ _ _ _ _ _ _); unfold execPlaitReportArrival; exact runs_live _
  | .triggerTimeInstant _ _ => by show Runs (execTriggerTimeInstant _ _); unfold execTriggerTimeInstant; exact runs_live _
  | .triggerDrainEnd _ => by show Runs (execTriggerDrainEnd _); unfold execTriggerDrainEnd; exact runs_live _
  | .trigOutPulseEnd _ => by show Runs (execTrigOutPulseEnd _); unfold execTrigOutPulseEnd; exact runs_live _
  | .trigOutTimedPulse _ => by show Runs (execTrigOutTimedPulse _); unfold execTrigOutTimedPulse; exact runs_live _
  | .captureFifoResume _ => by show Runs (execCaptureFifoResume _); unfold execCaptureFifoResume; exact runs_live _
  | .captureStreamResume _ => by show Runs (execCaptureStreamResume _); unfold execCaptureStreamResume; exact runs_live _
  | .evidenceComplete => by show Runs (execEvidenceComplete); unfold execEvidenceComplete; exact runs_live _
  | .capMark _ => runs_write _ _
  | .replayBuffered _ => by show Runs (execReplayBuffered _); unfold execReplayBuffered; exact runs_live _
  | .hbmRequest _ _ _ _ => by show Runs (execHbmRequest _ _ _ _); unfold execHbmRequest; exact runs_live _
  | .refreshTick _ => by show Runs (execRefreshTick _); unfold execRefreshTick; exact runs_live _
  | .stackTempReading _ _ => by show Runs (execStackTempReading _ _); unfold execStackTempReading; exact runs_live _
  | .retrainSlot _ _ => by show Runs (execRetrainSlot _ _); unfold execRetrainSlot; exact runs_live _
  | .transferParityError _ _ _ _ _ _ => by show Runs (execTransferParityError _ _ _ _ _ _); unfold execTransferParityError; exact runs_live _
  | .laneRepair _ => by show Runs (execLaneRepair _); unfold execLaneRepair; exact runs_live _
  | .pcRetirement _ => by show Runs (execPcRetirement _); unfold execPcRetirement; exact runs_boundary _
  | .densityClosePassEnd _ _ => by show Runs (execDensityClosePassEnd _ _); unfold execDensityClosePassEnd; exact runs_live _
  | .densityClear _ => runs_write _ _
  | .spectrogramLineComplete _ => by show Runs (execSpectrogramLineComplete _); unfold execSpectrogramLineComplete; exact runs_live _
  | .compositeTick => by show Runs (execCompositeTick); unfold execCompositeTick; exact runs_live _
  | .compositeComplete => by show Runs (execCompositeComplete); unfold execCompositeComplete; exact runs_live _
  | .bufCfgWrite _ => runs_write _ _
  | .bufReleased _ => by show Runs (execBufReleased _); unfold execBufReleased; exact runs_live _
  | .displayFrameBoundary _ => by show Runs (execDisplayFrameBoundary _); unfold execDisplayFrameBoundary; exact runs_live _
  | .teInEdge _ => by show Runs (execTeInEdge _); unfold execTeInEdge; exact runs_live _
  | .teTimeout => by show Runs (execTeTimeout); unfold execTeTimeout; exact runs_live _
  | .displayUnderflow _ _ => by show Runs (execDisplayUnderflow _ _); unfold execDisplayUnderflow; exact runs_live _
  | .displayModeResume _ => by show Runs (execDisplayModeResume _); unfold execDisplayModeResume; exact runs_live _
  | .dpTrainingDone _ => by show Runs (execDpTrainingDone _); unfold execDpTrainingDone; exact runs_live _
  | .dpTrainingRetry => by show Runs (execDpTrainingRetry); unfold execDpTrainingRetry; exact runs_live _
  | .hpdEdge _ => by show Runs (execHpdEdge _); unfold execHpdEdge; exact runs_live _
  | .irqHpd _ => by show Runs (execIrqHpd _); unfold execIrqHpd; exact runs_live _
  | .sideGo _ => runs_write _ _
  | .sideDone _ _ _ _ => by show Runs (execSideDone _ _ _ _); unfold execSideDone; exact runs_live _
  | .nop _ => runs_op _ _
  | .add _ => runs_op _ _
  | .sub _ => runs_op _ _
  | .neg _ => runs_op _ _
  | .abs _ => runs_op _ _
  | .max _ => runs_op _ _
  | .min _ => runs_op _ _
  | .sel _ => runs_op _ _
  | .cmp _ => runs_op _ _
  | .tst _ => runs_op _ _
  | .and _ => runs_op _ _
  | .or _ => runs_op _ _
  | .xor _ => runs_op _ _
  | .not _ => runs_op _ _
  | .asr _ => runs_op _ _
  | .lsr _ => runs_op _ _
  | .asl _ => runs_op _ _
  | .ash _ => runs_op _ _
  | .mov _ => runs_op _ _
  | .conj _ => runs_op _ _
  | .swap _ => runs_op _ _
  | .unpk _ => runs_op _ _
  | .vmax _ => runs_op _ _
  | .iadd _ => runs_op _ _
  | .isub _ => runs_op _ _
  | .bexp _ => runs_op _ _
  | .exp _ => runs_op _ _
  | .norm _ => runs_op _ _
  | .bxr _ => runs_op _ _
  | .mva _ => runs_op _ _
  | .mvar _ => runs_op _ _
  | .mpy _ => runs_op _ _
  | .mac _ => runs_op _ _
  | .msu _ => runs_op _ _
  | .mpyj _ => runs_op _ _
  | .macj _ => runs_op _ _
  | .mag2 _ => runs_op _ _
  | .clr _ => runs_op _ _
  | .adda _ => runs_op _ _
  | .lda _ => runs_op _ _
  | .asra _ => runs_op _ _
  | .asla _ => runs_op _ _
  | .nega _ => runs_op _ _
  | .rnd _ => runs_op _ _
  | .cmpa _ => runs_op _ _
  | .mvfs _ => runs_op _ _
  | .mvts _ => runs_op _ _
  | .ldi _ => runs_op _ _
  | .ldis _ => runs_op _ _
  | .iaddi _ => runs_op _ _
  | .andi _ => runs_op _ _
  | .ori _ => runs_op _ _
  | .xori _ => runs_op _ _
  | .cmpi _ => runs_op _ _
  | .addp _ => runs_op _ _
  | .loadMove _ => runs_word _ _
  | .storeMove _ => runs_word _ _
  | .br _ => runs_op _ _
  | .call _ => runs_op _ _
  | .jmp _ => runs_op _ _
  | .rti _ => runs_op _ _
  | .loop _ => runs_op _ _
  | .loopd _ => runs_op _ _
  | .rep _ => runs_op _ _
  | .repd _ => runs_op _ _
  | .waitb _ => runs_op _ _
  | .crd _ => runs_op _ _
  | .cwr _ => runs_op _ _
  | .illegalEncoding _ => by show Runs (execIllegalEncoding _); unfold execIllegalEncoding; exact runs_live _
  | .unloadedFetch _ => by show Runs (execUnloadedFetch _); unfold execUnloadedFetch; exact runs_live _
  | .interruptEntry _ => by show Runs (execInterruptEntry _); unfold execInterruptEntry; exact runs_live _
  | .weaverBeatStart _ => by show Runs (execWeaverBeatStart _); unfold execWeaverBeatStart; exact runs_live _
  | .dmaGo _ => runs_word _ _
  | .dmaDescriptorDone _ => by show Runs (execDmaDescriptorDone _); unfold execDmaDescriptorDone; exact runs_live _
  | .evtGo _ => runs_word _ _
  | .trqGo _ => runs_word _ _
  | .gate _ => runs_word _ _
  | .reqGo _ => runs_word _ _
  | .reqComplete _ => by show Runs (execReqComplete _); unfold execReqComplete; exact runs_live _
  | .spiCtl _ => runs_word _ _
  | .strGo _ => runs_word _ _
  | .svcAns _ => runs_word _ _
  | .serviceTimeout _ => by show Runs (execServiceTimeout _); unfold execServiceTimeout; exact runs_live _
  | .netLinkUp _ => by show Runs (execNetLinkUp _); unfold execNetLinkUp; exact runs_live _
  | .netLinkDown _ => by show Runs (execNetLinkDown _); unfold execNetLinkDown; exact runs_live _
  | .arpRequest _ _ _ _ => by show Runs (execArpRequest _ _ _ _); unfold execArpRequest; exact runs_live _
  | .neighbourSolicitation _ _ _ _ => by show Runs (execNeighbourSolicitation _ _ _ _); unfold execNeighbourSolicitation; exact runs_live _
  | .echoRequest _ _ _ _ _ => by show Runs (execEchoRequest _ _ _ _ _); unfold execEchoRequest; exact runs_live _
  | .neighbourRefreshTimer _ _ _ => by show Runs (execNeighbourRefreshTimer _ _ _); unfold execNeighbourRefreshTimer; exact runs_live _
  | .neighbourRetry _ _ _ => by show Runs (execNeighbourRetry _ _ _); unfold execNeighbourRetry; exact runs_live _
  | .streamStartComplete _ => by show Runs (execStreamStartComplete _); unfold execStreamStartComplete; exact runs_live _
  | .streamPacketSend _ => by show Runs (execStreamPacketSend _); unfold execStreamPacketSend; exact runs_live _
  | .roceAck _ _ => by show Runs (execRoceAck _ _); unfold execRoceAck; exact runs_live _
  | .roceNak _ _ => by show Runs (execRoceNak _ _); unfold execRoceNak; exact runs_live _
  | .roceAckTimeout _ => by show Runs (execRoceAckTimeout _); unfold execRoceAckTimeout; exact runs_live _
  | .roceInvalidRequest _ _ => by show Runs (execRoceInvalidRequest _ _); unfold execRoceInvalidRequest; exact runs_live _
  | .rdmaCreditWrite _ => runs_write _ _
  | .codecBlockDone _ _ => by show Runs (execCodecBlockDone _ _); unfold execCodecBlockDone; exact runs_live _
  | .decPacketArrival _ _ _ => by show Runs (execDecPacketArrival _ _ _); unfold execDecPacketArrival; exact runs_live _
  | .decBlock _ => by show Runs (execDecBlock _); unfold execDecBlock; exact runs_live _
  | .ptpSyncRx _ _ _ _ _ _ => by show Runs (execPtpSyncRx _ _ _ _ _ _); unfold execPtpSyncRx; exact runs_live _
  | .ptpFollowUpRx _ _ _ _ => by show Runs (execPtpFollowUpRx _ _ _ _); unfold execPtpFollowUpRx; exact runs_live _
  | .ptpDelayReqRx _ _ _ _ => by show Runs (execPtpDelayReqRx _ _ _ _); unfold execPtpDelayReqRx; exact runs_live _
  | .ptpDelayRespRx _ _ _ _ => by show Runs (execPtpDelayRespRx _ _ _ _); unfold execPtpDelayRespRx; exact runs_live _
  | .ptpAnnounceRx _ _ _ _ _ _ => by show Runs (execPtpAnnounceRx _ _ _ _ _ _); unfold execPtpAnnounceRx; exact runs_live _
  | .ptpSyncTx _ => by show Runs (execPtpSyncTx _); unfold execPtpSyncTx; exact runs_live _
  | .ptpAnnounceTx _ => by show Runs (execPtpAnnounceTx _); unfold execPtpAnnounceTx; exact runs_live _
  | .ptpDelayReqTx _ => by show Runs (execPtpDelayReqTx _); unfold execPtpDelayReqTx; exact runs_live _
  | .stimHostDatagram _ _ _ => by show Runs (execStimHostDatagram _ _ _); unfold execStimHostDatagram; exact runs_live _
  | .stmJump _ => runs_write _ _
  | .stmSeqEntry _ => by show Runs (execStmSeqEntry _); unfold execStmSeqEntry; exact runs_live _
  | .stmDecisionPoint _ => by show Runs (execStmDecisionPoint _); unfold execStmDecisionPoint; exact runs_live _
  | .stmJumpEffect _ => by show Runs (execStmJumpEffect _); unfold execStmJumpEffect; exact runs_live _
  | .stmOutputSample _ _ => by show Runs (execStmOutputSample _ _); unfold execStmOutputSample; exact runs_live _
  | .stmUnderrunEnd _ => by show Runs (execStmUnderrunEnd _); unfold execStmUnderrunEnd; exact runs_live _
  | .vecTick => by show Runs (execVecTick); unfold execVecTick; exact runs_live _
  | .vecCompare _ => by show Runs (execVecCompare _); unfold execVecCompare; exact runs_live _
  | .vecClear _ => runs_write _ _
  | .ppsInEdge _ _ => by show Runs (execPpsInEdge _ _); unfold execPpsInEdge; exact runs_live _
  | .refInUpdate _ => by show Runs (execRefInUpdate _); unfold execRefInUpdate; exact runs_live _
  | .timeRefLoss => by show Runs (execTimeRefLoss); unfold execTimeRefLoss; exact runs_live _
  | .holdoverExpiry => by show Runs (execHoldoverExpiry); unfold execHoldoverExpiry; exact runs_live _
  | .ageingLearn => by show Runs (execAgeingLearn); unfold execAgeingLearn; exact runs_live _
  | .setBeat _ => runs_write _ _
  | .heldStep => by show Runs (execHeldStep); unfold execHeldStep; exact runs_boundary _
  | .ppsOutPulse _ => by show Runs (execPpsOutPulse _); unfold execPpsOutPulse; exact runs_live _
  | .sysrefShot _ => runs_write _ _
  | .tiuMeasurementClose => by show Runs (execTiuMeasurementClose); unfold execTiuMeasurementClose; exact runs_live _
  | .tiuCalGo _ => runs_write _ _
  | .tiuCalTempStart _ => by show Runs (execTiuCalTempStart _); unfold execTiuCalTempStart; exact runs_live _
  | .tiuCalEnd _ _ => by show Runs (execTiuCalEnd _ _); unfold execTiuCalEnd; exact runs_live _
  | .pllUnlock _ => by show Runs (execPllUnlock _); unfold execPllUnlock; exact runs_live _
  | .pllLockDone _ _ _ => by show Runs (execPllLockDone _ _ _); unfold execPllLockDone; exact runs_live _
  | .pllLockTimeout _ => by show Runs (execPllLockTimeout _); unfold execPllLockTimeout; exact runs_live _
  | .pllRelockRetry _ => by show Runs (execPllRelockRetry _); unfold execPllRelockRetry; exact runs_live _
  | .pllSlewDone _ => by show Runs (execPllSlewDone _); unfold execPllSlewDone; exact runs_live _
  | .relock _ => runs_write _ _
  | .calTempReading _ => by show Runs (execCalTempReading _); unfold execCalTempReading; exact runs_live _
  | .calBlock _ _ => by show Runs (execCalBlock _ _); unfold execCalBlock; exact runs_live _
  | .calComputeDone _ => by show Runs (execCalComputeDone _); unfold execCalComputeDone; exact runs_live _
  | .calWaitTimeout _ => by show Runs (execCalWaitTimeout _); unfold execCalWaitTimeout; exact runs_live _
  | .calCommitApply _ => by show Runs (execCalCommitApply _); unfold execCalCommitApply; exact runs_boundary _
  | .calInterpCommit _ => by show Runs (execCalInterpCommit _); unfold execCalInterpCommit; exact runs_boundary _
  | .calCommit _ => runs_write _ _
  | .calClearSets _ => runs_write _ _
  | .auxRefReady => by show Runs (execAuxRefReady); unfold execAuxRefReady; exact runs_live _
  | .auxFilterStart => by show Runs (execAuxFilterStart); unfold execAuxFilterStart; exact runs_boundary _
  | .auxStart _ => runs_write _ _
  | .auxResult _ => by show Runs (execAuxResult _); unfold execAuxResult; exact runs_live _
  | .auxSelfcal _ => runs_write _ _
  | .auxSelfcalPhaseDone _ => by show Runs (execAuxSelfcalPhaseDone _); unfold execAuxSelfcalPhaseDone; exact runs_live _
  | .pltPortUp _ _ _ _ _ _ => by show Runs (execPltPortUp _ _ _ _ _ _); unfold execPltPortUp; exact runs_live _
  | .pltWiringRetry _ _ _ _ _ _ => by show Runs (execPltWiringRetry _ _ _ _ _ _); unfold execPltWiringRetry; exact runs_live _
  | .pltPortFault _ _ _ => by show Runs (execPltPortFault _ _ _); unfold execPltPortFault; exact runs_live _
  | .pltTimeExchange _ _ _ _ _ _ => by show Runs (execPltTimeExchange _ _ _ _ _ _); unfold execPltTimeExchange; exact runs_live _
  | .pltBeatMessage _ _ _ _ => by show Runs (execPltBeatMessage _ _ _ _); unfold execPltBeatMessage; exact runs_live _
  | .pltQuietReport _ _ _ _ _ => by show Runs (execPltQuietReport _ _ _ _ _); unfold execPltQuietReport; exact runs_live _
  | .pltStepNotice _ _ _ _ => by show Runs (execPltStepNotice _ _ _ _); unfold execPltStepNotice; exact runs_live _
  | .pltCtrlMessage _ _ _ _ => by show Runs (execPltCtrlMessage _ _ _ _); unfold execPltCtrlMessage; exact runs_live _
  | .pltOutcomeReport _ _ _ _ _ => by show Runs (execPltOutcomeReport _ _ _ _ _); unfold execPltOutcomeReport; exact runs_live _
  | .pltImportContext _ _ => by show Runs (execPltImportContext _ _); unfold execPltImportContext; exact runs_live _
  | .pltImportFrame _ _ _ => by show Runs (execPltImportFrame _ _ _); unfold execPltImportFrame; exact runs_live _
  | .powerOnReset => by show Runs (execPowerOnReset); unfold execPowerOnReset; exact runs_run _
  | .coldResetPin => by show Runs (execColdResetPin); unfold execColdResetPin; exact runs_run _
  | .watchdogReset => by show Runs (execWatchdogReset); unfold execWatchdogReset; exact runs_run _
  | .resetEnd _ _ => by show Runs (execResetEnd _ _); unfold execResetEnd; exact runs_run _
  | .bootSlot _ => by show Runs (execBootSlot _); unfold execBootSlot; exact runs_run _
  | .thawEntry => by show Runs (execThawEntry); unfold execThawEntry; exact runs_run _
  | .hbmTrainingEnd _ => by show Runs (execHbmTrainingEnd _); unfold execHbmTrainingEnd; exact runs_live _
  | .flowEntry => by show Runs (execFlowEntry); unfold execFlowEntry; exact runs_boundary _
  | .svnAdvance _ _ _ => runs_sec _ _ _ _
  | .revoke _ _ _ => runs_sec _ _ _ _
  | .zeroise _ _ _ => runs_sec _ _ _ _
  | .hostKeyEnroll _ _ _ => runs_sec _ _ _ _
  | .hostKeyRemove _ _ _ => runs_sec _ _ _ _
  | .groupKeyInstall _ _ _ => runs_sec _ _ _ _
  | .groupKeyRemove _ _ _ => runs_sec _ _ _ _
  | .streamKeyInstall _ _ _ => runs_sec _ _ _ _
  | .streamKeyRemove _ _ _ => runs_sec _ _ _ _
  | .extest _ _ _ => by show Runs (execExtest _ _ _); unfold execExtest; exact runs_run _
  | .idcode => by show Runs (execIdcode); unfold execIdcode; exact runs_run _
  | .samplePreload _ _ _ => by show Runs (execSamplePreload _ _ _); unfold execSamplePreload; exact runs_run _
  | .haltCause => by show Runs (execHaltCause); unfold execHaltCause; exact runs_run _
  | .bypass _ _ => by show Runs (execBypass _ _); unfold execBypass; exact runs_run _
  | .dieTempReading _ => by show Runs (execDieTempReading _); unfold execDieTempReading; exact runs_live _
  | .avsUpdate _ _ => by show Runs (execAvsUpdate _ _); unfold execAvsUpdate; exact runs_live _
  | .avsRaise => by show Runs (execAvsRaise); unfold execAvsRaise; exact runs_live _
  | .pmbAlert => by show Runs (execPmbAlert); unfold execPmbAlert; exact runs_live _
  | .avsRetry => by show Runs (execAvsRetry); unfold execAvsRetry; exact runs_live _
  | .peakClear _ => runs_write _ _
  | .resetPinRelease _ => by show Runs (execResetPinRelease _); unfold execResetPinRelease; exact runs_run _
  | .neighbourReply _ _ _ _ => by show Runs (execNeighbourReply _ _ _ _); unfold execNeighbourReply; exact runs_live _
  | .pfcFrame _ _ _ => by show Runs (execPfcFrame _ _ _); unfold execPfcFrame; exact runs_live _
  | .frameDropped _ _ _ => by show Runs (execFrameDropped _ _ _); unfold execFrameDropped; exact runs_live _
  | .keeperFault => by show Runs (execKeeperFault); unfold execKeeperFault; exact runs_run _
  | .pmbusTransactionEnd _ => by show Runs (execPmbusTransactionEnd _); unfold execPmbusTransactionEnd; exact runs_live _
  | .frameRetire _ => by show Runs (execFrameRetire _); unfold execFrameRetire; exact runs_live _
  | .jtxResynchronisation _ => by show Runs (execJtxResynchronisation _); unfold execJtxResynchronisation; exact runs_live _

end Sys2Proof
end

