-- ==== Sys2Proof/Laws/Memory.lean ====
section
/-! SUPPORT. Laws of the byte memories: every operation keeps the canonical form; what a byte reads as after a write, a clearing, and all the
changes of a step. -/
namespace Sys2Proof
open Machine

theorem memWfFrom_mono (lo lo' : Nat) (m : Mem) (h : lo' ≤ lo) (r : memWfFrom lo m = true) : memWfFrom lo' m = true := by
  cases m with
  | nil => rfl
  | cons e m => obtain ⟨i, w⟩ := e; simp [memWfFrom] at r ⊢; exact ⟨⟨by omega, r.1.2⟩, r.2⟩

/-- Below its first address a memory reads as unlisted. -/
theorem memRead_below (lo : Nat) (m : Mem) (a : Nat) (r : memWfFrom lo m = true) (h : a < lo) : memRead m a = memDefault := by
  induction m generalizing lo with
  | nil => rfl
  | cons e m ih =>
    obtain ⟨i, w⟩ := e
    simp [memWfFrom] at r
    have : i ≠ a := by omega
    simp [memRead, this]; exact ih (i + 1) r.2 (by omega)

theorem memWfFrom_memWrite (lo : Nat) (m : Mem) (a : Nat) (v : Byte) (h : lo ≤ a) (r : memWfFrom lo m = true) : memWfFrom lo (memWrite m a v) = true := by
  induction m generalizing lo with
  | nil => by_cases d : v = memDefault <;> simp [memWrite, memWfFrom, d, h]
  | cons e m ih =>
    obtain ⟨i, w⟩ := e
    simp [memWfFrom] at r
    by_cases c : a < i
    · by_cases d : v = memDefault
      · simp [memWrite, c, d, memWfFrom, r]
      · simp [memWrite, c, d, memWfFrom, h, r] <;> omega
    · by_cases b : a = i
      · by_cases d : v = memDefault
        · simp [memWrite, b, d]; exact memWfFrom_mono _ _ _ (by omega) r.2
        · simp [memWrite, b, d, memWfFrom, r]
      · simp [memWrite, c, b, memWfFrom, r]; exact ih (i + 1) (by omega) r.2

theorem memWrite_wf (m : Mem) (a : Nat) (v : Byte) (h : Memory.wf m = true) : Memory.wf (memWrite m a v) = true :=
  memWfFrom_memWrite 0 m a v (Nat.zero_le a) h

theorem memWfFrom_memClear (lo : Nat) (m : Mem) (x y : Nat) (r : memWfFrom lo m = true) : memWfFrom lo (memClear m x y) = true := by
  induction m generalizing lo with
  | nil => rfl
  | cons e m ih =>
    obtain ⟨i, w⟩ := e
    simp [memWfFrom] at r
    have t := ih (i + 1) r.2
    simp only [memClear] at t ⊢
    by_cases c : (!(decide (x ≤ i) && decide (i < y))) = true
    · rw [List.filter_cons_of_pos (by simpa using c)]; simp [memWfFrom, r]; simpa using t
    · rw [List.filter_cons_of_neg (by simpa using c)]; exact memWfFrom_mono _ _ _ (by omega) t

theorem memClear_wf (m : Mem) (x y : Nat) (h : Memory.wf m = true) : Memory.wf (memClear m x y) = true := memWfFrom_memClear 0 m x y h

theorem memApply_wf (m : Mem) (o : MemOp) (h : Memory.wf m = true) : Memory.wf (memApply m o) = true := by
  cases o with
  | byte a v => exact memWrite_wf m a v h
  | clear x y => exact memClear_wf m x y h

/-- The changes of a step keep the canonical form. -/
theorem memApplyAll_wf (m : Mem) (ops : List MemOp) (h : Memory.wf m = true) : Memory.wf (memApplyAll m ops) = true := by
  induction ops with
  | nil => exact h
  | cons o t ih => exact memApply_wf _ o ih

theorem memRead_memWrite_from (lo : Nat) (m : Mem) (a b : Nat) (v : Byte) (r : memWfFrom lo m = true) :
    memRead (memWrite m a v) b = if a = b then v else memRead m b := by
  induction m generalizing lo with
  | nil => by_cases d : v = memDefault <;> by_cases e : a = b <;> simp [memWrite, memRead, d, e]
  | cons e m ih =>
    obtain ⟨i, w⟩ := e
    simp [memWfFrom] at r
    by_cases c : a < i
    · by_cases d : v = memDefault
      · by_cases q : a = b
        · have : i ≠ b := by omega
          simp [memWrite, d, q]
          rw [if_pos (by omega)]; simp [memRead, this]; exact memRead_below (i + 1) m b r.2 (by omega)
        · simp [memWrite, c, d, q]
      · by_cases q : a = b <;> simp [memWrite, c, d, q, memRead]
        subst q; simp [c, memRead]
    · by_cases b' : a = i
      · subst b'
        by_cases d : v = memDefault
        · by_cases q : a = b
          · subst q; simp [memWrite, d]; exact memRead_below (a + 1) m a r.2 (by omega)
          · simp [memWrite, d, q, memRead]
        · by_cases q : a = b <;> simp [memWrite, d, q, memRead]
      · have t := ih (i + 1) r.2
        by_cases q : a = b
        · subst q; simp [memWrite, c, b', memRead, Ne.symm b', t]
        · simp [memWrite, c, b', memRead, t, q]

/-- A read after a write: the byte written at its address, and every other as before. -/
theorem memRead_memWrite (m : Mem) (a b : Nat) (v : Byte) (h : Memory.wf m = true) : memRead (memWrite m a v) b = if a = b then v else memRead m b :=
  memRead_memWrite_from 0 m a b v h

theorem memRead_memClear (m : Mem) (x y b : Nat) : memRead (memClear m x y) b = if x ≤ b ∧ b < y then memDefault else memRead m b := by
  induction m with
  | nil => simp [memClear, memRead]
  | cons e m ih =>
    obtain ⟨i, w⟩ := e
    simp only [memClear] at ih ⊢
    by_cases c : (!(decide (x ≤ i) && decide (i < y))) = true
    · rw [List.filter_cons_of_pos (by simpa using c)]
      by_cases q : i = b
      · subst q
        have : ¬ (x ≤ i ∧ i < y) := by simp at c; omega
        simp [memRead, this]
      · simp only [memRead, q, ↓reduceIte]; exact ih
    · rw [List.filter_cons_of_neg (by simpa using c), ih]
      have k : x ≤ i ∧ i < y := by simpa using c
      by_cases q : i = b
      · subst q; simp [k]
      · simp [memRead, q]

/-- What every byte reads as after all the changes of a step: the newest that names it gives it. -/
theorem memRead_memApplyAll (m : Mem) (ops : List MemOp) (a : Nat) (h : Memory.wf m = true) : memRead (memApplyAll m ops) a = opsRead m ops a := by
  induction ops with
  | nil => rfl
  | cons o t ih =>
    have w := memApplyAll_wf m t h
    cases o with
    | byte i v =>
      show memRead (memWrite (memApplyAll m t) i v) a = if i = a then v else opsRead m t a
      rw [memRead_memWrite _ _ _ _ w, ih]
    | clear x y =>
      show memRead (memClear (memApplyAll m t) x y) a = if x ≤ a ∧ a < y then memDefault else opsRead m t a
      rw [memRead_memClear, ih]

end Sys2Proof
end

