-- ==== Sys2Proof/Laws/PerInstr.lean ====
section
/-! SUPPORT. The per-command family NoWord: no word of the opcode table spells the command, since the table gives no row any bits. -/
namespace Sys2Proof.Laws.NoWord
open Sys2Proof

/-- No word spells the command. -/
def Statement (i : Instr) : Prop := ∀ nbits w : Nat, decodeTableWord nbits w ≠ some i

theorem all (i : Instr) : Statement i := fun _ _ h => nomatch h

theorem ping (p : Packet) :
    Statement (.ping p) := all _
theorem pingHandshakeOpen (p : Packet) :
    Statement (.pingHandshakeOpen p) := all _
theorem pingHandshakeConfirm (p : Packet) :
    Statement (.pingHandshakeConfirm p) := all _
theorem pingClose (p : Packet) :
    Statement (.pingClose p) := all _
theorem get (p : Packet) :
    Statement (.get p) := all _
theorem set (p : Packet) :
    Statement (.set p) := all _
theorem setMany (p : Packet) :
    Statement (.setMany p) := all _
theorem arm (p : Packet) :
    Statement (.arm p) := all _
theorem disarm (p : Packet) :
    Statement (.disarm p) := all _
theorem force (p : Packet) :
    Statement (.force p) := all _
theorem schedule (p : Packet) :
    Statement (.schedule p) := all _
theorem prepare (p : Packet) :
    Statement (.prepare p) := all _
theorem commit (p : Packet) :
    Statement (.commit p) := all _
theorem abort (p : Packet) :
    Statement (.abort p) := all _
theorem readMem (p : Packet) :
    Statement (.readMem p) := all _
theorem writeMem (p : Packet) :
    Statement (.writeMem p) := all _
theorem loadProgram (p : Packet) :
    Statement (.loadProgram p) := all _
theorem startCore (p : Packet) :
    Statement (.startCore p) := all _
theorem stopCore (p : Packet) :
    Statement (.stopCore p) := all _
theorem subscribe (p : Packet) :
    Statement (.subscribe p) := all _
theorem unsubscribe (p : Packet) :
    Statement (.unsubscribe p) := all _
theorem calRun (p : Packet) :
    Statement (.calRun p) := all _
theorem snapshot (p : Packet) :
    Statement (.snapshot p) := all _
theorem enterFlow (p : Packet) :
    Statement (.enterFlow p) := all _
theorem reset (p : Packet) :
    Statement (.reset p) := all _
theorem unknownOpcodeRequest (op : BitVec 16) (p : Packet) :
    Statement (.unknownOpcodeRequest op p) := all _
theorem forwardRequest (op : BitVec 16) (p : Packet) :
    Statement (.forwardRequest op p) := all _
theorem handshakeTimeout (session : BitVec 32) :
    Statement (.handshakeTimeout session) := all _
theorem sessionIdleTimeout (session : BitVec 32) :
    Statement (.sessionIdleTimeout session) := all _
theorem parameterWrite (w : Write) :
    Statement (.parameterWrite w) := all _
theorem functionStartRequest (w : Write) :
    Statement (.functionStartRequest w) := all _
theorem functionStopRequest (w : Write) :
    Statement (.functionStopRequest w) := all _
theorem schedulePerformance (entry : BitVec 32) :
    Statement (.schedulePerformance entry) := all _
theorem preparedTxnExpiry (session seq : BitVec 32) :
    Statement (.preparedTxnExpiry session seq) := all _
theorem heldRequestBegin (blk inst : BitVec 8) :
    Statement (.heldRequestBegin blk inst) := all _
theorem functionSequenceComplete (blk inst : BitVec 8) :
    Statement (.functionSequenceComplete blk inst) := all _
theorem eventPacketTimeout (session : BitVec 32) :
    Statement (.eventPacketTimeout session) := all _
theorem eventPacketSend (session : BitVec 32) :
    Statement (.eventPacketSend session) := all _
theorem evtOutAck (w : Write) :
    Statement (.evtOutAck w) := all _
theorem evtOutPulseEnd (k : Fin 2) :
    Statement (.evtOutPulseEnd k) := all _
theorem jrxCdrLock (k : Fin 16) :
    Statement (.jrxCdrLock k) := all _
theorem jrxAlignDone (k : Fin 16) (arrivals : List (BitVec 32)) :
    Statement (.jrxAlignDone k arrivals) := all _
theorem jrxRelease (k : Fin 16) :
    Statement (.jrxRelease k) := all _
theorem jrxStartTimeout (k : Fin 16) (mask : Byte) :
    Statement (.jrxStartTimeout k mask) := all _
theorem jrxHeaderLoss (k : Fin 16) (mask : Byte) :
    Statement (.jrxHeaderLoss k mask) := all _
theorem jrxAlignLoss (k : Fin 16) (mask : Byte) :
    Statement (.jrxAlignLoss k mask) := all _
theorem jrxCrcError (k : Fin 16) (mask : Byte) :
    Statement (.jrxCrcError k mask) := all _
theorem jrxCharError (k : Fin 16) (mask : Byte) :
    Statement (.jrxCharError k mask) := all _
theorem jrxIlasMismatch (k : Fin 16) (mask : Byte) :
    Statement (.jrxIlasMismatch k mask) := all _
theorem jrxElasticError (k : Fin 16) (mask : Byte) :
    Statement (.jrxElasticError k mask) := all _
theorem jrxSignalLoss (k : Fin 16) (mask : Byte) :
    Statement (.jrxSignalLoss k mask) := all _
theorem jrxReRelease (k : Fin 16) (lost : BitVec 32) :
    Statement (.jrxReRelease k lost) := all _
theorem jrxEpochMove (k : Fin 16) :
    Statement (.jrxEpochMove k) := all _
theorem jrxRateError (k : Fin 16) (ppm : BitVec 32) :
    Statement (.jrxRateError k ppm) := all _
theorem jtxSyncLoss (t : Fin 4) :
    Statement (.jtxSyncLoss t) := all _
theorem jtxUp (t : Fin 4) :
    Statement (.jtxUp t) := all _
theorem spiGo (w : Write) :
    Statement (.spiGo w) := all _
theorem spiDone (j : Fin 8) (rx : Word) :
    Statement (.spiDone j rx) := all _
theorem laneOutputSample (i : Fin 32) (raws : List RawSample) (late : Bool) :
    Statement (.laneOutputSample i raws late) := all _
theorem laneStartAfterRelease (i : Fin 32) :
    Statement (.laneStartAfterRelease i) := all _
theorem ncoSync (w : Write) :
    Statement (.ncoSync w) := all _
theorem swapAtWrite (w : Write) :
    Statement (.swapAtWrite w) := all _
theorem spectrumDelivered (j : BitVec 7) (late : Bool) :
    Statement (.spectrumDelivered j late) := all _
theorem tracePeriodEnd (t : Fin 32) :
    Statement (.tracePeriodEnd t) := all _
theorem trcClear (w : Write) :
    Statement (.trcClear w) := all _
theorem winCfgWrite (w : Write) :
    Statement (.winCfgWrite w) := all _
theorem trigInEdge (k : Fin 8) (rising : Bool) (code : BitVec 16) (late : Bool) :
    Statement (.trigInEdge k rising code late) := all _
theorem tiuInEdge (k : Fin 8) (rising : Bool) (code : BitVec 16) (late : Bool) :
    Statement (.tiuInEdge k rising code late) := all _
theorem plaitReportArrival (port : Fin 4) (ch : BitVec 6) (node : BitVec 18) (unit : BitVec 8) (seq : BitVec 32) (tp : Stamp) (again : Bool) :
    Statement (.plaitReportArrival port ch node unit seq tp again) := all _
theorem triggerTimeInstant (u : Fin 16) (late : Bool) :
    Statement (.triggerTimeInstant u late) := all _
theorem triggerDrainEnd (u : Fin 16) :
    Statement (.triggerDrainEnd u) := all _
theorem trigOutPulseEnd (k : Fin 8) :
    Statement (.trigOutPulseEnd k) := all _
theorem trigOutTimedPulse (k : Fin 8) :
    Statement (.trigOutTimedPulse k) := all _
theorem captureFifoResume (w : Fin 32) :
    Statement (.captureFifoResume w) := all _
theorem captureStreamResume (w : Fin 32) :
    Statement (.captureStreamResume w) := all _
theorem capMark (w : Write) :
    Statement (.capMark w) := all _
theorem replayBuffered (r : Fin 16) :
    Statement (.replayBuffered r) := all _
theorem hbmRequest (p : Fin 128) (asks : List HbmAsk) (levels : List (Fin 10 × BitVec 21)) (draw : Word) :
    Statement (.hbmRequest p asks levels draw) := all _
theorem refreshTick (p : Fin 128) :
    Statement (.refreshTick p) := all _
theorem stackTempReading (k : Fin 4) (temp : BitVec 16) :
    Statement (.stackTempReading k temp) := all _
theorem retrainSlot (p : Fin 128) (found : Bool) :
    Statement (.retrainSlot p found) := all _
theorem transferParityError (p : Fin 128) (lane : BitVec 8) (more : Fin 4) (slot : BitVec 21) (line : Fin 16) (write : Bool) :
    Statement (.transferParityError p lane more slot line write) := all _
theorem laneRepair (p : Fin 128) :
    Statement (.laneRepair p) := all _
theorem pcRetirement (p : Fin 128) :
    Statement (.pcRetirement p) := all _
theorem densityClosePassEnd (p : Fin 16) (late : Bool) :
    Statement (.densityClosePassEnd p late) := all _
theorem densityClear (w : Write) :
    Statement (.densityClear w) := all _
theorem spectrogramLineComplete (k : Fin 16) :
    Statement (.spectrogramLineComplete k) := all _
theorem bufCfgWrite (w : Write) :
    Statement (.bufCfgWrite w) := all _
theorem bufReleased (k : Fin 16) :
    Statement (.bufReleased k) := all _
theorem displayFrameBoundary (o : Fin 2) :
    Statement (.displayFrameBoundary o) := all _
theorem teInEdge (rising : Bool) :
    Statement (.teInEdge rising) := all _
theorem displayUnderflow (o : Fin 2) (line : BitVec 12) :
    Statement (.displayUnderflow o line) := all _
theorem displayModeResume (o : Fin 2) :
    Statement (.displayModeResume o) := all _
theorem dpTrainingDone (ok : Bool) :
    Statement (.dpTrainingDone ok) := all _
theorem hpdEdge (high : Bool) :
    Statement (.hpdEdge high) := all _
theorem irqHpd (lost : Bool) :
    Statement (.irqHpd lost) := all _
theorem sideGo (w : Write) :
    Statement (.sideGo w) := all _
theorem sideDone (o : Fin 2) (rx : Word) (err timeout : Bool) :
    Statement (.sideDone o rx err timeout) := all _
theorem illegalEncoding (c : Fin 64) :
    Statement (.illegalEncoding c) := all _
theorem unloadedFetch (c : Fin 64) :
    Statement (.unloadedFetch c) := all _
theorem interruptEntry (c : Fin 64) :
    Statement (.interruptEntry c) := all _
theorem weaverBeatStart (c : Fin 64) :
    Statement (.weaverBeatStart c) := all _
theorem dmaGo (c : Fin 64) :
    Statement (.dmaGo c) := all _
theorem dmaDescriptorDone (c : Fin 64) :
    Statement (.dmaDescriptorDone c) := all _
theorem evtGo (c : Fin 64) :
    Statement (.evtGo c) := all _
theorem trqGo (c : Fin 64) :
    Statement (.trqGo c) := all _
theorem gate (c : Fin 64) :
    Statement (.gate c) := all _
theorem reqGo (c : Fin 64) :
    Statement (.reqGo c) := all _
theorem reqComplete (c : Fin 64) :
    Statement (.reqComplete c) := all _
theorem spiCtl (c : Fin 64) :
    Statement (.spiCtl c) := all _
theorem strGo (c : Fin 64) :
    Statement (.strGo c) := all _
theorem svcAns (c : Fin 64) :
    Statement (.svcAns c) := all _
theorem serviceTimeout (c : Fin 64) :
    Statement (.serviceTimeout c) := all _
theorem netLinkUp (l : Fin 17) :
    Statement (.netLinkUp l) := all _
theorem netLinkDown (l : Fin 17) :
    Statement (.netLinkDown l) := all _
theorem arpRequest (l : Fin 17) (mac : BitVec 48) (ip target : BitVec 32) :
    Statement (.arpRequest l mac ip target) := all _
theorem neighbourSolicitation (l : Fin 17) (mac : BitVec 48) (ip target : BitVec 128) :
    Statement (.neighbourSolicitation l mac ip target) := all _
theorem echoRequest (l : Fin 17) (v6 : Bool) (ip target : BitVec 128) (data : List Byte) :
    Statement (.echoRequest l v6 ip target data) := all _
theorem neighbourRefreshTimer (l : Fin 17) (v6 : Bool) (ip : BitVec 128) :
    Statement (.neighbourRefreshTimer l v6 ip) := all _
theorem neighbourRetry (l : Fin 17) (v6 : Bool) (ip : BitVec 128) :
    Statement (.neighbourRetry l v6 ip) := all _
theorem streamStartComplete (k : Fin 64) :
    Statement (.streamStartComplete k) := all _
theorem streamPacketSend (k : Fin 64) :
    Statement (.streamPacketSend k) := all _
theorem roceAck (k : Fin 64) (psn : BitVec 24) :
    Statement (.roceAck k psn) := all _
theorem roceNak (k : Fin 64) (psn : BitVec 24) :
    Statement (.roceNak k psn) := all _
theorem roceAckTimeout (k : Fin 64) :
    Statement (.roceAckTimeout k) := all _
theorem roceInvalidRequest (k : Fin 64) (psn : BitVec 24) :
    Statement (.roceInvalidRequest k psn) := all _
theorem rdmaCreditWrite (w : Write) :
    Statement (.rdmaCreditWrite w) := all _
theorem codecBlockDone (k : Fin 4) (mismatch : Bool) :
    Statement (.codecBlockDone k mismatch) := all _
theorem decPacketArrival (l : Fin 16) (port : BitVec 16) (bytes : List Byte) :
    Statement (.decPacketArrival l port bytes) := all _
theorem decBlock (d : Fin 2) :
    Statement (.decBlock d) := all _
theorem ptpSyncRx (l : Fin 17) (seq : BitVec 16) (twoStep : Bool) (t1 : BitVec 96) (corr : Word) (frac : BitVec 16) :
    Statement (.ptpSyncRx l seq twoStep t1 corr frac) := all _
theorem ptpFollowUpRx (l : Fin 17) (seq : BitVec 16) (t1 : BitVec 96) (corr : Word) :
    Statement (.ptpFollowUpRx l seq t1 corr) := all _
theorem ptpDelayReqRx (l : Fin 17) (seq : BitVec 16) (src : BitVec 80) (frac : BitVec 16) :
    Statement (.ptpDelayReqRx l seq src frac) := all _
theorem ptpDelayRespRx (l : Fin 17) (seq : BitVec 16) (t4 : BitVec 96) (corr : Word) :
    Statement (.ptpDelayRespRx l seq t4 corr) := all _
theorem ptpAnnounceRx (l : Fin 17) (gm : Word) (cls : Byte) (time freq : Bool) (steps : BitVec 16) :
    Statement (.ptpAnnounceRx l gm cls time freq steps) := all _
theorem ptpSyncTx (l : Fin 17) :
    Statement (.ptpSyncTx l) := all _
theorem ptpAnnounceTx (l : Fin 17) :
    Statement (.ptpAnnounceTx l) := all _
theorem ptpDelayReqTx (l : Fin 17) :
    Statement (.ptpDelayReqTx l) := all _
theorem stimHostDatagram (l : Fin 16) (port : BitVec 16) (bytes : List Byte) :
    Statement (.stimHostDatagram l port bytes) := all _
theorem stmJump (w : Write) :
    Statement (.stmJump w) := all _
theorem stmSeqEntry (k : Fin 4) :
    Statement (.stmSeqEntry k) := all _
theorem stmDecisionPoint (k : Fin 4) :
    Statement (.stmDecisionPoint k) := all _
theorem stmJumpEffect (k : Fin 4) :
    Statement (.stmJumpEffect k) := all _
theorem stmOutputSample (k : Fin 4) (late : Bool) :
    Statement (.stmOutputSample k late) := all _
theorem stmUnderrunEnd (k : Fin 4) :
    Statement (.stmUnderrunEnd k) := all _
theorem vecCompare (levels : BitVec 48) :
    Statement (.vecCompare levels) := all _
theorem vecClear (w : Write) :
    Statement (.vecClear w) := all _
theorem ppsInEdge (rising : Bool) (frac : BitVec 16) :
    Statement (.ppsInEdge rising frac) := all _
theorem refInUpdate (err : Word) :
    Statement (.refInUpdate err) := all _
theorem setBeat (w : Write) :
    Statement (.setBeat w) := all _
theorem ppsOutPulse (k : Fin 2) :
    Statement (.ppsOutPulse k) := all _
theorem sysrefShot (w : Write) :
    Statement (.sysrefShot w) := all _
theorem tiuCalGo (w : Write) :
    Statement (.tiuCalGo w) := all _
theorem tiuCalTempStart (temp : BitVec 16) :
    Statement (.tiuCalTempStart temp) := all _
theorem tiuCalEnd (hits : List (List (BitVec 32))) (temp : BitVec 16) :
    Statement (.tiuCalEnd hits temp) := all _
theorem pllUnlock (n : Fin 6) :
    Statement (.pllUnlock n) := all _
theorem pllLockDone (n : Fin 6) (band : BitVec 6) (ns : BitVec 16) :
    Statement (.pllLockDone n band ns) := all _
theorem pllLockTimeout (n : Fin 6) :
    Statement (.pllLockTimeout n) := all _
theorem pllRelockRetry (n : Fin 6) :
    Statement (.pllRelockRetry n) := all _
theorem pllSlewDone (n : Fin 6) :
    Statement (.pllSlewDone n) := all _
theorem relock (w : Write) :
    Statement (.relock w) := all _
theorem calTempReading (t : Fin 32) :
    Statement (.calTempReading t) := all _
theorem calBlock (t : Fin 32) (stats : CalStats) :
    Statement (.calBlock t stats) := all _
theorem calComputeDone (t : Fin 32) :
    Statement (.calComputeDone t) := all _
theorem calWaitTimeout (t : Fin 32) :
    Statement (.calWaitTimeout t) := all _
theorem calCommitApply (t : Fin 32) :
    Statement (.calCommitApply t) := all _
theorem calInterpCommit (t : Fin 32) :
    Statement (.calInterpCommit t) := all _
theorem calCommit (w : Write) :
    Statement (.calCommit w) := all _
theorem calClearSets (w : Write) :
    Statement (.calClearSets w) := all _
theorem auxStart (w : Write) :
    Statement (.auxStart w) := all _
theorem auxResult (raws : List Word) :
    Statement (.auxResult raws) := all _
theorem auxSelfcal (w : Write) :
    Statement (.auxSelfcal w) := all _
theorem auxSelfcalPhaseDone (raws : List Word) :
    Statement (.auxSelfcalPhaseDone raws) := all _
theorem pltPortUp (p : Fin 4) (node : BitVec 18) (port : Fin 4) (out back : BitVec 48) (cut : List (Fin 16 × Fin 4)) :
    Statement (.pltPortUp p node port out back cut) := all _
theorem pltWiringRetry (p : Fin 4) (node : BitVec 18) (port : Fin 4) (out back : BitVec 48) (cut : List (Fin 16 × Fin 4)) :
    Statement (.pltWiringRetry p node port out back cut) := all _
theorem pltPortFault (p : Fin 4) (crc : Bool) (cut : List (Fin 16 × Fin 4)) :
    Statement (.pltPortFault p crc cut) := all _
theorem pltTimeExchange (p : Fin 4) (t1 t2 t3 t4 : BitVec 80) (crcError : Bool) :
    Statement (.pltTimeExchange p t1 t2 t3 t4 crcError) := all _
theorem pltBeatMessage (p : Fin 4) (n : Word) (quality : BitVec 2) (again : Bool) :
    Statement (.pltBeatMessage p n quality again) := all _
theorem pltQuietReport (p : Fin 4) (member : Fin 16) (joined quiet again : Bool) :
    Statement (.pltQuietReport p member joined quiet again) := all _
theorem pltStepNotice (p : Fin 4) (atBeat step : Word) (again : Bool) :
    Statement (.pltStepNotice p atBeat step again) := all _
theorem pltCtrlMessage (port : Fin 4) (op : BitVec 16) (p : Packet) (again : Bool) :
    Statement (.pltCtrlMessage port op p again) := all _
theorem pltOutcomeReport (p : Fin 4) (member : Fin 16) (seq : BitVec 32) (status : BitVec 16) (again : Bool) :
    Statement (.pltOutcomeReport p member seq status again) := all _
theorem pltImportContext (x : Fin 8) (ctx : ExportContext) :
    Statement (.pltImportContext x ctx) := all _
theorem pltImportFrame (x : Fin 8) (frame : ExportFrame) (late : Bool) :
    Statement (.pltImportFrame x frame late) := all _
theorem resetEnd (member : BitVec 4) (bootMode : BitVec 2) :
    Statement (.resetEnd member bootMode) := all _
theorem bootSlot (slot : BootSlot) :
    Statement (.bootSlot slot) := all _
theorem hbmTrainingEnd (bad : List (Fin 128)) :
    Statement (.hbmTrainingEnd bad) := all _
theorem svnAdvance (w : Write) (session seq : BitVec 32) :
    Statement (.svnAdvance w session seq) := all _
theorem revoke (w : Write) (session seq : BitVec 32) :
    Statement (.revoke w session seq) := all _
theorem zeroise (w : Write) (session seq : BitVec 32) :
    Statement (.zeroise w session seq) := all _
theorem hostKeyEnroll (w : Write) (session seq : BitVec 32) :
    Statement (.hostKeyEnroll w session seq) := all _
theorem hostKeyRemove (w : Write) (session seq : BitVec 32) :
    Statement (.hostKeyRemove w session seq) := all _
theorem groupKeyInstall (w : Write) (session seq : BitVec 32) :
    Statement (.groupKeyInstall w session seq) := all _
theorem groupKeyRemove (w : Write) (session seq : BitVec 32) :
    Statement (.groupKeyRemove w session seq) := all _
theorem streamKeyInstall (w : Write) (session seq : BitVec 32) :
    Statement (.streamKeyInstall w session seq) := all _
theorem streamKeyRemove (w : Write) (session seq : BitVec 32) :
    Statement (.streamKeyRemove w session seq) := all _
theorem extest (pins tdi len : Nat) :
    Statement (.extest pins tdi len) := all _
theorem samplePreload (pins tdi len : Nat) :
    Statement (.samplePreload pins tdi len) := all _
theorem bypass (tdi len : Nat) :
    Statement (.bypass tdi len) := all _
theorem dieTempReading (temps : List (BitVec 16)) :
    Statement (.dieTempReading temps) := all _
theorem avsUpdate (lowest : BitVec 12) (devclk : List (BitVec 32)) :
    Statement (.avsUpdate lowest devclk) := all _
theorem peakClear (w : Write) :
    Statement (.peakClear w) := all _
theorem resetPinRelease (pin : Fin 2) :
    Statement (.resetPinRelease pin) := all _
theorem neighbourReply (l : Fin 17) (v6 : Bool) (ip : BitVec 128) (mac : BitVec 48) :
    Statement (.neighbourReply l v6 ip mac) := all _
theorem pfcFrame (l : Fin 16) (mask : Byte) (quanta : BitVec 16) :
    Statement (.pfcFrame l mask quanta) := all _
theorem frameDropped (l : Fin 17) (corrected uncorrected : BitVec 32) :
    Statement (.frameDropped l corrected uncorrected) := all _
theorem pmbusTransactionEnd (result : PmbusEnd) :
    Statement (.pmbusTransactionEnd result) := all _
theorem frameRetire (o : Fin 2) :
    Statement (.frameRetire o) := all _
theorem jtxResynchronisation (t : Fin 4) :
    Statement (.jtxResynchronisation t) := all _
theorem nop (c : Fin 64) :
    Statement (.nop c) := all _
theorem add (c : Fin 64) :
    Statement (.add c) := all _
theorem sub (c : Fin 64) :
    Statement (.sub c) := all _
theorem neg (c : Fin 64) :
    Statement (.neg c) := all _
theorem abs (c : Fin 64) :
    Statement (.abs c) := all _
theorem max (c : Fin 64) :
    Statement (.max c) := all _
theorem min (c : Fin 64) :
    Statement (.min c) := all _
theorem sel (c : Fin 64) :
    Statement (.sel c) := all _
theorem cmp (c : Fin 64) :
    Statement (.cmp c) := all _
theorem tst (c : Fin 64) :
    Statement (.tst c) := all _
theorem and (c : Fin 64) :
    Statement (.and c) := all _
theorem or (c : Fin 64) :
    Statement (.or c) := all _
theorem xor (c : Fin 64) :
    Statement (.xor c) := all _
theorem not (c : Fin 64) :
    Statement (.not c) := all _
theorem asr (c : Fin 64) :
    Statement (.asr c) := all _
theorem lsr (c : Fin 64) :
    Statement (.lsr c) := all _
theorem asl (c : Fin 64) :
    Statement (.asl c) := all _
theorem ash (c : Fin 64) :
    Statement (.ash c) := all _
theorem mov (c : Fin 64) :
    Statement (.mov c) := all _
theorem conj (c : Fin 64) :
    Statement (.conj c) := all _
theorem swap (c : Fin 64) :
    Statement (.swap c) := all _
theorem unpk (c : Fin 64) :
    Statement (.unpk c) := all _
theorem vmax (c : Fin 64) :
    Statement (.vmax c) := all _
theorem iadd (c : Fin 64) :
    Statement (.iadd c) := all _
theorem isub (c : Fin 64) :
    Statement (.isub c) := all _
theorem bexp (c : Fin 64) :
    Statement (.bexp c) := all _
theorem exp (c : Fin 64) :
    Statement (.exp c) := all _
theorem norm (c : Fin 64) :
    Statement (.norm c) := all _
theorem bxr (c : Fin 64) :
    Statement (.bxr c) := all _
theorem mva (c : Fin 64) :
    Statement (.mva c) := all _
theorem mvar (c : Fin 64) :
    Statement (.mvar c) := all _
theorem mpy (c : Fin 64) :
    Statement (.mpy c) := all _
theorem mac (c : Fin 64) :
    Statement (.mac c) := all _
theorem msu (c : Fin 64) :
    Statement (.msu c) := all _
theorem mpyj (c : Fin 64) :
    Statement (.mpyj c) := all _
theorem macj (c : Fin 64) :
    Statement (.macj c) := all _
theorem mag2 (c : Fin 64) :
    Statement (.mag2 c) := all _
theorem clr (c : Fin 64) :
    Statement (.clr c) := all _
theorem adda (c : Fin 64) :
    Statement (.adda c) := all _
theorem lda (c : Fin 64) :
    Statement (.lda c) := all _
theorem asra (c : Fin 64) :
    Statement (.asra c) := all _
theorem asla (c : Fin 64) :
    Statement (.asla c) := all _
theorem nega (c : Fin 64) :
    Statement (.nega c) := all _
theorem rnd (c : Fin 64) :
    Statement (.rnd c) := all _
theorem cmpa (c : Fin 64) :
    Statement (.cmpa c) := all _
theorem mvfs (c : Fin 64) :
    Statement (.mvfs c) := all _
theorem mvts (c : Fin 64) :
    Statement (.mvts c) := all _
theorem ldi (c : Fin 64) :
    Statement (.ldi c) := all _
theorem ldis (c : Fin 64) :
    Statement (.ldis c) := all _
theorem iaddi (c : Fin 64) :
    Statement (.iaddi c) := all _
theorem andi (c : Fin 64) :
    Statement (.andi c) := all _
theorem ori (c : Fin 64) :
    Statement (.ori c) := all _
theorem xori (c : Fin 64) :
    Statement (.xori c) := all _
theorem cmpi (c : Fin 64) :
    Statement (.cmpi c) := all _
theorem addp (c : Fin 64) :
    Statement (.addp c) := all _
theorem loadMove (c : Fin 64) :
    Statement (.loadMove c) := all _
theorem storeMove (c : Fin 64) :
    Statement (.storeMove c) := all _
theorem br (c : Fin 64) :
    Statement (.br c) := all _
theorem call (c : Fin 64) :
    Statement (.call c) := all _
theorem jmp (c : Fin 64) :
    Statement (.jmp c) := all _
theorem rti (c : Fin 64) :
    Statement (.rti c) := all _
theorem loop (c : Fin 64) :
    Statement (.loop c) := all _
theorem loopd (c : Fin 64) :
    Statement (.loopd c) := all _
theorem rep (c : Fin 64) :
    Statement (.rep c) := all _
theorem repd (c : Fin 64) :
    Statement (.repd c) := all _
theorem waitb (c : Fin 64) :
    Statement (.waitb c) := all _
theorem crd (c : Fin 64) :
    Statement (.crd c) := all _
theorem cwr (c : Fin 64) :
    Statement (.cwr c) := all _
theorem beatBoundary : Statement .beatBoundary := all _
theorem requestPerformance : Statement .requestPerformance := all _
theorem limitWindowEnd : Statement .limitWindowEnd := all _
theorem evidenceComplete : Statement .evidenceComplete := all _
theorem compositeTick : Statement .compositeTick := all _
theorem compositeComplete : Statement .compositeComplete := all _
theorem teTimeout : Statement .teTimeout := all _
theorem dpTrainingRetry : Statement .dpTrainingRetry := all _
theorem vecTick : Statement .vecTick := all _
theorem timeRefLoss : Statement .timeRefLoss := all _
theorem holdoverExpiry : Statement .holdoverExpiry := all _
theorem ageingLearn : Statement .ageingLearn := all _
theorem heldStep : Statement .heldStep := all _
theorem tiuMeasurementClose : Statement .tiuMeasurementClose := all _
theorem auxRefReady : Statement .auxRefReady := all _
theorem auxFilterStart : Statement .auxFilterStart := all _
theorem powerOnReset : Statement .powerOnReset := all _
theorem coldResetPin : Statement .coldResetPin := all _
theorem watchdogReset : Statement .watchdogReset := all _
theorem thawEntry : Statement .thawEntry := all _
theorem flowEntry : Statement .flowEntry := all _
theorem idcode : Statement .idcode := all _
theorem haltCause : Statement .haltCause := all _
theorem avsRaise : Statement .avsRaise := all _
theorem pmbAlert : Statement .pmbAlert := all _
theorem avsRetry : Statement .avsRetry := all _
theorem keeperFault : Statement .keeperFault := all _

end Sys2Proof.Laws.NoWord
end

