-- ==== Sys2Proof/Laws/Tab.lean ====
section
/-! SUPPORT. Laws of the tables: what is read after a write, and that writes keep the keys rising. -/
namespace Sys2Proof
open Machine

variable {α : Type}

@[simp] theorem tget_tset_same (d : α) (t : Tab α) (k : Nat) (v : α) : tget d (tset t k v) k = v := by
  induction t with
  | nil => simp [tset, tget]
  | cons e t ih =>
    obtain ⟨i, w⟩ := e
    by_cases a : k < i
    · simp [tset, tget, a]
    · by_cases b : k = i
      · simp [tset, tget, b]
      · simp [tset, tget, a, b, ih, Ne.symm b]

theorem tget_tset_ne (d : α) (t : Tab α) (k j : Nat) (v : α) (h : j ≠ k) : tget d (tset t k v) j = tget d t j := by
  induction t with
  | nil => simp [tset, tget, Ne.symm h]
  | cons e t ih =>
    obtain ⟨i, w⟩ := e
    by_cases a : k < i
    · simp [tset, tget, a, Ne.symm h]
    · by_cases b : k = i
      · subst b; simp [tset, tget, Ne.symm h]
      · simp [tset, tget, a, b, ih]

@[simp] theorem tfind_tset_same (t : Tab α) (k : Nat) (v : α) : tfind (tset t k v) k = some v := by
  induction t with
  | nil => simp [tset, tfind]
  | cons e t ih =>
    obtain ⟨i, w⟩ := e
    by_cases a : k < i
    · simp [tset, tfind, a]
    · by_cases b : k = i
      · simp [tset, tfind, b]
      · simp [tset, tfind, a, b, ih, Ne.symm b]

theorem tfind_tset_ne (t : Tab α) (k j : Nat) (v : α) (h : j ≠ k) : tfind (tset t k v) j = tfind t j := by
  induction t with
  | nil => simp [tset, tfind, Ne.symm h]
  | cons e t ih =>
    obtain ⟨i, w⟩ := e
    by_cases a : k < i
    · simp [tset, tfind, a, Ne.symm h]
    · by_cases b : k = i
      · subst b; simp [tset, tfind, Ne.symm h]
      · simp [tset, tfind, a, b, ih]

@[simp] theorem tfind_tdel_same (t : Tab α) (k : Nat) : tfind (tdel t k) k = none := by
  induction t with
  | nil => rfl
  | cons e t ih =>
    simp only [tdel] at ih ⊢
    by_cases a : (e.1 != k) = true
    · rw [List.filter_cons_of_pos (by simpa using a)]
      have : e.1 ≠ k := by simpa using a
      simp [tfind, this, ih]
    · rw [List.filter_cons_of_neg (by simpa using a), ih]

theorem risingFrom_mono (lo lo' : Nat) (t : Tab α) (h : lo' ≤ lo) (r : risingFrom lo t = true) : risingFrom lo' t = true := by
  cases t with
  | nil => rfl
  | cons e t => obtain ⟨i, w⟩ := e; simp [risingFrom] at r ⊢; exact ⟨by omega, r.2⟩

theorem risingFrom_tset (lo : Nat) (t : Tab α) (k : Nat) (v : α) (h : lo ≤ k) (r : risingFrom lo t = true) : risingFrom lo (tset t k v) = true := by
  induction t generalizing lo with
  | nil => simp [tset, risingFrom, h]
  | cons e t ih =>
    obtain ⟨i, w⟩ := e
    simp [risingFrom] at r
    by_cases a : k < i
    · simp [tset, risingFrom, a, h, r.2] <;> omega
    · by_cases b : k = i
      · simp [tset, b, risingFrom, r.1, r.2]
      · simp [tset, a, b, risingFrom, r.1]; exact ih (i + 1) (by omega) r.2

/-- A write keeps a table's keys rising. -/
theorem twf_tset (t : Tab α) (k : Nat) (v : α) (h : twf t = true) : twf (tset t k v) = true := risingFrom_tset 0 t k v (Nat.zero_le k) h

end Sys2Proof
end

