-- ==== Sys2Proof/Laws/State.lean ====
section
/-! SUPPORT. What each update of the block writes, and that every other field, and every parameter, is as before. Each conjunction gives one
rewriting rule for each field. -/
namespace Sys2Proof
open Machine

@[simp] theorem setAux_frame (b : Block) (x : Aux) :
    (b.setAux x).params = b.params ∧ (b.setAux x).waiting = b.waiting ∧ (b.setAux x).dev = b.dev ∧ (b.setAux x).beat = b.beat ∧
    (b.setAux x).cycle = b.cycle ∧ (b.setAux x).ticks = b.ticks ∧ (b.setAux x).sessions = b.sessions ∧ (b.setAux x).shakes = b.shakes ∧
    (b.setAux x).accepted = b.accepted ∧ (b.setAux x).nextGroup = b.nextGroup ∧ (b.setAux x).txns = b.txns ∧ (b.setAux x).sched = b.sched ∧
    (b.setAux x).nextEntry = b.nextEntry ∧ (b.setAux x).reached = b.reached ∧ (b.setAux x).heldReplies = b.heldReplies ∧
    (b.setAux x).nextHeld = b.nextHeld ∧ (b.setAux x).srcTotal = b.srcTotal ∧ (b.setAux x).srcWin = b.srcWin ∧
    (b.setAux x).supFirst = b.supFirst ∧ (b.setAux x).supTotal = b.supTotal ∧ (b.setAux x).supSrcs = b.supSrcs ∧
    (b.setAux x).winBeat = b.winBeat ∧ (b.setAux x).evtEnd = b.evtEnd ∧ (b.setAux x).evtAt = b.evtAt ∧ (b.setAux x).counted = b.counted ∧
    (b.setAux x).arrivedAt = b.arrivedAt ∧ (b.setAux x).arrived = b.arrived ∧ (b.setAux x).owned = b.owned ∧ (b.setAux x).cores = b.cores ∧
    (b.setAux x).jrx = b.jrx ∧ (b.setAux x).jtx = b.jtx ∧ (b.setAux x).spi = b.spi ∧ (b.setAux x).shot = b.shot ∧ (b.setAux x).lanes = b.lanes ∧
    (b.setAux x).groupEpochs = b.groupEpochs ∧ (b.setAux x).views = b.views ∧ (b.setAux x).trcs = b.trcs ∧ (b.setAux x).trgs = b.trgs ∧
    (b.setAux x).outPins = b.outPins ∧ (b.setAux x).pcs = b.pcs ∧ (b.setAux x).ports = b.ports ∧ (b.setAux x).caps = b.caps ∧
    (b.setAux x).evidence = b.evidence ∧ (b.setAux x).replays = b.replays ∧ (b.setAux x).plls = b.plls ∧ (b.setAux x).planes = b.planes ∧
    (b.setAux x).spgs = b.spgs ∧ (b.setAux x).comp = b.comp ∧ (b.setAux x).outs = b.outs ∧ (b.setAux x).bufWait = b.bufWait ∧
    (b.setAux x).bufOut = b.bufOut ∧ (b.setAux x).strs = b.strs ∧ (b.setAux x).neighs = b.neighs ∧ (b.setAux x).jobs = b.jobs ∧
    (b.setAux x).decs = b.decs ∧ (b.setAux x).streamKeys = b.streamKeys ∧ (b.setAux x).pfc = b.pfc ∧ (b.setAux x).stims = b.stims ∧
    (b.setAux x).vec = b.vec ∧ (b.setAux x).tim = b.tim ∧ (b.setAux x).ptps = b.ptps ∧ (b.setAux x).tiu = b.tiu ∧ (b.setAux x).cals = b.cals ∧
    (b.setAux x).plt = b.plt ∧ (b.setAux x).pltPorts = b.pltPorts ∧ (b.setAux x).imports = b.imports ∧ (b.setAux x).sys = b.sys ∧
    (b.setAux x).coolOnce = b.coolOnce ∧ (b.setAux x).firstRetired = b.firstRetired ∧ (b.setAux x).poolSize = b.poolSize ∧
    (b.setAux x).past = b.past ∧ (b.setAux x).firn = b.firn ∧ (b.setAux x).fresh = b.fresh ∧ (b.setAux x).sent = b.sent ∧
    (b.setAux x).stores = b.stores ∧ (b.setAux x).raised = b.raised ∧ (∀ key, (b.setAux x).val key = b.val key) :=
  ⟨rfl, rfl, rfl, rfl, rfl, rfl, rfl, rfl, rfl, rfl, rfl, rfl, rfl, rfl, rfl, rfl, rfl, rfl, rfl, rfl, rfl, rfl, rfl, rfl, rfl, rfl, rfl, rfl,
  rfl, rfl, rfl, rfl, rfl, rfl, rfl, rfl, rfl, rfl, rfl, rfl, rfl, rfl, rfl, rfl, rfl, rfl, rfl, rfl, rfl, rfl, rfl, rfl, rfl, rfl, rfl, rfl,
  rfl, rfl, rfl, rfl, rfl, rfl, rfl, rfl, rfl, rfl, rfl, rfl, rfl, rfl, rfl, rfl, rfl, rfl, rfl, rfl, fun _ => rfl⟩

@[simp] theorem setAux_aux (b : Block) (x : Aux) : (b.setAux x).aux = x := rfl

@[simp] theorem setSys_frame (b : Block) (x : SysUnit) :
    (b.setSys x).params = b.params ∧ (b.setSys x).waiting = b.waiting ∧ (b.setSys x).dev = b.dev ∧ (b.setSys x).beat = b.beat ∧
    (b.setSys x).cycle = b.cycle ∧ (b.setSys x).ticks = b.ticks ∧ (b.setSys x).sessions = b.sessions ∧ (b.setSys x).shakes = b.shakes ∧
    (b.setSys x).accepted = b.accepted ∧ (b.setSys x).nextGroup = b.nextGroup ∧ (b.setSys x).txns = b.txns ∧ (b.setSys x).sched = b.sched ∧
    (b.setSys x).nextEntry = b.nextEntry ∧ (b.setSys x).reached = b.reached ∧ (b.setSys x).heldReplies = b.heldReplies ∧
    (b.setSys x).nextHeld = b.nextHeld ∧ (b.setSys x).srcTotal = b.srcTotal ∧ (b.setSys x).srcWin = b.srcWin ∧
    (b.setSys x).supFirst = b.supFirst ∧ (b.setSys x).supTotal = b.supTotal ∧ (b.setSys x).supSrcs = b.supSrcs ∧
    (b.setSys x).winBeat = b.winBeat ∧ (b.setSys x).evtEnd = b.evtEnd ∧ (b.setSys x).evtAt = b.evtAt ∧ (b.setSys x).counted = b.counted ∧
    (b.setSys x).arrivedAt = b.arrivedAt ∧ (b.setSys x).arrived = b.arrived ∧ (b.setSys x).owned = b.owned ∧ (b.setSys x).cores = b.cores ∧
    (b.setSys x).jrx = b.jrx ∧ (b.setSys x).jtx = b.jtx ∧ (b.setSys x).spi = b.spi ∧ (b.setSys x).shot = b.shot ∧ (b.setSys x).lanes = b.lanes ∧
    (b.setSys x).groupEpochs = b.groupEpochs ∧ (b.setSys x).views = b.views ∧ (b.setSys x).trcs = b.trcs ∧ (b.setSys x).trgs = b.trgs ∧
    (b.setSys x).outPins = b.outPins ∧ (b.setSys x).pcs = b.pcs ∧ (b.setSys x).ports = b.ports ∧ (b.setSys x).caps = b.caps ∧
    (b.setSys x).evidence = b.evidence ∧ (b.setSys x).replays = b.replays ∧ (b.setSys x).plls = b.plls ∧ (b.setSys x).planes = b.planes ∧
    (b.setSys x).spgs = b.spgs ∧ (b.setSys x).comp = b.comp ∧ (b.setSys x).outs = b.outs ∧ (b.setSys x).bufWait = b.bufWait ∧
    (b.setSys x).bufOut = b.bufOut ∧ (b.setSys x).strs = b.strs ∧ (b.setSys x).neighs = b.neighs ∧ (b.setSys x).jobs = b.jobs ∧
    (b.setSys x).decs = b.decs ∧ (b.setSys x).streamKeys = b.streamKeys ∧ (b.setSys x).pfc = b.pfc ∧ (b.setSys x).stims = b.stims ∧
    (b.setSys x).vec = b.vec ∧ (b.setSys x).tim = b.tim ∧ (b.setSys x).ptps = b.ptps ∧ (b.setSys x).tiu = b.tiu ∧ (b.setSys x).cals = b.cals ∧
    (b.setSys x).aux = b.aux ∧ (b.setSys x).plt = b.plt ∧ (b.setSys x).pltPorts = b.pltPorts ∧ (b.setSys x).imports = b.imports ∧
    (b.setSys x).coolOnce = b.coolOnce ∧ (b.setSys x).firstRetired = b.firstRetired ∧ (b.setSys x).poolSize = b.poolSize ∧
    (b.setSys x).past = b.past ∧ (b.setSys x).firn = b.firn ∧ (b.setSys x).fresh = b.fresh ∧ (b.setSys x).sent = b.sent ∧
    (b.setSys x).stores = b.stores ∧ (b.setSys x).raised = b.raised ∧ (∀ key, (b.setSys x).val key = b.val key) :=
  ⟨rfl, rfl, rfl, rfl, rfl, rfl, rfl, rfl, rfl, rfl, rfl, rfl, rfl, rfl, rfl, rfl, rfl, rfl, rfl, rfl, rfl, rfl, rfl, rfl, rfl, rfl, rfl, rfl,
  rfl, rfl, rfl, rfl, rfl, rfl, rfl, rfl, rfl, rfl, rfl, rfl, rfl, rfl, rfl, rfl, rfl, rfl, rfl, rfl, rfl, rfl, rfl, rfl, rfl, rfl, rfl, rfl,
  rfl, rfl, rfl, rfl, rfl, rfl, rfl, rfl, rfl, rfl, rfl, rfl, rfl, rfl, rfl, rfl, rfl, rfl, rfl, rfl, fun _ => rfl⟩

@[simp] theorem setSys_sys (b : Block) (x : SysUnit) : (b.setSys x).sys = x := rfl

@[simp] theorem setTiu_frame (b : Block) (x : Tiu) :
    (b.setTiu x).params = b.params ∧ (b.setTiu x).waiting = b.waiting ∧ (b.setTiu x).dev = b.dev ∧ (b.setTiu x).beat = b.beat ∧
    (b.setTiu x).cycle = b.cycle ∧ (b.setTiu x).ticks = b.ticks ∧ (b.setTiu x).sessions = b.sessions ∧ (b.setTiu x).shakes = b.shakes ∧
    (b.setTiu x).accepted = b.accepted ∧ (b.setTiu x).nextGroup = b.nextGroup ∧ (b.setTiu x).txns = b.txns ∧ (b.setTiu x).sched = b.sched ∧
    (b.setTiu x).nextEntry = b.nextEntry ∧ (b.setTiu x).reached = b.reached ∧ (b.setTiu x).heldReplies = b.heldReplies ∧
    (b.setTiu x).nextHeld = b.nextHeld ∧ (b.setTiu x).srcTotal = b.srcTotal ∧ (b.setTiu x).srcWin = b.srcWin ∧
    (b.setTiu x).supFirst = b.supFirst ∧ (b.setTiu x).supTotal = b.supTotal ∧ (b.setTiu x).supSrcs = b.supSrcs ∧
    (b.setTiu x).winBeat = b.winBeat ∧ (b.setTiu x).evtEnd = b.evtEnd ∧ (b.setTiu x).evtAt = b.evtAt ∧ (b.setTiu x).counted = b.counted ∧
    (b.setTiu x).arrivedAt = b.arrivedAt ∧ (b.setTiu x).arrived = b.arrived ∧ (b.setTiu x).owned = b.owned ∧ (b.setTiu x).cores = b.cores ∧
    (b.setTiu x).jrx = b.jrx ∧ (b.setTiu x).jtx = b.jtx ∧ (b.setTiu x).spi = b.spi ∧ (b.setTiu x).shot = b.shot ∧ (b.setTiu x).lanes = b.lanes ∧
    (b.setTiu x).groupEpochs = b.groupEpochs ∧ (b.setTiu x).views = b.views ∧ (b.setTiu x).trcs = b.trcs ∧ (b.setTiu x).trgs = b.trgs ∧
    (b.setTiu x).outPins = b.outPins ∧ (b.setTiu x).pcs = b.pcs ∧ (b.setTiu x).ports = b.ports ∧ (b.setTiu x).caps = b.caps ∧
    (b.setTiu x).evidence = b.evidence ∧ (b.setTiu x).replays = b.replays ∧ (b.setTiu x).plls = b.plls ∧ (b.setTiu x).planes = b.planes ∧
    (b.setTiu x).spgs = b.spgs ∧ (b.setTiu x).comp = b.comp ∧ (b.setTiu x).outs = b.outs ∧ (b.setTiu x).bufWait = b.bufWait ∧
    (b.setTiu x).bufOut = b.bufOut ∧ (b.setTiu x).strs = b.strs ∧ (b.setTiu x).neighs = b.neighs ∧ (b.setTiu x).jobs = b.jobs ∧
    (b.setTiu x).decs = b.decs ∧ (b.setTiu x).streamKeys = b.streamKeys ∧ (b.setTiu x).pfc = b.pfc ∧ (b.setTiu x).stims = b.stims ∧
    (b.setTiu x).vec = b.vec ∧ (b.setTiu x).tim = b.tim ∧ (b.setTiu x).ptps = b.ptps ∧ (b.setTiu x).cals = b.cals ∧ (b.setTiu x).aux = b.aux ∧
    (b.setTiu x).plt = b.plt ∧ (b.setTiu x).pltPorts = b.pltPorts ∧ (b.setTiu x).imports = b.imports ∧ (b.setTiu x).sys = b.sys ∧
    (b.setTiu x).coolOnce = b.coolOnce ∧ (b.setTiu x).firstRetired = b.firstRetired ∧ (b.setTiu x).poolSize = b.poolSize ∧
    (b.setTiu x).past = b.past ∧ (b.setTiu x).firn = b.firn ∧ (b.setTiu x).fresh = b.fresh ∧ (b.setTiu x).sent = b.sent ∧
    (b.setTiu x).stores = b.stores ∧ (b.setTiu x).raised = b.raised ∧ (∀ key, (b.setTiu x).val key = b.val key) :=
  ⟨rfl, rfl, rfl, rfl, rfl, rfl, rfl, rfl, rfl, rfl, rfl, rfl, rfl, rfl, rfl, rfl, rfl, rfl, rfl, rfl, rfl, rfl, rfl, rfl, rfl, rfl, rfl, rfl,
  rfl, rfl, rfl, rfl, rfl, rfl, rfl, rfl, rfl, rfl, rfl, rfl, rfl, rfl, rfl, rfl, rfl, rfl, rfl, rfl, rfl, rfl, rfl, rfl, rfl, rfl, rfl, rfl,
  rfl, rfl, rfl, rfl, rfl, rfl, rfl, rfl, rfl, rfl, rfl, rfl, rfl, rfl, rfl, rfl, rfl, rfl, rfl, rfl, fun _ => rfl⟩

@[simp] theorem setTiu_tiu (b : Block) (x : Tiu) : (b.setTiu x).tiu = x := rfl

@[simp] theorem setCap_frame (b : Block) (w : Nat) (x : Cap) :
    (b.setCap w x).params = b.params ∧ (b.setCap w x).waiting = b.waiting ∧ (b.setCap w x).dev = b.dev ∧ (b.setCap w x).beat = b.beat ∧
    (b.setCap w x).cycle = b.cycle ∧ (b.setCap w x).ticks = b.ticks ∧ (b.setCap w x).sessions = b.sessions ∧ (b.setCap w x).shakes = b.shakes ∧
    (b.setCap w x).accepted = b.accepted ∧ (b.setCap w x).nextGroup = b.nextGroup ∧ (b.setCap w x).txns = b.txns ∧
    (b.setCap w x).sched = b.sched ∧ (b.setCap w x).nextEntry = b.nextEntry ∧ (b.setCap w x).reached = b.reached ∧
    (b.setCap w x).heldReplies = b.heldReplies ∧ (b.setCap w x).nextHeld = b.nextHeld ∧ (b.setCap w x).srcTotal = b.srcTotal ∧
    (b.setCap w x).srcWin = b.srcWin ∧ (b.setCap w x).supFirst = b.supFirst ∧ (b.setCap w x).supTotal = b.supTotal ∧
    (b.setCap w x).supSrcs = b.supSrcs ∧ (b.setCap w x).winBeat = b.winBeat ∧ (b.setCap w x).evtEnd = b.evtEnd ∧
    (b.setCap w x).evtAt = b.evtAt ∧ (b.setCap w x).counted = b.counted ∧ (b.setCap w x).arrivedAt = b.arrivedAt ∧
    (b.setCap w x).arrived = b.arrived ∧ (b.setCap w x).owned = b.owned ∧ (b.setCap w x).cores = b.cores ∧ (b.setCap w x).jrx = b.jrx ∧
    (b.setCap w x).jtx = b.jtx ∧ (b.setCap w x).spi = b.spi ∧ (b.setCap w x).shot = b.shot ∧ (b.setCap w x).lanes = b.lanes ∧
    (b.setCap w x).groupEpochs = b.groupEpochs ∧ (b.setCap w x).views = b.views ∧ (b.setCap w x).trcs = b.trcs ∧ (b.setCap w x).trgs = b.trgs ∧
    (b.setCap w x).outPins = b.outPins ∧ (b.setCap w x).pcs = b.pcs ∧ (b.setCap w x).ports = b.ports ∧ (b.setCap w x).evidence = b.evidence ∧
    (b.setCap w x).replays = b.replays ∧ (b.setCap w x).plls = b.plls ∧ (b.setCap w x).planes = b.planes ∧ (b.setCap w x).spgs = b.spgs ∧
    (b.setCap w x).comp = b.comp ∧ (b.setCap w x).outs = b.outs ∧ (b.setCap w x).bufWait = b.bufWait ∧ (b.setCap w x).bufOut = b.bufOut ∧
    (b.setCap w x).strs = b.strs ∧ (b.setCap w x).neighs = b.neighs ∧ (b.setCap w x).jobs = b.jobs ∧ (b.setCap w x).decs = b.decs ∧
    (b.setCap w x).streamKeys = b.streamKeys ∧ (b.setCap w x).pfc = b.pfc ∧ (b.setCap w x).stims = b.stims ∧ (b.setCap w x).vec = b.vec ∧
    (b.setCap w x).tim = b.tim ∧ (b.setCap w x).ptps = b.ptps ∧ (b.setCap w x).tiu = b.tiu ∧ (b.setCap w x).cals = b.cals ∧
    (b.setCap w x).aux = b.aux ∧ (b.setCap w x).plt = b.plt ∧ (b.setCap w x).pltPorts = b.pltPorts ∧ (b.setCap w x).imports = b.imports ∧
    (b.setCap w x).sys = b.sys ∧ (b.setCap w x).coolOnce = b.coolOnce ∧ (b.setCap w x).firstRetired = b.firstRetired ∧
    (b.setCap w x).poolSize = b.poolSize ∧ (b.setCap w x).past = b.past ∧ (b.setCap w x).firn = b.firn ∧ (b.setCap w x).fresh = b.fresh ∧
    (b.setCap w x).sent = b.sent ∧ (b.setCap w x).stores = b.stores ∧ (b.setCap w x).raised = b.raised ∧
    (∀ key, (b.setCap w x).val key = b.val key) :=
  ⟨rfl, rfl, rfl, rfl, rfl, rfl, rfl, rfl, rfl, rfl, rfl, rfl, rfl, rfl, rfl, rfl, rfl, rfl, rfl, rfl, rfl, rfl, rfl, rfl, rfl, rfl, rfl, rfl,
  rfl, rfl, rfl, rfl, rfl, rfl, rfl, rfl, rfl, rfl, rfl, rfl, rfl, rfl, rfl, rfl, rfl, rfl, rfl, rfl, rfl, rfl, rfl, rfl, rfl, rfl, rfl, rfl,
  rfl, rfl, rfl, rfl, rfl, rfl, rfl, rfl, rfl, rfl, rfl, rfl, rfl, rfl, rfl, rfl, rfl, rfl, rfl, rfl, fun _ => rfl⟩

@[simp] theorem setCap_caps (b : Block) (w : Nat) (x : Cap) : (b.setCap w x).caps = tset b.caps w x := rfl

@[simp] theorem setCap_cap (b : Block) (w : Nat) (x : Cap) : (b.setCap w x).cap w = x := tget_tset_same _ _ _ _

theorem setCap_cap_ne (b : Block) (w : Nat) (x : Cap) (j : Nat) (h : j ≠ w) : (b.setCap w x).cap j = b.cap j := tget_tset_ne _ _ _ _ _ h

@[simp] theorem setRpl_frame (b : Block) (r : Nat) (x : Replay) :
    (b.setRpl r x).params = b.params ∧ (b.setRpl r x).waiting = b.waiting ∧ (b.setRpl r x).dev = b.dev ∧ (b.setRpl r x).beat = b.beat ∧
    (b.setRpl r x).cycle = b.cycle ∧ (b.setRpl r x).ticks = b.ticks ∧ (b.setRpl r x).sessions = b.sessions ∧ (b.setRpl r x).shakes = b.shakes ∧
    (b.setRpl r x).accepted = b.accepted ∧ (b.setRpl r x).nextGroup = b.nextGroup ∧ (b.setRpl r x).txns = b.txns ∧
    (b.setRpl r x).sched = b.sched ∧ (b.setRpl r x).nextEntry = b.nextEntry ∧ (b.setRpl r x).reached = b.reached ∧
    (b.setRpl r x).heldReplies = b.heldReplies ∧ (b.setRpl r x).nextHeld = b.nextHeld ∧ (b.setRpl r x).srcTotal = b.srcTotal ∧
    (b.setRpl r x).srcWin = b.srcWin ∧ (b.setRpl r x).supFirst = b.supFirst ∧ (b.setRpl r x).supTotal = b.supTotal ∧
    (b.setRpl r x).supSrcs = b.supSrcs ∧ (b.setRpl r x).winBeat = b.winBeat ∧ (b.setRpl r x).evtEnd = b.evtEnd ∧
    (b.setRpl r x).evtAt = b.evtAt ∧ (b.setRpl r x).counted = b.counted ∧ (b.setRpl r x).arrivedAt = b.arrivedAt ∧
    (b.setRpl r x).arrived = b.arrived ∧ (b.setRpl r x).owned = b.owned ∧ (b.setRpl r x).cores = b.cores ∧ (b.setRpl r x).jrx = b.jrx ∧
    (b.setRpl r x).jtx = b.jtx ∧ (b.setRpl r x).spi = b.spi ∧ (b.setRpl r x).shot = b.shot ∧ (b.setRpl r x).lanes = b.lanes ∧
    (b.setRpl r x).groupEpochs = b.groupEpochs ∧ (b.setRpl r x).views = b.views ∧ (b.setRpl r x).trcs = b.trcs ∧ (b.setRpl r x).trgs = b.trgs ∧
    (b.setRpl r x).outPins = b.outPins ∧ (b.setRpl r x).pcs = b.pcs ∧ (b.setRpl r x).ports = b.ports ∧ (b.setRpl r x).caps = b.caps ∧
    (b.setRpl r x).evidence = b.evidence ∧ (b.setRpl r x).plls = b.plls ∧ (b.setRpl r x).planes = b.planes ∧ (b.setRpl r x).spgs = b.spgs ∧
    (b.setRpl r x).comp = b.comp ∧ (b.setRpl r x).outs = b.outs ∧ (b.setRpl r x).bufWait = b.bufWait ∧ (b.setRpl r x).bufOut = b.bufOut ∧
    (b.setRpl r x).strs = b.strs ∧ (b.setRpl r x).neighs = b.neighs ∧ (b.setRpl r x).jobs = b.jobs ∧ (b.setRpl r x).decs = b.decs ∧
    (b.setRpl r x).streamKeys = b.streamKeys ∧ (b.setRpl r x).pfc = b.pfc ∧ (b.setRpl r x).stims = b.stims ∧ (b.setRpl r x).vec = b.vec ∧
    (b.setRpl r x).tim = b.tim ∧ (b.setRpl r x).ptps = b.ptps ∧ (b.setRpl r x).tiu = b.tiu ∧ (b.setRpl r x).cals = b.cals ∧
    (b.setRpl r x).aux = b.aux ∧ (b.setRpl r x).plt = b.plt ∧ (b.setRpl r x).pltPorts = b.pltPorts ∧ (b.setRpl r x).imports = b.imports ∧
    (b.setRpl r x).sys = b.sys ∧ (b.setRpl r x).coolOnce = b.coolOnce ∧ (b.setRpl r x).firstRetired = b.firstRetired ∧
    (b.setRpl r x).poolSize = b.poolSize ∧ (b.setRpl r x).past = b.past ∧ (b.setRpl r x).firn = b.firn ∧ (b.setRpl r x).fresh = b.fresh ∧
    (b.setRpl r x).sent = b.sent ∧ (b.setRpl r x).stores = b.stores ∧ (b.setRpl r x).raised = b.raised ∧
    (∀ key, (b.setRpl r x).val key = b.val key) :=
  ⟨rfl, rfl, rfl, rfl, rfl, rfl, rfl, rfl, rfl, rfl, rfl, rfl, rfl, rfl, rfl, rfl, rfl, rfl, rfl, rfl, rfl, rfl, rfl, rfl, rfl, rfl, rfl, rfl,
  rfl, rfl, rfl, rfl, rfl, rfl, rfl, rfl, rfl, rfl, rfl, rfl, rfl, rfl, rfl, rfl, rfl, rfl, rfl, rfl, rfl, rfl, rfl, rfl, rfl, rfl, rfl, rfl,
  rfl, rfl, rfl, rfl, rfl, rfl, rfl, rfl, rfl, rfl, rfl, rfl, rfl, rfl, rfl, rfl, rfl, rfl, rfl, rfl, fun _ => rfl⟩

@[simp] theorem setRpl_replays (b : Block) (r : Nat) (x : Replay) : (b.setRpl r x).replays = tset b.replays r x := rfl

@[simp] theorem setRpl_rpl (b : Block) (r : Nat) (x : Replay) : (b.setRpl r x).rpl r = x := tget_tset_same _ _ _ _

theorem setRpl_rpl_ne (b : Block) (r : Nat) (x : Replay) (j : Nat) (h : j ≠ r) : (b.setRpl r x).rpl j = b.rpl j := tget_tset_ne _ _ _ _ _ h

@[simp] theorem setTim_frame (b : Block) (x : TimeBase) :
    (b.setTim x).params = b.params ∧ (b.setTim x).waiting = b.waiting ∧ (b.setTim x).dev = b.dev ∧ (b.setTim x).beat = b.beat ∧
    (b.setTim x).cycle = b.cycle ∧ (b.setTim x).ticks = b.ticks ∧ (b.setTim x).sessions = b.sessions ∧ (b.setTim x).shakes = b.shakes ∧
    (b.setTim x).accepted = b.accepted ∧ (b.setTim x).nextGroup = b.nextGroup ∧ (b.setTim x).txns = b.txns ∧ (b.setTim x).sched = b.sched ∧
    (b.setTim x).nextEntry = b.nextEntry ∧ (b.setTim x).reached = b.reached ∧ (b.setTim x).heldReplies = b.heldReplies ∧
    (b.setTim x).nextHeld = b.nextHeld ∧ (b.setTim x).srcTotal = b.srcTotal ∧ (b.setTim x).srcWin = b.srcWin ∧
    (b.setTim x).supFirst = b.supFirst ∧ (b.setTim x).supTotal = b.supTotal ∧ (b.setTim x).supSrcs = b.supSrcs ∧
    (b.setTim x).winBeat = b.winBeat ∧ (b.setTim x).evtEnd = b.evtEnd ∧ (b.setTim x).evtAt = b.evtAt ∧ (b.setTim x).counted = b.counted ∧
    (b.setTim x).arrivedAt = b.arrivedAt ∧ (b.setTim x).arrived = b.arrived ∧ (b.setTim x).owned = b.owned ∧ (b.setTim x).cores = b.cores ∧
    (b.setTim x).jrx = b.jrx ∧ (b.setTim x).jtx = b.jtx ∧ (b.setTim x).spi = b.spi ∧ (b.setTim x).shot = b.shot ∧ (b.setTim x).lanes = b.lanes ∧
    (b.setTim x).groupEpochs = b.groupEpochs ∧ (b.setTim x).views = b.views ∧ (b.setTim x).trcs = b.trcs ∧ (b.setTim x).trgs = b.trgs ∧
    (b.setTim x).outPins = b.outPins ∧ (b.setTim x).pcs = b.pcs ∧ (b.setTim x).ports = b.ports ∧ (b.setTim x).caps = b.caps ∧
    (b.setTim x).evidence = b.evidence ∧ (b.setTim x).replays = b.replays ∧ (b.setTim x).plls = b.plls ∧ (b.setTim x).planes = b.planes ∧
    (b.setTim x).spgs = b.spgs ∧ (b.setTim x).comp = b.comp ∧ (b.setTim x).outs = b.outs ∧ (b.setTim x).bufWait = b.bufWait ∧
    (b.setTim x).bufOut = b.bufOut ∧ (b.setTim x).strs = b.strs ∧ (b.setTim x).neighs = b.neighs ∧ (b.setTim x).jobs = b.jobs ∧
    (b.setTim x).decs = b.decs ∧ (b.setTim x).streamKeys = b.streamKeys ∧ (b.setTim x).pfc = b.pfc ∧ (b.setTim x).stims = b.stims ∧
    (b.setTim x).vec = b.vec ∧ (b.setTim x).ptps = b.ptps ∧ (b.setTim x).tiu = b.tiu ∧ (b.setTim x).cals = b.cals ∧ (b.setTim x).aux = b.aux ∧
    (b.setTim x).plt = b.plt ∧ (b.setTim x).pltPorts = b.pltPorts ∧ (b.setTim x).imports = b.imports ∧ (b.setTim x).sys = b.sys ∧
    (b.setTim x).coolOnce = b.coolOnce ∧ (b.setTim x).firstRetired = b.firstRetired ∧ (b.setTim x).poolSize = b.poolSize ∧
    (b.setTim x).past = b.past ∧ (b.setTim x).firn = b.firn ∧ (b.setTim x).fresh = b.fresh ∧ (b.setTim x).sent = b.sent ∧
    (b.setTim x).stores = b.stores ∧ (b.setTim x).raised = b.raised ∧ (∀ key, (b.setTim x).val key = b.val key) :=
  ⟨rfl, rfl, rfl, rfl, rfl, rfl, rfl, rfl, rfl, rfl, rfl, rfl, rfl, rfl, rfl, rfl, rfl, rfl, rfl, rfl, rfl, rfl, rfl, rfl, rfl, rfl, rfl, rfl,
  rfl, rfl, rfl, rfl, rfl, rfl, rfl, rfl, rfl, rfl, rfl, rfl, rfl, rfl, rfl, rfl, rfl, rfl, rfl, rfl, rfl, rfl, rfl, rfl, rfl, rfl, rfl, rfl,
  rfl, rfl, rfl, rfl, rfl, rfl, rfl, rfl, rfl, rfl, rfl, rfl, rfl, rfl, rfl, rfl, rfl, rfl, rfl, rfl, fun _ => rfl⟩

@[simp] theorem setTim_tim (b : Block) (x : TimeBase) : (b.setTim x).tim = x := rfl

@[simp] theorem setPtp_frame (b : Block) (l : Nat) (x : PtpPort) :
    (b.setPtp l x).params = b.params ∧ (b.setPtp l x).waiting = b.waiting ∧ (b.setPtp l x).dev = b.dev ∧ (b.setPtp l x).beat = b.beat ∧
    (b.setPtp l x).cycle = b.cycle ∧ (b.setPtp l x).ticks = b.ticks ∧ (b.setPtp l x).sessions = b.sessions ∧ (b.setPtp l x).shakes = b.shakes ∧
    (b.setPtp l x).accepted = b.accepted ∧ (b.setPtp l x).nextGroup = b.nextGroup ∧ (b.setPtp l x).txns = b.txns ∧
    (b.setPtp l x).sched = b.sched ∧ (b.setPtp l x).nextEntry = b.nextEntry ∧ (b.setPtp l x).reached = b.reached ∧
    (b.setPtp l x).heldReplies = b.heldReplies ∧ (b.setPtp l x).nextHeld = b.nextHeld ∧ (b.setPtp l x).srcTotal = b.srcTotal ∧
    (b.setPtp l x).srcWin = b.srcWin ∧ (b.setPtp l x).supFirst = b.supFirst ∧ (b.setPtp l x).supTotal = b.supTotal ∧
    (b.setPtp l x).supSrcs = b.supSrcs ∧ (b.setPtp l x).winBeat = b.winBeat ∧ (b.setPtp l x).evtEnd = b.evtEnd ∧
    (b.setPtp l x).evtAt = b.evtAt ∧ (b.setPtp l x).counted = b.counted ∧ (b.setPtp l x).arrivedAt = b.arrivedAt ∧
    (b.setPtp l x).arrived = b.arrived ∧ (b.setPtp l x).owned = b.owned ∧ (b.setPtp l x).cores = b.cores ∧ (b.setPtp l x).jrx = b.jrx ∧
    (b.setPtp l x).jtx = b.jtx ∧ (b.setPtp l x).spi = b.spi ∧ (b.setPtp l x).shot = b.shot ∧ (b.setPtp l x).lanes = b.lanes ∧
    (b.setPtp l x).groupEpochs = b.groupEpochs ∧ (b.setPtp l x).views = b.views ∧ (b.setPtp l x).trcs = b.trcs ∧ (b.setPtp l x).trgs = b.trgs ∧
    (b.setPtp l x).outPins = b.outPins ∧ (b.setPtp l x).pcs = b.pcs ∧ (b.setPtp l x).ports = b.ports ∧ (b.setPtp l x).caps = b.caps ∧
    (b.setPtp l x).evidence = b.evidence ∧ (b.setPtp l x).replays = b.replays ∧ (b.setPtp l x).plls = b.plls ∧
    (b.setPtp l x).planes = b.planes ∧ (b.setPtp l x).spgs = b.spgs ∧ (b.setPtp l x).comp = b.comp ∧ (b.setPtp l x).outs = b.outs ∧
    (b.setPtp l x).bufWait = b.bufWait ∧ (b.setPtp l x).bufOut = b.bufOut ∧ (b.setPtp l x).strs = b.strs ∧ (b.setPtp l x).neighs = b.neighs ∧
    (b.setPtp l x).jobs = b.jobs ∧ (b.setPtp l x).decs = b.decs ∧ (b.setPtp l x).streamKeys = b.streamKeys ∧ (b.setPtp l x).pfc = b.pfc ∧
    (b.setPtp l x).stims = b.stims ∧ (b.setPtp l x).vec = b.vec ∧ (b.setPtp l x).tim = b.tim ∧ (b.setPtp l x).tiu = b.tiu ∧
    (b.setPtp l x).cals = b.cals ∧ (b.setPtp l x).aux = b.aux ∧ (b.setPtp l x).plt = b.plt ∧ (b.setPtp l x).pltPorts = b.pltPorts ∧
    (b.setPtp l x).imports = b.imports ∧ (b.setPtp l x).sys = b.sys ∧ (b.setPtp l x).coolOnce = b.coolOnce ∧
    (b.setPtp l x).firstRetired = b.firstRetired ∧ (b.setPtp l x).poolSize = b.poolSize ∧ (b.setPtp l x).past = b.past ∧
    (b.setPtp l x).firn = b.firn ∧ (b.setPtp l x).fresh = b.fresh ∧ (b.setPtp l x).sent = b.sent ∧ (b.setPtp l x).stores = b.stores ∧
    (b.setPtp l x).raised = b.raised ∧ (∀ key, (b.setPtp l x).val key = b.val key) :=
  ⟨rfl, rfl, rfl, rfl, rfl, rfl, rfl, rfl, rfl, rfl, rfl, rfl, rfl, rfl, rfl, rfl, rfl, rfl, rfl, rfl, rfl, rfl, rfl, rfl, rfl, rfl, rfl, rfl,
  rfl, rfl, rfl, rfl, rfl, rfl, rfl, rfl, rfl, rfl, rfl, rfl, rfl, rfl, rfl, rfl, rfl, rfl, rfl, rfl, rfl, rfl, rfl, rfl, rfl, rfl, rfl, rfl,
  rfl, rfl, rfl, rfl, rfl, rfl, rfl, rfl, rfl, rfl, rfl, rfl, rfl, rfl, rfl, rfl, rfl, rfl, rfl, rfl, fun _ => rfl⟩

@[simp] theorem setPtp_ptps (b : Block) (l : Nat) (x : PtpPort) : (b.setPtp l x).ptps = tset b.ptps l x := rfl

@[simp] theorem setPtp_ptp (b : Block) (l : Nat) (x : PtpPort) : (b.setPtp l x).ptp l = x := tget_tset_same _ _ _ _

theorem setPtp_ptp_ne (b : Block) (l : Nat) (x : PtpPort) (j : Nat) (h : j ≠ l) : (b.setPtp l x).ptp j = b.ptp j := tget_tset_ne _ _ _ _ _ h

@[simp] theorem setVal_frame (b : Block) (k v : Nat) :
    (b.setVal k v).waiting = b.waiting ∧ (b.setVal k v).dev = b.dev ∧ (b.setVal k v).beat = b.beat ∧ (b.setVal k v).cycle = b.cycle ∧
    (b.setVal k v).ticks = b.ticks ∧ (b.setVal k v).sessions = b.sessions ∧ (b.setVal k v).shakes = b.shakes ∧
    (b.setVal k v).accepted = b.accepted ∧ (b.setVal k v).nextGroup = b.nextGroup ∧ (b.setVal k v).txns = b.txns ∧
    (b.setVal k v).sched = b.sched ∧ (b.setVal k v).nextEntry = b.nextEntry ∧ (b.setVal k v).reached = b.reached ∧
    (b.setVal k v).heldReplies = b.heldReplies ∧ (b.setVal k v).nextHeld = b.nextHeld ∧ (b.setVal k v).srcTotal = b.srcTotal ∧
    (b.setVal k v).srcWin = b.srcWin ∧ (b.setVal k v).supFirst = b.supFirst ∧ (b.setVal k v).supTotal = b.supTotal ∧
    (b.setVal k v).supSrcs = b.supSrcs ∧ (b.setVal k v).winBeat = b.winBeat ∧ (b.setVal k v).evtEnd = b.evtEnd ∧
    (b.setVal k v).evtAt = b.evtAt ∧ (b.setVal k v).counted = b.counted ∧ (b.setVal k v).arrivedAt = b.arrivedAt ∧
    (b.setVal k v).arrived = b.arrived ∧ (b.setVal k v).owned = b.owned ∧ (b.setVal k v).cores = b.cores ∧ (b.setVal k v).jrx = b.jrx ∧
    (b.setVal k v).jtx = b.jtx ∧ (b.setVal k v).spi = b.spi ∧ (b.setVal k v).shot = b.shot ∧ (b.setVal k v).lanes = b.lanes ∧
    (b.setVal k v).groupEpochs = b.groupEpochs ∧ (b.setVal k v).views = b.views ∧ (b.setVal k v).trcs = b.trcs ∧ (b.setVal k v).trgs = b.trgs ∧
    (b.setVal k v).outPins = b.outPins ∧ (b.setVal k v).pcs = b.pcs ∧ (b.setVal k v).ports = b.ports ∧ (b.setVal k v).caps = b.caps ∧
    (b.setVal k v).evidence = b.evidence ∧ (b.setVal k v).replays = b.replays ∧ (b.setVal k v).plls = b.plls ∧
    (b.setVal k v).planes = b.planes ∧ (b.setVal k v).spgs = b.spgs ∧ (b.setVal k v).comp = b.comp ∧ (b.setVal k v).outs = b.outs ∧
    (b.setVal k v).bufWait = b.bufWait ∧ (b.setVal k v).bufOut = b.bufOut ∧ (b.setVal k v).strs = b.strs ∧ (b.setVal k v).neighs = b.neighs ∧
    (b.setVal k v).jobs = b.jobs ∧ (b.setVal k v).decs = b.decs ∧ (b.setVal k v).streamKeys = b.streamKeys ∧ (b.setVal k v).pfc = b.pfc ∧
    (b.setVal k v).stims = b.stims ∧ (b.setVal k v).vec = b.vec ∧ (b.setVal k v).tim = b.tim ∧ (b.setVal k v).ptps = b.ptps ∧
    (b.setVal k v).tiu = b.tiu ∧ (b.setVal k v).cals = b.cals ∧ (b.setVal k v).aux = b.aux ∧ (b.setVal k v).plt = b.plt ∧
    (b.setVal k v).pltPorts = b.pltPorts ∧ (b.setVal k v).imports = b.imports ∧ (b.setVal k v).sys = b.sys ∧
    (b.setVal k v).coolOnce = b.coolOnce ∧ (b.setVal k v).firstRetired = b.firstRetired ∧ (b.setVal k v).poolSize = b.poolSize ∧
    (b.setVal k v).past = b.past ∧ (b.setVal k v).firn = b.firn ∧ (b.setVal k v).fresh = b.fresh ∧ (b.setVal k v).sent = b.sent ∧
    (b.setVal k v).stores = b.stores ∧ (b.setVal k v).raised = b.raised :=
  ⟨rfl, rfl, rfl, rfl, rfl, rfl, rfl, rfl, rfl, rfl, rfl, rfl, rfl, rfl, rfl, rfl, rfl, rfl, rfl, rfl, rfl, rfl, rfl, rfl, rfl, rfl, rfl, rfl,
  rfl, rfl, rfl, rfl, rfl, rfl, rfl, rfl, rfl, rfl, rfl, rfl, rfl, rfl, rfl, rfl, rfl, rfl, rfl, rfl, rfl, rfl, rfl, rfl, rfl, rfl, rfl, rfl,
  rfl, rfl, rfl, rfl, rfl, rfl, rfl, rfl, rfl, rfl, rfl, rfl, rfl, rfl, rfl, rfl, rfl, rfl, rfl, rfl⟩

@[simp] theorem setVal_params (b : Block) (k v : Nat) : (b.setVal k v).params = tset b.params k (BitVec.ofNat 64 v) := rfl

@[simp] theorem noteCount_frame (b : Block) (key n : Nat) :
    (b.noteCount key n).params = b.params ∧ (b.noteCount key n).waiting = b.waiting ∧ (b.noteCount key n).dev = b.dev ∧
    (b.noteCount key n).beat = b.beat ∧ (b.noteCount key n).cycle = b.cycle ∧ (b.noteCount key n).ticks = b.ticks ∧
    (b.noteCount key n).sessions = b.sessions ∧ (b.noteCount key n).shakes = b.shakes ∧ (b.noteCount key n).accepted = b.accepted ∧
    (b.noteCount key n).nextGroup = b.nextGroup ∧ (b.noteCount key n).txns = b.txns ∧ (b.noteCount key n).sched = b.sched ∧
    (b.noteCount key n).nextEntry = b.nextEntry ∧ (b.noteCount key n).reached = b.reached ∧ (b.noteCount key n).heldReplies = b.heldReplies ∧
    (b.noteCount key n).nextHeld = b.nextHeld ∧ (b.noteCount key n).srcTotal = b.srcTotal ∧ (b.noteCount key n).srcWin = b.srcWin ∧
    (b.noteCount key n).supFirst = b.supFirst ∧ (b.noteCount key n).supTotal = b.supTotal ∧ (b.noteCount key n).supSrcs = b.supSrcs ∧
    (b.noteCount key n).winBeat = b.winBeat ∧ (b.noteCount key n).evtEnd = b.evtEnd ∧ (b.noteCount key n).evtAt = b.evtAt ∧
    (b.noteCount key n).arrivedAt = b.arrivedAt ∧ (b.noteCount key n).arrived = b.arrived ∧ (b.noteCount key n).owned = b.owned ∧
    (b.noteCount key n).cores = b.cores ∧ (b.noteCount key n).jrx = b.jrx ∧ (b.noteCount key n).jtx = b.jtx ∧ (b.noteCount key n).spi = b.spi ∧
    (b.noteCount key n).shot = b.shot ∧ (b.noteCount key n).lanes = b.lanes ∧ (b.noteCount key n).groupEpochs = b.groupEpochs ∧
    (b.noteCount key n).views = b.views ∧ (b.noteCount key n).trcs = b.trcs ∧ (b.noteCount key n).trgs = b.trgs ∧
    (b.noteCount key n).outPins = b.outPins ∧ (b.noteCount key n).pcs = b.pcs ∧ (b.noteCount key n).ports = b.ports ∧
    (b.noteCount key n).caps = b.caps ∧ (b.noteCount key n).evidence = b.evidence ∧ (b.noteCount key n).replays = b.replays ∧
    (b.noteCount key n).plls = b.plls ∧ (b.noteCount key n).planes = b.planes ∧ (b.noteCount key n).spgs = b.spgs ∧
    (b.noteCount key n).comp = b.comp ∧ (b.noteCount key n).outs = b.outs ∧ (b.noteCount key n).bufWait = b.bufWait ∧
    (b.noteCount key n).bufOut = b.bufOut ∧ (b.noteCount key n).strs = b.strs ∧ (b.noteCount key n).neighs = b.neighs ∧
    (b.noteCount key n).jobs = b.jobs ∧ (b.noteCount key n).decs = b.decs ∧ (b.noteCount key n).streamKeys = b.streamKeys ∧
    (b.noteCount key n).pfc = b.pfc ∧ (b.noteCount key n).stims = b.stims ∧ (b.noteCount key n).vec = b.vec ∧ (b.noteCount key n).tim = b.tim ∧
    (b.noteCount key n).ptps = b.ptps ∧ (b.noteCount key n).tiu = b.tiu ∧ (b.noteCount key n).cals = b.cals ∧ (b.noteCount key n).aux = b.aux ∧
    (b.noteCount key n).plt = b.plt ∧ (b.noteCount key n).pltPorts = b.pltPorts ∧ (b.noteCount key n).imports = b.imports ∧
    (b.noteCount key n).sys = b.sys ∧ (b.noteCount key n).coolOnce = b.coolOnce ∧ (b.noteCount key n).firstRetired = b.firstRetired ∧
    (b.noteCount key n).poolSize = b.poolSize ∧ (b.noteCount key n).past = b.past ∧ (b.noteCount key n).firn = b.firn ∧
    (b.noteCount key n).fresh = b.fresh ∧ (b.noteCount key n).sent = b.sent ∧ (b.noteCount key n).stores = b.stores ∧
    (b.noteCount key n).raised = b.raised ∧ (∀ key, (b.noteCount key n).val key = b.val key) :=
  ⟨rfl, rfl, rfl, rfl, rfl, rfl, rfl, rfl, rfl, rfl, rfl, rfl, rfl, rfl, rfl, rfl, rfl, rfl, rfl, rfl, rfl, rfl, rfl, rfl, rfl, rfl, rfl, rfl,
  rfl, rfl, rfl, rfl, rfl, rfl, rfl, rfl, rfl, rfl, rfl, rfl, rfl, rfl, rfl, rfl, rfl, rfl, rfl, rfl, rfl, rfl, rfl, rfl, rfl, rfl, rfl, rfl,
  rfl, rfl, rfl, rfl, rfl, rfl, rfl, rfl, rfl, rfl, rfl, rfl, rfl, rfl, rfl, rfl, rfl, rfl, rfl, rfl, fun _ => rfl⟩

@[simp] theorem noteCount_counted (b : Block) (key n : Nat) : (b.noteCount key n).counted = tset b.counted key (b.ticks, b.countedNow key + n) := rfl

@[simp] theorem stByte_frame (b : Block) (a : Nat) (v : Byte) :
    (b.stByte a v).params = b.params ∧ (b.stByte a v).waiting = b.waiting ∧ (b.stByte a v).dev = b.dev ∧ (b.stByte a v).beat = b.beat ∧
    (b.stByte a v).cycle = b.cycle ∧ (b.stByte a v).ticks = b.ticks ∧ (b.stByte a v).sessions = b.sessions ∧ (b.stByte a v).shakes = b.shakes ∧
    (b.stByte a v).accepted = b.accepted ∧ (b.stByte a v).nextGroup = b.nextGroup ∧ (b.stByte a v).txns = b.txns ∧
    (b.stByte a v).sched = b.sched ∧ (b.stByte a v).nextEntry = b.nextEntry ∧ (b.stByte a v).reached = b.reached ∧
    (b.stByte a v).heldReplies = b.heldReplies ∧ (b.stByte a v).nextHeld = b.nextHeld ∧ (b.stByte a v).srcTotal = b.srcTotal ∧
    (b.stByte a v).srcWin = b.srcWin ∧ (b.stByte a v).supFirst = b.supFirst ∧ (b.stByte a v).supTotal = b.supTotal ∧
    (b.stByte a v).supSrcs = b.supSrcs ∧ (b.stByte a v).winBeat = b.winBeat ∧ (b.stByte a v).evtEnd = b.evtEnd ∧
    (b.stByte a v).evtAt = b.evtAt ∧ (b.stByte a v).counted = b.counted ∧ (b.stByte a v).arrivedAt = b.arrivedAt ∧
    (b.stByte a v).arrived = b.arrived ∧ (b.stByte a v).owned = b.owned ∧ (b.stByte a v).cores = b.cores ∧ (b.stByte a v).jrx = b.jrx ∧
    (b.stByte a v).jtx = b.jtx ∧ (b.stByte a v).spi = b.spi ∧ (b.stByte a v).shot = b.shot ∧ (b.stByte a v).lanes = b.lanes ∧
    (b.stByte a v).groupEpochs = b.groupEpochs ∧ (b.stByte a v).views = b.views ∧ (b.stByte a v).trcs = b.trcs ∧ (b.stByte a v).trgs = b.trgs ∧
    (b.stByte a v).outPins = b.outPins ∧ (b.stByte a v).pcs = b.pcs ∧ (b.stByte a v).ports = b.ports ∧ (b.stByte a v).caps = b.caps ∧
    (b.stByte a v).evidence = b.evidence ∧ (b.stByte a v).replays = b.replays ∧ (b.stByte a v).plls = b.plls ∧
    (b.stByte a v).planes = b.planes ∧ (b.stByte a v).spgs = b.spgs ∧ (b.stByte a v).comp = b.comp ∧ (b.stByte a v).outs = b.outs ∧
    (b.stByte a v).bufWait = b.bufWait ∧ (b.stByte a v).bufOut = b.bufOut ∧ (b.stByte a v).strs = b.strs ∧ (b.stByte a v).neighs = b.neighs ∧
    (b.stByte a v).jobs = b.jobs ∧ (b.stByte a v).decs = b.decs ∧ (b.stByte a v).streamKeys = b.streamKeys ∧ (b.stByte a v).pfc = b.pfc ∧
    (b.stByte a v).stims = b.stims ∧ (b.stByte a v).vec = b.vec ∧ (b.stByte a v).tim = b.tim ∧ (b.stByte a v).ptps = b.ptps ∧
    (b.stByte a v).tiu = b.tiu ∧ (b.stByte a v).cals = b.cals ∧ (b.stByte a v).aux = b.aux ∧ (b.stByte a v).plt = b.plt ∧
    (b.stByte a v).pltPorts = b.pltPorts ∧ (b.stByte a v).imports = b.imports ∧ (b.stByte a v).sys = b.sys ∧
    (b.stByte a v).coolOnce = b.coolOnce ∧ (b.stByte a v).firstRetired = b.firstRetired ∧ (b.stByte a v).poolSize = b.poolSize ∧
    (b.stByte a v).past = b.past ∧ (b.stByte a v).firn = b.firn ∧ (b.stByte a v).fresh = b.fresh ∧ (b.stByte a v).sent = b.sent ∧
    (b.stByte a v).raised = b.raised ∧ (∀ key, (b.stByte a v).val key = b.val key) :=
  ⟨rfl, rfl, rfl, rfl, rfl, rfl, rfl, rfl, rfl, rfl, rfl, rfl, rfl, rfl, rfl, rfl, rfl, rfl, rfl, rfl, rfl, rfl, rfl, rfl, rfl, rfl, rfl, rfl,
  rfl, rfl, rfl, rfl, rfl, rfl, rfl, rfl, rfl, rfl, rfl, rfl, rfl, rfl, rfl, rfl, rfl, rfl, rfl, rfl, rfl, rfl, rfl, rfl, rfl, rfl, rfl, rfl,
  rfl, rfl, rfl, rfl, rfl, rfl, rfl, rfl, rfl, rfl, rfl, rfl, rfl, rfl, rfl, rfl, rfl, rfl, rfl, rfl, fun _ => rfl⟩

@[simp] theorem stByte_stores (b : Block) (a : Nat) (v : Byte) : (b.stByte a v).stores = .byte a v :: b.stores := rfl

@[simp] theorem stBytes_frame (b : Block) (a : Nat) (l : List Byte) :
    (b.stBytes a l).params = b.params ∧ (b.stBytes a l).waiting = b.waiting ∧ (b.stBytes a l).dev = b.dev ∧ (b.stBytes a l).beat = b.beat ∧
    (b.stBytes a l).cycle = b.cycle ∧ (b.stBytes a l).ticks = b.ticks ∧ (b.stBytes a l).sessions = b.sessions ∧
    (b.stBytes a l).shakes = b.shakes ∧ (b.stBytes a l).accepted = b.accepted ∧ (b.stBytes a l).nextGroup = b.nextGroup ∧
    (b.stBytes a l).txns = b.txns ∧ (b.stBytes a l).sched = b.sched ∧ (b.stBytes a l).nextEntry = b.nextEntry ∧
    (b.stBytes a l).reached = b.reached ∧ (b.stBytes a l).heldReplies = b.heldReplies ∧ (b.stBytes a l).nextHeld = b.nextHeld ∧
    (b.stBytes a l).srcTotal = b.srcTotal ∧ (b.stBytes a l).srcWin = b.srcWin ∧ (b.stBytes a l).supFirst = b.supFirst ∧
    (b.stBytes a l).supTotal = b.supTotal ∧ (b.stBytes a l).supSrcs = b.supSrcs ∧ (b.stBytes a l).winBeat = b.winBeat ∧
    (b.stBytes a l).evtEnd = b.evtEnd ∧ (b.stBytes a l).evtAt = b.evtAt ∧ (b.stBytes a l).counted = b.counted ∧
    (b.stBytes a l).arrivedAt = b.arrivedAt ∧ (b.stBytes a l).arrived = b.arrived ∧ (b.stBytes a l).owned = b.owned ∧
    (b.stBytes a l).cores = b.cores ∧ (b.stBytes a l).jrx = b.jrx ∧ (b.stBytes a l).jtx = b.jtx ∧ (b.stBytes a l).spi = b.spi ∧
    (b.stBytes a l).shot = b.shot ∧ (b.stBytes a l).lanes = b.lanes ∧ (b.stBytes a l).groupEpochs = b.groupEpochs ∧
    (b.stBytes a l).views = b.views ∧ (b.stBytes a l).trcs = b.trcs ∧ (b.stBytes a l).trgs = b.trgs ∧ (b.stBytes a l).outPins = b.outPins ∧
    (b.stBytes a l).pcs = b.pcs ∧ (b.stBytes a l).ports = b.ports ∧ (b.stBytes a l).caps = b.caps ∧ (b.stBytes a l).evidence = b.evidence ∧
    (b.stBytes a l).replays = b.replays ∧ (b.stBytes a l).plls = b.plls ∧ (b.stBytes a l).planes = b.planes ∧ (b.stBytes a l).spgs = b.spgs ∧
    (b.stBytes a l).comp = b.comp ∧ (b.stBytes a l).outs = b.outs ∧ (b.stBytes a l).bufWait = b.bufWait ∧ (b.stBytes a l).bufOut = b.bufOut ∧
    (b.stBytes a l).strs = b.strs ∧ (b.stBytes a l).neighs = b.neighs ∧ (b.stBytes a l).jobs = b.jobs ∧ (b.stBytes a l).decs = b.decs ∧
    (b.stBytes a l).streamKeys = b.streamKeys ∧ (b.stBytes a l).pfc = b.pfc ∧ (b.stBytes a l).stims = b.stims ∧ (b.stBytes a l).vec = b.vec ∧
    (b.stBytes a l).tim = b.tim ∧ (b.stBytes a l).ptps = b.ptps ∧ (b.stBytes a l).tiu = b.tiu ∧ (b.stBytes a l).cals = b.cals ∧
    (b.stBytes a l).aux = b.aux ∧ (b.stBytes a l).plt = b.plt ∧ (b.stBytes a l).pltPorts = b.pltPorts ∧ (b.stBytes a l).imports = b.imports ∧
    (b.stBytes a l).sys = b.sys ∧ (b.stBytes a l).coolOnce = b.coolOnce ∧ (b.stBytes a l).firstRetired = b.firstRetired ∧
    (b.stBytes a l).poolSize = b.poolSize ∧ (b.stBytes a l).past = b.past ∧ (b.stBytes a l).firn = b.firn ∧ (b.stBytes a l).fresh = b.fresh ∧
    (b.stBytes a l).sent = b.sent ∧ (b.stBytes a l).raised = b.raised ∧ (∀ key, (b.stBytes a l).val key = b.val key) :=
  ⟨rfl, rfl, rfl, rfl, rfl, rfl, rfl, rfl, rfl, rfl, rfl, rfl, rfl, rfl, rfl, rfl, rfl, rfl, rfl, rfl, rfl, rfl, rfl, rfl, rfl, rfl, rfl, rfl,
  rfl, rfl, rfl, rfl, rfl, rfl, rfl, rfl, rfl, rfl, rfl, rfl, rfl, rfl, rfl, rfl, rfl, rfl, rfl, rfl, rfl, rfl, rfl, rfl, rfl, rfl, rfl, rfl,
  rfl, rfl, rfl, rfl, rfl, rfl, rfl, rfl, rfl, rfl, rfl, rfl, rfl, rfl, rfl, rfl, rfl, rfl, rfl, rfl, fun _ => rfl⟩

@[simp] theorem stBytes_stores (b : Block) (a : Nat) (l : List Byte) : (b.stBytes a l).stores = ((l.mapIdx (fun i v => MemOp.byte (a + i) v)).reverse) ++ b.stores := rfl

@[simp] theorem stClear_frame (b : Block) (lo hi : Nat) :
    (b.stClear lo hi).params = b.params ∧ (b.stClear lo hi).waiting = b.waiting ∧ (b.stClear lo hi).dev = b.dev ∧
    (b.stClear lo hi).beat = b.beat ∧ (b.stClear lo hi).cycle = b.cycle ∧ (b.stClear lo hi).ticks = b.ticks ∧
    (b.stClear lo hi).sessions = b.sessions ∧ (b.stClear lo hi).shakes = b.shakes ∧ (b.stClear lo hi).accepted = b.accepted ∧
    (b.stClear lo hi).nextGroup = b.nextGroup ∧ (b.stClear lo hi).txns = b.txns ∧ (b.stClear lo hi).sched = b.sched ∧
    (b.stClear lo hi).nextEntry = b.nextEntry ∧ (b.stClear lo hi).reached = b.reached ∧ (b.stClear lo hi).heldReplies = b.heldReplies ∧
    (b.stClear lo hi).nextHeld = b.nextHeld ∧ (b.stClear lo hi).srcTotal = b.srcTotal ∧ (b.stClear lo hi).srcWin = b.srcWin ∧
    (b.stClear lo hi).supFirst = b.supFirst ∧ (b.stClear lo hi).supTotal = b.supTotal ∧ (b.stClear lo hi).supSrcs = b.supSrcs ∧
    (b.stClear lo hi).winBeat = b.winBeat ∧ (b.stClear lo hi).evtEnd = b.evtEnd ∧ (b.stClear lo hi).evtAt = b.evtAt ∧
    (b.stClear lo hi).counted = b.counted ∧ (b.stClear lo hi).arrivedAt = b.arrivedAt ∧ (b.stClear lo hi).arrived = b.arrived ∧
    (b.stClear lo hi).owned = b.owned ∧ (b.stClear lo hi).cores = b.cores ∧ (b.stClear lo hi).jrx = b.jrx ∧ (b.stClear lo hi).jtx = b.jtx ∧
    (b.stClear lo hi).spi = b.spi ∧ (b.stClear lo hi).shot = b.shot ∧ (b.stClear lo hi).lanes = b.lanes ∧
    (b.stClear lo hi).groupEpochs = b.groupEpochs ∧ (b.stClear lo hi).views = b.views ∧ (b.stClear lo hi).trcs = b.trcs ∧
    (b.stClear lo hi).trgs = b.trgs ∧ (b.stClear lo hi).outPins = b.outPins ∧ (b.stClear lo hi).pcs = b.pcs ∧
    (b.stClear lo hi).ports = b.ports ∧ (b.stClear lo hi).caps = b.caps ∧ (b.stClear lo hi).evidence = b.evidence ∧
    (b.stClear lo hi).replays = b.replays ∧ (b.stClear lo hi).plls = b.plls ∧ (b.stClear lo hi).planes = b.planes ∧
    (b.stClear lo hi).spgs = b.spgs ∧ (b.stClear lo hi).comp = b.comp ∧ (b.stClear lo hi).outs = b.outs ∧
    (b.stClear lo hi).bufWait = b.bufWait ∧ (b.stClear lo hi).bufOut = b.bufOut ∧ (b.stClear lo hi).strs = b.strs ∧
    (b.stClear lo hi).neighs = b.neighs ∧ (b.stClear lo hi).jobs = b.jobs ∧ (b.stClear lo hi).decs = b.decs ∧
    (b.stClear lo hi).streamKeys = b.streamKeys ∧ (b.stClear lo hi).pfc = b.pfc ∧ (b.stClear lo hi).stims = b.stims ∧
    (b.stClear lo hi).vec = b.vec ∧ (b.stClear lo hi).tim = b.tim ∧ (b.stClear lo hi).ptps = b.ptps ∧ (b.stClear lo hi).tiu = b.tiu ∧
    (b.stClear lo hi).cals = b.cals ∧ (b.stClear lo hi).aux = b.aux ∧ (b.stClear lo hi).plt = b.plt ∧ (b.stClear lo hi).pltPorts = b.pltPorts ∧
    (b.stClear lo hi).imports = b.imports ∧ (b.stClear lo hi).sys = b.sys ∧ (b.stClear lo hi).coolOnce = b.coolOnce ∧
    (b.stClear lo hi).firstRetired = b.firstRetired ∧ (b.stClear lo hi).poolSize = b.poolSize ∧ (b.stClear lo hi).past = b.past ∧
    (b.stClear lo hi).firn = b.firn ∧ (b.stClear lo hi).fresh = b.fresh ∧ (b.stClear lo hi).sent = b.sent ∧
    (b.stClear lo hi).raised = b.raised ∧ (∀ key, (b.stClear lo hi).val key = b.val key) :=
  ⟨rfl, rfl, rfl, rfl, rfl, rfl, rfl, rfl, rfl, rfl, rfl, rfl, rfl, rfl, rfl, rfl, rfl, rfl, rfl, rfl, rfl, rfl, rfl, rfl, rfl, rfl, rfl, rfl,
  rfl, rfl, rfl, rfl, rfl, rfl, rfl, rfl, rfl, rfl, rfl, rfl, rfl, rfl, rfl, rfl, rfl, rfl, rfl, rfl, rfl, rfl, rfl, rfl, rfl, rfl, rfl, rfl,
  rfl, rfl, rfl, rfl, rfl, rfl, rfl, rfl, rfl, rfl, rfl, rfl, rfl, rfl, rfl, rfl, rfl, rfl, rfl, rfl, fun _ => rfl⟩

@[simp] theorem stClear_stores (b : Block) (lo hi : Nat) : (b.stClear lo hi).stores = .clear lo hi :: b.stores := rfl

@[simp] theorem send_frame (b : Block) (x : Sent) :
    (b.send x).params = b.params ∧ (b.send x).waiting = b.waiting ∧ (b.send x).dev = b.dev ∧ (b.send x).beat = b.beat ∧
    (b.send x).cycle = b.cycle ∧ (b.send x).ticks = b.ticks ∧ (b.send x).sessions = b.sessions ∧ (b.send x).shakes = b.shakes ∧
    (b.send x).accepted = b.accepted ∧ (b.send x).nextGroup = b.nextGroup ∧ (b.send x).txns = b.txns ∧ (b.send x).sched = b.sched ∧
    (b.send x).nextEntry = b.nextEntry ∧ (b.send x).reached = b.reached ∧ (b.send x).heldReplies = b.heldReplies ∧
    (b.send x).nextHeld = b.nextHeld ∧ (b.send x).srcTotal = b.srcTotal ∧ (b.send x).srcWin = b.srcWin ∧ (b.send x).supFirst = b.supFirst ∧
    (b.send x).supTotal = b.supTotal ∧ (b.send x).supSrcs = b.supSrcs ∧ (b.send x).winBeat = b.winBeat ∧ (b.send x).evtEnd = b.evtEnd ∧
    (b.send x).evtAt = b.evtAt ∧ (b.send x).counted = b.counted ∧ (b.send x).arrivedAt = b.arrivedAt ∧ (b.send x).arrived = b.arrived ∧
    (b.send x).owned = b.owned ∧ (b.send x).cores = b.cores ∧ (b.send x).jrx = b.jrx ∧ (b.send x).jtx = b.jtx ∧ (b.send x).spi = b.spi ∧
    (b.send x).shot = b.shot ∧ (b.send x).lanes = b.lanes ∧ (b.send x).groupEpochs = b.groupEpochs ∧ (b.send x).views = b.views ∧
    (b.send x).trcs = b.trcs ∧ (b.send x).trgs = b.trgs ∧ (b.send x).outPins = b.outPins ∧ (b.send x).pcs = b.pcs ∧ (b.send x).ports = b.ports ∧
    (b.send x).caps = b.caps ∧ (b.send x).evidence = b.evidence ∧ (b.send x).replays = b.replays ∧ (b.send x).plls = b.plls ∧
    (b.send x).planes = b.planes ∧ (b.send x).spgs = b.spgs ∧ (b.send x).comp = b.comp ∧ (b.send x).outs = b.outs ∧
    (b.send x).bufWait = b.bufWait ∧ (b.send x).bufOut = b.bufOut ∧ (b.send x).strs = b.strs ∧ (b.send x).neighs = b.neighs ∧
    (b.send x).jobs = b.jobs ∧ (b.send x).decs = b.decs ∧ (b.send x).streamKeys = b.streamKeys ∧ (b.send x).pfc = b.pfc ∧
    (b.send x).stims = b.stims ∧ (b.send x).vec = b.vec ∧ (b.send x).tim = b.tim ∧ (b.send x).ptps = b.ptps ∧ (b.send x).tiu = b.tiu ∧
    (b.send x).cals = b.cals ∧ (b.send x).aux = b.aux ∧ (b.send x).plt = b.plt ∧ (b.send x).pltPorts = b.pltPorts ∧
    (b.send x).imports = b.imports ∧ (b.send x).sys = b.sys ∧ (b.send x).coolOnce = b.coolOnce ∧ (b.send x).firstRetired = b.firstRetired ∧
    (b.send x).poolSize = b.poolSize ∧ (b.send x).past = b.past ∧ (b.send x).firn = b.firn ∧ (b.send x).fresh = b.fresh ∧
    (b.send x).stores = b.stores ∧ (b.send x).raised = b.raised ∧ (∀ key, (b.send x).val key = b.val key) :=
  ⟨rfl, rfl, rfl, rfl, rfl, rfl, rfl, rfl, rfl, rfl, rfl, rfl, rfl, rfl, rfl, rfl, rfl, rfl, rfl, rfl, rfl, rfl, rfl, rfl, rfl, rfl, rfl, rfl,
  rfl, rfl, rfl, rfl, rfl, rfl, rfl, rfl, rfl, rfl, rfl, rfl, rfl, rfl, rfl, rfl, rfl, rfl, rfl, rfl, rfl, rfl, rfl, rfl, rfl, rfl, rfl, rfl,
  rfl, rfl, rfl, rfl, rfl, rfl, rfl, rfl, rfl, rfl, rfl, rfl, rfl, rfl, rfl, rfl, rfl, rfl, rfl, rfl, fun _ => rfl⟩

@[simp] theorem send_sent (b : Block) (x : Sent) : (b.send x).sent = b.sent ++ [x] := rfl

@[simp] theorem raise_frame (b : Block) (id : Nat) (payload : List Byte) :
    (b.raise id payload).params = b.params ∧ (b.raise id payload).waiting = b.waiting ∧ (b.raise id payload).dev = b.dev ∧
    (b.raise id payload).beat = b.beat ∧ (b.raise id payload).cycle = b.cycle ∧ (b.raise id payload).ticks = b.ticks ∧
    (b.raise id payload).sessions = b.sessions ∧ (b.raise id payload).shakes = b.shakes ∧ (b.raise id payload).accepted = b.accepted ∧
    (b.raise id payload).nextGroup = b.nextGroup ∧ (b.raise id payload).txns = b.txns ∧ (b.raise id payload).sched = b.sched ∧
    (b.raise id payload).nextEntry = b.nextEntry ∧ (b.raise id payload).reached = b.reached ∧ (b.raise id payload).heldReplies = b.heldReplies ∧
    (b.raise id payload).nextHeld = b.nextHeld ∧ (b.raise id payload).srcTotal = b.srcTotal ∧ (b.raise id payload).srcWin = b.srcWin ∧
    (b.raise id payload).supFirst = b.supFirst ∧ (b.raise id payload).supTotal = b.supTotal ∧ (b.raise id payload).supSrcs = b.supSrcs ∧
    (b.raise id payload).winBeat = b.winBeat ∧ (b.raise id payload).evtEnd = b.evtEnd ∧ (b.raise id payload).evtAt = b.evtAt ∧
    (b.raise id payload).counted = b.counted ∧ (b.raise id payload).arrivedAt = b.arrivedAt ∧ (b.raise id payload).arrived = b.arrived ∧
    (b.raise id payload).owned = b.owned ∧ (b.raise id payload).cores = b.cores ∧ (b.raise id payload).jrx = b.jrx ∧
    (b.raise id payload).jtx = b.jtx ∧ (b.raise id payload).spi = b.spi ∧ (b.raise id payload).shot = b.shot ∧
    (b.raise id payload).lanes = b.lanes ∧ (b.raise id payload).groupEpochs = b.groupEpochs ∧ (b.raise id payload).views = b.views ∧
    (b.raise id payload).trcs = b.trcs ∧ (b.raise id payload).trgs = b.trgs ∧ (b.raise id payload).outPins = b.outPins ∧
    (b.raise id payload).pcs = b.pcs ∧ (b.raise id payload).ports = b.ports ∧ (b.raise id payload).caps = b.caps ∧
    (b.raise id payload).evidence = b.evidence ∧ (b.raise id payload).replays = b.replays ∧ (b.raise id payload).plls = b.plls ∧
    (b.raise id payload).planes = b.planes ∧ (b.raise id payload).spgs = b.spgs ∧ (b.raise id payload).comp = b.comp ∧
    (b.raise id payload).outs = b.outs ∧ (b.raise id payload).bufWait = b.bufWait ∧ (b.raise id payload).bufOut = b.bufOut ∧
    (b.raise id payload).strs = b.strs ∧ (b.raise id payload).neighs = b.neighs ∧ (b.raise id payload).jobs = b.jobs ∧
    (b.raise id payload).decs = b.decs ∧ (b.raise id payload).streamKeys = b.streamKeys ∧ (b.raise id payload).pfc = b.pfc ∧
    (b.raise id payload).stims = b.stims ∧ (b.raise id payload).vec = b.vec ∧ (b.raise id payload).tim = b.tim ∧
    (b.raise id payload).ptps = b.ptps ∧ (b.raise id payload).tiu = b.tiu ∧ (b.raise id payload).cals = b.cals ∧
    (b.raise id payload).aux = b.aux ∧ (b.raise id payload).plt = b.plt ∧ (b.raise id payload).pltPorts = b.pltPorts ∧
    (b.raise id payload).imports = b.imports ∧ (b.raise id payload).sys = b.sys ∧ (b.raise id payload).coolOnce = b.coolOnce ∧
    (b.raise id payload).firstRetired = b.firstRetired ∧ (b.raise id payload).poolSize = b.poolSize ∧ (b.raise id payload).past = b.past ∧
    (b.raise id payload).firn = b.firn ∧ (b.raise id payload).fresh = b.fresh ∧ (b.raise id payload).sent = b.sent ∧
    (b.raise id payload).stores = b.stores ∧ (∀ key, (b.raise id payload).val key = b.val key) :=
  ⟨rfl, rfl, rfl, rfl, rfl, rfl, rfl, rfl, rfl, rfl, rfl, rfl, rfl, rfl, rfl, rfl, rfl, rfl, rfl, rfl, rfl, rfl, rfl, rfl, rfl, rfl, rfl, rfl,
  rfl, rfl, rfl, rfl, rfl, rfl, rfl, rfl, rfl, rfl, rfl, rfl, rfl, rfl, rfl, rfl, rfl, rfl, rfl, rfl, rfl, rfl, rfl, rfl, rfl, rfl, rfl, rfl,
  rfl, rfl, rfl, rfl, rfl, rfl, rfl, rfl, rfl, rfl, rfl, rfl, rfl, rfl, rfl, rfl, rfl, rfl, rfl, rfl, fun _ => rfl⟩

@[simp] theorem raise_raised (b : Block) (id : Nat) (payload : List Byte) : (b.raise id payload).raised = b.raised ++ [⟨id, fixLen 16 payload, none⟩] := rfl

@[simp] theorem raiseAt_frame (b : Block) (id : Nat) (payload : List Byte) (t : Fysiva) :
    (b.raiseAt id payload t).params = b.params ∧ (b.raiseAt id payload t).waiting = b.waiting ∧ (b.raiseAt id payload t).dev = b.dev ∧
    (b.raiseAt id payload t).beat = b.beat ∧ (b.raiseAt id payload t).cycle = b.cycle ∧ (b.raiseAt id payload t).ticks = b.ticks ∧
    (b.raiseAt id payload t).sessions = b.sessions ∧ (b.raiseAt id payload t).shakes = b.shakes ∧
    (b.raiseAt id payload t).accepted = b.accepted ∧ (b.raiseAt id payload t).nextGroup = b.nextGroup ∧ (b.raiseAt id payload t).txns = b.txns ∧
    (b.raiseAt id payload t).sched = b.sched ∧ (b.raiseAt id payload t).nextEntry = b.nextEntry ∧ (b.raiseAt id payload t).reached = b.reached ∧
    (b.raiseAt id payload t).heldReplies = b.heldReplies ∧ (b.raiseAt id payload t).nextHeld = b.nextHeld ∧
    (b.raiseAt id payload t).srcTotal = b.srcTotal ∧ (b.raiseAt id payload t).srcWin = b.srcWin ∧
    (b.raiseAt id payload t).supFirst = b.supFirst ∧ (b.raiseAt id payload t).supTotal = b.supTotal ∧
    (b.raiseAt id payload t).supSrcs = b.supSrcs ∧ (b.raiseAt id payload t).winBeat = b.winBeat ∧ (b.raiseAt id payload t).evtEnd = b.evtEnd ∧
    (b.raiseAt id payload t).evtAt = b.evtAt ∧ (b.raiseAt id payload t).counted = b.counted ∧ (b.raiseAt id payload t).arrivedAt = b.arrivedAt ∧
    (b.raiseAt id payload t).arrived = b.arrived ∧ (b.raiseAt id payload t).owned = b.owned ∧ (b.raiseAt id payload t).cores = b.cores ∧
    (b.raiseAt id payload t).jrx = b.jrx ∧ (b.raiseAt id payload t).jtx = b.jtx ∧ (b.raiseAt id payload t).spi = b.spi ∧
    (b.raiseAt id payload t).shot = b.shot ∧ (b.raiseAt id payload t).lanes = b.lanes ∧ (b.raiseAt id payload t).groupEpochs = b.groupEpochs ∧
    (b.raiseAt id payload t).views = b.views ∧ (b.raiseAt id payload t).trcs = b.trcs ∧ (b.raiseAt id payload t).trgs = b.trgs ∧
    (b.raiseAt id payload t).outPins = b.outPins ∧ (b.raiseAt id payload t).pcs = b.pcs ∧ (b.raiseAt id payload t).ports = b.ports ∧
    (b.raiseAt id payload t).caps = b.caps ∧ (b.raiseAt id payload t).evidence = b.evidence ∧ (b.raiseAt id payload t).replays = b.replays ∧
    (b.raiseAt id payload t).plls = b.plls ∧ (b.raiseAt id payload t).planes = b.planes ∧ (b.raiseAt id payload t).spgs = b.spgs ∧
    (b.raiseAt id payload t).comp = b.comp ∧ (b.raiseAt id payload t).outs = b.outs ∧ (b.raiseAt id payload t).bufWait = b.bufWait ∧
    (b.raiseAt id payload t).bufOut = b.bufOut ∧ (b.raiseAt id payload t).strs = b.strs ∧ (b.raiseAt id payload t).neighs = b.neighs ∧
    (b.raiseAt id payload t).jobs = b.jobs ∧ (b.raiseAt id payload t).decs = b.decs ∧ (b.raiseAt id payload t).streamKeys = b.streamKeys ∧
    (b.raiseAt id payload t).pfc = b.pfc ∧ (b.raiseAt id payload t).stims = b.stims ∧ (b.raiseAt id payload t).vec = b.vec ∧
    (b.raiseAt id payload t).tim = b.tim ∧ (b.raiseAt id payload t).ptps = b.ptps ∧ (b.raiseAt id payload t).tiu = b.tiu ∧
    (b.raiseAt id payload t).cals = b.cals ∧ (b.raiseAt id payload t).aux = b.aux ∧ (b.raiseAt id payload t).plt = b.plt ∧
    (b.raiseAt id payload t).pltPorts = b.pltPorts ∧ (b.raiseAt id payload t).imports = b.imports ∧ (b.raiseAt id payload t).sys = b.sys ∧
    (b.raiseAt id payload t).coolOnce = b.coolOnce ∧ (b.raiseAt id payload t).firstRetired = b.firstRetired ∧
    (b.raiseAt id payload t).poolSize = b.poolSize ∧ (b.raiseAt id payload t).past = b.past ∧ (b.raiseAt id payload t).firn = b.firn ∧
    (b.raiseAt id payload t).fresh = b.fresh ∧ (b.raiseAt id payload t).sent = b.sent ∧ (b.raiseAt id payload t).stores = b.stores ∧
    (∀ key, (b.raiseAt id payload t).val key = b.val key) :=
  ⟨rfl, rfl, rfl, rfl, rfl, rfl, rfl, rfl, rfl, rfl, rfl, rfl, rfl, rfl, rfl, rfl, rfl, rfl, rfl, rfl, rfl, rfl, rfl, rfl, rfl, rfl, rfl, rfl,
  rfl, rfl, rfl, rfl, rfl, rfl, rfl, rfl, rfl, rfl, rfl, rfl, rfl, rfl, rfl, rfl, rfl, rfl, rfl, rfl, rfl, rfl, rfl, rfl, rfl, rfl, rfl, rfl,
  rfl, rfl, rfl, rfl, rfl, rfl, rfl, rfl, rfl, rfl, rfl, rfl, rfl, rfl, rfl, rfl, rfl, rfl, rfl, rfl, fun _ => rfl⟩

@[simp] theorem raiseAt_raised (b : Block) (id : Nat) (payload : List Byte) (t : Fysiva) : (b.raiseAt id payload t).raised = b.raised ++ [⟨id, fixLen 16 payload, some t⟩] := rfl

@[simp] theorem setCore_frame (b : Block) (c : Nat) (x : Core) :
    (b.setCore c x).params = b.params ∧ (b.setCore c x).waiting = b.waiting ∧ (b.setCore c x).dev = b.dev ∧ (b.setCore c x).beat = b.beat ∧
    (b.setCore c x).cycle = b.cycle ∧ (b.setCore c x).ticks = b.ticks ∧ (b.setCore c x).sessions = b.sessions ∧
    (b.setCore c x).shakes = b.shakes ∧ (b.setCore c x).accepted = b.accepted ∧ (b.setCore c x).nextGroup = b.nextGroup ∧
    (b.setCore c x).txns = b.txns ∧ (b.setCore c x).sched = b.sched ∧ (b.setCore c x).nextEntry = b.nextEntry ∧
    (b.setCore c x).reached = b.reached ∧ (b.setCore c x).heldReplies = b.heldReplies ∧ (b.setCore c x).nextHeld = b.nextHeld ∧
    (b.setCore c x).srcTotal = b.srcTotal ∧ (b.setCore c x).srcWin = b.srcWin ∧ (b.setCore c x).supFirst = b.supFirst ∧
    (b.setCore c x).supTotal = b.supTotal ∧ (b.setCore c x).supSrcs = b.supSrcs ∧ (b.setCore c x).winBeat = b.winBeat ∧
    (b.setCore c x).evtEnd = b.evtEnd ∧ (b.setCore c x).evtAt = b.evtAt ∧ (b.setCore c x).counted = b.counted ∧
    (b.setCore c x).arrivedAt = b.arrivedAt ∧ (b.setCore c x).arrived = b.arrived ∧ (b.setCore c x).owned = b.owned ∧
    (b.setCore c x).jrx = b.jrx ∧ (b.setCore c x).jtx = b.jtx ∧ (b.setCore c x).spi = b.spi ∧ (b.setCore c x).shot = b.shot ∧
    (b.setCore c x).lanes = b.lanes ∧ (b.setCore c x).groupEpochs = b.groupEpochs ∧ (b.setCore c x).views = b.views ∧
    (b.setCore c x).trcs = b.trcs ∧ (b.setCore c x).trgs = b.trgs ∧ (b.setCore c x).outPins = b.outPins ∧ (b.setCore c x).pcs = b.pcs ∧
    (b.setCore c x).ports = b.ports ∧ (b.setCore c x).caps = b.caps ∧ (b.setCore c x).evidence = b.evidence ∧
    (b.setCore c x).replays = b.replays ∧ (b.setCore c x).plls = b.plls ∧ (b.setCore c x).planes = b.planes ∧ (b.setCore c x).spgs = b.spgs ∧
    (b.setCore c x).comp = b.comp ∧ (b.setCore c x).outs = b.outs ∧ (b.setCore c x).bufWait = b.bufWait ∧ (b.setCore c x).bufOut = b.bufOut ∧
    (b.setCore c x).strs = b.strs ∧ (b.setCore c x).neighs = b.neighs ∧ (b.setCore c x).jobs = b.jobs ∧ (b.setCore c x).decs = b.decs ∧
    (b.setCore c x).streamKeys = b.streamKeys ∧ (b.setCore c x).pfc = b.pfc ∧ (b.setCore c x).stims = b.stims ∧ (b.setCore c x).vec = b.vec ∧
    (b.setCore c x).tim = b.tim ∧ (b.setCore c x).ptps = b.ptps ∧ (b.setCore c x).tiu = b.tiu ∧ (b.setCore c x).cals = b.cals ∧
    (b.setCore c x).aux = b.aux ∧ (b.setCore c x).plt = b.plt ∧ (b.setCore c x).pltPorts = b.pltPorts ∧ (b.setCore c x).imports = b.imports ∧
    (b.setCore c x).sys = b.sys ∧ (b.setCore c x).coolOnce = b.coolOnce ∧ (b.setCore c x).firstRetired = b.firstRetired ∧
    (b.setCore c x).poolSize = b.poolSize ∧ (b.setCore c x).past = b.past ∧ (b.setCore c x).firn = b.firn ∧ (b.setCore c x).fresh = b.fresh ∧
    (b.setCore c x).sent = b.sent ∧ (b.setCore c x).stores = b.stores ∧ (b.setCore c x).raised = b.raised ∧
    (∀ key, (b.setCore c x).val key = b.val key) :=
  ⟨rfl, rfl, rfl, rfl, rfl, rfl, rfl, rfl, rfl, rfl, rfl, rfl, rfl, rfl, rfl, rfl, rfl, rfl, rfl, rfl, rfl, rfl, rfl, rfl, rfl, rfl, rfl, rfl,
  rfl, rfl, rfl, rfl, rfl, rfl, rfl, rfl, rfl, rfl, rfl, rfl, rfl, rfl, rfl, rfl, rfl, rfl, rfl, rfl, rfl, rfl, rfl, rfl, rfl, rfl, rfl, rfl,
  rfl, rfl, rfl, rfl, rfl, rfl, rfl, rfl, rfl, rfl, rfl, rfl, rfl, rfl, rfl, rfl, rfl, rfl, rfl, rfl, fun _ => rfl⟩

@[simp] theorem setCore_cores (b : Block) (c : Nat) (x : Core) : (b.setCore c x).cores = tset b.cores c x := rfl

@[simp] theorem setCore_core (b : Block) (c : Nat) (x : Core) : (b.setCore c x).core c = x := tget_tset_same _ _ _ _

theorem setCore_core_ne (b : Block) (c : Nat) (x : Core) (j : Nat) (h : j ≠ c) : (b.setCore c x).core j = b.core j := tget_tset_ne _ _ _ _ _ h

@[simp] theorem setStim_frame (b : Block) (c : Nat) (x : Stim) :
    (b.setStim c x).params = b.params ∧ (b.setStim c x).waiting = b.waiting ∧ (b.setStim c x).dev = b.dev ∧ (b.setStim c x).beat = b.beat ∧
    (b.setStim c x).cycle = b.cycle ∧ (b.setStim c x).ticks = b.ticks ∧ (b.setStim c x).sessions = b.sessions ∧
    (b.setStim c x).shakes = b.shakes ∧ (b.setStim c x).accepted = b.accepted ∧ (b.setStim c x).nextGroup = b.nextGroup ∧
    (b.setStim c x).txns = b.txns ∧ (b.setStim c x).sched = b.sched ∧ (b.setStim c x).nextEntry = b.nextEntry ∧
    (b.setStim c x).reached = b.reached ∧ (b.setStim c x).heldReplies = b.heldReplies ∧ (b.setStim c x).nextHeld = b.nextHeld ∧
    (b.setStim c x).srcTotal = b.srcTotal ∧ (b.setStim c x).srcWin = b.srcWin ∧ (b.setStim c x).supFirst = b.supFirst ∧
    (b.setStim c x).supTotal = b.supTotal ∧ (b.setStim c x).supSrcs = b.supSrcs ∧ (b.setStim c x).winBeat = b.winBeat ∧
    (b.setStim c x).evtEnd = b.evtEnd ∧ (b.setStim c x).evtAt = b.evtAt ∧ (b.setStim c x).counted = b.counted ∧
    (b.setStim c x).arrivedAt = b.arrivedAt ∧ (b.setStim c x).arrived = b.arrived ∧ (b.setStim c x).owned = b.owned ∧
    (b.setStim c x).cores = b.cores ∧ (b.setStim c x).jrx = b.jrx ∧ (b.setStim c x).jtx = b.jtx ∧ (b.setStim c x).spi = b.spi ∧
    (b.setStim c x).shot = b.shot ∧ (b.setStim c x).lanes = b.lanes ∧ (b.setStim c x).groupEpochs = b.groupEpochs ∧
    (b.setStim c x).views = b.views ∧ (b.setStim c x).trcs = b.trcs ∧ (b.setStim c x).trgs = b.trgs ∧ (b.setStim c x).outPins = b.outPins ∧
    (b.setStim c x).pcs = b.pcs ∧ (b.setStim c x).ports = b.ports ∧ (b.setStim c x).caps = b.caps ∧ (b.setStim c x).evidence = b.evidence ∧
    (b.setStim c x).replays = b.replays ∧ (b.setStim c x).plls = b.plls ∧ (b.setStim c x).planes = b.planes ∧ (b.setStim c x).spgs = b.spgs ∧
    (b.setStim c x).comp = b.comp ∧ (b.setStim c x).outs = b.outs ∧ (b.setStim c x).bufWait = b.bufWait ∧ (b.setStim c x).bufOut = b.bufOut ∧
    (b.setStim c x).strs = b.strs ∧ (b.setStim c x).neighs = b.neighs ∧ (b.setStim c x).jobs = b.jobs ∧ (b.setStim c x).decs = b.decs ∧
    (b.setStim c x).streamKeys = b.streamKeys ∧ (b.setStim c x).pfc = b.pfc ∧ (b.setStim c x).vec = b.vec ∧ (b.setStim c x).tim = b.tim ∧
    (b.setStim c x).ptps = b.ptps ∧ (b.setStim c x).tiu = b.tiu ∧ (b.setStim c x).cals = b.cals ∧ (b.setStim c x).aux = b.aux ∧
    (b.setStim c x).plt = b.plt ∧ (b.setStim c x).pltPorts = b.pltPorts ∧ (b.setStim c x).imports = b.imports ∧ (b.setStim c x).sys = b.sys ∧
    (b.setStim c x).coolOnce = b.coolOnce ∧ (b.setStim c x).firstRetired = b.firstRetired ∧ (b.setStim c x).poolSize = b.poolSize ∧
    (b.setStim c x).past = b.past ∧ (b.setStim c x).firn = b.firn ∧ (b.setStim c x).fresh = b.fresh ∧ (b.setStim c x).sent = b.sent ∧
    (b.setStim c x).stores = b.stores ∧ (b.setStim c x).raised = b.raised ∧ (∀ key, (b.setStim c x).val key = b.val key) :=
  ⟨rfl, rfl, rfl, rfl, rfl, rfl, rfl, rfl, rfl, rfl, rfl, rfl, rfl, rfl, rfl, rfl, rfl, rfl, rfl, rfl, rfl, rfl, rfl, rfl, rfl, rfl, rfl, rfl,
  rfl, rfl, rfl, rfl, rfl, rfl, rfl, rfl, rfl, rfl, rfl, rfl, rfl, rfl, rfl, rfl, rfl, rfl, rfl, rfl, rfl, rfl, rfl, rfl, rfl, rfl, rfl, rfl,
  rfl, rfl, rfl, rfl, rfl, rfl, rfl, rfl, rfl, rfl, rfl, rfl, rfl, rfl, rfl, rfl, rfl, rfl, rfl, rfl, fun _ => rfl⟩

@[simp] theorem setStim_stims (b : Block) (c : Nat) (x : Stim) : (b.setStim c x).stims = tset b.stims c x := rfl

@[simp] theorem setStim_stim (b : Block) (c : Nat) (x : Stim) : (b.setStim c x).stim c = x := tget_tset_same _ _ _ _

theorem setStim_stim_ne (b : Block) (c : Nat) (x : Stim) (j : Nat) (h : j ≠ c) : (b.setStim c x).stim j = b.stim j := tget_tset_ne _ _ _ _ _ h

@[simp] theorem setTrg_frame (b : Block) (u : Nat) (x : TrgUnit) :
    (b.setTrg u x).params = b.params ∧ (b.setTrg u x).waiting = b.waiting ∧ (b.setTrg u x).dev = b.dev ∧ (b.setTrg u x).beat = b.beat ∧
    (b.setTrg u x).cycle = b.cycle ∧ (b.setTrg u x).ticks = b.ticks ∧ (b.setTrg u x).sessions = b.sessions ∧ (b.setTrg u x).shakes = b.shakes ∧
    (b.setTrg u x).accepted = b.accepted ∧ (b.setTrg u x).nextGroup = b.nextGroup ∧ (b.setTrg u x).txns = b.txns ∧
    (b.setTrg u x).sched = b.sched ∧ (b.setTrg u x).nextEntry = b.nextEntry ∧ (b.setTrg u x).reached = b.reached ∧
    (b.setTrg u x).heldReplies = b.heldReplies ∧ (b.setTrg u x).nextHeld = b.nextHeld ∧ (b.setTrg u x).srcTotal = b.srcTotal ∧
    (b.setTrg u x).srcWin = b.srcWin ∧ (b.setTrg u x).supFirst = b.supFirst ∧ (b.setTrg u x).supTotal = b.supTotal ∧
    (b.setTrg u x).supSrcs = b.supSrcs ∧ (b.setTrg u x).winBeat = b.winBeat ∧ (b.setTrg u x).evtEnd = b.evtEnd ∧
    (b.setTrg u x).evtAt = b.evtAt ∧ (b.setTrg u x).counted = b.counted ∧ (b.setTrg u x).arrivedAt = b.arrivedAt ∧
    (b.setTrg u x).arrived = b.arrived ∧ (b.setTrg u x).owned = b.owned ∧ (b.setTrg u x).cores = b.cores ∧ (b.setTrg u x).jrx = b.jrx ∧
    (b.setTrg u x).jtx = b.jtx ∧ (b.setTrg u x).spi = b.spi ∧ (b.setTrg u x).shot = b.shot ∧ (b.setTrg u x).lanes = b.lanes ∧
    (b.setTrg u x).groupEpochs = b.groupEpochs ∧ (b.setTrg u x).views = b.views ∧ (b.setTrg u x).trcs = b.trcs ∧
    (b.setTrg u x).outPins = b.outPins ∧ (b.setTrg u x).pcs = b.pcs ∧ (b.setTrg u x).ports = b.ports ∧ (b.setTrg u x).caps = b.caps ∧
    (b.setTrg u x).evidence = b.evidence ∧ (b.setTrg u x).replays = b.replays ∧ (b.setTrg u x).plls = b.plls ∧
    (b.setTrg u x).planes = b.planes ∧ (b.setTrg u x).spgs = b.spgs ∧ (b.setTrg u x).comp = b.comp ∧ (b.setTrg u x).outs = b.outs ∧
    (b.setTrg u x).bufWait = b.bufWait ∧ (b.setTrg u x).bufOut = b.bufOut ∧ (b.setTrg u x).strs = b.strs ∧ (b.setTrg u x).neighs = b.neighs ∧
    (b.setTrg u x).jobs = b.jobs ∧ (b.setTrg u x).decs = b.decs ∧ (b.setTrg u x).streamKeys = b.streamKeys ∧ (b.setTrg u x).pfc = b.pfc ∧
    (b.setTrg u x).stims = b.stims ∧ (b.setTrg u x).vec = b.vec ∧ (b.setTrg u x).tim = b.tim ∧ (b.setTrg u x).ptps = b.ptps ∧
    (b.setTrg u x).tiu = b.tiu ∧ (b.setTrg u x).cals = b.cals ∧ (b.setTrg u x).aux = b.aux ∧ (b.setTrg u x).plt = b.plt ∧
    (b.setTrg u x).pltPorts = b.pltPorts ∧ (b.setTrg u x).imports = b.imports ∧ (b.setTrg u x).sys = b.sys ∧
    (b.setTrg u x).coolOnce = b.coolOnce ∧ (b.setTrg u x).firstRetired = b.firstRetired ∧ (b.setTrg u x).poolSize = b.poolSize ∧
    (b.setTrg u x).past = b.past ∧ (b.setTrg u x).firn = b.firn ∧ (b.setTrg u x).fresh = b.fresh ∧ (b.setTrg u x).sent = b.sent ∧
    (b.setTrg u x).stores = b.stores ∧ (b.setTrg u x).raised = b.raised ∧ (∀ key, (b.setTrg u x).val key = b.val key) :=
  ⟨rfl, rfl, rfl, rfl, rfl, rfl, rfl, rfl, rfl, rfl, rfl, rfl, rfl, rfl, rfl, rfl, rfl, rfl, rfl, rfl, rfl, rfl, rfl, rfl, rfl, rfl, rfl, rfl,
  rfl, rfl, rfl, rfl, rfl, rfl, rfl, rfl, rfl, rfl, rfl, rfl, rfl, rfl, rfl, rfl, rfl, rfl, rfl, rfl, rfl, rfl, rfl, rfl, rfl, rfl, rfl, rfl,
  rfl, rfl, rfl, rfl, rfl, rfl, rfl, rfl, rfl, rfl, rfl, rfl, rfl, rfl, rfl, rfl, rfl, rfl, rfl, rfl, fun _ => rfl⟩

@[simp] theorem setTrg_trgs (b : Block) (u : Nat) (x : TrgUnit) : (b.setTrg u x).trgs = tset b.trgs u x := rfl

@[simp] theorem setTrg_trg (b : Block) (u : Nat) (x : TrgUnit) : (b.setTrg u x).trg u = x := tget_tset_same _ _ _ _

theorem setTrg_trg_ne (b : Block) (u : Nat) (x : TrgUnit) (j : Nat) (h : j ≠ u) : (b.setTrg u x).trg j = b.trg j := tget_tset_ne _ _ _ _ _ h

@[simp] theorem setSession_frame (b : Block) (s : Session) :
    (b.setSession s).params = b.params ∧ (b.setSession s).waiting = b.waiting ∧ (b.setSession s).dev = b.dev ∧ (b.setSession s).beat = b.beat ∧
    (b.setSession s).cycle = b.cycle ∧ (b.setSession s).ticks = b.ticks ∧ (b.setSession s).shakes = b.shakes ∧
    (b.setSession s).accepted = b.accepted ∧ (b.setSession s).nextGroup = b.nextGroup ∧ (b.setSession s).txns = b.txns ∧
    (b.setSession s).sched = b.sched ∧ (b.setSession s).nextEntry = b.nextEntry ∧ (b.setSession s).reached = b.reached ∧
    (b.setSession s).heldReplies = b.heldReplies ∧ (b.setSession s).nextHeld = b.nextHeld ∧ (b.setSession s).srcTotal = b.srcTotal ∧
    (b.setSession s).srcWin = b.srcWin ∧ (b.setSession s).supFirst = b.supFirst ∧ (b.setSession s).supTotal = b.supTotal ∧
    (b.setSession s).supSrcs = b.supSrcs ∧ (b.setSession s).winBeat = b.winBeat ∧ (b.setSession s).evtEnd = b.evtEnd ∧
    (b.setSession s).evtAt = b.evtAt ∧ (b.setSession s).counted = b.counted ∧ (b.setSession s).arrivedAt = b.arrivedAt ∧
    (b.setSession s).arrived = b.arrived ∧ (b.setSession s).owned = b.owned ∧ (b.setSession s).cores = b.cores ∧ (b.setSession s).jrx = b.jrx ∧
    (b.setSession s).jtx = b.jtx ∧ (b.setSession s).spi = b.spi ∧ (b.setSession s).shot = b.shot ∧ (b.setSession s).lanes = b.lanes ∧
    (b.setSession s).groupEpochs = b.groupEpochs ∧ (b.setSession s).views = b.views ∧ (b.setSession s).trcs = b.trcs ∧
    (b.setSession s).trgs = b.trgs ∧ (b.setSession s).outPins = b.outPins ∧ (b.setSession s).pcs = b.pcs ∧ (b.setSession s).ports = b.ports ∧
    (b.setSession s).caps = b.caps ∧ (b.setSession s).evidence = b.evidence ∧ (b.setSession s).replays = b.replays ∧
    (b.setSession s).plls = b.plls ∧ (b.setSession s).planes = b.planes ∧ (b.setSession s).spgs = b.spgs ∧ (b.setSession s).comp = b.comp ∧
    (b.setSession s).outs = b.outs ∧ (b.setSession s).bufWait = b.bufWait ∧ (b.setSession s).bufOut = b.bufOut ∧
    (b.setSession s).strs = b.strs ∧ (b.setSession s).neighs = b.neighs ∧ (b.setSession s).jobs = b.jobs ∧ (b.setSession s).decs = b.decs ∧
    (b.setSession s).streamKeys = b.streamKeys ∧ (b.setSession s).pfc = b.pfc ∧ (b.setSession s).stims = b.stims ∧
    (b.setSession s).vec = b.vec ∧ (b.setSession s).tim = b.tim ∧ (b.setSession s).ptps = b.ptps ∧ (b.setSession s).tiu = b.tiu ∧
    (b.setSession s).cals = b.cals ∧ (b.setSession s).aux = b.aux ∧ (b.setSession s).plt = b.plt ∧ (b.setSession s).pltPorts = b.pltPorts ∧
    (b.setSession s).imports = b.imports ∧ (b.setSession s).sys = b.sys ∧ (b.setSession s).coolOnce = b.coolOnce ∧
    (b.setSession s).firstRetired = b.firstRetired ∧ (b.setSession s).poolSize = b.poolSize ∧ (b.setSession s).past = b.past ∧
    (b.setSession s).firn = b.firn ∧ (b.setSession s).fresh = b.fresh ∧ (b.setSession s).sent = b.sent ∧ (b.setSession s).stores = b.stores ∧
    (b.setSession s).raised = b.raised ∧ (∀ key, (b.setSession s).val key = b.val key) :=
  ⟨rfl, rfl, rfl, rfl, rfl, rfl, rfl, rfl, rfl, rfl, rfl, rfl, rfl, rfl, rfl, rfl, rfl, rfl, rfl, rfl, rfl, rfl, rfl, rfl, rfl, rfl, rfl, rfl,
  rfl, rfl, rfl, rfl, rfl, rfl, rfl, rfl, rfl, rfl, rfl, rfl, rfl, rfl, rfl, rfl, rfl, rfl, rfl, rfl, rfl, rfl, rfl, rfl, rfl, rfl, rfl, rfl,
  rfl, rfl, rfl, rfl, rfl, rfl, rfl, rfl, rfl, rfl, rfl, rfl, rfl, rfl, rfl, rfl, rfl, rfl, rfl, rfl, fun _ => rfl⟩

@[simp] theorem setSession_sessions (b : Block) (s : Session) : (b.setSession s).sessions = b.sessions.map (fun x => if x.id = s.id then s else x) := rfl

@[simp] theorem setStr_frame (b : Block) (s : Nat) (x : Str) :
    (b.setStr s x).params = b.params ∧ (b.setStr s x).waiting = b.waiting ∧ (b.setStr s x).dev = b.dev ∧ (b.setStr s x).beat = b.beat ∧
    (b.setStr s x).cycle = b.cycle ∧ (b.setStr s x).ticks = b.ticks ∧ (b.setStr s x).sessions = b.sessions ∧ (b.setStr s x).shakes = b.shakes ∧
    (b.setStr s x).accepted = b.accepted ∧ (b.setStr s x).nextGroup = b.nextGroup ∧ (b.setStr s x).txns = b.txns ∧
    (b.setStr s x).sched = b.sched ∧ (b.setStr s x).nextEntry = b.nextEntry ∧ (b.setStr s x).reached = b.reached ∧
    (b.setStr s x).heldReplies = b.heldReplies ∧ (b.setStr s x).nextHeld = b.nextHeld ∧ (b.setStr s x).srcTotal = b.srcTotal ∧
    (b.setStr s x).srcWin = b.srcWin ∧ (b.setStr s x).supFirst = b.supFirst ∧ (b.setStr s x).supTotal = b.supTotal ∧
    (b.setStr s x).supSrcs = b.supSrcs ∧ (b.setStr s x).winBeat = b.winBeat ∧ (b.setStr s x).evtEnd = b.evtEnd ∧
    (b.setStr s x).evtAt = b.evtAt ∧ (b.setStr s x).counted = b.counted ∧ (b.setStr s x).arrivedAt = b.arrivedAt ∧
    (b.setStr s x).arrived = b.arrived ∧ (b.setStr s x).owned = b.owned ∧ (b.setStr s x).cores = b.cores ∧ (b.setStr s x).jrx = b.jrx ∧
    (b.setStr s x).jtx = b.jtx ∧ (b.setStr s x).spi = b.spi ∧ (b.setStr s x).shot = b.shot ∧ (b.setStr s x).lanes = b.lanes ∧
    (b.setStr s x).groupEpochs = b.groupEpochs ∧ (b.setStr s x).views = b.views ∧ (b.setStr s x).trcs = b.trcs ∧ (b.setStr s x).trgs = b.trgs ∧
    (b.setStr s x).outPins = b.outPins ∧ (b.setStr s x).pcs = b.pcs ∧ (b.setStr s x).ports = b.ports ∧ (b.setStr s x).caps = b.caps ∧
    (b.setStr s x).evidence = b.evidence ∧ (b.setStr s x).replays = b.replays ∧ (b.setStr s x).plls = b.plls ∧
    (b.setStr s x).planes = b.planes ∧ (b.setStr s x).spgs = b.spgs ∧ (b.setStr s x).comp = b.comp ∧ (b.setStr s x).outs = b.outs ∧
    (b.setStr s x).bufWait = b.bufWait ∧ (b.setStr s x).bufOut = b.bufOut ∧ (b.setStr s x).neighs = b.neighs ∧ (b.setStr s x).jobs = b.jobs ∧
    (b.setStr s x).decs = b.decs ∧ (b.setStr s x).streamKeys = b.streamKeys ∧ (b.setStr s x).pfc = b.pfc ∧ (b.setStr s x).stims = b.stims ∧
    (b.setStr s x).vec = b.vec ∧ (b.setStr s x).tim = b.tim ∧ (b.setStr s x).ptps = b.ptps ∧ (b.setStr s x).tiu = b.tiu ∧
    (b.setStr s x).cals = b.cals ∧ (b.setStr s x).aux = b.aux ∧ (b.setStr s x).plt = b.plt ∧ (b.setStr s x).pltPorts = b.pltPorts ∧
    (b.setStr s x).imports = b.imports ∧ (b.setStr s x).sys = b.sys ∧ (b.setStr s x).coolOnce = b.coolOnce ∧
    (b.setStr s x).firstRetired = b.firstRetired ∧ (b.setStr s x).poolSize = b.poolSize ∧ (b.setStr s x).past = b.past ∧
    (b.setStr s x).firn = b.firn ∧ (b.setStr s x).fresh = b.fresh ∧ (b.setStr s x).sent = b.sent ∧ (b.setStr s x).stores = b.stores ∧
    (b.setStr s x).raised = b.raised ∧ (∀ key, (b.setStr s x).val key = b.val key) :=
  ⟨rfl, rfl, rfl, rfl, rfl, rfl, rfl, rfl, rfl, rfl, rfl, rfl, rfl, rfl, rfl, rfl, rfl, rfl, rfl, rfl, rfl, rfl, rfl, rfl, rfl, rfl, rfl, rfl,
  rfl, rfl, rfl, rfl, rfl, rfl, rfl, rfl, rfl, rfl, rfl, rfl, rfl, rfl, rfl, rfl, rfl, rfl, rfl, rfl, rfl, rfl, rfl, rfl, rfl, rfl, rfl, rfl,
  rfl, rfl, rfl, rfl, rfl, rfl, rfl, rfl, rfl, rfl, rfl, rfl, rfl, rfl, rfl, rfl, rfl, rfl, rfl, rfl, fun _ => rfl⟩

@[simp] theorem setStr_strs (b : Block) (s : Nat) (x : Str) : (b.setStr s x).strs = tset b.strs s x := rfl

@[simp] theorem setStr_str (b : Block) (s : Nat) (x : Str) : (b.setStr s x).str s = x := tget_tset_same _ _ _ _

theorem setStr_str_ne (b : Block) (s : Nat) (x : Str) (j : Nat) (h : j ≠ s) : (b.setStr s x).str j = b.str j := tget_tset_ne _ _ _ _ _ h

@[simp] theorem setDec_frame (b : Block) (d : Nat) (x : Dec) :
    (b.setDec d x).params = b.params ∧ (b.setDec d x).waiting = b.waiting ∧ (b.setDec d x).dev = b.dev ∧ (b.setDec d x).beat = b.beat ∧
    (b.setDec d x).cycle = b.cycle ∧ (b.setDec d x).ticks = b.ticks ∧ (b.setDec d x).sessions = b.sessions ∧ (b.setDec d x).shakes = b.shakes ∧
    (b.setDec d x).accepted = b.accepted ∧ (b.setDec d x).nextGroup = b.nextGroup ∧ (b.setDec d x).txns = b.txns ∧
    (b.setDec d x).sched = b.sched ∧ (b.setDec d x).nextEntry = b.nextEntry ∧ (b.setDec d x).reached = b.reached ∧
    (b.setDec d x).heldReplies = b.heldReplies ∧ (b.setDec d x).nextHeld = b.nextHeld ∧ (b.setDec d x).srcTotal = b.srcTotal ∧
    (b.setDec d x).srcWin = b.srcWin ∧ (b.setDec d x).supFirst = b.supFirst ∧ (b.setDec d x).supTotal = b.supTotal ∧
    (b.setDec d x).supSrcs = b.supSrcs ∧ (b.setDec d x).winBeat = b.winBeat ∧ (b.setDec d x).evtEnd = b.evtEnd ∧
    (b.setDec d x).evtAt = b.evtAt ∧ (b.setDec d x).counted = b.counted ∧ (b.setDec d x).arrivedAt = b.arrivedAt ∧
    (b.setDec d x).arrived = b.arrived ∧ (b.setDec d x).owned = b.owned ∧ (b.setDec d x).cores = b.cores ∧ (b.setDec d x).jrx = b.jrx ∧
    (b.setDec d x).jtx = b.jtx ∧ (b.setDec d x).spi = b.spi ∧ (b.setDec d x).shot = b.shot ∧ (b.setDec d x).lanes = b.lanes ∧
    (b.setDec d x).groupEpochs = b.groupEpochs ∧ (b.setDec d x).views = b.views ∧ (b.setDec d x).trcs = b.trcs ∧ (b.setDec d x).trgs = b.trgs ∧
    (b.setDec d x).outPins = b.outPins ∧ (b.setDec d x).pcs = b.pcs ∧ (b.setDec d x).ports = b.ports ∧ (b.setDec d x).caps = b.caps ∧
    (b.setDec d x).evidence = b.evidence ∧ (b.setDec d x).replays = b.replays ∧ (b.setDec d x).plls = b.plls ∧
    (b.setDec d x).planes = b.planes ∧ (b.setDec d x).spgs = b.spgs ∧ (b.setDec d x).comp = b.comp ∧ (b.setDec d x).outs = b.outs ∧
    (b.setDec d x).bufWait = b.bufWait ∧ (b.setDec d x).bufOut = b.bufOut ∧ (b.setDec d x).strs = b.strs ∧ (b.setDec d x).neighs = b.neighs ∧
    (b.setDec d x).jobs = b.jobs ∧ (b.setDec d x).streamKeys = b.streamKeys ∧ (b.setDec d x).pfc = b.pfc ∧ (b.setDec d x).stims = b.stims ∧
    (b.setDec d x).vec = b.vec ∧ (b.setDec d x).tim = b.tim ∧ (b.setDec d x).ptps = b.ptps ∧ (b.setDec d x).tiu = b.tiu ∧
    (b.setDec d x).cals = b.cals ∧ (b.setDec d x).aux = b.aux ∧ (b.setDec d x).plt = b.plt ∧ (b.setDec d x).pltPorts = b.pltPorts ∧
    (b.setDec d x).imports = b.imports ∧ (b.setDec d x).sys = b.sys ∧ (b.setDec d x).coolOnce = b.coolOnce ∧
    (b.setDec d x).firstRetired = b.firstRetired ∧ (b.setDec d x).poolSize = b.poolSize ∧ (b.setDec d x).past = b.past ∧
    (b.setDec d x).firn = b.firn ∧ (b.setDec d x).fresh = b.fresh ∧ (b.setDec d x).sent = b.sent ∧ (b.setDec d x).stores = b.stores ∧
    (b.setDec d x).raised = b.raised ∧ (∀ key, (b.setDec d x).val key = b.val key) :=
  ⟨rfl, rfl, rfl, rfl, rfl, rfl, rfl, rfl, rfl, rfl, rfl, rfl, rfl, rfl, rfl, rfl, rfl, rfl, rfl, rfl, rfl, rfl, rfl, rfl, rfl, rfl, rfl, rfl,
  rfl, rfl, rfl, rfl, rfl, rfl, rfl, rfl, rfl, rfl, rfl, rfl, rfl, rfl, rfl, rfl, rfl, rfl, rfl, rfl, rfl, rfl, rfl, rfl, rfl, rfl, rfl, rfl,
  rfl, rfl, rfl, rfl, rfl, rfl, rfl, rfl, rfl, rfl, rfl, rfl, rfl, rfl, rfl, rfl, rfl, rfl, rfl, rfl, fun _ => rfl⟩

@[simp] theorem setDec_decs (b : Block) (d : Nat) (x : Dec) : (b.setDec d x).decs = tset b.decs d x := rfl

@[simp] theorem setDec_dec (b : Block) (d : Nat) (x : Dec) : (b.setDec d x).dec d = x := tget_tset_same _ _ _ _

theorem setDec_dec_ne (b : Block) (d : Nat) (x : Dec) (j : Nat) (h : j ≠ d) : (b.setDec d x).dec j = b.dec j := tget_tset_ne _ _ _ _ _ h

@[simp] theorem setPlt_frame (b : Block) (x : Plait) :
    (b.setPlt x).params = b.params ∧ (b.setPlt x).waiting = b.waiting ∧ (b.setPlt x).dev = b.dev ∧ (b.setPlt x).beat = b.beat ∧
    (b.setPlt x).cycle = b.cycle ∧ (b.setPlt x).ticks = b.ticks ∧ (b.setPlt x).sessions = b.sessions ∧ (b.setPlt x).shakes = b.shakes ∧
    (b.setPlt x).accepted = b.accepted ∧ (b.setPlt x).nextGroup = b.nextGroup ∧ (b.setPlt x).txns = b.txns ∧ (b.setPlt x).sched = b.sched ∧
    (b.setPlt x).nextEntry = b.nextEntry ∧ (b.setPlt x).reached = b.reached ∧ (b.setPlt x).heldReplies = b.heldReplies ∧
    (b.setPlt x).nextHeld = b.nextHeld ∧ (b.setPlt x).srcTotal = b.srcTotal ∧ (b.setPlt x).srcWin = b.srcWin ∧
    (b.setPlt x).supFirst = b.supFirst ∧ (b.setPlt x).supTotal = b.supTotal ∧ (b.setPlt x).supSrcs = b.supSrcs ∧
    (b.setPlt x).winBeat = b.winBeat ∧ (b.setPlt x).evtEnd = b.evtEnd ∧ (b.setPlt x).evtAt = b.evtAt ∧ (b.setPlt x).counted = b.counted ∧
    (b.setPlt x).arrivedAt = b.arrivedAt ∧ (b.setPlt x).arrived = b.arrived ∧ (b.setPlt x).owned = b.owned ∧ (b.setPlt x).cores = b.cores ∧
    (b.setPlt x).jrx = b.jrx ∧ (b.setPlt x).jtx = b.jtx ∧ (b.setPlt x).spi = b.spi ∧ (b.setPlt x).shot = b.shot ∧ (b.setPlt x).lanes = b.lanes ∧
    (b.setPlt x).groupEpochs = b.groupEpochs ∧ (b.setPlt x).views = b.views ∧ (b.setPlt x).trcs = b.trcs ∧ (b.setPlt x).trgs = b.trgs ∧
    (b.setPlt x).outPins = b.outPins ∧ (b.setPlt x).pcs = b.pcs ∧ (b.setPlt x).ports = b.ports ∧ (b.setPlt x).caps = b.caps ∧
    (b.setPlt x).evidence = b.evidence ∧ (b.setPlt x).replays = b.replays ∧ (b.setPlt x).plls = b.plls ∧ (b.setPlt x).planes = b.planes ∧
    (b.setPlt x).spgs = b.spgs ∧ (b.setPlt x).comp = b.comp ∧ (b.setPlt x).outs = b.outs ∧ (b.setPlt x).bufWait = b.bufWait ∧
    (b.setPlt x).bufOut = b.bufOut ∧ (b.setPlt x).strs = b.strs ∧ (b.setPlt x).neighs = b.neighs ∧ (b.setPlt x).jobs = b.jobs ∧
    (b.setPlt x).decs = b.decs ∧ (b.setPlt x).streamKeys = b.streamKeys ∧ (b.setPlt x).pfc = b.pfc ∧ (b.setPlt x).stims = b.stims ∧
    (b.setPlt x).vec = b.vec ∧ (b.setPlt x).tim = b.tim ∧ (b.setPlt x).ptps = b.ptps ∧ (b.setPlt x).tiu = b.tiu ∧ (b.setPlt x).cals = b.cals ∧
    (b.setPlt x).aux = b.aux ∧ (b.setPlt x).pltPorts = b.pltPorts ∧ (b.setPlt x).imports = b.imports ∧ (b.setPlt x).sys = b.sys ∧
    (b.setPlt x).coolOnce = b.coolOnce ∧ (b.setPlt x).firstRetired = b.firstRetired ∧ (b.setPlt x).poolSize = b.poolSize ∧
    (b.setPlt x).past = b.past ∧ (b.setPlt x).firn = b.firn ∧ (b.setPlt x).fresh = b.fresh ∧ (b.setPlt x).sent = b.sent ∧
    (b.setPlt x).stores = b.stores ∧ (b.setPlt x).raised = b.raised ∧ (∀ key, (b.setPlt x).val key = b.val key) :=
  ⟨rfl, rfl, rfl, rfl, rfl, rfl, rfl, rfl, rfl, rfl, rfl, rfl, rfl, rfl, rfl, rfl, rfl, rfl, rfl, rfl, rfl, rfl, rfl, rfl, rfl, rfl, rfl, rfl,
  rfl, rfl, rfl, rfl, rfl, rfl, rfl, rfl, rfl, rfl, rfl, rfl, rfl, rfl, rfl, rfl, rfl, rfl, rfl, rfl, rfl, rfl, rfl, rfl, rfl, rfl, rfl, rfl,
  rfl, rfl, rfl, rfl, rfl, rfl, rfl, rfl, rfl, rfl, rfl, rfl, rfl, rfl, rfl, rfl, rfl, rfl, rfl, rfl, fun _ => rfl⟩

@[simp] theorem setPlt_plt (b : Block) (x : Plait) : (b.setPlt x).plt = x := rfl

@[simp] theorem setPPort_frame (b : Block) (p : Nat) (x : PltPort) :
    (b.setPPort p x).params = b.params ∧ (b.setPPort p x).waiting = b.waiting ∧ (b.setPPort p x).dev = b.dev ∧ (b.setPPort p x).beat = b.beat ∧
    (b.setPPort p x).cycle = b.cycle ∧ (b.setPPort p x).ticks = b.ticks ∧ (b.setPPort p x).sessions = b.sessions ∧
    (b.setPPort p x).shakes = b.shakes ∧ (b.setPPort p x).accepted = b.accepted ∧ (b.setPPort p x).nextGroup = b.nextGroup ∧
    (b.setPPort p x).txns = b.txns ∧ (b.setPPort p x).sched = b.sched ∧ (b.setPPort p x).nextEntry = b.nextEntry ∧
    (b.setPPort p x).reached = b.reached ∧ (b.setPPort p x).heldReplies = b.heldReplies ∧ (b.setPPort p x).nextHeld = b.nextHeld ∧
    (b.setPPort p x).srcTotal = b.srcTotal ∧ (b.setPPort p x).srcWin = b.srcWin ∧ (b.setPPort p x).supFirst = b.supFirst ∧
    (b.setPPort p x).supTotal = b.supTotal ∧ (b.setPPort p x).supSrcs = b.supSrcs ∧ (b.setPPort p x).winBeat = b.winBeat ∧
    (b.setPPort p x).evtEnd = b.evtEnd ∧ (b.setPPort p x).evtAt = b.evtAt ∧ (b.setPPort p x).counted = b.counted ∧
    (b.setPPort p x).arrivedAt = b.arrivedAt ∧ (b.setPPort p x).arrived = b.arrived ∧ (b.setPPort p x).owned = b.owned ∧
    (b.setPPort p x).cores = b.cores ∧ (b.setPPort p x).jrx = b.jrx ∧ (b.setPPort p x).jtx = b.jtx ∧ (b.setPPort p x).spi = b.spi ∧
    (b.setPPort p x).shot = b.shot ∧ (b.setPPort p x).lanes = b.lanes ∧ (b.setPPort p x).groupEpochs = b.groupEpochs ∧
    (b.setPPort p x).views = b.views ∧ (b.setPPort p x).trcs = b.trcs ∧ (b.setPPort p x).trgs = b.trgs ∧ (b.setPPort p x).outPins = b.outPins ∧
    (b.setPPort p x).pcs = b.pcs ∧ (b.setPPort p x).ports = b.ports ∧ (b.setPPort p x).caps = b.caps ∧ (b.setPPort p x).evidence = b.evidence ∧
    (b.setPPort p x).replays = b.replays ∧ (b.setPPort p x).plls = b.plls ∧ (b.setPPort p x).planes = b.planes ∧
    (b.setPPort p x).spgs = b.spgs ∧ (b.setPPort p x).comp = b.comp ∧ (b.setPPort p x).outs = b.outs ∧ (b.setPPort p x).bufWait = b.bufWait ∧
    (b.setPPort p x).bufOut = b.bufOut ∧ (b.setPPort p x).strs = b.strs ∧ (b.setPPort p x).neighs = b.neighs ∧ (b.setPPort p x).jobs = b.jobs ∧
    (b.setPPort p x).decs = b.decs ∧ (b.setPPort p x).streamKeys = b.streamKeys ∧ (b.setPPort p x).pfc = b.pfc ∧
    (b.setPPort p x).stims = b.stims ∧ (b.setPPort p x).vec = b.vec ∧ (b.setPPort p x).tim = b.tim ∧ (b.setPPort p x).ptps = b.ptps ∧
    (b.setPPort p x).tiu = b.tiu ∧ (b.setPPort p x).cals = b.cals ∧ (b.setPPort p x).aux = b.aux ∧ (b.setPPort p x).plt = b.plt ∧
    (b.setPPort p x).imports = b.imports ∧ (b.setPPort p x).sys = b.sys ∧ (b.setPPort p x).coolOnce = b.coolOnce ∧
    (b.setPPort p x).firstRetired = b.firstRetired ∧ (b.setPPort p x).poolSize = b.poolSize ∧ (b.setPPort p x).past = b.past ∧
    (b.setPPort p x).firn = b.firn ∧ (b.setPPort p x).fresh = b.fresh ∧ (b.setPPort p x).sent = b.sent ∧ (b.setPPort p x).stores = b.stores ∧
    (b.setPPort p x).raised = b.raised ∧ (∀ key, (b.setPPort p x).val key = b.val key) :=
  ⟨rfl, rfl, rfl, rfl, rfl, rfl, rfl, rfl, rfl, rfl, rfl, rfl, rfl, rfl, rfl, rfl, rfl, rfl, rfl, rfl, rfl, rfl, rfl, rfl, rfl, rfl, rfl, rfl,
  rfl, rfl, rfl, rfl, rfl, rfl, rfl, rfl, rfl, rfl, rfl, rfl, rfl, rfl, rfl, rfl, rfl, rfl, rfl, rfl, rfl, rfl, rfl, rfl, rfl, rfl, rfl, rfl,
  rfl, rfl, rfl, rfl, rfl, rfl, rfl, rfl, rfl, rfl, rfl, rfl, rfl, rfl, rfl, rfl, rfl, rfl, rfl, rfl, fun _ => rfl⟩

@[simp] theorem setPPort_pltPorts (b : Block) (p : Nat) (x : PltPort) : (b.setPPort p x).pltPorts = tset b.pltPorts p x := rfl

@[simp] theorem setPPort_pPort (b : Block) (p : Nat) (x : PltPort) : (b.setPPort p x).pPort p = x := tget_tset_same _ _ _ _

theorem setPPort_pPort_ne (b : Block) (p : Nat) (x : PltPort) (j : Nat) (h : j ≠ p) : (b.setPPort p x).pPort j = b.pPort j := tget_tset_ne _ _ _ _ _ h

@[simp] theorem setImp_frame (b : Block) (m : Nat) (x : Import) :
    (b.setImp m x).params = b.params ∧ (b.setImp m x).waiting = b.waiting ∧ (b.setImp m x).dev = b.dev ∧ (b.setImp m x).beat = b.beat ∧
    (b.setImp m x).cycle = b.cycle ∧ (b.setImp m x).ticks = b.ticks ∧ (b.setImp m x).sessions = b.sessions ∧ (b.setImp m x).shakes = b.shakes ∧
    (b.setImp m x).accepted = b.accepted ∧ (b.setImp m x).nextGroup = b.nextGroup ∧ (b.setImp m x).txns = b.txns ∧
    (b.setImp m x).sched = b.sched ∧ (b.setImp m x).nextEntry = b.nextEntry ∧ (b.setImp m x).reached = b.reached ∧
    (b.setImp m x).heldReplies = b.heldReplies ∧ (b.setImp m x).nextHeld = b.nextHeld ∧ (b.setImp m x).srcTotal = b.srcTotal ∧
    (b.setImp m x).srcWin = b.srcWin ∧ (b.setImp m x).supFirst = b.supFirst ∧ (b.setImp m x).supTotal = b.supTotal ∧
    (b.setImp m x).supSrcs = b.supSrcs ∧ (b.setImp m x).winBeat = b.winBeat ∧ (b.setImp m x).evtEnd = b.evtEnd ∧
    (b.setImp m x).evtAt = b.evtAt ∧ (b.setImp m x).counted = b.counted ∧ (b.setImp m x).arrivedAt = b.arrivedAt ∧
    (b.setImp m x).arrived = b.arrived ∧ (b.setImp m x).owned = b.owned ∧ (b.setImp m x).cores = b.cores ∧ (b.setImp m x).jrx = b.jrx ∧
    (b.setImp m x).jtx = b.jtx ∧ (b.setImp m x).spi = b.spi ∧ (b.setImp m x).shot = b.shot ∧ (b.setImp m x).lanes = b.lanes ∧
    (b.setImp m x).groupEpochs = b.groupEpochs ∧ (b.setImp m x).views = b.views ∧ (b.setImp m x).trcs = b.trcs ∧ (b.setImp m x).trgs = b.trgs ∧
    (b.setImp m x).outPins = b.outPins ∧ (b.setImp m x).pcs = b.pcs ∧ (b.setImp m x).ports = b.ports ∧ (b.setImp m x).caps = b.caps ∧
    (b.setImp m x).evidence = b.evidence ∧ (b.setImp m x).replays = b.replays ∧ (b.setImp m x).plls = b.plls ∧
    (b.setImp m x).planes = b.planes ∧ (b.setImp m x).spgs = b.spgs ∧ (b.setImp m x).comp = b.comp ∧ (b.setImp m x).outs = b.outs ∧
    (b.setImp m x).bufWait = b.bufWait ∧ (b.setImp m x).bufOut = b.bufOut ∧ (b.setImp m x).strs = b.strs ∧ (b.setImp m x).neighs = b.neighs ∧
    (b.setImp m x).jobs = b.jobs ∧ (b.setImp m x).decs = b.decs ∧ (b.setImp m x).streamKeys = b.streamKeys ∧ (b.setImp m x).pfc = b.pfc ∧
    (b.setImp m x).stims = b.stims ∧ (b.setImp m x).vec = b.vec ∧ (b.setImp m x).tim = b.tim ∧ (b.setImp m x).ptps = b.ptps ∧
    (b.setImp m x).tiu = b.tiu ∧ (b.setImp m x).cals = b.cals ∧ (b.setImp m x).aux = b.aux ∧ (b.setImp m x).plt = b.plt ∧
    (b.setImp m x).pltPorts = b.pltPorts ∧ (b.setImp m x).sys = b.sys ∧ (b.setImp m x).coolOnce = b.coolOnce ∧
    (b.setImp m x).firstRetired = b.firstRetired ∧ (b.setImp m x).poolSize = b.poolSize ∧ (b.setImp m x).past = b.past ∧
    (b.setImp m x).firn = b.firn ∧ (b.setImp m x).fresh = b.fresh ∧ (b.setImp m x).sent = b.sent ∧ (b.setImp m x).stores = b.stores ∧
    (b.setImp m x).raised = b.raised ∧ (∀ key, (b.setImp m x).val key = b.val key) :=
  ⟨rfl, rfl, rfl, rfl, rfl, rfl, rfl, rfl, rfl, rfl, rfl, rfl, rfl, rfl, rfl, rfl, rfl, rfl, rfl, rfl, rfl, rfl, rfl, rfl, rfl, rfl, rfl, rfl,
  rfl, rfl, rfl, rfl, rfl, rfl, rfl, rfl, rfl, rfl, rfl, rfl, rfl, rfl, rfl, rfl, rfl, rfl, rfl, rfl, rfl, rfl, rfl, rfl, rfl, rfl, rfl, rfl,
  rfl, rfl, rfl, rfl, rfl, rfl, rfl, rfl, rfl, rfl, rfl, rfl, rfl, rfl, rfl, rfl, rfl, rfl, rfl, rfl, fun _ => rfl⟩

@[simp] theorem setImp_imports (b : Block) (m : Nat) (x : Import) : (b.setImp m x).imports = tset b.imports m x := rfl

@[simp] theorem setImp_imp (b : Block) (m : Nat) (x : Import) : (b.setImp m x).imp m = x := tget_tset_same _ _ _ _

theorem setImp_imp_ne (b : Block) (m : Nat) (x : Import) (j : Nat) (h : j ≠ m) : (b.setImp m x).imp j = b.imp j := tget_tset_ne _ _ _ _ _ h

@[simp] theorem setNeigh_frame (b : Block) (x : Neigh) :
    (b.setNeigh x).params = b.params ∧ (b.setNeigh x).waiting = b.waiting ∧ (b.setNeigh x).dev = b.dev ∧ (b.setNeigh x).beat = b.beat ∧
    (b.setNeigh x).cycle = b.cycle ∧ (b.setNeigh x).ticks = b.ticks ∧ (b.setNeigh x).sessions = b.sessions ∧ (b.setNeigh x).shakes = b.shakes ∧
    (b.setNeigh x).accepted = b.accepted ∧ (b.setNeigh x).nextGroup = b.nextGroup ∧ (b.setNeigh x).txns = b.txns ∧
    (b.setNeigh x).sched = b.sched ∧ (b.setNeigh x).nextEntry = b.nextEntry ∧ (b.setNeigh x).reached = b.reached ∧
    (b.setNeigh x).heldReplies = b.heldReplies ∧ (b.setNeigh x).nextHeld = b.nextHeld ∧ (b.setNeigh x).srcTotal = b.srcTotal ∧
    (b.setNeigh x).srcWin = b.srcWin ∧ (b.setNeigh x).supFirst = b.supFirst ∧ (b.setNeigh x).supTotal = b.supTotal ∧
    (b.setNeigh x).supSrcs = b.supSrcs ∧ (b.setNeigh x).winBeat = b.winBeat ∧ (b.setNeigh x).evtEnd = b.evtEnd ∧
    (b.setNeigh x).evtAt = b.evtAt ∧ (b.setNeigh x).counted = b.counted ∧ (b.setNeigh x).arrivedAt = b.arrivedAt ∧
    (b.setNeigh x).arrived = b.arrived ∧ (b.setNeigh x).owned = b.owned ∧ (b.setNeigh x).cores = b.cores ∧ (b.setNeigh x).jrx = b.jrx ∧
    (b.setNeigh x).jtx = b.jtx ∧ (b.setNeigh x).spi = b.spi ∧ (b.setNeigh x).shot = b.shot ∧ (b.setNeigh x).lanes = b.lanes ∧
    (b.setNeigh x).groupEpochs = b.groupEpochs ∧ (b.setNeigh x).views = b.views ∧ (b.setNeigh x).trcs = b.trcs ∧ (b.setNeigh x).trgs = b.trgs ∧
    (b.setNeigh x).outPins = b.outPins ∧ (b.setNeigh x).pcs = b.pcs ∧ (b.setNeigh x).ports = b.ports ∧ (b.setNeigh x).caps = b.caps ∧
    (b.setNeigh x).evidence = b.evidence ∧ (b.setNeigh x).replays = b.replays ∧ (b.setNeigh x).plls = b.plls ∧
    (b.setNeigh x).planes = b.planes ∧ (b.setNeigh x).spgs = b.spgs ∧ (b.setNeigh x).comp = b.comp ∧ (b.setNeigh x).outs = b.outs ∧
    (b.setNeigh x).bufWait = b.bufWait ∧ (b.setNeigh x).bufOut = b.bufOut ∧ (b.setNeigh x).strs = b.strs ∧ (b.setNeigh x).jobs = b.jobs ∧
    (b.setNeigh x).decs = b.decs ∧ (b.setNeigh x).streamKeys = b.streamKeys ∧ (b.setNeigh x).pfc = b.pfc ∧ (b.setNeigh x).stims = b.stims ∧
    (b.setNeigh x).vec = b.vec ∧ (b.setNeigh x).tim = b.tim ∧ (b.setNeigh x).ptps = b.ptps ∧ (b.setNeigh x).tiu = b.tiu ∧
    (b.setNeigh x).cals = b.cals ∧ (b.setNeigh x).aux = b.aux ∧ (b.setNeigh x).plt = b.plt ∧ (b.setNeigh x).pltPorts = b.pltPorts ∧
    (b.setNeigh x).imports = b.imports ∧ (b.setNeigh x).sys = b.sys ∧ (b.setNeigh x).coolOnce = b.coolOnce ∧
    (b.setNeigh x).firstRetired = b.firstRetired ∧ (b.setNeigh x).poolSize = b.poolSize ∧ (b.setNeigh x).past = b.past ∧
    (b.setNeigh x).firn = b.firn ∧ (b.setNeigh x).fresh = b.fresh ∧ (b.setNeigh x).sent = b.sent ∧ (b.setNeigh x).stores = b.stores ∧
    (b.setNeigh x).raised = b.raised ∧ (∀ key, (b.setNeigh x).val key = b.val key) :=
  ⟨rfl, rfl, rfl, rfl, rfl, rfl, rfl, rfl, rfl, rfl, rfl, rfl, rfl, rfl, rfl, rfl, rfl, rfl, rfl, rfl, rfl, rfl, rfl, rfl, rfl, rfl, rfl, rfl,
  rfl, rfl, rfl, rfl, rfl, rfl, rfl, rfl, rfl, rfl, rfl, rfl, rfl, rfl, rfl, rfl, rfl, rfl, rfl, rfl, rfl, rfl, rfl, rfl, rfl, rfl, rfl, rfl,
  rfl, rfl, rfl, rfl, rfl, rfl, rfl, rfl, rfl, rfl, rfl, rfl, rfl, rfl, rfl, rfl, rfl, rfl, rfl, rfl, fun _ => rfl⟩

@[simp] theorem setNeigh_neighs (b : Block) (x : Neigh) : (b.setNeigh x).neighs = x :: b.neighs.filter (fun y => !y.is x.iface x.v6 x.ip) := rfl

@[simp] theorem setOut_frame (b : Block) (o : Nat) (x : Out) :
    (b.setOut o x).params = b.params ∧ (b.setOut o x).waiting = b.waiting ∧ (b.setOut o x).dev = b.dev ∧ (b.setOut o x).beat = b.beat ∧
    (b.setOut o x).cycle = b.cycle ∧ (b.setOut o x).ticks = b.ticks ∧ (b.setOut o x).sessions = b.sessions ∧ (b.setOut o x).shakes = b.shakes ∧
    (b.setOut o x).accepted = b.accepted ∧ (b.setOut o x).nextGroup = b.nextGroup ∧ (b.setOut o x).txns = b.txns ∧
    (b.setOut o x).sched = b.sched ∧ (b.setOut o x).nextEntry = b.nextEntry ∧ (b.setOut o x).reached = b.reached ∧
    (b.setOut o x).heldReplies = b.heldReplies ∧ (b.setOut o x).nextHeld = b.nextHeld ∧ (b.setOut o x).srcTotal = b.srcTotal ∧
    (b.setOut o x).srcWin = b.srcWin ∧ (b.setOut o x).supFirst = b.supFirst ∧ (b.setOut o x).supTotal = b.supTotal ∧
    (b.setOut o x).supSrcs = b.supSrcs ∧ (b.setOut o x).winBeat = b.winBeat ∧ (b.setOut o x).evtEnd = b.evtEnd ∧
    (b.setOut o x).evtAt = b.evtAt ∧ (b.setOut o x).counted = b.counted ∧ (b.setOut o x).arrivedAt = b.arrivedAt ∧
    (b.setOut o x).arrived = b.arrived ∧ (b.setOut o x).owned = b.owned ∧ (b.setOut o x).cores = b.cores ∧ (b.setOut o x).jrx = b.jrx ∧
    (b.setOut o x).jtx = b.jtx ∧ (b.setOut o x).spi = b.spi ∧ (b.setOut o x).shot = b.shot ∧ (b.setOut o x).lanes = b.lanes ∧
    (b.setOut o x).groupEpochs = b.groupEpochs ∧ (b.setOut o x).views = b.views ∧ (b.setOut o x).trcs = b.trcs ∧ (b.setOut o x).trgs = b.trgs ∧
    (b.setOut o x).outPins = b.outPins ∧ (b.setOut o x).pcs = b.pcs ∧ (b.setOut o x).ports = b.ports ∧ (b.setOut o x).caps = b.caps ∧
    (b.setOut o x).evidence = b.evidence ∧ (b.setOut o x).replays = b.replays ∧ (b.setOut o x).plls = b.plls ∧
    (b.setOut o x).planes = b.planes ∧ (b.setOut o x).spgs = b.spgs ∧ (b.setOut o x).comp = b.comp ∧ (b.setOut o x).bufWait = b.bufWait ∧
    (b.setOut o x).bufOut = b.bufOut ∧ (b.setOut o x).strs = b.strs ∧ (b.setOut o x).neighs = b.neighs ∧ (b.setOut o x).jobs = b.jobs ∧
    (b.setOut o x).decs = b.decs ∧ (b.setOut o x).streamKeys = b.streamKeys ∧ (b.setOut o x).pfc = b.pfc ∧ (b.setOut o x).stims = b.stims ∧
    (b.setOut o x).vec = b.vec ∧ (b.setOut o x).tim = b.tim ∧ (b.setOut o x).ptps = b.ptps ∧ (b.setOut o x).tiu = b.tiu ∧
    (b.setOut o x).cals = b.cals ∧ (b.setOut o x).aux = b.aux ∧ (b.setOut o x).plt = b.plt ∧ (b.setOut o x).pltPorts = b.pltPorts ∧
    (b.setOut o x).imports = b.imports ∧ (b.setOut o x).sys = b.sys ∧ (b.setOut o x).coolOnce = b.coolOnce ∧
    (b.setOut o x).firstRetired = b.firstRetired ∧ (b.setOut o x).poolSize = b.poolSize ∧ (b.setOut o x).past = b.past ∧
    (b.setOut o x).firn = b.firn ∧ (b.setOut o x).fresh = b.fresh ∧ (b.setOut o x).sent = b.sent ∧ (b.setOut o x).stores = b.stores ∧
    (b.setOut o x).raised = b.raised ∧ (∀ key, (b.setOut o x).val key = b.val key) :=
  ⟨rfl, rfl, rfl, rfl, rfl, rfl, rfl, rfl, rfl, rfl, rfl, rfl, rfl, rfl, rfl, rfl, rfl, rfl, rfl, rfl, rfl, rfl, rfl, rfl, rfl, rfl, rfl, rfl,
  rfl, rfl, rfl, rfl, rfl, rfl, rfl, rfl, rfl, rfl, rfl, rfl, rfl, rfl, rfl, rfl, rfl, rfl, rfl, rfl, rfl, rfl, rfl, rfl, rfl, rfl, rfl, rfl,
  rfl, rfl, rfl, rfl, rfl, rfl, rfl, rfl, rfl, rfl, rfl, rfl, rfl, rfl, rfl, rfl, rfl, rfl, rfl, rfl, fun _ => rfl⟩

@[simp] theorem setOut_outs (b : Block) (o : Nat) (x : Out) : (b.setOut o x).outs = tset b.outs o x := rfl

@[simp] theorem setOut_out (b : Block) (o : Nat) (x : Out) : (b.setOut o x).out o = x := tget_tset_same _ _ _ _

theorem setOut_out_ne (b : Block) (o : Nat) (x : Out) (j : Nat) (h : j ≠ o) : (b.setOut o x).out j = b.out j := tget_tset_ne _ _ _ _ _ h

@[simp] theorem setPc_frame (b : Block) (p : Nat) (x : Pc) :
    (b.setPc p x).params = b.params ∧ (b.setPc p x).waiting = b.waiting ∧ (b.setPc p x).dev = b.dev ∧ (b.setPc p x).beat = b.beat ∧
    (b.setPc p x).cycle = b.cycle ∧ (b.setPc p x).ticks = b.ticks ∧ (b.setPc p x).sessions = b.sessions ∧ (b.setPc p x).shakes = b.shakes ∧
    (b.setPc p x).accepted = b.accepted ∧ (b.setPc p x).nextGroup = b.nextGroup ∧ (b.setPc p x).txns = b.txns ∧ (b.setPc p x).sched = b.sched ∧
    (b.setPc p x).nextEntry = b.nextEntry ∧ (b.setPc p x).reached = b.reached ∧ (b.setPc p x).heldReplies = b.heldReplies ∧
    (b.setPc p x).nextHeld = b.nextHeld ∧ (b.setPc p x).srcTotal = b.srcTotal ∧ (b.setPc p x).srcWin = b.srcWin ∧
    (b.setPc p x).supFirst = b.supFirst ∧ (b.setPc p x).supTotal = b.supTotal ∧ (b.setPc p x).supSrcs = b.supSrcs ∧
    (b.setPc p x).winBeat = b.winBeat ∧ (b.setPc p x).evtEnd = b.evtEnd ∧ (b.setPc p x).evtAt = b.evtAt ∧ (b.setPc p x).counted = b.counted ∧
    (b.setPc p x).arrivedAt = b.arrivedAt ∧ (b.setPc p x).arrived = b.arrived ∧ (b.setPc p x).owned = b.owned ∧ (b.setPc p x).cores = b.cores ∧
    (b.setPc p x).jrx = b.jrx ∧ (b.setPc p x).jtx = b.jtx ∧ (b.setPc p x).spi = b.spi ∧ (b.setPc p x).shot = b.shot ∧
    (b.setPc p x).lanes = b.lanes ∧ (b.setPc p x).groupEpochs = b.groupEpochs ∧ (b.setPc p x).views = b.views ∧ (b.setPc p x).trcs = b.trcs ∧
    (b.setPc p x).trgs = b.trgs ∧ (b.setPc p x).outPins = b.outPins ∧ (b.setPc p x).ports = b.ports ∧ (b.setPc p x).caps = b.caps ∧
    (b.setPc p x).evidence = b.evidence ∧ (b.setPc p x).replays = b.replays ∧ (b.setPc p x).plls = b.plls ∧ (b.setPc p x).planes = b.planes ∧
    (b.setPc p x).spgs = b.spgs ∧ (b.setPc p x).comp = b.comp ∧ (b.setPc p x).outs = b.outs ∧ (b.setPc p x).bufWait = b.bufWait ∧
    (b.setPc p x).bufOut = b.bufOut ∧ (b.setPc p x).strs = b.strs ∧ (b.setPc p x).neighs = b.neighs ∧ (b.setPc p x).jobs = b.jobs ∧
    (b.setPc p x).decs = b.decs ∧ (b.setPc p x).streamKeys = b.streamKeys ∧ (b.setPc p x).pfc = b.pfc ∧ (b.setPc p x).stims = b.stims ∧
    (b.setPc p x).vec = b.vec ∧ (b.setPc p x).tim = b.tim ∧ (b.setPc p x).ptps = b.ptps ∧ (b.setPc p x).tiu = b.tiu ∧
    (b.setPc p x).cals = b.cals ∧ (b.setPc p x).aux = b.aux ∧ (b.setPc p x).plt = b.plt ∧ (b.setPc p x).pltPorts = b.pltPorts ∧
    (b.setPc p x).imports = b.imports ∧ (b.setPc p x).sys = b.sys ∧ (b.setPc p x).coolOnce = b.coolOnce ∧
    (b.setPc p x).firstRetired = b.firstRetired ∧ (b.setPc p x).poolSize = b.poolSize ∧ (b.setPc p x).past = b.past ∧
    (b.setPc p x).firn = b.firn ∧ (b.setPc p x).fresh = b.fresh ∧ (b.setPc p x).sent = b.sent ∧ (b.setPc p x).stores = b.stores ∧
    (b.setPc p x).raised = b.raised ∧ (∀ key, (b.setPc p x).val key = b.val key) :=
  ⟨rfl, rfl, rfl, rfl, rfl, rfl, rfl, rfl, rfl, rfl, rfl, rfl, rfl, rfl, rfl, rfl, rfl, rfl, rfl, rfl, rfl, rfl, rfl, rfl, rfl, rfl, rfl, rfl,
  rfl, rfl, rfl, rfl, rfl, rfl, rfl, rfl, rfl, rfl, rfl, rfl, rfl, rfl, rfl, rfl, rfl, rfl, rfl, rfl, rfl, rfl, rfl, rfl, rfl, rfl, rfl, rfl,
  rfl, rfl, rfl, rfl, rfl, rfl, rfl, rfl, rfl, rfl, rfl, rfl, rfl, rfl, rfl, rfl, rfl, rfl, rfl, rfl, fun _ => rfl⟩

@[simp] theorem setPc_pcs (b : Block) (p : Nat) (x : Pc) : (b.setPc p x).pcs = tset b.pcs p x := rfl

@[simp] theorem setPc_pc (b : Block) (p : Nat) (x : Pc) : (b.setPc p x).pc p = x := tget_tset_same _ _ _ _

theorem setPc_pc_ne (b : Block) (p : Nat) (x : Pc) (j : Nat) (h : j ≠ p) : (b.setPc p x).pc j = b.pc j := tget_tset_ne _ _ _ _ _ h

@[simp] theorem setCal_frame (b : Block) (t : Nat) (x : Cal) :
    (b.setCal t x).params = b.params ∧ (b.setCal t x).waiting = b.waiting ∧ (b.setCal t x).dev = b.dev ∧ (b.setCal t x).beat = b.beat ∧
    (b.setCal t x).cycle = b.cycle ∧ (b.setCal t x).ticks = b.ticks ∧ (b.setCal t x).sessions = b.sessions ∧ (b.setCal t x).shakes = b.shakes ∧
    (b.setCal t x).accepted = b.accepted ∧ (b.setCal t x).nextGroup = b.nextGroup ∧ (b.setCal t x).txns = b.txns ∧
    (b.setCal t x).sched = b.sched ∧ (b.setCal t x).nextEntry = b.nextEntry ∧ (b.setCal t x).reached = b.reached ∧
    (b.setCal t x).heldReplies = b.heldReplies ∧ (b.setCal t x).nextHeld = b.nextHeld ∧ (b.setCal t x).srcTotal = b.srcTotal ∧
    (b.setCal t x).srcWin = b.srcWin ∧ (b.setCal t x).supFirst = b.supFirst ∧ (b.setCal t x).supTotal = b.supTotal ∧
    (b.setCal t x).supSrcs = b.supSrcs ∧ (b.setCal t x).winBeat = b.winBeat ∧ (b.setCal t x).evtEnd = b.evtEnd ∧
    (b.setCal t x).evtAt = b.evtAt ∧ (b.setCal t x).counted = b.counted ∧ (b.setCal t x).arrivedAt = b.arrivedAt ∧
    (b.setCal t x).arrived = b.arrived ∧ (b.setCal t x).owned = b.owned ∧ (b.setCal t x).cores = b.cores ∧ (b.setCal t x).jrx = b.jrx ∧
    (b.setCal t x).jtx = b.jtx ∧ (b.setCal t x).spi = b.spi ∧ (b.setCal t x).shot = b.shot ∧ (b.setCal t x).lanes = b.lanes ∧
    (b.setCal t x).groupEpochs = b.groupEpochs ∧ (b.setCal t x).views = b.views ∧ (b.setCal t x).trcs = b.trcs ∧ (b.setCal t x).trgs = b.trgs ∧
    (b.setCal t x).outPins = b.outPins ∧ (b.setCal t x).pcs = b.pcs ∧ (b.setCal t x).ports = b.ports ∧ (b.setCal t x).caps = b.caps ∧
    (b.setCal t x).evidence = b.evidence ∧ (b.setCal t x).replays = b.replays ∧ (b.setCal t x).plls = b.plls ∧
    (b.setCal t x).planes = b.planes ∧ (b.setCal t x).spgs = b.spgs ∧ (b.setCal t x).comp = b.comp ∧ (b.setCal t x).outs = b.outs ∧
    (b.setCal t x).bufWait = b.bufWait ∧ (b.setCal t x).bufOut = b.bufOut ∧ (b.setCal t x).strs = b.strs ∧ (b.setCal t x).neighs = b.neighs ∧
    (b.setCal t x).jobs = b.jobs ∧ (b.setCal t x).decs = b.decs ∧ (b.setCal t x).streamKeys = b.streamKeys ∧ (b.setCal t x).pfc = b.pfc ∧
    (b.setCal t x).stims = b.stims ∧ (b.setCal t x).vec = b.vec ∧ (b.setCal t x).tim = b.tim ∧ (b.setCal t x).ptps = b.ptps ∧
    (b.setCal t x).tiu = b.tiu ∧ (b.setCal t x).aux = b.aux ∧ (b.setCal t x).plt = b.plt ∧ (b.setCal t x).pltPorts = b.pltPorts ∧
    (b.setCal t x).imports = b.imports ∧ (b.setCal t x).sys = b.sys ∧ (b.setCal t x).coolOnce = b.coolOnce ∧
    (b.setCal t x).firstRetired = b.firstRetired ∧ (b.setCal t x).poolSize = b.poolSize ∧ (b.setCal t x).past = b.past ∧
    (b.setCal t x).firn = b.firn ∧ (b.setCal t x).fresh = b.fresh ∧ (b.setCal t x).sent = b.sent ∧ (b.setCal t x).stores = b.stores ∧
    (b.setCal t x).raised = b.raised ∧ (∀ key, (b.setCal t x).val key = b.val key) :=
  ⟨rfl, rfl, rfl, rfl, rfl, rfl, rfl, rfl, rfl, rfl, rfl, rfl, rfl, rfl, rfl, rfl, rfl, rfl, rfl, rfl, rfl, rfl, rfl, rfl, rfl, rfl, rfl, rfl,
  rfl, rfl, rfl, rfl, rfl, rfl, rfl, rfl, rfl, rfl, rfl, rfl, rfl, rfl, rfl, rfl, rfl, rfl, rfl, rfl, rfl, rfl, rfl, rfl, rfl, rfl, rfl, rfl,
  rfl, rfl, rfl, rfl, rfl, rfl, rfl, rfl, rfl, rfl, rfl, rfl, rfl, rfl, rfl, rfl, rfl, rfl, rfl, rfl, fun _ => rfl⟩

@[simp] theorem setCal_cals (b : Block) (t : Nat) (x : Cal) : (b.setCal t x).cals = tset b.cals t x := rfl

@[simp] theorem setCal_cal (b : Block) (t : Nat) (x : Cal) : (b.setCal t x).cal t = x := tget_tset_same _ _ _ _

theorem setCal_cal_ne (b : Block) (t : Nat) (x : Cal) (j : Nat) (h : j ≠ t) : (b.setCal t x).cal j = b.cal j := tget_tset_ne _ _ _ _ _ h

@[simp] theorem setPll_frame (b : Block) (n : Nat) (x : Pll) :
    (b.setPll n x).params = b.params ∧ (b.setPll n x).waiting = b.waiting ∧ (b.setPll n x).dev = b.dev ∧ (b.setPll n x).beat = b.beat ∧
    (b.setPll n x).cycle = b.cycle ∧ (b.setPll n x).ticks = b.ticks ∧ (b.setPll n x).sessions = b.sessions ∧ (b.setPll n x).shakes = b.shakes ∧
    (b.setPll n x).accepted = b.accepted ∧ (b.setPll n x).nextGroup = b.nextGroup ∧ (b.setPll n x).txns = b.txns ∧
    (b.setPll n x).sched = b.sched ∧ (b.setPll n x).nextEntry = b.nextEntry ∧ (b.setPll n x).reached = b.reached ∧
    (b.setPll n x).heldReplies = b.heldReplies ∧ (b.setPll n x).nextHeld = b.nextHeld ∧ (b.setPll n x).srcTotal = b.srcTotal ∧
    (b.setPll n x).srcWin = b.srcWin ∧ (b.setPll n x).supFirst = b.supFirst ∧ (b.setPll n x).supTotal = b.supTotal ∧
    (b.setPll n x).supSrcs = b.supSrcs ∧ (b.setPll n x).winBeat = b.winBeat ∧ (b.setPll n x).evtEnd = b.evtEnd ∧
    (b.setPll n x).evtAt = b.evtAt ∧ (b.setPll n x).counted = b.counted ∧ (b.setPll n x).arrivedAt = b.arrivedAt ∧
    (b.setPll n x).arrived = b.arrived ∧ (b.setPll n x).owned = b.owned ∧ (b.setPll n x).cores = b.cores ∧ (b.setPll n x).jrx = b.jrx ∧
    (b.setPll n x).jtx = b.jtx ∧ (b.setPll n x).spi = b.spi ∧ (b.setPll n x).shot = b.shot ∧ (b.setPll n x).lanes = b.lanes ∧
    (b.setPll n x).groupEpochs = b.groupEpochs ∧ (b.setPll n x).views = b.views ∧ (b.setPll n x).trcs = b.trcs ∧ (b.setPll n x).trgs = b.trgs ∧
    (b.setPll n x).outPins = b.outPins ∧ (b.setPll n x).pcs = b.pcs ∧ (b.setPll n x).ports = b.ports ∧ (b.setPll n x).caps = b.caps ∧
    (b.setPll n x).evidence = b.evidence ∧ (b.setPll n x).replays = b.replays ∧ (b.setPll n x).planes = b.planes ∧
    (b.setPll n x).spgs = b.spgs ∧ (b.setPll n x).comp = b.comp ∧ (b.setPll n x).outs = b.outs ∧ (b.setPll n x).bufWait = b.bufWait ∧
    (b.setPll n x).bufOut = b.bufOut ∧ (b.setPll n x).strs = b.strs ∧ (b.setPll n x).neighs = b.neighs ∧ (b.setPll n x).jobs = b.jobs ∧
    (b.setPll n x).decs = b.decs ∧ (b.setPll n x).streamKeys = b.streamKeys ∧ (b.setPll n x).pfc = b.pfc ∧ (b.setPll n x).stims = b.stims ∧
    (b.setPll n x).vec = b.vec ∧ (b.setPll n x).tim = b.tim ∧ (b.setPll n x).ptps = b.ptps ∧ (b.setPll n x).tiu = b.tiu ∧
    (b.setPll n x).cals = b.cals ∧ (b.setPll n x).aux = b.aux ∧ (b.setPll n x).plt = b.plt ∧ (b.setPll n x).pltPorts = b.pltPorts ∧
    (b.setPll n x).imports = b.imports ∧ (b.setPll n x).sys = b.sys ∧ (b.setPll n x).coolOnce = b.coolOnce ∧
    (b.setPll n x).firstRetired = b.firstRetired ∧ (b.setPll n x).poolSize = b.poolSize ∧ (b.setPll n x).past = b.past ∧
    (b.setPll n x).firn = b.firn ∧ (b.setPll n x).fresh = b.fresh ∧ (b.setPll n x).sent = b.sent ∧ (b.setPll n x).stores = b.stores ∧
    (b.setPll n x).raised = b.raised ∧ (∀ key, (b.setPll n x).val key = b.val key) :=
  ⟨rfl, rfl, rfl, rfl, rfl, rfl, rfl, rfl, rfl, rfl, rfl, rfl, rfl, rfl, rfl, rfl, rfl, rfl, rfl, rfl, rfl, rfl, rfl, rfl, rfl, rfl, rfl, rfl,
  rfl, rfl, rfl, rfl, rfl, rfl, rfl, rfl, rfl, rfl, rfl, rfl, rfl, rfl, rfl, rfl, rfl, rfl, rfl, rfl, rfl, rfl, rfl, rfl, rfl, rfl, rfl, rfl,
  rfl, rfl, rfl, rfl, rfl, rfl, rfl, rfl, rfl, rfl, rfl, rfl, rfl, rfl, rfl, rfl, rfl, rfl, rfl, rfl, fun _ => rfl⟩

@[simp] theorem setPll_plls (b : Block) (n : Nat) (x : Pll) : (b.setPll n x).plls = tset b.plls n x := rfl

@[simp] theorem setPll_pll (b : Block) (n : Nat) (x : Pll) : (b.setPll n x).pll n = x := tget_tset_same _ _ _ _

theorem setPll_pll_ne (b : Block) (n : Nat) (x : Pll) (j : Nat) (h : j ≠ n) : (b.setPll n x).pll j = b.pll j := tget_tset_ne _ _ _ _ _ h

@[simp] theorem setPlane_frame (b : Block) (p : Nat) (x : Plane) :
    (b.setPlane p x).params = b.params ∧ (b.setPlane p x).waiting = b.waiting ∧ (b.setPlane p x).dev = b.dev ∧ (b.setPlane p x).beat = b.beat ∧
    (b.setPlane p x).cycle = b.cycle ∧ (b.setPlane p x).ticks = b.ticks ∧ (b.setPlane p x).sessions = b.sessions ∧
    (b.setPlane p x).shakes = b.shakes ∧ (b.setPlane p x).accepted = b.accepted ∧ (b.setPlane p x).nextGroup = b.nextGroup ∧
    (b.setPlane p x).txns = b.txns ∧ (b.setPlane p x).sched = b.sched ∧ (b.setPlane p x).nextEntry = b.nextEntry ∧
    (b.setPlane p x).reached = b.reached ∧ (b.setPlane p x).heldReplies = b.heldReplies ∧ (b.setPlane p x).nextHeld = b.nextHeld ∧
    (b.setPlane p x).srcTotal = b.srcTotal ∧ (b.setPlane p x).srcWin = b.srcWin ∧ (b.setPlane p x).supFirst = b.supFirst ∧
    (b.setPlane p x).supTotal = b.supTotal ∧ (b.setPlane p x).supSrcs = b.supSrcs ∧ (b.setPlane p x).winBeat = b.winBeat ∧
    (b.setPlane p x).evtEnd = b.evtEnd ∧ (b.setPlane p x).evtAt = b.evtAt ∧ (b.setPlane p x).counted = b.counted ∧
    (b.setPlane p x).arrivedAt = b.arrivedAt ∧ (b.setPlane p x).arrived = b.arrived ∧ (b.setPlane p x).owned = b.owned ∧
    (b.setPlane p x).cores = b.cores ∧ (b.setPlane p x).jrx = b.jrx ∧ (b.setPlane p x).jtx = b.jtx ∧ (b.setPlane p x).spi = b.spi ∧
    (b.setPlane p x).shot = b.shot ∧ (b.setPlane p x).lanes = b.lanes ∧ (b.setPlane p x).groupEpochs = b.groupEpochs ∧
    (b.setPlane p x).views = b.views ∧ (b.setPlane p x).trcs = b.trcs ∧ (b.setPlane p x).trgs = b.trgs ∧ (b.setPlane p x).outPins = b.outPins ∧
    (b.setPlane p x).pcs = b.pcs ∧ (b.setPlane p x).ports = b.ports ∧ (b.setPlane p x).caps = b.caps ∧ (b.setPlane p x).evidence = b.evidence ∧
    (b.setPlane p x).replays = b.replays ∧ (b.setPlane p x).plls = b.plls ∧ (b.setPlane p x).spgs = b.spgs ∧ (b.setPlane p x).comp = b.comp ∧
    (b.setPlane p x).outs = b.outs ∧ (b.setPlane p x).bufWait = b.bufWait ∧ (b.setPlane p x).bufOut = b.bufOut ∧
    (b.setPlane p x).strs = b.strs ∧ (b.setPlane p x).neighs = b.neighs ∧ (b.setPlane p x).jobs = b.jobs ∧ (b.setPlane p x).decs = b.decs ∧
    (b.setPlane p x).streamKeys = b.streamKeys ∧ (b.setPlane p x).pfc = b.pfc ∧ (b.setPlane p x).stims = b.stims ∧
    (b.setPlane p x).vec = b.vec ∧ (b.setPlane p x).tim = b.tim ∧ (b.setPlane p x).ptps = b.ptps ∧ (b.setPlane p x).tiu = b.tiu ∧
    (b.setPlane p x).cals = b.cals ∧ (b.setPlane p x).aux = b.aux ∧ (b.setPlane p x).plt = b.plt ∧ (b.setPlane p x).pltPorts = b.pltPorts ∧
    (b.setPlane p x).imports = b.imports ∧ (b.setPlane p x).sys = b.sys ∧ (b.setPlane p x).coolOnce = b.coolOnce ∧
    (b.setPlane p x).firstRetired = b.firstRetired ∧ (b.setPlane p x).poolSize = b.poolSize ∧ (b.setPlane p x).past = b.past ∧
    (b.setPlane p x).firn = b.firn ∧ (b.setPlane p x).fresh = b.fresh ∧ (b.setPlane p x).sent = b.sent ∧ (b.setPlane p x).stores = b.stores ∧
    (b.setPlane p x).raised = b.raised ∧ (∀ key, (b.setPlane p x).val key = b.val key) :=
  ⟨rfl, rfl, rfl, rfl, rfl, rfl, rfl, rfl, rfl, rfl, rfl, rfl, rfl, rfl, rfl, rfl, rfl, rfl, rfl, rfl, rfl, rfl, rfl, rfl, rfl, rfl, rfl, rfl,
  rfl, rfl, rfl, rfl, rfl, rfl, rfl, rfl, rfl, rfl, rfl, rfl, rfl, rfl, rfl, rfl, rfl, rfl, rfl, rfl, rfl, rfl, rfl, rfl, rfl, rfl, rfl, rfl,
  rfl, rfl, rfl, rfl, rfl, rfl, rfl, rfl, rfl, rfl, rfl, rfl, rfl, rfl, rfl, rfl, rfl, rfl, rfl, rfl, fun _ => rfl⟩

@[simp] theorem setPlane_planes (b : Block) (p : Nat) (x : Plane) : (b.setPlane p x).planes = tset b.planes p x := rfl

@[simp] theorem setPlane_plane (b : Block) (p : Nat) (x : Plane) : (b.setPlane p x).plane p = x := tget_tset_same _ _ _ _

theorem setPlane_plane_ne (b : Block) (p : Nat) (x : Plane) (j : Nat) (h : j ≠ p) : (b.setPlane p x).plane j = b.plane j := tget_tset_ne _ _ _ _ _ h

@[simp] theorem setLane_frame (b : Block) (i : Nat) (x : Lane) :
    (b.setLane i x).params = b.params ∧ (b.setLane i x).waiting = b.waiting ∧ (b.setLane i x).dev = b.dev ∧ (b.setLane i x).beat = b.beat ∧
    (b.setLane i x).cycle = b.cycle ∧ (b.setLane i x).ticks = b.ticks ∧ (b.setLane i x).sessions = b.sessions ∧
    (b.setLane i x).shakes = b.shakes ∧ (b.setLane i x).accepted = b.accepted ∧ (b.setLane i x).nextGroup = b.nextGroup ∧
    (b.setLane i x).txns = b.txns ∧ (b.setLane i x).sched = b.sched ∧ (b.setLane i x).nextEntry = b.nextEntry ∧
    (b.setLane i x).reached = b.reached ∧ (b.setLane i x).heldReplies = b.heldReplies ∧ (b.setLane i x).nextHeld = b.nextHeld ∧
    (b.setLane i x).srcTotal = b.srcTotal ∧ (b.setLane i x).srcWin = b.srcWin ∧ (b.setLane i x).supFirst = b.supFirst ∧
    (b.setLane i x).supTotal = b.supTotal ∧ (b.setLane i x).supSrcs = b.supSrcs ∧ (b.setLane i x).winBeat = b.winBeat ∧
    (b.setLane i x).evtEnd = b.evtEnd ∧ (b.setLane i x).evtAt = b.evtAt ∧ (b.setLane i x).counted = b.counted ∧
    (b.setLane i x).arrivedAt = b.arrivedAt ∧ (b.setLane i x).arrived = b.arrived ∧ (b.setLane i x).owned = b.owned ∧
    (b.setLane i x).cores = b.cores ∧ (b.setLane i x).jrx = b.jrx ∧ (b.setLane i x).jtx = b.jtx ∧ (b.setLane i x).spi = b.spi ∧
    (b.setLane i x).shot = b.shot ∧ (b.setLane i x).groupEpochs = b.groupEpochs ∧ (b.setLane i x).views = b.views ∧
    (b.setLane i x).trcs = b.trcs ∧ (b.setLane i x).trgs = b.trgs ∧ (b.setLane i x).outPins = b.outPins ∧ (b.setLane i x).pcs = b.pcs ∧
    (b.setLane i x).ports = b.ports ∧ (b.setLane i x).caps = b.caps ∧ (b.setLane i x).evidence = b.evidence ∧
    (b.setLane i x).replays = b.replays ∧ (b.setLane i x).plls = b.plls ∧ (b.setLane i x).planes = b.planes ∧ (b.setLane i x).spgs = b.spgs ∧
    (b.setLane i x).comp = b.comp ∧ (b.setLane i x).outs = b.outs ∧ (b.setLane i x).bufWait = b.bufWait ∧ (b.setLane i x).bufOut = b.bufOut ∧
    (b.setLane i x).strs = b.strs ∧ (b.setLane i x).neighs = b.neighs ∧ (b.setLane i x).jobs = b.jobs ∧ (b.setLane i x).decs = b.decs ∧
    (b.setLane i x).streamKeys = b.streamKeys ∧ (b.setLane i x).pfc = b.pfc ∧ (b.setLane i x).stims = b.stims ∧ (b.setLane i x).vec = b.vec ∧
    (b.setLane i x).tim = b.tim ∧ (b.setLane i x).ptps = b.ptps ∧ (b.setLane i x).tiu = b.tiu ∧ (b.setLane i x).cals = b.cals ∧
    (b.setLane i x).aux = b.aux ∧ (b.setLane i x).plt = b.plt ∧ (b.setLane i x).pltPorts = b.pltPorts ∧ (b.setLane i x).imports = b.imports ∧
    (b.setLane i x).sys = b.sys ∧ (b.setLane i x).coolOnce = b.coolOnce ∧ (b.setLane i x).firstRetired = b.firstRetired ∧
    (b.setLane i x).poolSize = b.poolSize ∧ (b.setLane i x).past = b.past ∧ (b.setLane i x).firn = b.firn ∧ (b.setLane i x).fresh = b.fresh ∧
    (b.setLane i x).sent = b.sent ∧ (b.setLane i x).stores = b.stores ∧ (b.setLane i x).raised = b.raised ∧
    (∀ key, (b.setLane i x).val key = b.val key) :=
  ⟨rfl, rfl, rfl, rfl, rfl, rfl, rfl, rfl, rfl, rfl, rfl, rfl, rfl, rfl, rfl, rfl, rfl, rfl, rfl, rfl, rfl, rfl, rfl, rfl, rfl, rfl, rfl, rfl,
  rfl, rfl, rfl, rfl, rfl, rfl, rfl, rfl, rfl, rfl, rfl, rfl, rfl, rfl, rfl, rfl, rfl, rfl, rfl, rfl, rfl, rfl, rfl, rfl, rfl, rfl, rfl, rfl,
  rfl, rfl, rfl, rfl, rfl, rfl, rfl, rfl, rfl, rfl, rfl, rfl, rfl, rfl, rfl, rfl, rfl, rfl, rfl, rfl, fun _ => rfl⟩

@[simp] theorem setLane_lanes (b : Block) (i : Nat) (x : Lane) : (b.setLane i x).lanes = tset b.lanes i x := rfl

@[simp] theorem setLane_lane (b : Block) (i : Nat) (x : Lane) : (b.setLane i x).lane i = x := tget_tset_same _ _ _ _

theorem setLane_lane_ne (b : Block) (i : Nat) (x : Lane) (j : Nat) (h : j ≠ i) : (b.setLane i x).lane j = b.lane j := tget_tset_ne _ _ _ _ _ h

@[simp] theorem setView_frame (b : Block) (j : Nat) (x : View) :
    (b.setView j x).params = b.params ∧ (b.setView j x).waiting = b.waiting ∧ (b.setView j x).dev = b.dev ∧ (b.setView j x).beat = b.beat ∧
    (b.setView j x).cycle = b.cycle ∧ (b.setView j x).ticks = b.ticks ∧ (b.setView j x).sessions = b.sessions ∧
    (b.setView j x).shakes = b.shakes ∧ (b.setView j x).accepted = b.accepted ∧ (b.setView j x).nextGroup = b.nextGroup ∧
    (b.setView j x).txns = b.txns ∧ (b.setView j x).sched = b.sched ∧ (b.setView j x).nextEntry = b.nextEntry ∧
    (b.setView j x).reached = b.reached ∧ (b.setView j x).heldReplies = b.heldReplies ∧ (b.setView j x).nextHeld = b.nextHeld ∧
    (b.setView j x).srcTotal = b.srcTotal ∧ (b.setView j x).srcWin = b.srcWin ∧ (b.setView j x).supFirst = b.supFirst ∧
    (b.setView j x).supTotal = b.supTotal ∧ (b.setView j x).supSrcs = b.supSrcs ∧ (b.setView j x).winBeat = b.winBeat ∧
    (b.setView j x).evtEnd = b.evtEnd ∧ (b.setView j x).evtAt = b.evtAt ∧ (b.setView j x).counted = b.counted ∧
    (b.setView j x).arrivedAt = b.arrivedAt ∧ (b.setView j x).arrived = b.arrived ∧ (b.setView j x).owned = b.owned ∧
    (b.setView j x).cores = b.cores ∧ (b.setView j x).jrx = b.jrx ∧ (b.setView j x).jtx = b.jtx ∧ (b.setView j x).spi = b.spi ∧
    (b.setView j x).shot = b.shot ∧ (b.setView j x).lanes = b.lanes ∧ (b.setView j x).groupEpochs = b.groupEpochs ∧
    (b.setView j x).trcs = b.trcs ∧ (b.setView j x).trgs = b.trgs ∧ (b.setView j x).outPins = b.outPins ∧ (b.setView j x).pcs = b.pcs ∧
    (b.setView j x).ports = b.ports ∧ (b.setView j x).caps = b.caps ∧ (b.setView j x).evidence = b.evidence ∧
    (b.setView j x).replays = b.replays ∧ (b.setView j x).plls = b.plls ∧ (b.setView j x).planes = b.planes ∧ (b.setView j x).spgs = b.spgs ∧
    (b.setView j x).comp = b.comp ∧ (b.setView j x).outs = b.outs ∧ (b.setView j x).bufWait = b.bufWait ∧ (b.setView j x).bufOut = b.bufOut ∧
    (b.setView j x).strs = b.strs ∧ (b.setView j x).neighs = b.neighs ∧ (b.setView j x).jobs = b.jobs ∧ (b.setView j x).decs = b.decs ∧
    (b.setView j x).streamKeys = b.streamKeys ∧ (b.setView j x).pfc = b.pfc ∧ (b.setView j x).stims = b.stims ∧ (b.setView j x).vec = b.vec ∧
    (b.setView j x).tim = b.tim ∧ (b.setView j x).ptps = b.ptps ∧ (b.setView j x).tiu = b.tiu ∧ (b.setView j x).cals = b.cals ∧
    (b.setView j x).aux = b.aux ∧ (b.setView j x).plt = b.plt ∧ (b.setView j x).pltPorts = b.pltPorts ∧ (b.setView j x).imports = b.imports ∧
    (b.setView j x).sys = b.sys ∧ (b.setView j x).coolOnce = b.coolOnce ∧ (b.setView j x).firstRetired = b.firstRetired ∧
    (b.setView j x).poolSize = b.poolSize ∧ (b.setView j x).past = b.past ∧ (b.setView j x).firn = b.firn ∧ (b.setView j x).fresh = b.fresh ∧
    (b.setView j x).sent = b.sent ∧ (b.setView j x).stores = b.stores ∧ (b.setView j x).raised = b.raised ∧
    (∀ key, (b.setView j x).val key = b.val key) :=
  ⟨rfl, rfl, rfl, rfl, rfl, rfl, rfl, rfl, rfl, rfl, rfl, rfl, rfl, rfl, rfl, rfl, rfl, rfl, rfl, rfl, rfl, rfl, rfl, rfl, rfl, rfl, rfl, rfl,
  rfl, rfl, rfl, rfl, rfl, rfl, rfl, rfl, rfl, rfl, rfl, rfl, rfl, rfl, rfl, rfl, rfl, rfl, rfl, rfl, rfl, rfl, rfl, rfl, rfl, rfl, rfl, rfl,
  rfl, rfl, rfl, rfl, rfl, rfl, rfl, rfl, rfl, rfl, rfl, rfl, rfl, rfl, rfl, rfl, rfl, rfl, rfl, rfl, fun _ => rfl⟩

@[simp] theorem setView_views (b : Block) (j : Nat) (x : View) : (b.setView j x).views = tset b.views j x := rfl

@[simp] theorem setView_view (b : Block) (j : Nat) (x : View) : (b.setView j x).view j = x := tget_tset_same _ _ _ _

theorem setView_view_ne (b : Block) (j : Nat) (x : View) (j : Nat) (h : j ≠ j) : (b.setView j x).view j = b.view j := tget_tset_ne _ _ _ _ _ h

@[simp] theorem setTrc_frame (b : Block) (t : Nat) (x : Trc) :
    (b.setTrc t x).params = b.params ∧ (b.setTrc t x).waiting = b.waiting ∧ (b.setTrc t x).dev = b.dev ∧ (b.setTrc t x).beat = b.beat ∧
    (b.setTrc t x).cycle = b.cycle ∧ (b.setTrc t x).ticks = b.ticks ∧ (b.setTrc t x).sessions = b.sessions ∧ (b.setTrc t x).shakes = b.shakes ∧
    (b.setTrc t x).accepted = b.accepted ∧ (b.setTrc t x).nextGroup = b.nextGroup ∧ (b.setTrc t x).txns = b.txns ∧
    (b.setTrc t x).sched = b.sched ∧ (b.setTrc t x).nextEntry = b.nextEntry ∧ (b.setTrc t x).reached = b.reached ∧
    (b.setTrc t x).heldReplies = b.heldReplies ∧ (b.setTrc t x).nextHeld = b.nextHeld ∧ (b.setTrc t x).srcTotal = b.srcTotal ∧
    (b.setTrc t x).srcWin = b.srcWin ∧ (b.setTrc t x).supFirst = b.supFirst ∧ (b.setTrc t x).supTotal = b.supTotal ∧
    (b.setTrc t x).supSrcs = b.supSrcs ∧ (b.setTrc t x).winBeat = b.winBeat ∧ (b.setTrc t x).evtEnd = b.evtEnd ∧
    (b.setTrc t x).evtAt = b.evtAt ∧ (b.setTrc t x).counted = b.counted ∧ (b.setTrc t x).arrivedAt = b.arrivedAt ∧
    (b.setTrc t x).arrived = b.arrived ∧ (b.setTrc t x).owned = b.owned ∧ (b.setTrc t x).cores = b.cores ∧ (b.setTrc t x).jrx = b.jrx ∧
    (b.setTrc t x).jtx = b.jtx ∧ (b.setTrc t x).spi = b.spi ∧ (b.setTrc t x).shot = b.shot ∧ (b.setTrc t x).lanes = b.lanes ∧
    (b.setTrc t x).groupEpochs = b.groupEpochs ∧ (b.setTrc t x).views = b.views ∧ (b.setTrc t x).trgs = b.trgs ∧
    (b.setTrc t x).outPins = b.outPins ∧ (b.setTrc t x).pcs = b.pcs ∧ (b.setTrc t x).ports = b.ports ∧ (b.setTrc t x).caps = b.caps ∧
    (b.setTrc t x).evidence = b.evidence ∧ (b.setTrc t x).replays = b.replays ∧ (b.setTrc t x).plls = b.plls ∧
    (b.setTrc t x).planes = b.planes ∧ (b.setTrc t x).spgs = b.spgs ∧ (b.setTrc t x).comp = b.comp ∧ (b.setTrc t x).outs = b.outs ∧
    (b.setTrc t x).bufWait = b.bufWait ∧ (b.setTrc t x).bufOut = b.bufOut ∧ (b.setTrc t x).strs = b.strs ∧ (b.setTrc t x).neighs = b.neighs ∧
    (b.setTrc t x).jobs = b.jobs ∧ (b.setTrc t x).decs = b.decs ∧ (b.setTrc t x).streamKeys = b.streamKeys ∧ (b.setTrc t x).pfc = b.pfc ∧
    (b.setTrc t x).stims = b.stims ∧ (b.setTrc t x).vec = b.vec ∧ (b.setTrc t x).tim = b.tim ∧ (b.setTrc t x).ptps = b.ptps ∧
    (b.setTrc t x).tiu = b.tiu ∧ (b.setTrc t x).cals = b.cals ∧ (b.setTrc t x).aux = b.aux ∧ (b.setTrc t x).plt = b.plt ∧
    (b.setTrc t x).pltPorts = b.pltPorts ∧ (b.setTrc t x).imports = b.imports ∧ (b.setTrc t x).sys = b.sys ∧
    (b.setTrc t x).coolOnce = b.coolOnce ∧ (b.setTrc t x).firstRetired = b.firstRetired ∧ (b.setTrc t x).poolSize = b.poolSize ∧
    (b.setTrc t x).past = b.past ∧ (b.setTrc t x).firn = b.firn ∧ (b.setTrc t x).fresh = b.fresh ∧ (b.setTrc t x).sent = b.sent ∧
    (b.setTrc t x).stores = b.stores ∧ (b.setTrc t x).raised = b.raised ∧ (∀ key, (b.setTrc t x).val key = b.val key) :=
  ⟨rfl, rfl, rfl, rfl, rfl, rfl, rfl, rfl, rfl, rfl, rfl, rfl, rfl, rfl, rfl, rfl, rfl, rfl, rfl, rfl, rfl, rfl, rfl, rfl, rfl, rfl, rfl, rfl,
  rfl, rfl, rfl, rfl, rfl, rfl, rfl, rfl, rfl, rfl, rfl, rfl, rfl, rfl, rfl, rfl, rfl, rfl, rfl, rfl, rfl, rfl, rfl, rfl, rfl, rfl, rfl, rfl,
  rfl, rfl, rfl, rfl, rfl, rfl, rfl, rfl, rfl, rfl, rfl, rfl, rfl, rfl, rfl, rfl, rfl, rfl, rfl, rfl, fun _ => rfl⟩

@[simp] theorem setTrc_trcs (b : Block) (t : Nat) (x : Trc) : (b.setTrc t x).trcs = tset b.trcs t x := rfl

@[simp] theorem setTrc_trc (b : Block) (t : Nat) (x : Trc) : (b.setTrc t x).trc t = x := tget_tset_same _ _ _ _

theorem setTrc_trc_ne (b : Block) (t : Nat) (x : Trc) (j : Nat) (h : j ≠ t) : (b.setTrc t x).trc j = b.trc j := tget_tset_ne _ _ _ _ _ h

@[simp] theorem tick_frame (b : Block) :
    (b.tick).params = b.params ∧ (b.tick).waiting = b.waiting ∧ (b.tick).dev = b.dev ∧ (b.tick).beat = b.beat ∧ (b.tick).cycle = b.cycle ∧
    (b.tick).ticks = b.ticks ∧ (b.tick).sessions = b.sessions ∧ (b.tick).shakes = b.shakes ∧ (b.tick).accepted = b.accepted ∧
    (b.tick).nextGroup = b.nextGroup ∧ (b.tick).txns = b.txns ∧ (b.tick).sched = b.sched ∧ (b.tick).nextEntry = b.nextEntry ∧
    (b.tick).reached = b.reached ∧ (b.tick).heldReplies = b.heldReplies ∧ (b.tick).nextHeld = b.nextHeld ∧ (b.tick).srcTotal = b.srcTotal ∧
    (b.tick).srcWin = b.srcWin ∧ (b.tick).supFirst = b.supFirst ∧ (b.tick).supTotal = b.supTotal ∧ (b.tick).supSrcs = b.supSrcs ∧
    (b.tick).winBeat = b.winBeat ∧ (b.tick).evtEnd = b.evtEnd ∧ (b.tick).evtAt = b.evtAt ∧ (b.tick).counted = b.counted ∧
    (b.tick).arrivedAt = b.arrivedAt ∧ (b.tick).arrived = b.arrived ∧ (b.tick).owned = b.owned ∧ (b.tick).cores = b.cores ∧
    (b.tick).jrx = b.jrx ∧ (b.tick).jtx = b.jtx ∧ (b.tick).spi = b.spi ∧ (b.tick).shot = b.shot ∧ (b.tick).lanes = b.lanes ∧
    (b.tick).groupEpochs = b.groupEpochs ∧ (b.tick).views = b.views ∧ (b.tick).trcs = b.trcs ∧ (b.tick).trgs = b.trgs ∧
    (b.tick).outPins = b.outPins ∧ (b.tick).pcs = b.pcs ∧ (b.tick).ports = b.ports ∧ (b.tick).caps = b.caps ∧ (b.tick).evidence = b.evidence ∧
    (b.tick).replays = b.replays ∧ (b.tick).plls = b.plls ∧ (b.tick).planes = b.planes ∧ (b.tick).spgs = b.spgs ∧ (b.tick).comp = b.comp ∧
    (b.tick).outs = b.outs ∧ (b.tick).bufWait = b.bufWait ∧ (b.tick).bufOut = b.bufOut ∧ (b.tick).strs = b.strs ∧ (b.tick).neighs = b.neighs ∧
    (b.tick).jobs = b.jobs ∧ (b.tick).decs = b.decs ∧ (b.tick).streamKeys = b.streamKeys ∧ (b.tick).pfc = b.pfc ∧ (b.tick).stims = b.stims ∧
    (b.tick).vec = b.vec ∧ (b.tick).tim = b.tim ∧ (b.tick).ptps = b.ptps ∧ (b.tick).tiu = b.tiu ∧ (b.tick).cals = b.cals ∧
    (b.tick).aux = b.aux ∧ (b.tick).plt = b.plt ∧ (b.tick).pltPorts = b.pltPorts ∧ (b.tick).imports = b.imports ∧ (b.tick).sys = b.sys ∧
    (b.tick).coolOnce = b.coolOnce ∧ (b.tick).firstRetired = b.firstRetired ∧ (b.tick).poolSize = b.poolSize ∧ (b.tick).past = b.past ∧
    (b.tick).firn = b.firn ∧ (b.tick).sent = b.sent ∧ (b.tick).stores = b.stores ∧ (b.tick).raised = b.raised ∧
    (∀ key, (b.tick).val key = b.val key) :=
  ⟨rfl, rfl, rfl, rfl, rfl, rfl, rfl, rfl, rfl, rfl, rfl, rfl, rfl, rfl, rfl, rfl, rfl, rfl, rfl, rfl, rfl, rfl, rfl, rfl, rfl, rfl, rfl, rfl,
  rfl, rfl, rfl, rfl, rfl, rfl, rfl, rfl, rfl, rfl, rfl, rfl, rfl, rfl, rfl, rfl, rfl, rfl, rfl, rfl, rfl, rfl, rfl, rfl, rfl, rfl, rfl, rfl,
  rfl, rfl, rfl, rfl, rfl, rfl, rfl, rfl, rfl, rfl, rfl, rfl, rfl, rfl, rfl, rfl, rfl, rfl, rfl, rfl, fun _ => rfl⟩

@[simp] theorem tick_fresh (b : Block) : (b.tick).fresh = b.fresh + 1 := rfl

/-! ## Parameters -/

@[simp] theorem val_setVal_same (b : Block) (k v : Nat) : (b.setVal k v).val k = v % 2 ^ 64 := by
  simp [Block.val, Block.setVal]

theorem val_setVal_ne (b : Block) (k v j : Nat) (h : j ≠ k) : (b.setVal k v).val j = b.val j := by
  simp [Block.val, Block.setVal, tfind_tset_ne _ _ _ _ h]

theorem val_pf_ne (b : Block) (k i hi lo v j : Nat) (h : j ≠ ki k i) : (b.pf k i hi lo v).val j = b.val j := val_setVal_ne _ _ _ _ h

theorem val_pv_same (b : Block) (k i v : Nat) : (b.pv k i v).val (ki k i) = v % 2 ^ 64 := val_setVal_same _ _ _

theorem val_pv_ne (b : Block) (k i v j : Nat) (h : j ≠ ki k i) : (b.pv k i v).val j = b.val j := val_setVal_ne _ _ _ _ h

/-- What a field written by the engine reads as. -/
theorem f_pf_same (b : Block) (k i hi lo v : Nat) (h : lo ≤ hi + 1) (w : hi < 64) : (b.pf k i hi lo v).f k i hi lo = v % 2 ^ (hi + 1 - lo) := by
  simp only [Block.f, Block.pf, val_setVal_same]
  rw [bits_mod _ _ _ _ w, bits_setBits_same _ _ _ _ h]

/-- A field beside the one written. -/
theorem f_pf_beside (b : Block) (k i hi lo v hi' lo' : Nat) (h : lo ≤ hi + 1) (w : hi' < 64) (d : hi' < lo ∨ hi < lo') :
    (b.pf k i hi lo v).f k i hi' lo' = b.f k i hi' lo' := by
  simp only [Block.f, Block.pf, val_setVal_same]
  rw [bits_mod _ _ _ _ w, bits_setBits_ne _ _ _ _ _ _ h d]

/-- A field of another parameter. -/
theorem f_pf_ne (b : Block) (k i hi lo v k' i' hi' lo' : Nat) (h : ki k' i' ≠ ki k i) : (b.pf k i hi lo v).f k' i' hi' lo' = b.f k' i' hi' lo' := by
  simp only [Block.f, val_pf_ne _ _ _ _ _ _ _ h]

/-! ## What a command starts from and leaves -/

@[simp] theorem start_cleared (s : Machine.State) : s.start.sent = [] ∧ s.start.stores = [] ∧ s.start.raised = [] := ⟨rfl, rfl, rfl⟩

@[simp] theorem start_val (s : Machine.State) (k : Nat) : s.start.val k = s.blk.val k := rfl

@[simp] theorem start_f (s : Machine.State) (k i hi lo : Nat) : s.start.f k i hi lo = s.blk.f k i hi lo := rfl

@[simp] theorem start_live (s : Machine.State) : s.start.live = s.blk.live := rfl

@[simp] theorem finish_pending (s : Machine.State) (b : Block) : (s.finish b).pending = s.pending := rfl

@[simp] theorem finish_blk (s : Machine.State) (b : Block) : (s.finish b).blk = b.flushEvents := rfl

@[simp] theorem finish_mem (s : Machine.State) (b : Block) : (s.finish b).mem = memApplyAll s.mem b.flushEvents.stores := rfl

/-- Where no event was raised, none is delivered. -/
theorem flushEvents_quiet (b : Block) (h : b.raised = []) : b.flushEvents = b := by
  simp only [Block.flushEvents, h, sortBy, List.foldl_nil]
  cases b; simp only at h; subst h; rfl

/-- A command that raises no event leaves its block and its stores. -/
theorem finish_quiet (s : Machine.State) (b : Block) (h : b.raised = []) : s.finish b = ⟨b, memApplyAll s.mem b.stores, s.pending⟩ := by
  simp [Machine.State.finish, flushEvents_quiet b h]

/-- What a command runs, it runs on the block and the memories alone, and the state after it is what `finish` makes of the result. -/
theorem run_next (f : Mem → Block → Block) (s : Machine.State) : s.run f = .next (s.finish (f s.mem s.start)) := rfl

theorem runLive_live (f : Mem → Block → Block) (s : Machine.State) (h : s.blk.live = true) : s.runLive f = .next (s.finish (f s.mem s.start)) := by
  simp [Machine.State.runLive, run_next, h]

theorem runLive_dead (f : Mem → Block → Block) (s : Machine.State) (h : s.blk.live = false) : s.runLive f = .next (s.finish s.start) := by
  simp [Machine.State.runLive, run_next, h]

theorem runBoundary_on (f : Mem → Block → Block) (s : Machine.State) (h : s.blk.live = true) (c : s.blk.cycle = 0) :
    s.runBoundary f = .next (s.finish (f s.mem s.start)) := by
  have : s.start.cycle = 0 := c
  rw [Machine.State.runBoundary, runLive_live _ _ h, if_pos this]

theorem runBoundary_off (f : Mem → Block → Block) (s : Machine.State) (c : s.blk.cycle ≠ 0) : s.runBoundary f = .next (s.finish s.start) := by
  have : ¬ s.start.cycle = 0 := c
  cases h : s.blk.live
  · exact runLive_dead _ _ h
  · rw [Machine.State.runBoundary, runLive_live _ _ h, if_neg this]

end Sys2Proof
end

