-- ==== Sys2Proof/Laws/Requests.lean ====
section
/-! SUPPORT. What the checks of R37 leave of a packet: the request that it carries is served on the block once the session has taken it. -/
namespace Sys2Proof
open Machine

/-- A session is found by its own identifier. -/
theorem session_id (b : Block) (id : Nat) (x : Session) (h : b.session id = some x) : x.id = id := by
  have := List.find?_some h
  simpa using this

/-- The arrival of a packet leaves the sessions, the place in a group, and the payload that a port takes. -/
theorem arrive_frame (b : Block) (port : Nat) :
    (∀ id, (b.arrive port).session id = b.session id) ∧ (b.arrive port).member = b.member ∧
      ∀ q, (b.arrive port).payloadLimit q = b.payloadLimit q := by
  have params : (∀ id, (b.heard port).session id = b.session id) ∧ (b.heard port).member = b.member ∧
      ∀ q, (b.heard port).val (ki K.NET_CFG q) = b.val (ki K.NET_CFG q) := by
    unfold Block.heard
    split
    · exact ⟨fun _ => rfl, rfl, fun _ => rfl⟩
    · refine ⟨fun _ => rfl, rfl, fun q => ?_⟩
      show (Block.pv _ _ _ _).val _ = _
      rw [val_pv_ne]
      · rfl
      · simp only [ki, K.NET_CFG, K.NET_RX_FRAMES]; omega
  obtain ⟨sess, mem, par⟩ := params
  refine ⟨sess, mem, fun q => ?_⟩
  have cfg : (b.arrive port).val (ki K.NET_CFG q) = b.val (ki K.NET_CFG q) := par q
  unfold Block.payloadLimit Block.jumbo Block.f
  rw [cfg]

/-- The next request of a session, whole, tagged and in form, is served, and nothing else happens to it (R37). -/
theorem comes_packetAt (op : Nat) (p : Packet) (x : Session) (s : Machine.State) (m : Mem) (h : Comes op p x s) (g : Tagged op p x.h2e) :
    s.start.packetAt m p.port.val op p =
      (opened p x s).serve m op (.session x.id p.seq.toNat) (asked op p x 0).rto p.target.toNat p.payload := by
  obtain ⟨-, hears, frag, back, short, long, magic, dest, ver, ne0, uni, sess, seq, last, form, close⟩ := h
  obtain ⟨port, mine⟩ : s.start.bcpPort p.port.val = true ∧ s.start.toCommand p.port.val p = true := by
    have := hears
    simp only [Block.bcpHears, Bool.and_eq_true] at this
    exact this
  obtain ⟨sessions, member, limit⟩ := arrive_frame s.start p.port.val
  have sess' : (s.start.arrive p.port.val).session p.session.toNat = some x := (sessions _).trans sess
  have long' : ¬ (s.start.arrive p.port.val).payloadLimit p.port.val + 48 < p.udpLen := limit _ ▸ Nat.not_lt.mpr long
  have back' : ¬ 64 ≤ s.start.unprocessed p := Nat.not_le.mpr back
  have dest' : ¬ (pkFlag p 4 = true ∧ pkDest p ≠ (s.start.arrive p.port.val).member) := by
    rw [member]
    rintro ⟨a, b⟩
    rcases dest with d | d
    · simp [d] at a
    · exact b d
  have id : x.id = p.session.toNat := session_id _ _ _ sess
  have grp : isGroup x.id = false := by simp [isGroup, id]; omega
  have grp' : isGroup p.session.toNat = false := id ▸ grp
  have wrap : ¬ 2 ^ 32 ≤ p.seq.toNat + 1 := by
    intro w
    apply last
    apply BitVec.eq_of_toNat_eq
    have := p.seq.isLt
    show p.seq.toNat = 4294967295
    omega
  have tagged : (beNat (tagOf x.h2e (packetBytes op p)) == p.tag.toNat) = true := beq_iff_eq.mpr g
  simp only [Block.packetAt, port, mine, back', Bool.not_true, Bool.false_eq_true, if_false, frag, false_or]
  rw [if_neg (by omega), if_neg (fun h => h magic), if_neg dest']
  simp only [Block.packetChecks, sess']
  rw [if_neg (fun h => h ver), if_neg ne0, if_pos tagged]
  simp only [Block.sessionPacket, Block.flood, grp', grp, form, close, seq, Bool.not_true, Bool.false_eq_true, and_false, false_and,
    or_false, if_true, if_false]
  rw [if_neg (seq ▸ wrap)]
  simp only [opened, asked, seq]

/-- The state after such a packet. -/
theorem runPacket_next (op : Nat) (p : Packet) (x : Session) (s : Machine.State) (h : Comes op p x s) (g : Tagged op p x.h2e) :
    Machine.State.runPacket op p s =
      .next (s.finish ((opened p x s).serve s.mem op (.session x.id p.seq.toNat) (asked op p x 0).rto p.target.toNat p.payload)) := by
  rw [Machine.State.runPacket, runLive_live _ _ h.1, comes_packetAt op p x s _ h g]

/-- A request of a known opcode whose beat is settled is performed, and answered. -/
theorem serve_at (b : Block) (m : Mem) (op : Nat) (sid seq : Nat) (rto : ReplyTo) (field t : Nat) (body : List Byte)
    (k : opKnown op = true) (d : b.opBeat op field = .inr t) :
    b.serve m op (.session sid seq) rto field body =
      (match b.opPerform m op ⟨.session sid seq, rto, field, t, body⟩ with
       | (c, r, zero) =>
         let c := match r with
           | some r => c.answer ⟨.session sid seq, rto, field, t, body⟩ r
           | none => c
         match zero with
         | some _ => c.zeroise
         | none => c) := by
  rcases p : b.opPerform m op ⟨.session sid seq, rto, field, t, body⟩ with ⟨c, r, z⟩
  simp only [Block.serve, k, d, p, Bool.true_and, Bool.not_true, Bool.false_eq_true, if_false] <;> cases r <;> cases z <;> rfl

end Sys2Proof
end

