-- ==== Sys2Proof/WellFormed.lean ====
section
/-! DEFINITION. Which commands are well formed: the relations between operands that their types do not state. -/
namespace Sys2Proof

/-- The payload is what the UDP length leaves beside the header and the tag (R35). -/
def Packet.wf (p : Packet) : Bool := p.payload.length == p.udpLen - 48

/-- A row slot of a pseudo-channel (R232). -/
def slotWf (slot : BitVec 21) : Bool := decide (slot.toNat < 1098624)

/-- A defined view instance (R134). -/
def viewWf (j : BitVec 7) : Bool := j.toNat % 4 != 3 && j.toNat != 0x7F

/-- Nanoseconds of a second (R11). -/
def Stamp.wf (t : Stamp) : Bool := decide (t.ns.toNat < 1000000000)

/-- A shifted value fits the register (R478). -/
def shiftWf (v len : Nat) : Bool := decide (v < 2 ^ len)

/-- The well-formed commands. -/
def Instr.wf : Instr → Bool
  | .ping p | .pingHandshakeOpen p | .pingHandshakeConfirm p | .pingClose p | .get p | .set p | .setMany p | .arm p | .disarm p
  | .force p | .schedule p | .prepare p | .commit p | .abort p | .readMem p | .writeMem p | .loadProgram p | .startCore p | .stopCore p
  | .subscribe p | .unsubscribe p | .calRun p | .snapshot p | .enterFlow p | .reset p => p.wf
  | .unknownOpcodeRequest _ p | .forwardRequest _ p | .pltCtrlMessage _ _ p _ => p.wf
  | .spectrumDelivered j _ => viewWf j
  | .plaitReportArrival _ _ _ _ _ tp _ => tp.wf
  | .hbmRequest _ asks _ _ => asks.all (fun a => slotWf a.slot)
  | .transferParityError _ _ _ slot _ _ => slotWf slot
  | .auxResult raws | .auxSelfcalPhaseDone raws => raws.length == 8
  | .dieTempReading temps => temps.length == 16
  | .avsUpdate _ devclk => devclk.length == 4
  | .bypass tdi len => shiftWf tdi len
  | .extest pins tdi len | .samplePreload pins tdi len => shiftWf pins len && shiftWf tdi len
  | _ => true

end Sys2Proof
end

