-- ==== Sys2Proof/Tests/Slice0.lean ====
section
/-! SUPPORT. Tests: ill-formed commands are refused by the checks of WellFormed; worked examples of the spec; and for every statement with
hypotheses a state and operands that meet them together (test_wit_Name_k stands for clause k of the statement Name). -/
set_option linter.unusedVariables false
namespace Slice0Tests
open Sys2Proof Sys2Proof.Machine

/-- A block at reset. -/
def B : Block := {}
/-- A state around a block. -/
def st (b : Block) : State := ⟨b, [], []⟩
def isNext (o : Host.Outcome State Fault Refusal) (f : State → Bool) : Bool := match o with | .next t => f t | _ => false
/-- A session with identifier 5. -/
def sess : Session := { id := 5, h2e := zeros 32, e2h := zeros 32 }
/-- An empty trace. -/
def tr0 : Trace := { unit := 0, det := 0, bits := 0, view := 0, start := 0, incl := 0, excl := 0, firstQ := none, logTp := 0, pts := [], cols := [] }
/-- Every pseudo-channel in service. -/
def hbmOn : Block := (B.pf K.MEM_N_PC 0 7 0 128).pv K.MEM_PC_OK 0x10 0xFFFFFFFF |>.pv K.MEM_PC_OK 0x11 0xFFFFFFFF |>.pv K.MEM_PC_OK 0x12 0xFFFFFFFF |>.pv K.MEM_PC_OK 0x13 0xFFFFFFFF
/-- The same once the first reader port has a full FIFO. -/
def hbmLev : Block := hbmOn.portLevel 32 1048576 false
/-- A stack in the doubled region with four refreshes owed, and a pseudo-channel that owes seven. -/
def hbmHot4 : Block := hbmOn.setPc 1 { queue := [⟨none, 0, 0, false, 0⟩] } |>.setDebt 1 4 |>.pf K.MEM_TEMP 0x10 16 16 1
def hbmDebt7 : Block := hbmOn.setPc 64 { queue := [⟨none, 0, 0, false, 0⟩] } |>.setDebt 64 7
/-- Output 0 shows three by two pixels of a complete frame of one, in RGB888. -/
def dispOn : Block :=
  { ((((((hbmOn.setLife bDEN 0x80 lOn).pf K.DEN_POOL compInst 8 8 1).pv K.DEN_COMP_OUT compInst 0x1001).pf K.DEN_H_TIMING 0x80 11 0 3).pf
      K.DEN_V_TIMING 0x80 11 0 2).pf K.DEN_OUT_CFG 0x80 1 1 0).pf K.DEN_BORDER 0x80 29 0 0x3FF with
    poolSize := 1, comp := { latest := some 3 }, outs := [(0, { latched := some (3, 0) })] }
/-- A compositor that is ON with a frame of no pixels and one buffer in the pool. -/
def comp0 : State := st { ((hbmOn.setLife bDEN compInst lOn).pf K.DEN_POOL compInst 8 8 1).pv K.DEN_COMP_OUT compInst 0 with poolSize := 1 }
/-- Core `c` is ON with one word loaded at address 0, and data in two registers. -/
def wk (c w : Nat) : State :=
  st ((B.setLife bWVR c lOn).setCore c { prog := [(0, BitVec.ofNat 64 w)], d := [(1, 5), (2, 0x800000000000), (3, 0x7FFFFFFFFFFF)], a := [(1, 7), (2, 9)] })
/-- An item of a stream. -/
def item0 : StrItem := { kind := 1, index := 0, hdr := zeros 32, data := [1, 2, 3, 4], n := 1 }
/-- Stream 3 is ON with one item, its interface up and ON. -/
def strOn : Block :=
  (((B.setLife bSTR 3 lOn).setLife bNET (B.strIface 3) lOn).pf K.NET_STATUS (B.strIface 3) 0 0 1).pf K.STR_CFG 3 2 0 4 |>.setStr 3 { items := [item0] }
/-- Stream 0 is ON as a RoCEv2 stream with its link up. -/
def rocOn : Block := ((B.setLife bSTR 0 lOn).pf K.STR_CFG 0 11 11 1).pf K.NET_STATUS (B.strIface 0) 0 0 1
/-- Decompressor 1 is ON with one block received. -/
def decOn (l : List Byte) : State := st ((B.setLife bCDC 0x11 lOn).pf K.CDC_DEC_CFG 0x11 16 16 0 |>.pf K.CDC_DEC_CFG 0x11 28 17 1024 |>.setDec 1 { blocks := [(9, l)] })
/-- A raw block of one sample. -/
def rawBlk : List Byte := (codeBlock 12 0 [0x12, 0x34, 0x56] true).1
/-- Channel `k` is ON with this sequencer; SLIP set or not; entries 1 and 2 are a LOOP and an END. -/
def stmSt (k : Nat) (x : Stim) (slip : Bool := false) : State :=
  st (((((B.setLife bSTM k lOn).setStim k x).setVal (K.STM_SEG + stmStore * 65536) 16).setVal (K.STM_SEQ + 1 + stmStore * 65536) 1).setVal
    (K.STM_SEQ + 2 + stmStore * 65536) 2 |>.setVal (K.STM_SEQ + 3 + stmStore * 65536) 0 |>.pf K.STM_CFG k 17 17 (b2n slip))
/-- A play of 512 samples. -/
def stmPlay : Play := { entry := 3, seg := 0x20, ratio := 0, start := 32513, d := 512, vec := 0 }
def stmDec : Stim := { fed := 32769, plays := [stmPlay], held := some ⟨7, 0, 0, false⟩ }
def stmEff : Stim := { fed := 32769, plays := [{ stmPlay with start := 0, d := 512, decided := true, fixed := some ⟨7, 0, 0, false⟩ }] }
def stmRunning : Stim := { fed := 32770, plays := [{ stmPlay with start := 0, d := 40000 }] }
/-- Channel 3 is ON with host port 9, over interface 2. -/
def stmNet : State := st ((((B.setLife bSTM 3 lOn).pf K.STM_HOST_PORT 3 15 0 9).setLife bNET 2 lOn).pf K.NET_STATUS 2 0 0 1)
/-- In FLOW, port `l` has a role and its link is up. -/
def ptpSt (l role : Nat) (x : PtpPort) : State :=
  st (({ B with dev := .flow, ticks := 10 ^ 15 } : Block).pf K.NET_STATUS l 0 0 1 |>.pf K.TIM_PTP_CFG (ptpInst l) 1 0 role |>.setPtp l x)
/-- In FLOW, the time base is DISCIPLINED and LOCKED and its reference is silent. -/
def timRef : State :=
  st (({ B with dev := .flow, ticks := 3200001600, tim := { lost := false } } : Block).pf K.TIM_STATE 0 2 0 5 |>.pf K.TIM_CFG 0 4 0 1)
/-- One measurement whose window is past. -/
def tiuOne : State := st { B with beat := 10 ^ 9, tiu := { meas := [{ s := 0, uncal := false }] } }
/-- Sixteen histograms that pass. -/
def tiuHits : List (List (BitVec 32)) := List.replicate 16 (List.replicate 420 9986)
/-- Port 0 of a ring of four is ON in a state. -/
def pltSt (state : Nat) : State :=
  st ((((B.setLife bPLT (pltPort 0) lOn).pf K.PLT_CFG 0 1 0 1).pf K.PLT_CFG 0 5 2 3).pf K.PLT_PORT_STATE (pltPort 0) 2 0 state |>.pf K.CLK_STATUS 2 2 0 0)
/-- Member 3 of the ring, JOINED. -/
def pltJoin : Block :=
  ({ (pltSt 3).blk with sys := { member := 3 }, plt := { toward := some 0 } } : Block).pf K.TIM_STATE 0 2 2 1
/-- Import `x` is ON, its port UP. -/
def impSt (x : Nat) (i : Import) : State := st (((pltSt 3).blk.setLife bPLT (pltImp x) lOn).setImp x i)
/-- A packet of session 5 with no payload. -/
def pk0 : Packet := { session := 5, seq := 1, paramLen := 0, payload := [], tag := 0, udpLen := 48, port := 0, addr := 1, dport := 2 }
/-- THAW is trained, every pseudo-channel in service, the core clock locked and a request for FLOW pending. -/
def flowSt : State :=
  st (((((({ B with sys := { trained := true } } : Block).pf K.MEM_N_PC 0 7 0 128).pf K.SYS_FLOW_PENDING 0 0 0 1).pf K.CLK_STATUS 0 2 0 0).pf
    K.CLK_STATUS 1 2 0 0).pf K.CLK_STATUS 2 2 0 0 |>.pf K.CLK_STATUS 3 2 0 0 |>.pf K.CLK_STATUS 4 2 0 0 |>.pf K.CLK_STATUS 5 2 0 0)
/-- The reading before was above TSHUT. -/
def hotSt : State := st { B with sys := { hot := true } }
/-- The block after a third failure of VOUT_COMMAND. -/
def pmFail3 : Block :=
  ((st { B with sys := { pmBus := some (0x21, 800), pmFails := 2 } }).start.inc K.THM_AVS_ERR 0 1).setSys
    { pmBus := some (0x21, 800), pmFails := 3,
      pmAgain := (pmVoutCommand == pmVoutCommand && ((st { B with sys := { pmBus := some (0x21, 800), pmFails := 2 } }).start.inc K.THM_AVS_ERR 0 1).avsMode == 2) }
/-- A record of a payload. -/
def recB (k i n v : Nat) : List Byte := beBytes 4 (ki k i) ++ beBytes 2 n ++ zeros 2 ++ beBytes n v
/-- A write that a core asked for, and one of a key that does not exist. -/
def accW : Accepted := ⟨.core 0, 0, 0, .write ⟨K.VEC_SAFE_W0, 1⟩⟩
def accBad : Accepted := ⟨.core 0, 0, 0, .write ⟨K.DEN_BUF_CFG + 0x50 * 65536, 0xFFFFFFFF⟩⟩
def accS (x : Accepted) : State := st { B with accepted := [x] }
/-- The next packet of session 5 over the management port, and that packet tagged. -/
def pkt (l : List Byte) : Packet :=
  { pk0 with seq := 2, paramLen := BitVec.ofNat 32 l.length, payload := l, udpLen := 48 + l.length, port := 16 }
def sg (op : Nat) (p : Packet) : Packet := { p with tag := BitVec.ofNat 128 (beNat (tagOf sess.h2e (packetBytes op p))) }
/-- The management port is in service, and session 5 is open. -/
def bcpSt : State := st { B.pf K.NET_STATUS 16 0 0 1 with sessions := [sess] }
/-- The same in FLOW. -/
def flowBcp : State := st { bcpSt.blk with dev := .flow }
/-- A handshake without a host key. -/
def hs0 : Handshake := ⟨5, [], [], 255, zeros 32, zeros 32, [], 0, 16, 1, 2⟩
def hsSt : State := st { bcpSt.blk with sessions := [], shakes := [hs0] }
def setP : Packet := sg 0x11 (pkt (recB K.VEC_SAFE_W0 0 8 1))
def setBad : Packet := sg 0x11 (pkt (recB 0 0 4 1))
def manyP : Packet := sg 0x12 { pkt (recB K.VEC_SAFE_W0 0 8 1 ++ recB K.VEC_SAFE_W1 0 8 1) with target := 9 }
def armP : Packet := sg 0x21 (pkt (beBytes 4 (mkKey bTRG 3 0)))
theorem tagOf_lt (key m : List Byte) : beNat (tagOf key m) < 2 ^ 128 :=
  Nat.lt_of_lt_of_le (beNat_lt _) (Nat.pow_le_pow_right (by decide) (by simp [tagOf]; omega))
theorem packetBytes_sg (op : Nat) (p : Packet) : packetBytes op (sg op p) = packetBytes op p := by
  unfold packetBytes sg; rfl
theorem sg_tag (op : Nat) (p : Packet) : (sg op p).tag.toNat = beNat (tagOf sess.h2e (packetBytes op p)) := by
  rw [sg, BitVec.toNat_ofNat, Nat.mod_eq_of_lt (tagOf_lt _ _)]
theorem tagged_sg (op : Nat) (p : Packet) : Tagged op (sg op p) sess.h2e := by
  unfold Tagged; rw [packetBytes_sg, sg_tag]
/-- The state that a command answers. -/
def nextOf (c : Instr) (s : State) : State := match exec c s with | .next t => t | _ => s
theorem nextOf_eq (c : Instr) (s : State) : exec c s = .next (nextOf c s) := by
  obtain ⟨f, h⟩ := exec_run c
  simp [nextOf, h s, State.run]
def schBody (cancel id opc : Nat) : List Byte :=
  beBytes 2 cancel ++ zeros 2 ++ beBytes 4 id ++ beBytes 8 5 ++ beBytes 4 2 ++ zeros 4 ++ beBytes 2 opc ++ zeros 6
def schP : Packet := sg 0x23 { pkt (schBody 0 0 0) with target := 9 }
def schC : Packet := sg 0x23 (pkt (schBody 1 3 0))
def schSt : State := st { flowBcp.blk with sched := [⟨3, 5, 1, 20, 8, some 2, 0, []⟩] }
def prepP : Packet := sg 0x30 { pkt (recB K.VEC_SAFE_W0 0 8 1) with target := 9 }
def txn0 : Txn := ⟨5, 1, 9, [⟨K.VEC_SAFE_W0, 1⟩], false⟩
def txnSt : State := st { flowBcp.blk with txns := [txn0] }
def comP : Packet := sg 0x31 { pkt (beBytes 4 1) with target := 9 }
def abtP : Packet := sg 0x32 (pkt (beBytes 4 1))
def snapP : Packet := sg 0x71 (pkt (recB K.VEC_CFG 0 0 0))
def rstP : Packet := sg 0x81 (pkt (beBytes 1 1 ++ zeros 3))
def flwP : Packet := sg 0x80 (pkt [])
def memHead (space addr len : Nat) : List Byte := beBytes 1 space ++ zeros 3 ++ beBytes 8 addr ++ beBytes 4 len ++ zeros 8
def rdP : Packet := sg 0x40 (pkt (memHead 1 8 16))
def wrP : Packet := sg 0x41 (pkt (memHead 1 8 8 ++ beBytes 8 5))
def ldP : Packet := sg 0x50 (pkt ([63, 0, 0, 0] ++ beBytes 4 2 ++ beBytes 8 7))
def ldL : Packet := sg 0x50 (pkt ([63, 1, 0, 0] ++ beBytes 4 0 ++ beBytes 8 7 ++ zeros 48))
def coreSt : State := st (bcpSt.blk.pf K.WVR_IMAGE 0 0 0 1)
def staP : Packet := sg 0x51 (pkt (beBytes 8 1 ++ zeros 8))
def stoP : Packet := sg 0x52 (pkt (beBytes 8 (2 ^ 63)))
def subP : Packet := sg 0x60 (pkt (zeros 2 ++ [4, 0] ++ beBytes 128 (2 ^ 1000)))
def unsP : Packet := sg 0x61 (pkt (beBytes 128 7))
/-- A ring of two with port 0 to member 1. -/
def ringSt : Block := (bcpSt.blk.pf K.PLT_CFG 0 1 0 1).pf K.PLT_CFG 0 5 2 1
/-- Session 5 once it has taken its next packet, and session 5 over Plait port 1 with a closed event packet. -/
def sessTaken : Session := { sess with nextSeq := 3, addr := 1, dport := 2, iface := 16, cache := [(2, none)] }
def evtCtrl : State :=
  st { B.pf K.PLT_PORT_STATE (pltPort 1) 2 0 3 with sessions := [{ sess with iface := 18, closed := [⟨[⟨1, 2, false, 3, 4, {}, [], 0⟩]⟩] }] }
/-- The row of a key at reset, and the check of a write there. -/
def immRow (k : Nat) : Row := (B.keyRow k).getD ⟨0, 0, 0, 0, .imm, []⟩
def immSt (k v : Nat) : Status := (st B).start.checkWrite ⟨.session 0 0, 0, false, true⟩ [] ⟨k, v⟩ (immRow k).width
def secSt (k v : Nat) : Status := (st B).start.checkWrite ⟨.session 5 2, 0, false, true⟩ [] ⟨k, v⟩ (immRow k).width
/-- Two host keys, a group key and a stream key. -/
def keySt : State :=
  st { B.pv K.SEC_HOST_KEYS 0 3 with sys := { host := [(0, 1), (1, 2)], group := [(0, (0x80000001, [], []))] }, streamKeys := [(0, (1, 2))] }

/-! ## Well-formed commands -/

theorem test_wf_packet : Instr.wf (.get (pkt [1, 2])) = true ∧ Instr.wf (.get { pkt [1, 2] with udpLen := 51 }) = false := by decide
theorem test_wf_packet_forwarded : Instr.wf (.forwardRequest 16 { pkt [] with udpLen := 47, payload := [0] }) = false := by decide
theorem test_wf_view : Instr.wf (.spectrumDelivered 4 true) = true ∧ Instr.wf (.spectrumDelivered 3 true) = false ∧
    Instr.wf (.spectrumDelivered 0x7F true) = false := by decide
theorem test_wf_stamp : Instr.wf (.plaitReportArrival 0 1 2 3 4 ⟨0, 999999999, 0, 0⟩ false) = true ∧
    Instr.wf (.plaitReportArrival 0 1 2 3 4 ⟨0, 1000000000, 0, 0⟩ false) = false := by decide
theorem test_wf_slot : Instr.wf (.hbmRequest 0 [⟨none, 1098623, 0, false⟩] [] 0) = true ∧
    Instr.wf (.hbmRequest 0 [⟨none, 1098624, 0, false⟩] [] 0) = false := by decide
theorem test_wf_slot_parity : Instr.wf (.transferParityError 0 0 0 1098624 0 false) = false := by decide
theorem test_wf_lengths : Instr.wf (.auxResult [0]) = false ∧ Instr.wf (.auxSelfcalPhaseDone []) = false ∧
    Instr.wf (.dieTempReading [0]) = false ∧ Instr.wf (.avsUpdate 0 []) = false := by decide
theorem test_wf_shift : Instr.wf (.bypass 7 3) = true ∧ Instr.wf (.bypass 8 3) = false ∧ Instr.wf (.extest 0 8 3) = false ∧
    Instr.wf (.samplePreload 8 0 3) = false := by decide

/-! ## Worked examples of the spec -/

/-- R4: item 0x0010 of instance 3 of block LANE. -/
theorem test_key : mkKey bLANE 3 0x0010 = 0x05030010 := by decide
/-- The beat of a scheduled capture (file 00): beat 1,406,250,000,390,625 and 1,024 core cycles. -/
theorem test_time_of_beat : timeAt 1406250000390625 (cycleUnits 1024) 3 = ⟨1800000000, 500000640, 0, 3⟩ := by decide
/-- Encoding one word (file 13): MAG2 A0, D0 with LD D0, Y[P0] +1. -/
theorem test_word_fields : bits 0x2500000610000000 61 56 = 0x25 ∧ (move0 0x2500000610000000).kind = 1 ∧
    (move0 0x2500000610000000).bank = 1 ∧ (move0 0x2500000610000000).p = 0 ∧ (move0 0x2500000610000000).mod = 1 ∧
    (move0 0x2500000610000000).reg = 0 ∧ (move1 0x2500000610000000).kind = 0 := by decide
/-- The start of a coded IQ32 block (file 14): the first bytes of the I part, and k after a sum of 3,520. -/
theorem test_codec_start : (codePart 16 1 [1000, 1012, 1020, 1016]).take 5 = [0xFE, 0xD0, 0x0C, 0x04, 0x00] ∧ nextK 16 3520 = 5 := by decide
/-- R478: IDCODE is 0x2851_60B3. -/
theorem test_idcode : exec .idcode (st B) = .next (st { B with sent := [.tdo 0x285160B3 32] }) := by rfl
/-- A byte is read where it was written, and a write of what an unlisted byte reads as leaves no entry. -/
theorem test_memory_top : memRead (memWrite [] 0xFFFFFFFFFFFF 7) 0xFFFFFFFFFFFF = 7 ∧ memWrite (memWrite [] 5 7) 5 0 = [] := by decide
/-- R32: a request that arrives in BOOT is not answered. -/
theorem test_boot_silent : exec (.get (pkt [])) (st { B with dev := .boot }) = .next (st { B with dev := .boot }) := by rfl
/-- No word spells a command. -/
theorem test_no_word : decodeTableWord 64 0 = none := rfl

/-! ## The hypotheses of the statements can be met -/

theorem test_wit_PllLossFailureAndRelock_1 : ∃ (n : Fin 6) (s : State), (s.blk.live = true) ∧ (s.blk.clkState n.val ≤ 1) :=
  ⟨5, st B, by decide⟩
theorem test_wit_PllLossFailureAndRelock_2 : ∃ (n : Fin 6) (band : BitVec 6) (ns : BitVec 16) (s : State), (s.blk.live = true) ∧ (s.blk.clkState n.val = 2 ∨ s.blk.clkState n.val = 3) :=
  ⟨0, 63, 65535, st (B.setClkState 0 2), by decide⟩
theorem test_wit_PllLossFailureAndRelock_3 : ∃ (n : Fin 6) (s : State), (s.blk.live = true) ∧ (s.blk.clkState n.val = 2 ∨ s.blk.clkState n.val = 3) ∧ (s.blk.pll n.val).since + 96000 ≤ s.blk.ticks ∧ (s.blk.pll n.val).change = false ∧ (s.blk.attempts n.val < 3) :=
  ⟨1, st { B.setClkState 1 3 with ticks := 96000 }, by decide⟩
theorem test_wit_PllLossFailureAndRelock_4 : ∃ (n : Fin 6) (s : State), (s.blk.live = true) ∧ (s.blk.clkState n.val = 2 ∨ s.blk.clkState n.val = 3) ∧ (s.blk.pll n.val).since + 96000 ≤ s.blk.ticks ∧ (s.blk.pll n.val).change = false ∧ (s.blk.attempts n.val = 3) :=
  ⟨3, st { (B.setClkState 3 2).pf K.CLK_STATUS 3 10 9 3 with ticks := 96000 }, by decide⟩
theorem test_wit_PllLossFailureAndRelock_5 : ∃ (n : Fin 6) (s : State), (s.blk.live = true) ∧ (s.blk.clkState n.val = 4) ∧ (s.blk.pll n.val).since + 160000 ≤ s.blk.ticks :=
  ⟨2, st { B.setClkState 2 4 with ticks := 160000 }, by decide⟩
theorem test_wit_PllLossFailureAndRelock_6 : ∃ (n : Fin 6) (s : State), (s.blk.live = true) ∧ (s.blk.clkState n.val = 1) :=
  ⟨4, st (B.setClkState 4 1), by decide⟩
theorem test_wit_CalibrationRunProceeds_1 : ∃ (t : Fin 32) (s : State), (s.blk.live = true) ∧ (s.blk.f K.CAL_CFG t.val 0 0 = 1) ∧ (s.blk.beat % 1024 = 0) ∧ (s.blk.cal t.val).readAt ≠ s.blk.beat + 1 :=
  ⟨31, st (B.pf K.CAL_CFG 31 0 0 1), by decide⟩
theorem test_wit_CalibrationRunProceeds_2 : ∃ (t : Fin 32) (st : CalStats) (s : State), (s.blk.live = true) ∧ (s.blk.calRun t.val = 2) ∧ (st.bad = false) ∧ (2 ^ 62 ≤ st.power * 10000) :=
  ⟨0, { power := 461168601842739, bad := false, il := [], dc := [], iq := [] }, st ((B.setCalRun 0 2).pf K.CAL_BLOCKS 0 6 0 63), by decide⟩
theorem test_wit_CalibrationRunProceeds_3 : ∃ (t : Fin 32) (st : CalStats) (s : State), (s.blk.live = true) ∧ (s.blk.calRun t.val = 2) ∧ ((st.bad = true ∨ st.power * 10000 < 2 ^ 62)) ∧ (s.blk.cal t.val).told = false :=
  ⟨0, { power := 461168601842738, bad := false, il := [], dc := [], iq := [] }, st (B.setCalRun 0 2), by decide⟩
theorem test_wit_CalibrationRunProceeds_4 : ∃ (t : Fin 32) (s : State), (s.blk.live = true) ∧ (s.blk.calRun t.val = 3) ∧ (calPlausible (s.blk.cal t.val).base (s.blk.calEstimate t.val) (!(s.blk.cal t.val).points.isEmpty) = true) :=
  ⟨0, st (((B.setCal 0 { base := calIdentity }).setCalRun 0 3).pf K.CAL_CFG 0 4 2 0), by decide⟩
theorem test_wit_CalibrationRunProceeds_5 : ∃ (t : Fin 32) (s : State), (s.blk.live = true) ∧ (s.blk.calRun t.val = 3) ∧ (calPlausible (s.blk.cal t.val).base (s.blk.calEstimate t.val) (!(s.blk.cal t.val).points.isEmpty) = false) :=
  ⟨0, st (((B.setCal 0 { base := [] }).setCalRun 0 3).pf K.CAL_CFG 0 4 2 0), by decide⟩
theorem test_wit_CalibrationRunProceeds_6 : ∃ (t : Fin 32) (s : State), (s.blk.live = true) ∧ (s.blk.calRun t.val = 1) ∧ (s.blk.f K.CAL_WAIT_MAX 0x40 15 0 ≠ 0) ∧ (s.blk.f K.CAL_WAIT_MAX 0x40 15 0 * secCycles ≤ (s.blk.cal t.val).waited + (s.blk.ticks - (s.blk.cal t.val).since)) :=
  ⟨0, st ((B.pv K.CAL_WAIT_MAX 0x40 1).setCalRun 0 1 |>.setCal 0 { waited := 1600000000 }), by decide⟩
theorem test_wit_CalibrationCommitsAndAuxConverter_1 : ∃ (t : Fin 32) (s : State), (s.blk.live = true) ∧ (s.blk.cycle = 0) ∧ (s.blk.calBusy (s.blk.calGroup t.val) = false) ∧ ((∃ j, j ∈ s.blk.calGroup t.val ∧ s.blk.calRun j = 4)) ∧ ((∀ j, j ∈ s.blk.calGroup t.val → s.blk.calRun j = 4 → s.blk.f K.CAL_CFG j 1 1 = 0)) :=
  ⟨0, st (B.setCalRun 0 4), ⟨by decide, by decide, by decide, ⟨0, by decide, by decide⟩, fun j h => by rw [show (st (B.setCalRun 0 4)).blk.calGroup (0 : Fin 32).val = [0] by decide] at h; rw [List.mem_singleton.mp h]; decide⟩⟩
theorem test_wit_CalibrationCommitsAndAuxConverter_2 : ∃ (t : Fin 32) (s : State), (s.blk.live = true) ∧ (s.blk.cycle = 0) ∧ ((∃ j, j ∈ s.blk.calGroup t.val ∧ (s.blk.cal j).interpDue = true)) ∧ ((∀ j, j ∈ s.blk.calGroup t.val → s.blk.calRun j = 0)) :=
  ⟨0, st (B.setCal 0 { interpDue := true }), ⟨by decide, by decide, ⟨0, by decide, by decide⟩, fun j h => by rw [show (st (B.setCal 0 { interpDue := true })).blk.calGroup (0 : Fin 32).val = [0] by decide] at h; rw [List.mem_singleton.mp h]; decide⟩⟩
theorem test_wit_CalibrationCommitsAndAuxConverter_3 : ∃ (s : State), ((s.blk.dev = .thaw ∨ s.blk.dev = .flow)) ∧ (s.blk.auxReady = false) ∧ (s.blk.aux.refAt + (match s.blk.f K.AUX_CFG 0 1 0 with | 0 => 6400000 | 1 => 1600000 | _ => 0) ≤ s.blk.ticks) :=
  ⟨st { B with ticks := 6400000 }, by decide⟩
theorem test_wit_CalibrationCommitsAndAuxConverter_4 : ∃ (s : State), (s.blk.live = true) ∧ (s.blk.cycle = 0) ∧ (s.blk.isOn bAUX 0 = true) ∧ (s.blk.auxReady = true) ∧ (s.blk.aux.phase = 0) ∧ (s.blk.aux.start = none) ∧ (s.blk.clkLocked 5 = true) ∧ (if s.blk.auxTriggered then s.blk.auxRunning = true else s.blk.beat % 625 = 0) :=
  ⟨st (((B.setLife bAUX 0 lOn).pf K.AUX_STATUS 0 0 0 1)), by decide⟩
theorem test_wit_CalibrationCommitsAndAuxConverter_5 : ∃ (raws : List Word) (beat at' : Nat) (s : State), (s.blk.live = true) ∧ (s.blk.aux.start = some (beat, at')) ∧ (s.blk.isOn bAUX 0 = true) ∧ (s.blk.auxPassed at' ((s.blk.auxN + s.blk.auxL - 1 + s.blk.aux.results * s.blk.auxL) * s.blk.auxD + 4) = true) :=
  ⟨[1, 0, 0, 0, 0, 0, 0, 0], 0, 0, st { (B.setLife bAUX 0 lOn).setAux { start := some (0, 0) } with ticks := 1000000000 }, by decide⟩
theorem test_wit_CalibrationCommitsAndAuxConverter_6 : ∃ (raws : List Word) (s : State), (s.blk.live = true) ∧ ((s.blk.aux.phase = 1 ∨ s.blk.aux.phase = 2)) ∧ (s.blk.clkLocked 5 = true) ∧ (s.blk.auxPassed s.blk.aux.phaseAt ((s.blk.auxN + 16) * s.blk.auxD + 4) = true) :=
  ⟨[], st { B.setAux { phase := 1 } with ticks := 1000000000 }, by decide⟩
theorem test_wit_CalibrationCommitsAndAuxConverter_7 : ∃ (raws : List Word) (s : State), (s.blk.live = true) ∧ (s.blk.aux.phase = 3) ∧ (s.blk.clkLocked 5 = true) ∧ (s.blk.auxPassed s.blk.aux.phaseAt ((s.blk.auxN + 16) * s.blk.auxD + 4) = true) :=
  ⟨[1, 2, 3], st { B.setAux { phase := 3, codes := [[65536], [3]] } with ticks := 1000000000 }, by decide⟩
theorem test_wit_EventPacketsAndPulses_1 : ∃ (id : BitVec 32) (x : Session) (s : State), (s.blk.live = true) ∧ (s.blk.session id.toNat = some x) ∧ (x.queue ≠ []) :=
  ⟨5, { sess with queue := [⟨1, 2, false, 3, 4, {}, [], 0⟩] }, st { B with sessions := [{ sess with queue := [⟨1, 2, false, 3, 4, {}, [], 0⟩] }] }, by decide⟩
theorem test_wit_EventPacketsAndPulses_2 : ∃ (id : BitVec 32) (x : Session) (p : EvPkt) (rest : List EvPkt) (s : State), (s.blk.live = true) ∧ (s.blk.session id.toNat = some x) ∧ (x.closed = p :: rest) ∧ (x.iface < 17) ∧ (s.blk.netUsable x.iface = true) :=
  ⟨5, { sess with closed := [⟨[⟨1, 2, false, 3, 4, {}, [], 0⟩]⟩] }, ⟨[⟨1, 2, false, 3, 4, {}, [], 0⟩]⟩, [], st { B.pf K.NET_STATUS 16 0 0 1 with sessions := [{ sess with closed := [⟨[⟨1, 2, false, 3, 4, {}, [], 0⟩]⟩] }] }, by decide⟩
theorem test_wit_EventPacketsAndPulses_3 : ∃ (id : BitVec 32) (x : Session) (p : EvPkt) (rest : List EvPkt) (m : BcpMsg) (s : State), (s.blk.live = true) ∧ (s.blk.session id.toNat = some x) ∧ (x.closed = p :: rest) ∧ (17 ≤ x.iface) ∧ (p.recs.length ≤ s.blk.recLimit x.iface) ∧ (s.blk.portState (x.iface - 17) = 3) ∧ (m = BcpMsg.signed ⟨1, 0xE0, id.toNat, x.evtSeq, 0, (p.recs.map (·.beat)).headD 0, (p.recs.map s.blk.recBytes).flatten, []⟩ x.e2h) :=
  ⟨5, { sess with iface := 18, closed := [⟨[⟨1, 2, false, 3, 4, {}, [], 0⟩]⟩] }, ⟨[⟨1, 2, false, 3, 4, {}, [], 0⟩]⟩, [], BcpMsg.signed ⟨1, 0xE0, 5, 1, 0, 4, (([⟨1, 2, false, 3, 4, {}, [], 0⟩] : List EvRec).map evtCtrl.blk.recBytes).flatten, []⟩ (zeros 32), evtCtrl, ⟨by decide, by decide, by decide, by decide, by decide, by decide, rfl⟩⟩
theorem test_wit_EventPacketsAndPulses_4 : ∃ (k : Fin 2) (s : State), (s.blk.live = true) ∧ (bit (s.blk.val (K.EVT_OUT_CFG0 + k.val)) 0 = true) ∧ (bit (s.blk.val K.EVT_OUT_STATE) k.val = true) ∧ (tget 0 s.blk.evtEnd k.val ≤ s.blk.ticks) :=
  ⟨1, st ((B.pf K.EVT_OUT_CFG0 1 0 0 1).pv K.EVT_OUT_STATE 0 2 |>.pv (K.EVT_OUT_CFG0 + 1) 0 1), by decide⟩
theorem test_wit_ReceiveLinkStartSequence_1 : ∃ (k : Fin 16) (s : State), (s.blk.live = true) ∧ ((s.blk.lnk bJRX k.val).step = 1 ∨ (s.blk.lnk bJRX k.val).step = 2) :=
  ⟨3, st (B.setLnk bJRX 3 { step := 2 }), by decide⟩
theorem test_wit_ReceiveLinkStartSequence_2 : ∃ (k : Fin 16) (arr : List (BitVec 32)) (s : State), (s.blk.live = true) ∧ (s.blk.lnk bJRX k.val).step = 3 ∧ (let a := (arr.map (·.toNat)).foldl max 0
     let b := (s.start.pf K.JRX_STATUS k.val 8 8 1).pv K.JRX_ARRIVAL k.val (a % 2 ^ 32)
     0 ≤ b.marginAt k.val (b.lkRBD bJRX k.val) a) :=
  ⟨0, [0, 0], st (B.setLnk bJRX 0 { step := 3 }), by decide⟩
theorem test_wit_ReceiveLinkStartSequence_3 : ∃ (k : Fin 16) (arr : List (BitVec 32)) (s : State), (s.blk.live = true) ∧ (s.blk.lnk bJRX k.val).step = 3 ∧ (s.blk.lnk bJRX k.val).everReleased = false ∧ (let a := (arr.map (·.toNat)).foldl max 0
     let b := (s.start.pf K.JRX_STATUS k.val 8 8 1).pv K.JRX_ARRIVAL k.val (a % 2 ^ 32)
     b.marginAt k.val (b.lkRBD bJRX k.val) a < 0) :=
  ⟨15, [1, 4294967295], st (B.setLnk bJRX 15 { step := 3 }), by decide⟩
theorem test_wit_ReceiveLinkStartSequence_4 : ∃ (k : Fin 16) (e : Int) (s : State), (s.blk.live = true) ∧ (s.blk.lnk bJRX k.val).step = 4 ∧ (s.blk.lnk bJRX k.val).epoch = some e ∧ (s.blk.lnk bJRX k.val).everReleased = false :=
  ⟨1, 0, st (B.setLnk bJRX 1 { step := 4, epoch := some 0 }), by decide⟩
theorem test_wit_ReceiveLinkStartSequence_5 : ∃ (k : Fin 16) (mask : Byte) (s : State), (s.blk.live = true) ∧ (s.blk.lnk bJRX k.val).step ≠ 0 ∧ (¬((s.blk.lnk bJRX k.val).step = 4 ∧ (s.blk.lnk bJRX k.val).epoch.isSome = true)) ∧ (s.blk.lnk bJRX k.val).started + 16000000 ≤ s.blk.ticks :=
  ⟨2, 0xFF, st { B.setLnk bJRX 2 { step := 4 } with ticks := 16000000 }, by decide⟩
theorem test_wit_ReceiveLinkErrors_1 : ∃ (k : Fin 16) (mask : Byte) (s : State), (s.blk.live = true) ∧ (s.blk.linkLive k.val = true) :=
  ⟨4, 3, st (B.setLife bJRX 4 lOn |>.setVal (mkKey bJRX 4 0x10) 0x400), by decide⟩
theorem test_wit_ReceiveLinkErrors_2 : ∃ (k : Fin 16) (mask : Byte) (s : State), (s.blk.live = true) ∧ (s.blk.linkLive k.val = true) ∧ (s.blk.lnk bJRX k.val).everReleased = true :=
  ⟨4, 3, st (B.setLife bJRX 4 lOn |>.setLnk bJRX 4 { everReleased := true }), by decide⟩
theorem test_wit_ReceiveLinkErrors_3 : ∃ (k : Fin 16) (mask : Byte) (s : State), (s.blk.live = true) ∧ (s.blk.linkLive k.val = true) ∧ (s.blk.lnk bJRX k.val).everReleased = false :=
  ⟨4, 3, st (B.setLife bJRX 4 lStarting), by decide⟩
theorem test_wit_ReceiveLinkErrors_4 : ∃ (k : Fin 16) (mask : Byte) (s : State), (s.blk.live = true) ∧ (s.blk.linkLive k.val = true) :=
  ⟨4, 3, st (B.setLife bJRX 4 lStarting |>.setLnk bJRX 4 { everReleased := true }), by decide⟩
theorem test_wit_ReceiveLinkErrors_5 : ∃ (k : Fin 16) (old new : Int) (s : State), (s.blk.live = true) ∧ (s.blk.linkLive k.val = true) ∧ (s.blk.lnk bJRX k.val).epoch = some old ∧ (s.blk.sysrefEpoch (s.blk.lkSel bJRX k.val) = some new) ∧ (s.blk.epochsAgree bJRX k.val old new = false) ∧ (s.blk.lnk bJRX k.val).everReleased = true ∧ (s.blk.lnk bJRX k.val).lost = none :=
  ⟨4, 0, 1, st { ((((B.setLife bJRX 4 lOn |>.setLnk bJRX 4 { everReleased := true, epoch := some 0 }).setVal (mkKey bJRX 4 0x10) 0x40).setVal (mkKey bJRX 4 0x11) 0x200000).pv K.TIM_LAST_SHOT 0x10 1) with shot := [(0, 1)] }, by decide⟩
theorem test_wit_ReceiveLinkErrors_6 : ∃ (k : Fin 16) (ppm : BitVec 32) (s : State), (s.blk.live = true) ∧ (s.blk.linkLive k.val = true) :=
  ⟨4, 20001, st (B.setLife bJRX 4 lOn |>.setLnk bJRX 4 { everReleased := true }), by decide⟩
theorem test_wit_ReReleaseTransmitLinksAndSpi_1 : ∃ (k : Fin 16) (lost : BitVec 32) (e : Int) (s : State), (s.blk.live = true) ∧ (s.blk.clkLocked 1 = true) ∧ (s.blk.lnk bJRX k.val).step = 4 ∧ (s.blk.lnk bJRX k.val).epoch = some e ∧ (s.blk.lnk bJRX k.val).everReleased = true ∧ (s.blk.lnk bJRX k.val).changed = false ∧ (let b := s.start.pf K.JRX_STATUS k.val 9 9 1
     let b := b.pv K.JRX_LATENCY k.val (b.latencyAt k.val (s.blk.lnk bJRX k.val).delay % 2 ^ 32)
     s.blk.val (ki K.JRX_LATENCY k.val) = (b.incSat K.JRX_GAP_SAMPLES k.val lost.toNat).val (ki K.JRX_LATENCY k.val)) :=
  ⟨6, 100, 0, st ((B.setLnk bJRX 6 { step := 4, epoch := some 0, everReleased := true }).pv K.JRX_LATENCY 6 (B.latencyAt 6 0 % 2 ^ 32)), by decide⟩
theorem test_wit_ReReleaseTransmitLinksAndSpi_2 : ∃ (k : Fin 16) (lost : BitVec 32) (e : Int) (s : State), (s.blk.live = true) ∧ (s.blk.clkLocked 1 = true) ∧ (s.blk.lnk bJRX k.val).step = 4 ∧ (s.blk.lnk bJRX k.val).epoch = some e ∧ (s.blk.lnk bJRX k.val).everReleased = true ∧ (s.blk.lnk bJRX k.val).changed = true :=
  ⟨6, 100, -5, st (B.setLnk bJRX 6 { step := 4, epoch := some (-5), everReleased := true, changed := true, delay := 3 }), by decide⟩
theorem test_wit_ReReleaseTransmitLinksAndSpi_3 : ∃ (t : Fin 4) (e : Int) (s : State), (s.blk.live = true) ∧ (s.blk.lnk bJTX t.val).step ≠ 0 ∧ (s.blk.lnk bJTX t.val).epoch = some e ∧ (s.blk.life bJTX t.val = lStarting) :=
  ⟨1, 0, st (B.setLife bJTX 1 lStarting |>.setLnk bJTX 1 { step := 1, epoch := some 0 }), by decide⟩
theorem test_wit_ReReleaseTransmitLinksAndSpi_4 : ∃ (t : Fin 4) (s : State), (s.blk.live = true) ∧ (s.blk.lkIsB bJTX t.val = true) ∧ (s.blk.lnk bJTX t.val).everReleased = true ∧ (s.blk.isOn bJTX t.val = true) ∧ (s.blk.lnk bJTX t.val).resync = false :=
  ⟨2, st ((B.setLife bJTX 2 lOn |>.setLnk bJTX 2 { everReleased := true }).setVal (mkKey bJTX 2 0x10) 0x400), by decide⟩
theorem test_wit_ReReleaseTransmitLinksAndSpi_5 : ∃ (t : Fin 4) (s : State), (s.blk.live = true) ∧ (s.blk.lnk bJTX t.val).resync = true :=
  ⟨3, st (B.setLnk bJTX 3 { resync := true }), by decide⟩
theorem test_wit_ReReleaseTransmitLinksAndSpi_6 : ∃ (j : Fin 8) (rx : Word) (s : State), (s.blk.live = true) ∧ (s.blk.f K.JRX_SPI_STAT (0x40 + j.val) 0 0 = 1) ∧ (tget {} s.blk.spi j.val).core = none :=
  ⟨7, 0xFFFFFFFFFFFFFFFF, st { B.pf K.JRX_SPI_STAT 0x47 0 0 1 with spi := [(7, { len := 64 })] }, by decide⟩
theorem test_wit_LanesAndViewsDeliver_1 : ∃ (i : Fin 32) (raws : List RawSample) (late : Bool) (s : State), (s.blk.live = true) ∧ (s.blk.lane i.val).running = true ∧ (s.blk.importOf i.val = none) ∧ ((s.blk.life bLANE i.val = lStarting ∨ s.blk.life bLANE i.val = lOn)) :=
  ⟨0, [], false, st ((B.setLife bLANE 0 lOn).setLane 0 { running := true }), by decide⟩
theorem test_wit_LanesAndViewsDeliver_2 : ∃ (i : Fin 32) (s : State), (s.blk.live = true) ∧ (s.blk.cycle = 0) ∧ (s.blk.lane i.val).waitRelease = true ∧ (s.blk.lnReleased i.val = true) :=
  ⟨31, st ((B.setLife bLANE 31 lStarting).setLane 31 { waitRelease := true } |>.pf K.LANE_SOURCE 31 3 0 15 |>.pf K.JRX_STATUS 15 9 9 1), by decide⟩
theorem test_wit_LanesAndViewsDeliver_3 : ∃ (j : BitVec 7) (late : Bool) (w : Window) (rest : List Window) (s : State), (s.blk.live = true) ∧ (s.blk.view j.toNat).ready = w :: rest :=
  ⟨0, true, ⟨0, [], 0⟩, [], st (B.setView 0 { ready := [⟨0, [], 0⟩] }), by decide⟩
theorem test_wit_LanesAndViewsDeliver_4 : ∃ (t : Fin 32) (p : Period) (s : State), (s.blk.live = true) ∧ (s.blk.trc t.val).periods.find? (fun p => decide (p.stop ≤ s.blk.beat)) = some p :=
  ⟨2, { start := 0, stop := 0, part := false }, st (B.setTrc 2 { periods := [{ start := 0, stop := 0, part := false }] }), by decide⟩
theorem test_wit_TriggerInputsFire_1 : ∃ (k : Fin 8) (rising : Bool) (code : BitVec 16) (late : Bool) (s : State), (s.blk.live = true) :=
  ⟨7, true, 65535, false, st B, by decide⟩
theorem test_wit_TriggerInputsFire_2 : ∃ (k : Fin 8) (rising : Bool) (code : BitVec 16) (late : Bool) (s : State), (s.blk.live = true) :=
  ⟨0, false, 0, true, st B, by decide⟩
theorem test_wit_TriggerInputsFire_3 : ∃ (p : Fin 4) (ch : BitVec 6) (node : BitVec 18) (unit : BitVec 8) (seq : BitVec 32) (tp : Stamp) (s : State), (s.blk.live = true) ∧ (s.blk.portHears p.val = true) ∧ (s.blk.plt.seen.contains (node.toNat, unit.toNat, seq.toNat) = false) :=
  ⟨3, 63, 262143, 255, 0, ⟨1, 2, 3, 0⟩, st (B.pf K.PLT_PORT_STATE (pltPort 3) 2 0 3), by decide⟩
theorem test_wit_TriggerInputsFire_4 : ∃ (p : Fin 4) (ch : BitVec 6) (node : BitVec 18) (unit : BitVec 8) (seq : BitVec 32) (tp : Stamp) (s : State), (s.blk.live = true) ∧ (s.blk.portHears p.val = true) ∧ (s.blk.plt.seen.contains (node.toNat, unit.toNat, seq.toNat) = true) :=
  ⟨3, 63, 262143, 255, 0, ⟨1, 2, 3, 0⟩, st ((B.pf K.PLT_PORT_STATE (pltPort 3) 2 0 3).setPlt { seen := [(262143, 255, 0)] }), by decide⟩
theorem test_wit_TriggerInputsFire_5 : ∃ (u : Fin 16) (late : Bool) (a : Arm) (s : State), (s.blk.live = true) ∧ (s.blk.tgSource u.val = 8) ∧ (s.blk.trg u.val = { arm := some a, drains := [] }) ∧ (a.cfg = []) :=
  ⟨15, false, { lo := 0, loBeat := 0 }, st ((B.pf K.TRG_SRC 15 3 0 8).setTrg 15 { arm := some { lo := 0, loBeat := 0 }, drains := [] }), by decide⟩
theorem test_wit_TriggerDrainsAndPulses_1 : ∃ (u : Fin 16) (s : State), (s.blk.live = true) ∧ (s.blk.tgInstants u.val = true) ∧ ((∀ a ∈ (s.blk.trg u.val).drains, a.cfg = [])) :=
  ⟨4, st ((B.pf K.TRG_SRC 4 3 0 5).setTrg 4 { drains := [{ lo := 0, loBeat := 0, hi := some 1, last := some 7 }] }), by decide⟩
theorem test_wit_TriggerDrainsAndPulses_2 : ∃ (k : Fin 8) (s : State), (s.blk.live = true) ∧ (s.blk.outPin k.val).on = true ∧ (s.blk.f K.TRG_OUT_CFG (0x20 + k.val) 1 0 ≠ 2) ∧ (s.blk.outPin k.val).stop ≤ s.blk.ticks * 625 :=
  ⟨7, st { B with outPins := [(7, { on := true })] }, by decide⟩
theorem test_wit_TriggerDrainsAndPulses_3 : ∃ (k : Fin 8) (t : Int) (r : List Int) (s : State), (s.blk.live = true) ∧ (s.blk.outPin k.val).pend = t :: r ∧ (r.foldl min t < ((s.blk.beat + 1) * 1280000 * 65536 : Nat)) :=
  ⟨0, 5, [3], st { B with outPins := [(0, { pend := [5, 3] })] }, by decide⟩
theorem test_wit_CaptureFifoAndEvidence_1 : ∃ (w : Fin 32) (s : State), (s.blk.live = true) :=
  ⟨31, st ((B.pf K.CAP_CFG 31 2 0 1).setCap 31 { fill := 262144, ovf := true }), by decide⟩
theorem test_wit_CaptureFifoAndEvidence_2 : ∃ (w : Fin 32) (s : State), (s.blk.live = true) ∧ (s.blk.cpMode w.val = 4) ∧ (((s.blk.cap w.val).backlog = true ∨ (s.blk.cap w.val).ending.isSome = true)) :=
  ⟨0, st ((B.pf K.CAP_CFG 0 2 0 4).setCap 0 { backlog := true }), by decide⟩
theorem test_wit_CaptureFifoAndEvidence_3 : ∃ (w first last : Nat) (rest : List Nat) (s : State), (s.blk.live = true) ∧ (s.blk.evidence = w :: rest) ∧ (s.blk.cap w).evid = some (first, last) :=
  ⟨0, 0, 1, [], st { B.setCap 0 { evid := some (0, 1) } with evidence := [0] }, by decide⟩
theorem test_wit_CaptureFifoAndEvidence_4 : ∃ (r : Fin 16) (s : State), (s.blk.live = true) ∧ (s.blk.life bCAP (0x20 + r.val) = lStarting) ∧ (s.blk.f K.CAP_RPL_SRC (0x20 + r.val) 5 5 = 0) :=
  ⟨15, st (B.setLife bCAP 0x2F lStarting), by decide⟩
theorem test_wit_CaptureFifoAndEvidence_5 : ∃ (r : Fin 16) (d : DecRun) (rest : List DecRun) (s : State), (s.blk.live = true) ∧ (s.blk.life bCAP (0x20 + r.val) = lStarting) ∧ (s.blk.f K.CAP_RPL_SRC (0x20 + r.val) 5 5 = 1) ∧ (s.blk.dec (s.blk.f K.CAP_RPL_SRC (0x20 + r.val) 6 6)).out = d :: rest :=
  ⟨0, ⟨7, 1, none⟩, [], st (((B.setLife bCAP 0x20 lStarting).pf K.CAP_RPL_SRC 0x20 5 5 1).setDec 0 { out := [⟨7, 1, none⟩] }), by decide⟩
theorem test_wit_HbmServesByRankAndRefreshes_1 : ∃ (p : Fin 128) (asks : List HbmAsk) (levels : List (Fin 10 × BitVec 21)) (draw : Word) (r : HbmReq) (a b : Block) (x : Pc) (s : State), (s.blk.live = true) ∧ (a = levels.foldl (fun b l => b.portLevel (32 + l.1.val) l.2.toNat (b.portOn (32 + l.1.val))) s.start.writerLevels) ∧ (a.inService p.val = true) ∧ (b = (if asks.isEmpty then a else (a.pcWake p.val).pauseOwed p.val)) ∧ (x = { b.pc p.val with
      queue := (b.pc p.val).queue ++ asks.map (fun a => ⟨a.port.map (·.val), a.slot.toNat, a.line.val, a.write, b.ticks⟩)
      touched := (b.pc p.val).touched || !asks.isEmpty }) ∧ (max x.readyAt (max x.pauseEnd x.burstEnd) ≤ b.ticks) ∧ (b.setPc p.val x).hbmPick x = some r :=
  ⟨0, [⟨none, 1098623, 15, true⟩], [(0, 1048576)], 0, ⟨none, 1098623, 15, true, 0⟩, hbmLev, hbmLev, { queue := [⟨none, 1098623, 15, true, 0⟩], touched := true }, st hbmOn, by decide⟩
theorem test_wit_HbmServesByRankAndRefreshes_2 : ∃ (p : Fin 128) (b : Block) (s : State), (s.blk.live = true) ∧ (s.blk.inService p.val = true) ∧ (s.blk.pcState p.val ≠ 2) ∧ (b = s.start.pauseOwed p.val) ∧ (((b.pc p.val).queue = [] ∨ (if b.doubled p.val then 4 else 8) ≤ b.debt p.val)) :=
  ⟨1, hbmHot4, st hbmHot4, by decide⟩
theorem test_wit_HbmServesByRankAndRefreshes_3 : ∃ (p : Fin 128) (b : Block) (s : State), (s.blk.live = true) ∧ (s.blk.inService p.val = true) ∧ (s.blk.pcState p.val ≠ 2) ∧ (b = s.start.pauseOwed p.val) ∧ (b.pc p.val).queue ≠ [] ∧ (b.debt p.val < (if b.doubled p.val then 4 else 8)) :=
  ⟨64, hbmDebt7, st hbmDebt7, by decide⟩
theorem test_wit_HbmTemperatureTrainingAndFailures_1 : ∃ (k : Fin 4) (temp : BitVec 16) (s : State), (s.blk.live = true) ∧ (s.blk.f K.MEM_TEMP (stackInst k.val) 16 16 = 0) ∧ (1360 < temp.toInt) ∧ (temp.toInt ≤ 1680) :=
  ⟨3, 1361, st B, by decide⟩
theorem test_wit_HbmTemperatureTrainingAndFailures_2 : ∃ (k : Fin 4) (temp : BitVec 16) (s : State), (s.blk.live = true) ∧ (s.blk.f K.MEM_TEMP (stackInst k.val) 16 16 = 1) ∧ (temp.toInt ≤ 1328) ∧ (tget false s.blk.coolOnce k.val = true) :=
  ⟨0, 1328, st { B.pf K.MEM_TEMP 0x10 16 16 1 with coolOnce := [(0, true)] }, by decide⟩
theorem test_wit_HbmTemperatureTrainingAndFailures_3 : ∃ (p : Fin 128) (found : Bool) (s : State), (s.blk.live = true) ∧ (s.blk.inService p.val = true) ∧ (s.blk.pauseFree p.val = false) :=
  ⟨127, false, st (hbmOn.setPc 96 { pauseEnd := 1 }), by decide⟩
theorem test_wit_HbmTemperatureTrainingAndFailures_4 : ∃ (p : Fin 128) (found : Bool) (s : State), (s.blk.live = true) ∧ (s.blk.inService p.val = true) ∧ (s.blk.pcState p.val = 0) ∧ (((s.blk.pc p.val).burstEnd = 0 ∨ (s.blk.pc p.val).burstEnd + 3200 ≤ s.blk.ticks)) ∧ ((∀ k < 32, (s.blk.pc (32 * (p.val / 32) + k)).pauseEnd ≤ s.blk.ticks)) :=
  ⟨127, false, st { hbmOn.setPc 127 { burstEnd := 1 } with ticks := 3201 }, by decide⟩
theorem test_wit_HbmTemperatureTrainingAndFailures_5 : ∃ (p : Fin 128) (lane : BitVec 8) (more : Fin 4) (slot : BitVec 21) (line : Fin 16) (write : Bool) (s : State), (s.blk.live = true) ∧ (s.blk.inService p.val = true) :=
  ⟨0, 255, 3, 1098623, 15, true, st hbmOn, by decide⟩
theorem test_wit_HbmTemperatureTrainingAndFailures_6 : ∃ (p : Fin 128) (lane : Nat) (s : State), (s.blk.live = true) ∧ (s.blk.pc p.val).repair = some lane ∧ (s.blk.pauseFree p.val = true) :=
  ⟨5, 9, st (hbmOn.setPc 5 { repair := some 9 }), by decide⟩
theorem test_wit_HbmTemperatureTrainingAndFailures_7 : ∃ (p : Fin 128) (t : Nat) (s : State), (s.blk.live = true) ∧ (s.blk.cycle = 0) ∧ (s.blk.pc p.val).retire = some t ∧ (t < s.blk.ticks) :=
  ⟨127, 3, st { B.setPc 127 { retire := some 3 } with ticks := 4 }, by decide⟩
theorem test_wit_PlanesAndCompositor_1 : ∃ (p : Fin 16) (late : Bool) (c : Closing) (s : State), (s.blk.live = true) ∧ (s.blk.plane p.val).closing = some c :=
  ⟨15, true, ⟨0, 4, false, 1, 0, none, false⟩, st (B.setPlane 15 { closing := some ⟨0, 4, false, 1, 0, none, false⟩, closed := [(0, 3)], start := 4 }), by decide⟩
theorem test_wit_PlanesAndCompositor_2 : ∃ (k : Fin 16) (t : Trace) (rest : List Trace) (s : State), (s.blk.live = true) ∧ (s.blk.spg k.val).pend = t :: rest :=
  ⟨0, tr0, [], st { B.pf K.DEN_LINE_BYTES 0x20 15 0 128 with spgs := [(0, { pend := [tr0] })] }, by decide⟩
theorem test_wit_PlanesAndCompositor_3 : ∃ (k : Nat) (b : Block) (s : State), (s.blk.live = true) ∧ (s.blk.isOff bDEN compInst = false) ∧ (s.blk.tickDue = true) ∧ (b = { s.start.takeHeld bDEN compInst with comp := { s.blk.comp with tickAt := some s.blk.clock } }) ∧ (b.comp.busy = none) ∧ (b.compTarget = some k) ∧ (b.bufOk k = true) :=
  ⟨0, { comp0.blk with comp := { comp0.blk.comp with tickAt := some comp0.blk.clock } }, comp0, by decide⟩
theorem test_wit_PlanesAndCompositor_4 : ∃ (s : State), (s.blk.live = true) ∧ (s.blk.isOff bDEN compInst = false) ∧ (s.blk.tickDue = true) ∧ ((s.blk.comp.busy.isSome = true ∨ (s.start.takeHeld bDEN compInst).compTarget = none)) :=
  ⟨{ comp0 with blk := { comp0.blk with comp := { busy := some ⟨0, []⟩ } } }, by decide⟩
theorem test_wit_PlanesAndCompositor_5 : ∃ (c : Composing) (s : State), (s.blk.live = true) ∧ (s.blk.comp.busy = some c) :=
  ⟨⟨2, [1]⟩, st { B with comp := { busy := some ⟨2, [1]⟩ } }, by decide⟩
theorem test_wit_PlanesAndCompositor_6 : ∃ (k : Fin 16) (v : Nat) (s : State), (s.blk.live = true) ∧ (tfind s.blk.bufWait k.val = some v) ∧ (s.blk.bufReferenced k.val = false) :=
  ⟨15, 7, st { B with bufWait := [(15, 7)] }, by decide⟩
theorem test_wit_DisplayFramesAndTearing_1 : ∃ (o : Fin 2) (s : State), (s.blk.live = true) ∧ (s.blk.isOn bDEN (outInst o.val) = true) ∧ (s.blk.outCmd o.val = false) ∧ (o.val = 1 → s.blk.outHpd 1 = true) ∧ (s.blk.pll (outPll o.val)).down = false :=
  ⟨1, st (((B.setLife bDEN 0x81 lOn).pf K.DEN_STATUS 0x81 2 2 1).setOut 1 { step := 1 }), by decide⟩
theorem test_wit_DisplayFramesAndTearing_2 : ∃ (o : Fin 2) (k : Nat) (s : State), (s.blk.live = true) ∧ (s.blk.isOn bDEN (outInst o.val) = true) ∧ (s.blk.outCmd o.val = false) ∧ (o.val = 1 → s.blk.outHpd 1 = true) ∧ (s.blk.pll (outPll o.val)).down = false ∧ (s.blk.heldFor bDEN (outInst o.val) = []) ∧ (s.blk.out o.val).side = none ∧ (s.blk.out o.val).step = 0 ∧ (s.blk.comp.latest = some k) ∧ (s.blk.bufOk k = true) ∧ (s.blk.bufWait = []) :=
  ⟨0, 3, st dispOn, by decide⟩
theorem test_wit_DisplayFramesAndTearing_3 : ∃ (rising : Bool) (s : State), (s.blk.live = true) ∧ (s.blk.isOff bDEN 0x80 = false) ∧ (s.blk.outCmd 0 = true) ∧ ((s.blk.f K.DEN_TE_CFG 0x80 0 0 = 0) = rising) ∧ (s.blk.out 0).transfer = true :=
  ⟨true, st ((B.setLife bDEN 0x80 lOn).pf K.DEN_OUT_CFG 0x80 0 0 1 |>.setOut 0 { transfer := true }), ⟨by decide, by decide, by decide, by simp; decide, by decide⟩⟩
theorem test_wit_DisplayFramesAndTearing_4 : ∃ (s : State), (s.blk.live = true) ∧ (s.blk.isOff bDEN 0x80 = false) ∧ (s.blk.outCmd 0 = true) ∧ (s.blk.out 0).teOut = false ∧ (s.blk.out 0).teAt + 1600 * (1000 * s.blk.f K.DEN_TE_CFG 0x80 11 2) ≤ s.blk.ticks :=
  ⟨st { (B.setLife bDEN 0x80 lOn).pf K.DEN_OUT_CFG 0x80 0 0 1 with ticks := 10000000000 }, by decide⟩
theorem test_wit_DisplayFramesAndTearing_5 : ∃ (o : Fin 2) (line : BitVec 12) (s : State), (s.blk.live = true) ∧ (s.blk.isOff bDEN (outInst o.val) = false) :=
  ⟨1, 4095, st (B.setLife bDEN 0x81 lOn), by decide⟩
theorem test_wit_DisplayFramesAndTearing_6 : ∃ (o : Fin 2) (s : State), (s.blk.live = true) ∧ (s.blk.out o.val).resume = true ∧ (s.blk.out o.val).step = 0 :=
  ⟨0, st (B.setOut 0 { resume := true, blank := 3 }), by decide⟩
theorem test_wit_DisplayFramesAndTearing_7 : ∃ (o : Fin 2) (s : State), (s.blk.live = true) :=
  ⟨0, st B, by decide⟩
theorem test_wit_DisplayPortAndSideChannel_1 : ∃ (s : State), (s.blk.live = true) ∧ (s.blk.isOff bDEN 0x81 = false) ∧ (s.blk.outLink 1 = 1) :=
  ⟨st ((B.setLife bDEN 0x81 lOn).setOutLink 1 1), by decide⟩
theorem test_wit_DisplayPortAndSideChannel_2 : ∃ (s : State), (s.blk.live = true) ∧ (s.blk.isOff bDEN 0x81 = false) ∧ (s.blk.outLink 1 = 3) ∧ (s.blk.out 1).failAt + 160000000 ≤ s.blk.ticks :=
  ⟨st { (B.setLife bDEN 0x81 lOn).setOutLink 1 3 with ticks := 160000000 }, by decide⟩
theorem test_wit_DisplayPortAndSideChannel_3 : ∃ (s : State), (s.blk.live = true) ∧ (s.blk.isOff bDEN 0x81 = false) ∧ (s.blk.outHpd 1 = false) :=
  ⟨st (B.setLife bDEN 0x81 lOn), by decide⟩
theorem test_wit_DisplayPortAndSideChannel_4 : ∃ (s : State), (s.blk.live = true) ∧ (s.blk.isOff bDEN 0x81 = false) ∧ (s.blk.outHpd 1 = true) :=
  ⟨st ((B.setLife bDEN 0x81 lOn).pf K.DEN_STATUS 0x81 2 2 1), by decide⟩
theorem test_wit_DisplayPortAndSideChannel_5 : ∃ (lost : Bool) (s : State), (s.blk.live = true) ∧ (s.blk.isOff bDEN 0x81 = false) ∧ (s.blk.outHpd 1 = true) :=
  ⟨true, st (((B.setLife bDEN 0x81 lOn).pf K.DEN_STATUS 0x81 2 2 1).setOutLink 1 2), by decide⟩
theorem test_wit_DisplayPortAndSideChannel_6 : ∃ (o : Fin 2) (rx : Word) (err timeout : Bool) (s : State), (s.blk.live = true) ∧ (s.blk.sideBusy o.val = true) ∧ (s.blk.out o.val).side = none :=
  ⟨1, 0xFFFFFFFFFFFFFFFF, true, false, st (B.pf K.DEN_SIDE_STAT 0x81 0 0 1), by decide⟩
theorem test_wit_WeaverArithmeticWords_1 : ∃ (c : Fin 64) (w : Nat) (s : State), (Issues s c w) ∧ (wordOp w = some .add) :=
  ⟨63, 0x109180000000000, wk 63 0x109180000000000, by decide⟩
theorem test_wit_WeaverArithmeticWords_2 : ∃ (c : Fin 64) (w : Nat) (s : State), (Issues s c w) ∧ (wordOp w = some .sub) :=
  ⟨63, 0x209180000000000, wk 63 0x209180000000000, by decide⟩
theorem test_wit_WeaverArithmeticWords_3 : ∃ (c : Fin 64) (w : Nat) (s : State), (Issues s c w) ∧ (wordOp w = some .neg) :=
  ⟨63, 0x309000000000000, wk 63 0x309000000000000, by decide⟩
theorem test_wit_WeaverArithmeticWords_4 : ∃ (c : Fin 64) (w : Nat) (s : State), (Issues s c w) ∧ (wordOp w = some .abs) :=
  ⟨63, 0x409000000000000, wk 63 0x409000000000000, by decide⟩
theorem test_wit_WeaverArithmeticWords_5 : ∃ (c : Fin 64) (w : Nat) (s : State), (Issues s c w) ∧ (wordOp w = some .iadd) :=
  ⟨63, 0x1709180000000000, wk 63 0x1709180000000000, by decide⟩
theorem test_wit_WeaverArithmeticWords_6 : ∃ (c : Fin 64) (w : Nat) (s : State), (Issues s c w) ∧ (wordOp w = some .isub) :=
  ⟨63, 0x1809180000000000, wk 63 0x1809180000000000, by decide⟩
theorem test_wit_WeaverArithmeticWords_7 : ∃ (c : Fin 64) (w : Nat) (s : State), (Issues s c w) ∧ (wordOp w = some .iaddi) :=
  ⟨63, 0x43BCFFFFFFFFFFFF, wk 63 0x43BCFFFFFFFFFFFF, by decide⟩
theorem test_wit_WeaverArithmeticWords_8 : ∃ (c : Fin 64) (w : Nat) (s : State), (Issues s c w) ∧ (wordOp w = some .max) :=
  ⟨63, 0x509180000000000, wk 63 0x509180000000000, by decide⟩
theorem test_wit_WeaverArithmeticWords_9 : ∃ (c : Fin 64) (w : Nat) (s : State), (Issues s c w) ∧ (wordOp w = some .min) :=
  ⟨63, 0x609180000000000, wk 63 0x609180000000000, by decide⟩
theorem test_wit_WeaverLogicAndCompareWords_1 : ∃ (c : Fin 64) (w : Nat) (s : State), (Issues s c w) ∧ (wordOp w = some .and) :=
  ⟨63, 0xA09180000000000, wk 63 0xA09180000000000, by decide⟩
theorem test_wit_WeaverLogicAndCompareWords_2 : ∃ (c : Fin 64) (w : Nat) (s : State), (Issues s c w) ∧ (wordOp w = some .or) :=
  ⟨63, 0xB09180000000000, wk 63 0xB09180000000000, by decide⟩
theorem test_wit_WeaverLogicAndCompareWords_3 : ∃ (c : Fin 64) (w : Nat) (s : State), (Issues s c w) ∧ (wordOp w = some .xor) :=
  ⟨63, 0xC09180000000000, wk 63 0xC09180000000000, by decide⟩
theorem test_wit_WeaverLogicAndCompareWords_4 : ∃ (c : Fin 64) (w : Nat) (s : State), (Issues s c w) ∧ (wordOp w = some .not) :=
  ⟨63, 0xD08000000000000, wk 63 0xD08000000000000, by decide⟩
theorem test_wit_WeaverLogicAndCompareWords_5 : ∃ (c : Fin 64) (w : Nat) (s : State), (Issues s c w) ∧ (wordOp w = some .sel) :=
  ⟨63, 0x70918C000000000, wk 63 0x70918C000000000, by decide⟩
theorem test_wit_WeaverLogicAndCompareWords_6 : ∃ (c : Fin 64) (w : Nat) (s : State), (Issues s c w) ∧ (wordOp w = some .cmp) :=
  ⟨63, 0x800900000000000, wk 63 0x800900000000000, by decide⟩
theorem test_wit_WeaverLogicAndCompareWords_7 : ∃ (c : Fin 64) (w : Nat) (s : State), (Issues s c w) ∧ (wordOp w = some .tst) :=
  ⟨63, 0x907800000000000, wk 63 0x907800000000000, by decide⟩
theorem test_wit_WeaverLogicAndCompareWords_8 : ∃ (c : Fin 64) (w : Nat) (s : State), (Issues s c w) ∧ (wordOp w = some .andi) :=
  ⟨63, 0x4404000000000005, wk 63 0x4404000000000005, by decide⟩
theorem test_wit_WeaverLogicAndCompareWords_9 : ∃ (c : Fin 64) (w : Nat) (s : State), (Issues s c w) ∧ (wordOp w = some .ori) :=
  ⟨63, 0x4504000000000005, wk 63 0x4504000000000005, by decide⟩
theorem test_wit_WeaverLogicAndCompareWords_10 : ∃ (c : Fin 64) (w : Nat) (s : State), (Issues s c w) ∧ (wordOp w = some .xori) :=
  ⟨63, 0x4600FFFFFFFFFFFF, wk 63 0x4600FFFFFFFFFFFF, by decide⟩
theorem test_wit_WeaverLogicAndCompareWords_11 : ∃ (c : Fin 64) (w : Nat) (s : State), (Issues s c w) ∧ (wordOp w = some .cmpi) :=
  ⟨63, 0x470C000000000001, wk 63 0x470C000000000001, by decide⟩
theorem test_wit_WeaverLogicAndCompareWords_12 : ∃ (c : Fin 64) (w : Nat) (s : State), (Issues s c w) ∧ (wordOp w = some .mov) :=
  ⟨63, 0x1278800000000000, wk 63 0x1278800000000000, by decide⟩
theorem test_wit_WeaverLogicAndCompareWords_13 : ∃ (c : Fin 64) (w : Nat) (s : State), (Issues s c w) ∧ (wordOp w = some .swap) :=
  ⟨63, 0x1408800000000000, wk 63 0x1408800000000000, by decide⟩
theorem test_wit_WeaverLogicAndCompareWords_14 : ∃ (c : Fin 64) (w : Nat) (s : State), (Issues s c w) ∧ (wordOp w = some .conj) :=
  ⟨63, 0x1389000000000000, wk 63 0x1389000000000000, by decide⟩
theorem test_wit_WeaverLogicAndCompareWords_15 : ∃ (c : Fin 64) (w : Nat) (s : State), (Issues s c w) ∧ (wordOp w = some .unpk) :=
  ⟨63, 0x1509002000000000, wk 63 0x1509002000000000, by decide⟩
theorem test_wit_WeaverShiftWords_1 : ∃ (c : Fin 64) (w : Nat) (s : State), (Issues s c w) ∧ (wordOp w = some .asr) :=
  ⟨63, 0xE0902F000000000, wk 63 0xE0902F000000000, by decide⟩
theorem test_wit_WeaverShiftWords_2 : ∃ (c : Fin 64) (w : Nat) (s : State), (Issues s c w) ∧ (wordOp w = some .lsr) :=
  ⟨63, 0xF0902F000000000, wk 63 0xF0902F000000000, by decide⟩
theorem test_wit_WeaverShiftWords_3 : ∃ (c : Fin 64) (w : Nat) (s : State), (Issues s c w) ∧ (wordOp w = some .asl) :=
  ⟨63, 0x108902F000000000, wk 63 0x108902F000000000, by decide⟩
theorem test_wit_WeaverShiftWords_4 : ∃ (c : Fin 64) (w : Nat) (s : State), (Issues s c w) ∧ (wordOp w = some .ash) :=
  ⟨63, 0x1109180000000000, wk 63 0x1109180000000000, by decide⟩
theorem test_wit_WeaverShiftWords_5 : ∃ (c : Fin 64) (w : Nat) (s : State), (Issues s c w) ∧ (wordOp w = some .vmax) :=
  ⟨63, 0x1609183000000000, wk 63 0x1609183000000000, by decide⟩
theorem test_wit_WeaverShiftWords_6 : ∃ (c : Fin 64) (w : Nat) (s : State), (Issues s c w) ∧ (wordOp w = some .bexp) :=
  ⟨63, 0x1900800000000000, wk 63 0x1900800000000000, by decide⟩
theorem test_wit_WeaverShiftWords_7 : ∃ (c : Fin 64) (w : Nat) (s : State), (Issues s c w) ∧ (wordOp w = some .exp) :=
  ⟨63, 0x1A09000000000000, wk 63 0x1A09000000000000, by decide⟩
theorem test_wit_WeaverShiftWords_8 : ∃ (c : Fin 64) (w : Nat) (s : State), (Issues s c w) ∧ (wordOp w = some .norm) :=
  ⟨63, 0x1B091C0000000000, wk 63 0x1B091C0000000000, by decide⟩
theorem test_wit_WeaverShiftWords_9 : ∃ (c : Fin 64) (w : Nat) (s : State), (Issues s c w) ∧ (wordOp w = some .bxr) :=
  ⟨63, 0x1C00000000000000, wk 63 0x1C00000000000000, by decide⟩
theorem test_wit_WeaverShiftWords_10 : ∃ (c : Fin 64) (w : Nat) (s : State), (Issues s c w) ∧ (wordOp w = some .mva) :=
  ⟨63, 0x1D09800000000000, wk 63 0x1D09800000000000, by decide⟩
theorem test_wit_WeaverShiftWords_11 : ∃ (c : Fin 64) (w : Nat) (s : State), (Issues s c w) ∧ (wordOp w = some .mvar) :=
  ⟨63, 0x1E89800000000000, wk 63 0x1E89800000000000, by decide⟩
theorem test_wit_WeaverAccumulatorWords_1 : ∃ (c : Fin 64) (w : Nat) (s : State), (Issues s c w) ∧ (wordOp w = some .mpy) :=
  ⟨63, 0x2009180000000000, wk 63 0x2009180000000000, by decide⟩
theorem test_wit_WeaverAccumulatorWords_2 : ∃ (c : Fin 64) (w : Nat) (s : State), (Issues s c w) ∧ (wordOp w = some .mac) :=
  ⟨63, 0x2109180000000000, wk 63 0x2109180000000000, by decide⟩
theorem test_wit_WeaverAccumulatorWords_3 : ∃ (c : Fin 64) (w : Nat) (s : State), (Issues s c w) ∧ (wordOp w = some .msu) :=
  ⟨63, 0x2209180000000000, wk 63 0x2209180000000000, by decide⟩
theorem test_wit_WeaverAccumulatorWords_4 : ∃ (c : Fin 64) (w : Nat) (s : State), (Issues s c w) ∧ (wordOp w = some .mpyj) :=
  ⟨63, 0x2309180000000000, wk 63 0x2309180000000000, by decide⟩
theorem test_wit_WeaverAccumulatorWords_5 : ∃ (c : Fin 64) (w : Nat) (s : State), (Issues s c w) ∧ (wordOp w = some .macj) :=
  ⟨63, 0x2409180000000000, wk 63 0x2409180000000000, by decide⟩
theorem test_wit_WeaverAccumulatorWords_6 : ∃ (c : Fin 64) (w : Nat) (s : State), (Issues s c w) ∧ (wordOp w = some .mag2) :=
  ⟨63, 0x2518800000000000, wk 63 0x2518800000000000, by decide⟩
theorem test_wit_WeaverAccumulatorWords_7 : ∃ (c : Fin 64) (w : Nat) (s : State), (Issues s c w) ∧ (wordOp w = some .clr) :=
  ⟨63, 0x2618000000000000, wk 63 0x2618000000000000, by decide⟩
theorem test_wit_WeaverAccumulatorWords_8 : ∃ (c : Fin 64) (w : Nat) (s : State), (Issues s c w) ∧ (wordOp w = some .adda) :=
  ⟨63, 0x2709000000000000, wk 63 0x2709000000000000, by decide⟩
theorem test_wit_WeaverAccumulatorWords_9 : ∃ (c : Fin 64) (w : Nat) (s : State), (Issues s c w) ∧ (wordOp w = some .lda) :=
  ⟨63, 0x2807800000000000, wk 63 0x2807800000000000, by decide⟩
theorem test_wit_WeaverAccumulatorWords_10 : ∃ (c : Fin 64) (w : Nat) (s : State), (Issues s c w) ∧ (wordOp w = some .asra) :=
  ⟨63, 0x290803F000000000, wk 63 0x290803F000000000, by decide⟩
theorem test_wit_WeaverAccumulatorWords_11 : ∃ (c : Fin 64) (w : Nat) (s : State), (Issues s c w) ∧ (wordOp w = some .asla) :=
  ⟨63, 0x2A8803F000000000, wk 63 0x2A8803F000000000, by decide⟩
theorem test_wit_WeaverAccumulatorWords_12 : ∃ (c : Fin 64) (w : Nat) (s : State), (Issues s c w) ∧ (wordOp w = some .nega) :=
  ⟨63, 0x2B08000000000000, wk 63 0x2B08000000000000, by decide⟩
theorem test_wit_WeaverAccumulatorWords_13 : ∃ (c : Fin 64) (w : Nat) (s : State), (Issues s c w) ∧ (wordOp w = some .rnd) :=
  ⟨63, 0x2C10000000000000, wk 63 0x2C10000000000000, by decide⟩
theorem test_wit_WeaverAccumulatorWords_14 : ∃ (c : Fin 64) (w : Nat) (s : State), (Issues s c w) ∧ (wordOp w = some .cmpa) :=
  ⟨63, 0x2D00800000000000, wk 63 0x2D00800000000000, by decide⟩
theorem test_wit_WeaverSpecialWordsAndImmediates_1 : ∃ (c : Fin 64) (w : Nat) (s : State), (Issues s c w) ∧ (wordOp w = some .nop) :=
  ⟨63, 0x0, wk 63 0x0, by decide⟩
theorem test_wit_WeaverSpecialWordsAndImmediates_2 : ∃ (c : Fin 64) (w : Nat) (s : State), (Issues s c w) ∧ (wordOp w = some .mvfs) :=
  ⟨63, 0x3010013000000000, wk 63 0x3010013000000000, by decide⟩
theorem test_wit_WeaverSpecialWordsAndImmediates_3 : ∃ (c : Fin 64) (w : Nat) (s : State), (Issues s c w) ∧ (wordOp w = some .mvts) :=
  ⟨63, 0x3101813000000000, wk 63 0x3101813000000000, by decide⟩
theorem test_wit_WeaverSpecialWordsAndImmediates_4 : ∃ (c : Fin 64) (w : Nat) (s : State), (Issues s c w) ∧ (wordOp w = some .ldi) :=
  ⟨63, 0x413C000000000007, wk 63 0x413C000000000007, by decide⟩
theorem test_wit_WeaverSpecialWordsAndImmediates_5 : ∃ (c : Fin 64) (w : Nat) (s : State), (Issues s c w) ∧ (wordOp w = some .ldis) :=
  ⟨63, 0x425C000000000009, wk 63 0x425C000000000009, by decide⟩
theorem test_wit_WeaverSpecialWordsAndImmediates_6 : ∃ (c : Fin 64) (w : Nat) (s : State), (Issues s c w) ∧ (wordOp w = some .addp) :=
  ⟨63, 0x483C00000000FFFF, wk 63 0x483C00000000FFFF, by decide⟩
theorem test_wit_WeaverMovesAndBranches_1 : ∃ (c : Fin 64) (w : Nat) (op : WOp) (s : State), (Issues s c w) ∧ (hasMove (fun v => v.kind == 1) w = true) ∧ (wordOp w = some op) :=
  ⟨0, 0x10918047422A462, .add, wk 0 0x10918047422A462, by decide⟩
theorem test_wit_WeaverMovesAndBranches_2 : ∃ (c : Fin 64) (w : Nat) (op : WOp) (s : State), (Issues s c w) ∧ (hasMove (fun v => v.kind == 2) w = true) ∧ (wordOp w = some op) :=
  ⟨0, 0x9E0080000, .nop, wk 0 0x9E0080000, by decide⟩
theorem test_wit_WeaverMovesAndBranches_3 : ∃ (c : Fin 64) (w : Nat) (s : State), (Issues s c w) ∧ (wordOp w = some .br) :=
  ⟨0, 0x810FFFC000000000, wk 0 0x810FFFC000000000, by decide⟩
theorem test_wit_WeaverMovesAndBranches_4 : ∃ (c : Fin 64) (w : Nat) (s : State), (Issues s c w) ∧ (wordOp w = some .call) :=
  ⟨0, 0x82200140000000E0, wk 0 0x82200140000000E0, by decide⟩
theorem test_wit_WeaverMovesAndBranches_5 : ∃ (c : Fin 64) (w : Nat) (s : State), (Issues s c w) ∧ (wordOp w = some .jmp) :=
  ⟨0, 0x83C0000000000060, wk 0 0x83C0000000000060, by decide⟩
theorem test_wit_WeaverMovesAndBranches_6 : ∃ (c : Fin 64) (w : Nat) (s : State), (Issues s c w) ∧ (wordOp w = some .rti) :=
  ⟨0, 0x8400000000000000, wk 0 0x8400000000000000, by decide⟩
theorem test_wit_WeaverMovesAndBranches_7 : ∃ (c : Fin 64) (w : Nat) (s : State), (Issues s c w) ∧ (wordOp w = some .loop) :=
  ⟨0, 0x850000C003FFFF00, wk 0 0x850000C003FFFF00, by decide⟩
theorem test_wit_WeaverMovesAndBranches_8 : ∃ (c : Fin 64) (w : Nat) (s : State), (Issues s c w) ∧ (wordOp w = some .loopd) :=
  ⟨0, 0x8600024001000004, wk 0 0x8600024001000004, by decide⟩
theorem test_wit_WeaverRepeatsWaitAndControlWords_1 : ∃ (c : Fin 64) (w : Nat) (s : State), (Issues s c w) ∧ (wordOp w = some .rep) ∧ (bits w 23 8 ≤ s.blk.repCap c.val) :=
  ⟨0, 0x8700000000000100, wk 0 0x8700000000000100, by decide⟩
theorem test_wit_WeaverRepeatsWaitAndControlWords_2 : ∃ (c : Fin 64) (w : Nat) (s : State), (Issues s c w) ∧ (wordOp w = some .rep) ∧ (s.blk.repCap c.val < bits w 23 8) :=
  ⟨0, 0x8700000000000800, { wk 0 0x8700000000000800 with blk := (wk 0 0x8700000000000800).blk.pf K.WVR_REP_CAP 0 15 0 7 }, by decide⟩
theorem test_wit_WeaverRepeatsWaitAndControlWords_3 : ∃ (c : Fin 64) (w : Nat) (s : State), (Issues s c w) ∧ (wordOp w = some .repd) ∧ (0 < (s.blk.core c.val).dreg (bits w 4 1) % 2 ^ 16) ∧ (s.blk.core c.val).dreg (bits w 4 1) % 2 ^ 16 ≤ s.blk.repCap c.val :=
  ⟨0, 0x8800000000000002, wk 0 0x8800000000000002, by decide⟩
theorem test_wit_WeaverRepeatsWaitAndControlWords_4 : ∃ (c : Fin 64) (w : Nat) (s : State), (Issues s c w) ∧ (wordOp w = some .repd) ∧ (s.blk.core c.val).dreg (bits w 4 1) % 2 ^ 16 = 0 :=
  ⟨0, 0x8800000000000012, wk 0 0x8800000000000012, by decide⟩
theorem test_wit_WeaverRepeatsWaitAndControlWords_5 : ∃ (c : Fin 64) (w : Nat) (s : State), (Issues s c w) ∧ (wordOp w = some .waitb) ∧ (s.blk.core c.val).bh = false :=
  ⟨0, 0x8900000000000000, wk 0 0x8900000000000000, by decide⟩
theorem test_wit_WeaverRepeatsWaitAndControlWords_6 : ∃ (c : Fin 64) (w : Nat) (s : State), (Issues s c w) ∧ (wordOp w = some .waitb) ∧ (s.blk.core c.val).bh = true :=
  ⟨0, 0x8900000000000000, { wk 0 0x8900000000000000 with blk := (wk 0 0x8900000000000000).blk.setCore 0 { (wk 0 0x8900000000000000).blk.core 0 with sr := 0x20 } }, by decide⟩
theorem test_wit_WeaverRepeatsWaitAndControlWords_7 : ∃ (c : Fin 64) (w : Nat) (s : State), (Issues s c w) ∧ (wordOp w = some .crd) :=
  ⟨0, 0x8A000FC00000001E, wk 0 0x8A000FC00000001E, by decide⟩
theorem test_wit_WeaverRepeatsWaitAndControlWords_8 : ∃ (c : Fin 64) (w : Nat) (s : State), (Issues s c w) ∧ (wordOp w = some .cwr) ∧ ([0x20, 0x21, 0x22, 0x28, 0x29, 0x2A, 0x2C, 0x2D, 0x35, 0x36, 0x3C, 0x3E].contains (bits w 51 38) = true) :=
  ⟨0, 0x8B000F8000000002, wk 0 0x8B000F8000000002, by decide⟩
theorem test_wit_WeaverControlWordActions_1 : ∃ (c : Fin 64) (w : Nat) (s : State), (Issues s c w) ∧ (wordOp w = some .cwr) ∧ (bits w 51 38 = 0x23) ∧ (s.blk.core c.val).dma.length < 8 :=
  ⟨0, 0x8B0008C000000002, wk 0 0x8B0008C000000002, by decide⟩
theorem test_wit_WeaverControlWordActions_2 : ∃ (c : Fin 64) (w : Nat) (s : State), (Issues s c w) ∧ (wordOp w = some .cwr) ∧ (bits w 51 38 = 0x23) ∧ (8 ≤ (s.blk.core c.val).dma.length) :=
  ⟨0, 0x8B0008C000000002, { wk 0 0x8B0008C000000002 with blk := (wk 0 0x8B0008C000000002).blk.setCore 0 { (wk 0 0x8B0008C000000002).blk.core 0 with dma := List.replicate 8 ⟨0, 0, 0, 0⟩ } }, by decide⟩
theorem test_wit_WeaverControlWordActions_3 : ∃ (c : Fin 64) (w : Nat) (s : State), (Issues s c w) ∧ (wordOp w = some .cwr) ∧ (bits w 51 38 = 0x2B) :=
  ⟨0, 0x8B000AC000000002, wk 0 0x8B000AC000000002, by decide⟩
theorem test_wit_WeaverControlWordActions_4 : ∃ (c : Fin 64) (w : Nat) (s : State), (Issues s c w) ∧ (wordOp w = some .cwr) ∧ (bits w 51 38 = 0x2E) ∧ (coreAfter s c ((s.blk.core c.val).step1 [])).tgTakes ((s.blk.core c.val).dreg (bits w 4 1) % 16) (fun b =>
      b.tgSource ((s.blk.core c.val).dreg (bits w 4 1) % 16) == 9) = true :=
  ⟨0, 0x8B000B8000000002, { wk 0 0x8B000B8000000002 with blk := ((wk 0 0x8B000B8000000002).blk.pf K.TRG_SRC 5 3 0 9).setTrg 5 { arm := some { lo := 0, loBeat := 0 } } }, by decide⟩
theorem test_wit_WeaverControlWordActions_5 : ∃ (c : Fin 64) (w : Nat) (s : State), (Issues s c w) ∧ (wordOp w = some .cwr) ∧ (bits w 51 38 = 0x2F) :=
  ⟨0, 0x8B000BC000000002, wk 0 0x8B000BC000000002, by decide⟩
theorem test_wit_WeaverControlWordActions_6 : ∃ (c : Fin 64) (w : Nat) (s : State), (Issues s c w) ∧ (wordOp w = some .cwr) ∧ (bits w 51 38 = 0x30) ∧ (s.blk.core c.val).reqBusy = false :=
  ⟨0, 0x8B000C0000000002, wk 0 0x8B000C0000000002, by decide⟩
theorem test_wit_WeaverControlWordActions_7 : ∃ (c : Fin 64) (w : Nat) (s : State), (Issues s c w) ∧ (wordOp w = some .cwr) ∧ (bits w 51 38 = 0x34) ∧ (s.blk.spiBusy (bits ((s.blk.core c.val).dreg (bits w 4 1)) 2 0) = false) ∧ (s.blk.f K.JRX_SPI_CFG (0x40 + bits ((s.blk.core c.val).dreg (bits w 4 1)) 2 0) 17 17 ≠ 0) :=
  ⟨0, 0x8B000D0000000002, { wk 0 0x8B000D0000000002 with blk := (wk 0 0x8B000D0000000002).blk.pf K.JRX_SPI_CFG 0x45 17 17 1 }, by decide⟩
theorem test_wit_WeaverControlWordActions_8 : ∃ (c : Fin 64) (w : Nat) (s : State), (Issues s c w) ∧ (wordOp w = some .cwr) ∧ (bits w 51 38 = 0x3D) ∧ (bits (tget 0 ((s.blk.core c.val).step1 []).cw 0x3C) 47 46 < 2) ∧ (bits (tget 0 ((s.blk.core c.val).step1 []).cw 0x3C) 45 32 + bits (tget 0 ((s.blk.core c.val).step1 []).cw 0x3C) 31 16 ≤ 16384) :=
  ⟨0, 0x8B000F4000000002, wk 0 0x8B000F4000000002, by decide⟩
theorem test_wit_WeaverControlWordActions_9 : ∃ (c : Fin 64) (w : Nat) (s : State), (Issues s c w) ∧ (wordOp w = some .cwr) ∧ (bits w 51 38 = 0x3F) :=
  ⟨0, 0x8B000FC000000002, wk 0 0x8B000FC000000002, by decide⟩
theorem test_wit_WeaverEventsOfACore_1 : ∃ (c : Fin 64) (w : Nat) (s : State), (s.blk.live = true) ∧ (s.blk.mayIssue c.val = true) ∧ (s.blk.wordAt c.val = some w) ∧ (s.blk.core c.val).illegal w = true :=
  ⟨0, 0xC000000000000000, wk 0 0xC000000000000000, by decide⟩
theorem test_wit_WeaverEventsOfACore_2 : ∃ (c : Fin 64) (s : State), (s.blk.live = true) ∧ (s.blk.mayIssue c.val = true) ∧ (s.blk.wordAt c.val = none) :=
  ⟨63, { wk 63 0 with blk := (wk 63 0).blk.setCore 63 {} }, by decide⟩
theorem test_wit_WeaverEventsOfACore_3 : ∃ (c : Fin 64) (l : Nat) (s : State), (s.blk.live = true) ∧ (s.blk.isOn bWVR c.val = true) ∧ (s.blk.core c.val).halted = false ∧ (s.blk.core c.val).rep = none ∧ (s.blk.core c.val).delay = none ∧ (s.blk.core c.val).abortDue = false ∧ (((s.blk.core c.val).waitb = false ∨ (s.blk.core c.val).beatDue = false)) ∧ (s.blk.core c.val).lineDue = some l :=
  ⟨0, 3, st ((B.setLife bWVR 0 lOn).setCore 0 { sr := 0x11, pend := [(3, 1)], flight := [⟨.d 1, 5, 2⟩] }), by decide⟩
theorem test_wit_WeaverEventsOfACore_4 : ∃ (c : Fin 64) (s : State), (s.blk.live = true) ∧ (s.blk.isOn bWVR c.val = true) ∧ (s.blk.core c.val).halted = false ∧ (s.blk.core c.val).abortDue = false ∧ (s.blk.core c.val).waitb = true ∧ (s.blk.core c.val).beatDue = true :=
  ⟨0, st ((B.setLife bWVR 0 lOn).setCore 0 { waitb := true, beatDue := true }), by decide⟩
theorem test_wit_WeaverEventsOfACore_5 : ∃ (c : Fin 64) (s : State), (s.blk.live = true) ∧ (s.blk.isOn bWVR c.val = true) ∧ (s.blk.core c.val).halted = false ∧ (s.blk.core c.val).abortDue = true ∧ (s.blk.core c.val).rep = none :=
  ⟨0, st ((B.setLife bWVR 0 lOn).setCore 0 { abortDue := true, lc := 3, flight := [⟨.d 1, 5, 2⟩] }), by decide⟩
theorem test_wit_WeaverEventsOfACore_6 : ∃ (c : Fin 64) (x : DmaDesc) (t : List DmaDesc) (s : State), (s.blk.live = true) ∧ (s.blk.core c.val).dma = x :: t ∧ (s.start.setCore c.val { s.blk.core c.val with dma := t }).dmaCheck x = .ok :=
  ⟨0, ⟨0, 0x400000003fff, 0x10000001, 7⟩, [], st ((B.setLife bWVR 0 lOn).setCore 0 { dma := [⟨0, 0x400000003fff, 0x10000001, 7⟩] }), by decide⟩
theorem test_wit_WeaverEventsOfACore_7 : ∃ (c : Fin 64) (x : DmaDesc) (t : List DmaDesc) (e : Status) (s : State), (s.blk.live = true) ∧ (s.blk.core c.val).dma = x :: t ∧ (e ≠ .ok) ∧ (s.start.setCore c.val { s.blk.core c.val with dma := t }).dmaCheck x = e :=
  ⟨0, ⟨0, 0, 0xFFFFFF, 9⟩, [], (st ((B.setLife bWVR 0 lOn).setCore 0 { dma := [⟨0, 0, 0xFFFFFF, 9⟩] })).blk.dmaCheck ⟨0, 0, 0xFFFFFF, 9⟩, st ((B.setLife bWVR 0 lOn).setCore 0 { dma := [⟨0, 0, 0xFFFFFF, 9⟩] }), by decide⟩
theorem test_wit_WeaverEventsOfACore_8 : ∃ (c : Fin 64) (s : State), (s.blk.live = true) ∧ (s.blk.core c.val).reqBusy = true :=
  ⟨0, st (B.setCore 0 { reqBusy := true }), by decide⟩
theorem test_wit_WeaverEventsOfACore_9 : ∃ (c : Fin 64) (r : SvcRec) (t : List SvcRec) (s : State), (s.blk.live = true) ∧ (s.blk.core c.val).svcRecs = r :: t ∧ (r.since + 64000 ≤ s.blk.ticks) :=
  ⟨0, ⟨1, 2, 3, 4, 5, 0⟩, [], st { B.setCore 0 { svcRecs := [⟨1, 2, 3, 4, 5, 0⟩] } with ticks := 64000 }, by decide⟩
theorem test_wit_NetworkLinksAndNeighbours_1 : ∃ (l : Fin 17) (s : State), (s.blk.live = true) ∧ ((l.val = 16 ∨ s.blk.life bNET l.val = lStarting ∨ s.blk.isOn bNET l.val = true)) ∧ (s.blk.linkUp l.val = false) :=
  ⟨15, st (B.setLife bNET 15 lStarting), by decide⟩
theorem test_wit_NetworkLinksAndNeighbours_2 : ∃ (l : Fin 17) (s : State), (s.blk.live = true) ∧ (s.blk.linkUp l.val = true) :=
  ⟨16, st (B.pf K.NET_STATUS 16 0 0 1), by decide⟩
theorem test_wit_NetworkLinksAndNeighbours_3 : ∃ (l : Fin 17) (mac : BitVec 48) (ip target : BitVec 32) (s : State), (s.blk.live = true) ∧ (s.blk.linkUp l.val = true) :=
  ⟨16, 1, 2, 3, st ((B.pf K.NET_STATUS 16 0 0 1).pv K.NET_IP4 16 3), by decide⟩
theorem test_wit_NetworkLinksAndNeighbours_4 : ∃ (l : Fin 17) (mac : BitVec 48) (ip target : BitVec 128) (s : State), (s.blk.live = true) ∧ (s.blk.linkUp l.val = true) :=
  ⟨0, 1, 2, 3, st ((B.pf K.NET_STATUS 0 0 0 1).pv K.NET_IP6_LO 0 3), by decide⟩
theorem test_wit_NetworkLinksAndNeighbours_5 : ∃ (l : Fin 17) (v6 : Bool) (ip target : BitVec 128) (data : List Byte) (s : State), (s.blk.live = true) ∧ (s.blk.linkUp l.val = true) :=
  ⟨0, true, 2, 0, [1, 2], st (B.pf K.NET_STATUS 0 0 0 1), by decide⟩
theorem test_wit_NetworkLinksAndNeighbours_6 : ∃ (l : Fin 17) (v6 : Bool) (ip : BitVec 128) (mac : BitVec 48) (x : Neigh) (s : State), (s.blk.live = true) ∧ (s.blk.linkUp l.val = true) ∧ (s.blk.neigh l.val v6 ip.toNat = some x) :=
  ⟨0, false, 7, 0xFFFFFFFFFFFF, { iface := 0, v6 := false, ip := 7, since := 0 }, st { B.pf K.NET_STATUS 0 0 0 1 with neighs := [{ iface := 0, v6 := false, ip := 7, since := 0 }] }, by decide⟩
theorem test_wit_NetworkLinksAndNeighbours_7 : ∃ (l : Fin 17) (v6 : Bool) (ip : BitVec 128) (x : Neigh) (s : State), (s.blk.live = true) ∧ (s.blk.neigh l.val v6 ip.toNat = some x) ∧ (x.asked = true) ∧ (x.since + 1600000000 ≤ s.blk.ticks) :=
  ⟨3, true, 7, { iface := 3, v6 := true, ip := 7, since := 0 }, st { B with ticks := 1600000000, neighs := [{ iface := 3, v6 := true, ip := 7, since := 0 }] }, by decide⟩
theorem test_wit_NetworkLinksAndNeighbours_8 : ∃ (l : Fin 17) (v6 : Bool) (ip : BitVec 128) (x : Neigh) (s : State), (s.blk.live = true) ∧ (s.blk.neigh l.val v6 ip.toNat = some x) ∧ (x.asked = false) ∧ (x.since + 96000000000 ≤ s.blk.ticks) :=
  ⟨3, true, 7, { iface := 3, v6 := true, ip := 7, asked := false, since := 0 }, st { B with ticks := 96000000000, neighs := [{ iface := 3, v6 := true, ip := 7, asked := false, since := 0 }] }, by decide⟩
theorem test_wit_NetworkLinksAndNeighbours_9 : ∃ (l : Fin 16) (mask : Byte) (quanta : BitVec 16) (s : State), (s.blk.live = true) ∧ (s.blk.linkUp l.val = true) ∧ (s.blk.f K.NET_CFG l.val 1 1 = 1) ∧ (bit mask.toNat (s.blk.f K.NET_CFG l.val 4 2) = true) :=
  ⟨1, 0x80, 65535, st (((B.pf K.NET_STATUS 1 0 0 1).pf K.NET_CFG 1 1 1 1).pf K.NET_CFG 1 4 2 7), by decide⟩
theorem test_wit_NetworkLinksAndNeighbours_10 : ∃ (l : Fin 17) (corrected uncorrected : BitVec 32) (s : State), (s.blk.live = true) ∧ (s.blk.linkUp l.val = true) :=
  ⟨0, 1, 2, st (B.pf K.NET_STATUS 0 0 0 1), by decide⟩
theorem test_wit_StreamsAndRoce_1 : ∃ (k : Fin 64) (s : State), (s.blk.live = true) ∧ (s.blk.life bSTR k.val = lStarting) ∧ (s.blk.strReady k.val = true) :=
  ⟨63, st { ((B.setLife bSTR 63 lStarting).setLife bNET (B.strIface 63) lOn) with neighs := [{ iface := B.strIface 63, v6 := B.strV6 63, ip := B.strHop 63, mac := some 1, since := 0 }] }, by decide⟩
theorem test_wit_StreamsAndRoce_2 : ∃ (k : Fin 64) (b : Block) (it : StrItem) (rest : List StrItem) (s : State), (s.blk.live = true) ∧ (s.blk.isOn bSTR k.val = true) ∧ (b = (s.start.strRead s.mem k.val).strSkip k.val 64) ∧ (b.str k.val).items = it :: rest ∧ (it.ready = true) ∧ (b.str k.val).resend = 0 ∧ (b.strVita k.val = false) ∧ (b.strRoce k.val = false) ∧ (b.netUsable (b.strIface k.val) = true) ∧ (b.isOn bNET (b.strIface k.val) = true) ∧ (b.str k.val).readyAt ≤ b.ticks ∧ (tget 0 b.pfc (b.strIface k.val) ≤ b.ticks) :=
  ⟨3, (st strOn).start, item0, [], st strOn, by decide⟩
theorem test_wit_StreamsAndRoce_3 : ∃ (k : Fin 64) (psn : BitVec 24) (s : State), (s.blk.live = true) ∧ (s.blk.isOff bSTR k.val = false) ∧ (s.blk.strRoce k.val = true) ∧ (s.blk.linkUp (s.blk.strIface k.val) = true) ∧ ((s.blk.str k.val).unacked.filter (fun p => !psnLe p.psn psn.toNat)).length ≠ (s.blk.str k.val).unacked.length :=
  ⟨0, 5, st { rocOn.setStr 0 { unacked := [⟨5, 3, 0, 0, [], 0⟩] } with ticks := 1 }, by decide⟩
theorem test_wit_StreamsAndRoce_4 : ∃ (k : Fin 64) (psn : BitVec 24) (s : State), (s.blk.live = true) ∧ (s.blk.isOff bSTR k.val = false) ∧ (s.blk.strRoce k.val = true) ∧ (s.blk.linkUp (s.blk.strIface k.val) = true) ∧ ((s.blk.str k.val).unacked.filter (fun p => psnLe psn.toNat p.psn)) ≠ [] :=
  ⟨0, 5, st (rocOn.setStr 0 { unacked := [⟨4, 3, 0, 0, [], 0⟩, ⟨5, 3, 0, 0, [], 0⟩] }), by decide⟩
theorem test_wit_StreamsAndRoce_5 : ∃ (k : Fin 64) (p : RocePkt) (rest : List RocePkt) (s : State), (s.blk.live = true) ∧ (s.blk.str k.val).unacked = p :: rest ∧ (p.since + 209600 ≤ s.blk.ticks) :=
  ⟨0, ⟨0xFFFFFF, 3, 0, 0, [], 0⟩, [], st { rocOn.setStr 0 { unacked := [⟨0xFFFFFF, 3, 0, 0, [], 0⟩] } with ticks := 209600 }, by decide⟩
theorem test_wit_StreamsAndRoce_6 : ∃ (k : Fin 64) (psn : BitVec 24) (s : State), (s.blk.live = true) ∧ (s.blk.isOff bSTR k.val = false) ∧ (s.blk.strRoce k.val = true) ∧ (s.blk.linkUp (s.blk.strIface k.val) = true) :=
  ⟨0, 0, st rocOn, by decide⟩
theorem test_wit_CodecBlocks_1 : ∃ (k : Fin 4) (mismatch : Bool) (j : Job) (s : State), (s.blk.live = true) ∧ (tfind s.blk.jobs k.val = some j) :=
  ⟨3, false, { stream := 0, index := 0, w := 4, pred := 0, data := [] }, st { B with jobs := [(3, { stream := 0, index := 0, w := 4, pred := 0, data := [] })] }, by decide⟩
theorem test_wit_CodecBlocks_2 : ∃ (l : Fin 16) (port : BitVec 16) (bytes : List Byte) (ds : List Nat) (s : State), (s.blk.live = true) ∧ (s.blk.netUsable l.val = true) ∧ (ds = which 2 (fun d => s.blk.isOn bCDC (0x10 + d) && s.blk.f K.CDC_DEC_CFG (0x10 + d) 16 16 == 0 &&
      s.blk.f K.CDC_DEC_CFG (0x10 + d) 15 0 == port.toNat)) ∧ (ds ≠ []) ∧ (beNat (bytes.take 3) = 0x465953) ∧ (bytes.getD 3 0 = 1) ∧ (bytes.getD 4 0 = 2) ∧ (64 ≤ bytes.length) :=
  ⟨0, 0, [0x46, 0x59, 0x53, 1, 2] ++ zeros 59, [1], st (((B.pf K.NET_STATUS 0 0 0 1).setLife bCDC 0x11 lOn).pf K.CDC_DEC_CFG 0x11 15 0 0), by decide⟩
theorem test_wit_CodecBlocks_3 : ∃ (l : Fin 16) (port : BitVec 16) (bytes : List Byte) (s : State), (s.blk.live = true) ∧ (s.blk.netUsable l.val = true) ∧ (which 2 (fun d => s.blk.isOn bCDC (0x10 + d) && s.blk.f K.CDC_DEC_CFG (0x10 + d) 16 16 == 0 &&
      s.blk.f K.CDC_DEC_CFG (0x10 + d) 15 0 == port.toNat) = []) :=
  ⟨15, 65535, [], st (B.pf K.NET_STATUS 15 0 0 1), by decide⟩
theorem test_wit_CodecBlocks_4 : ∃ (d : Fin 2) (b : Block) (first : Nat) (l : List Byte) (s : State), (s.blk.live = true) ∧ (s.blk.isOn bCDC (0x10 + d.val) = true) ∧ (s.start.decNext s.mem d.val = some (b, first, l)) ∧ ((beNat ((l.drop 2).take 2) = 0 ∨ 4096 < beNat ((l.drop 2).take 2))) :=
  ⟨1, (decOn [0, 0, 0, 0]).start.setDec 1 {}, 9, [0, 0, 0, 0], decOn [0, 0, 0, 0], by decide⟩
theorem test_wit_CodecBlocks_5 : ∃ (d : Fin 2) (b : Block) (first : Nat) (l : List Byte) (vals : List (Int × Int)) (s : State), (s.blk.live = true) ∧ (s.blk.isOn bCDC (0x10 + d.val) = true) ∧ (s.start.decNext s.mem d.val = some (b, first, l)) ∧ (0 < beNat ((l.drop 2).take 2)) ∧ (beNat ((l.drop 2).take 2) ≤ 4096) ∧ (beNat ((l.drop 2).take 2) * 16 ≤ b.f K.CDC_DEC_CFG (0x10 + d.val) 28 17 * (16 + beNat ((l.drop 4).take 4) + beNat ((l.drop 8).take 4))) ∧ (decodeBlock l = some vals) ∧ ((∀ e, (b.dec d.val).next = some e → e ≤ first)) ∧ (b.f K.CDC_OUT_LIMIT (0x10 + d.val) 47 0 = 0) :=
  ⟨1, (decOn rawBlk).start.setDec 1 {}, 9, rawBlk, (decodeBlock rawBlk).getD [], decOn rawBlk, ⟨by decide, by decide, by decide, by decide, by decide, by decide, by decide, fun e h => (by cases h), by decide⟩⟩
theorem test_wit_StimulusSequencer_1 : ∃ (k : Fin 4) (b : Block) (e left : Nat) (s : State), (s.blk.live = true) ∧ (s.blk.isOff bSTM k.val = false) ∧ (s.blk.life bSTM k.val ≠ lStopping) ∧ (s.blk.stim k.val).ended = false ∧ (b = s.start.stmRun s.mem k.val) ∧ (b.seqItem k.val = some .entry) ∧ (b.stim k.val).again = some e ∧ (left = (b.stim k.val).left) ∧ (bits (b.val (K.STM_SEG + bits (b.stim k.val).word 49 38 + stmStore * 65536)) 27 4 ≠ 0) :=
  ⟨3, (stmSt 3 { fed := 32769, again := some 5, left := 1, word := 0 }).start.stmRun [] 3, 5, 1, stmSt 3 { fed := 32769, again := some 5, left := 1, word := 0 }, ⟨by decide, by decide, by decide, by decide, rfl, by decide⟩⟩
theorem test_wit_StimulusSequencer_2 : ∃ (k : Fin 4) (b : Block) (q : Nat) (s : State), (s.blk.live = true) ∧ (s.blk.isOff bSTM k.val = false) ∧ (s.blk.life bSTM k.val ≠ lStopping) ∧ (s.blk.stim k.val).ended = false ∧ (b = s.start.stmRun s.mem k.val) ∧ (b.seqItem k.val = some .entry) ∧ (b.stim k.val).again = none ∧ (b.stim k.val).idle < 16 ∧ (q = b.val (K.STM_SEQ + (b.stim k.val).entry + stmStore * 65536)) ∧ (bits q 1 0 = 0) :=
  ⟨0, (stmSt 0 { fed := 32769, entry := 3 }).start.stmRun [] 0, 0, stmSt 0 { fed := 32769, entry := 3 }, ⟨by decide, by decide, by decide, by decide, rfl, by decide⟩⟩
theorem test_wit_StimulusSequencer_3 : ∃ (k : Fin 4) (b : Block) (q : Nat) (s : State), (s.blk.live = true) ∧ (s.blk.isOff bSTM k.val = false) ∧ (s.blk.life bSTM k.val ≠ lStopping) ∧ (s.blk.stim k.val).ended = false ∧ (b = s.start.stmRun s.mem k.val) ∧ (b.seqItem k.val = some .entry) ∧ (b.stim k.val).again = none ∧ (b.stim k.val).idle < 16 ∧ (q = b.val (K.STM_SEQ + (b.stim k.val).entry + stmStore * 65536)) ∧ (bits q 1 0 = 1) :=
  ⟨0, (stmSt 0 { fed := 32769, entry := 1 }).start.stmRun [] 0, 1, stmSt 0 { fed := 32769, entry := 1 }, ⟨by decide, by decide, by decide, by decide, rfl, by decide⟩⟩
theorem test_wit_StimulusSequencer_4 : ∃ (k : Fin 4) (b : Block) (q : Nat) (s : State), (s.blk.live = true) ∧ (s.blk.isOff bSTM k.val = false) ∧ (s.blk.life bSTM k.val ≠ lStopping) ∧ (s.blk.stim k.val).ended = false ∧ (b = s.start.stmRun s.mem k.val) ∧ (b.seqItem k.val = some .entry) ∧ (b.stim k.val).again = none ∧ (q = b.val (K.STM_SEQ + (b.stim k.val).entry + stmStore * 65536)) ∧ ((bits q 1 0 = 2 ∨ 16 ≤ (b.stim k.val).idle)) :=
  ⟨0, (stmSt 0 { fed := 32769, entry := 2, idle := 15 }).start.stmRun [] 0, 2, stmSt 0 { fed := 32769, entry := 2, idle := 15 }, ⟨by decide, by decide, by decide, by decide, rfl, by decide⟩⟩
theorem test_wit_StimulusSequencer_5 : ∃ (k : Fin 4) (b : Block) (p : Play) (s : State), (s.blk.live = true) ∧ (s.blk.isOff bSTM k.val = false) ∧ (s.blk.life bSTM k.val ≠ lStopping) ∧ (s.blk.stim k.val).ended = false ∧ (b = s.start.stmRun s.mem k.val) ∧ (b.seqItem k.val = some .decision) ∧ (b.stim k.val).plays.getLast? = some p :=
  ⟨0, (stmSt 0 stmDec).start.stmRun [] 0, stmPlay, stmSt 0 stmDec, ⟨by decide, by decide, by decide, by decide, rfl, by decide⟩⟩
theorem test_wit_StimulusSequencer_6 : ∃ (k : Fin 4) (b : Block) (p : Play) (j : JumpReq) (s : State), (s.blk.live = true) ∧ (s.blk.isOff bSTM k.val = false) ∧ (s.blk.life bSTM k.val ≠ lStopping) ∧ (s.blk.stim k.val).ended = false ∧ (b = s.start.stmRun s.mem k.val) ∧ (b.seqItem k.val = some .effect) ∧ (b.stim k.val).plays.getLast? = some p ∧ (p.fixed = some j) :=
  ⟨0, (stmSt 0 stmEff).start.stmRun [] 0, { stmPlay with start := 0, d := 512, decided := true, fixed := some ⟨7, 0, 0, false⟩ }, ⟨7, 0, 0, false⟩, stmSt 0 stmEff, ⟨by decide, by decide, by decide, by decide, rfl, by decide⟩⟩
theorem test_wit_StimulusSequencer_7 : ∃ (l : Fin 16) (port : BitVec 16) (bytes : List Byte) (s : State), (s.blk.live = true) ∧ (s.blk.netUsable l.val = true) ∧ (s.blk.isOn bNET l.val = true) ∧ (which 4 (fun c => !s.blk.isOff bSTM c && s.blk.f K.STM_HOST_PORT c 15 0 == port.toNat) = []) :=
  ⟨2, 65535, [], stmNet, by decide⟩
theorem test_wit_StimulusSequencer_8 : ∃ (l : Fin 16) (port : BitVec 16) (bytes : List Byte) (c : Nat) (rest : List Nat) (s : State), (s.blk.live = true) ∧ (s.blk.netUsable l.val = true) ∧ (s.blk.isOn bNET l.val = true) ∧ (which 4 (fun c => !s.blk.isOff bSTM c && s.blk.f K.STM_HOST_PORT c 15 0 == port.toNat) = c :: rest) ∧ ((bytes.length < 16 ∨ beNat (bytes.take 4) ≠ 0x46594801 ∨ beNat ((bytes.drop 4).take 1) ≠ c ∨ beNat ((bytes.drop 6).take 2) ≠ 0)) :=
  ⟨2, 9, [0x46, 0x59, 0x48, 1], 3, [], stmNet, by decide⟩
theorem test_wit_StimulusSequencer_9 : ∃ (l : Fin 16) (port : BitVec 16) (bytes data : List Byte) (c first n pb : Nat) (rest : List Nat) (b : Block) (s : State), (s.blk.live = true) ∧ (s.blk.netUsable l.val = true) ∧ (s.blk.isOn bNET l.val = true) ∧ (which 4 (fun c => !s.blk.isOff bSTM c && s.blk.f K.STM_HOST_PORT c 15 0 == port.toNat) = c :: rest) ∧ (16 ≤ bytes.length) ∧ (beNat (bytes.take 4) = 0x46594801) ∧ (beNat ((bytes.drop 4).take 1) = c) ∧ (beNat ((bytes.drop 5).take 1) = s.blk.stPack c) ∧ (beNat ((bytes.drop 6).take 2) = 0) ∧ (data = bytes.drop 16) ∧ (pb = packBytes (s.blk.stPack c)) ∧ (data.length % pb = 0) ∧ (n = data.length / pb) ∧ (first = beNat ((bytes.drop 8).take 8)) ∧ (b = (s.start.netRx l.val).stmRun s.mem c) ∧ (b.stim c).hostNext ≤ first ∧ (first + n ≤ (b.stim c).hostNext + b.fifoLen c) ∧ (0 < n) :=
  ⟨2, 9, [0x46, 0x59, 0x48, 1, 3, 1, 0, 0] ++ zeros 7 ++ [2] ++ zeros 4, zeros 4, 3, 2, 1, 4, [], (stmNet.start.netRx 2).stmRun [] 3, stmNet, ⟨by decide, by decide, by decide, by decide, by decide, by decide, by decide, by decide, by decide, by decide, by decide, by decide, by decide, by decide, rfl, by decide⟩⟩
theorem test_wit_StimulusOutputAndVectors_1 : ∃ (k : Fin 4) (late : Bool) (s : State), (s.blk.live = true) ∧ (s.blk.isOff bSTM k.val = false) ∧ (s.blk.isOn bSTM k.val = false) :=
  ⟨3, true, st (B.setLife bSTM 3 lStarting), by decide⟩
theorem test_wit_StimulusOutputAndVectors_2 : ∃ (k : Fin 4) (late : Bool) (b : Block) (s : State), (s.blk.live = true) ∧ (s.blk.isOn bSTM k.val = true) ∧ (b = s.start.stmRun s.mem k.val) ∧ (b.stim k.val).ended = false ∧ (b.stim k.val).endAt = none ∧ (b.stim k.val).fed ≤ (b.stim k.val).pos + stmLead ∧ (b.isOn bVEC 0 = false) :=
  ⟨0, false, (stmSt 0 { plays := [{ stmPlay with start := 0, seg := 0x21, vals := [] }], hostNext := 0 } true).start.stmRun [] 0, stmSt 0 { plays := [{ stmPlay with start := 0, seg := 0x21, vals := [] }], hostNext := 0 } true, ⟨by decide, by decide, rfl, by decide⟩⟩
theorem test_wit_StimulusOutputAndVectors_3 : ∃ (k : Fin 4) (late : Bool) (b : Block) (p r e : Nat) (s : State), (s.blk.live = true) ∧ (s.blk.isOn bSTM k.val = true) ∧ (b = s.start.stmRun s.mem k.val) ∧ (b.stim k.val).ended = false ∧ (b.stim k.val).endAt = some (p, r, e) ∧ (p ≤ (b.stim k.val).pos) ∧ (b.stim k.val).run = none :=
  ⟨0, false, (stmSt 0 { pos := 5, endAt := some (5, 1, 2) }).start.stmRun [] 0, 5, 1, 2, stmSt 0 { pos := 5, endAt := some (5, 1, 2) }, ⟨by decide, by decide, rfl, by decide⟩⟩
theorem test_wit_StimulusOutputAndVectors_4 : ∃ (k : Fin 4) (b : Block) (n : Nat) (p : Play) (s : State), (s.blk.live = true) ∧ (s.blk.isOn bSTM k.val = true) ∧ (b = s.start.stmRun s.mem k.val) ∧ (b.stim k.val).ended = false ∧ (b.stim k.val).endAt = none ∧ (b.stim k.val).pos + stmLead < (b.stim k.val).fed ∧ (b.stim k.val).plays.findIdx? (fun p => decide (p.start ≤ (b.stim k.val).pos) && decide ((b.stim k.val).pos < p.stop)) = some n ∧ (b.stim k.val).plays[n]? = some p ∧ (p.kind = 0) ∧ (p.jumped = none) ∧ (b.lnk bJTX (b.stLink k.val)).resync = false ∧ (b.pll 0).down = false ∧ (b.stim k.val).run = none :=
  ⟨0, (stmSt 0 stmRunning).start.stmRun [] 0, 0, { stmPlay with start := 0, d := 40000 }, stmSt 0 stmRunning, ⟨by decide, by decide, rfl, by decide⟩⟩
theorem test_wit_StimulusOutputAndVectors_5 : ∃ (k : Fin 4) (b : Block) (n : Nat) (p : Play) (s : State), (s.blk.live = true) ∧ (s.blk.isOn bSTM k.val = true) ∧ (b = s.start.stmRun s.mem k.val) ∧ (b.stim k.val).ended = false ∧ (b.stim k.val).endAt = none ∧ (b.stim k.val).pos + stmLead < (b.stim k.val).fed ∧ (b.stim k.val).plays.findIdx? (fun p => decide (p.start ≤ (b.stim k.val).pos) && decide ((b.stim k.val).pos < p.stop)) = some n ∧ (b.stim k.val).plays[n]? = some p ∧ (p.kind = 0) ∧ (p.jumped = none) ∧ (b.lnk bJTX (b.stLink k.val)).resync = false :=
  ⟨0, (stmSt 0 stmRunning).start.stmRun [] 0, 0, { stmPlay with start := 0, d := 40000 }, stmSt 0 stmRunning, ⟨by decide, by decide, rfl, by decide⟩⟩
theorem test_wit_StimulusOutputAndVectors_6 : ∃ (k : Fin 4) (first n cause : Nat) (s : State), (s.blk.live = true) ∧ (s.blk.stim k.val).run = some (first, n, cause) :=
  ⟨3, 9, 2, 4, st (B.setStim 3 { run := some (9, 2, 4) }), by decide⟩
theorem test_wit_StimulusOutputAndVectors_7 : ∃ (t : VecDue) (rest : List VecDue) (s : State), (s.blk.live = true) ∧ (s.blk.vec.due = t :: rest) ∧ (t.safe = false) :=
  ⟨⟨0, 0, false, some (3, 5)⟩, [], st { B with vec := { due := [⟨0, 0, false, some (3, 5)⟩] } }, by decide⟩
theorem test_wit_StimulusOutputAndVectors_8 : ∃ (t : VecDue) (rest : List VecDue) (s : State), (s.blk.live = true) ∧ (s.blk.vec.due = t :: rest) ∧ (t.safe = true) :=
  ⟨⟨1, 4, true, none⟩, [], st { B with vec := { due := [⟨1, 4, true, none⟩] } }, by decide⟩
theorem test_wit_StimulusOutputAndVectors_9 : ∃ (levels : BitVec 48) (t : VecDue) (w : Nat × Nat) (bad : Nat) (s : State), (s.blk.live = true) ∧ (s.blk.vec.cmp = some t) ∧ (w = t.words.getD (s.blk.vec.w0, s.blk.vec.w1)) ∧ (which 32 (fun p => vecPin w p == 1) ≠ []) ∧ (bad = maskOf 32 (fun p => vecPin w p == 1 && bit levels.toNat p != bit w.2 (16 + p))) ∧ (bad ≠ 0) ∧ (s.blk.val K.VEC_FIRST_TICK = 2 ^ 64 - 1) :=
  ⟨0, ⟨1, 4, false, none⟩, (1, 65536), 1, st { B.vecClear with vec := { w0 := 1, w1 := 65536, cmp := some ⟨1, 4, false, none⟩ } }, by decide⟩
theorem test_wit_StimulusOutputAndVectors_10 : ∃ (levels : BitVec 48) (t : VecDue) (w : Nat × Nat) (s : State), (s.blk.live = true) ∧ (s.blk.vec.cmp = some t) ∧ (w = t.words.getD (s.blk.vec.w0, s.blk.vec.w1)) ∧ (which 32 (fun p => vecPin w p == 1) ≠ []) ∧ (maskOf 32 (fun p => vecPin w p == 1 && bit levels.toNat p != bit w.2 (16 + p)) = 0) :=
  ⟨1, ⟨1, 4, false, none⟩, (1, 65536), st { B.vecClear with vec := { w0 := 1, w1 := 65536, cmp := some ⟨1, 4, false, none⟩ } }, by decide⟩
theorem test_wit_PtpMessages_1 : ∃ (l : Fin 17) (seq frac : BitVec 16) (t1 : BitVec 96) (corr : Word) (s : State), (s.blk.dev = .flow) ∧ (s.blk.ptpRuns l.val 2 = true) :=
  ⟨16, 5, 1, 2, 3, ptpSt 16 2 {}, by decide⟩
theorem test_wit_PtpMessages_2 : ∃ (l : Fin 17) (seq frac : BitVec 16) (t1 : BitVec 96) (corr : Word) (s : State), (s.blk.dev = .flow) ∧ (s.blk.ptpRuns l.val 2 = true) :=
  ⟨0, 5, 1, 2, 3, ptpSt 0 2 {}, by decide⟩
theorem test_wit_PtpMessages_3 : ∃ (l : Fin 17) (seq : BitVec 16) (t1 : BitVec 96) (corr : Word) (t2 c : Int) (s : State), (s.blk.dev = .flow) ∧ (s.blk.ptpRuns l.val 2 = true) ∧ (s.blk.ptp l.val).waitSync = some (seq.toNat, t2, c) :=
  ⟨0, 5, 1, 2, 9, 3, ptpSt 0 2 { waitSync := some (5, 9, 3) }, by decide⟩
theorem test_wit_PtpMessages_4 : ∃ (l : Fin 17) (seq frac : BitVec 16) (src : BitVec 80) (s : State), (s.blk.dev = .flow) ∧ (s.blk.ptpRuns l.val 1 = true) :=
  ⟨0, 5, 1, 2, ptpSt 0 1 {}, by decide⟩
theorem test_wit_PtpMessages_5 : ∃ (l : Fin 17) (seq : BitVec 16) (t4 : BitVec 96) (corr : Word) (t3 ms : Int) (s : State), (s.blk.dev = .flow) ∧ (s.blk.ptpRuns l.val 2 = true) ∧ (s.blk.ptp l.val).t3 = some (seq.toNat, t3) ∧ (s.blk.ptp l.val).ms = some ms :=
  ⟨0, 5, 100, 2, 9, 3, ptpSt 0 2 { t3 := some (5, 9), ms := some 3 }, by decide⟩
theorem test_wit_PtpMessages_6 : ∃ (l : Fin 17) (gm : Word) (cls : Byte) (time freq : Bool) (steps : BitVec 16) (s : State), (s.blk.dev = .flow) ∧ (s.blk.ptpRuns l.val 2 = true) ∧ ((s.blk.timSrc ≠ 3 ∨ s.blk.f K.TIM_CFG 0 9 5 ≠ l.val)) :=
  ⟨0, 5, 6, true, false, 1, ptpSt 0 2 {}, by decide⟩
theorem test_wit_PtpMessages_7 : ∃ (l : Fin 17) (x : PtpPort) (s : State), (s.blk.dev = .flow) ∧ (s.blk.ptpRuns l.val 1 = true) ∧ (x = s.blk.ptp l.val) ∧ (x.syncAt + logInterval (sgn 4 (bits (s.blk.val (ki K.TIM_PTP_CFG (ptpInst l.val))) 8 5)) ≤ s.blk.ticks) :=
  ⟨0, { seq := 65535 }, ptpSt 0 1 { seq := 65535 }, by decide⟩
theorem test_wit_PtpMessages_8 : ∃ (l : Fin 17) (x : PtpPort) (s : State), (s.blk.dev = .flow) ∧ (s.blk.ptpRuns l.val 1 = true) ∧ (x = s.blk.ptp l.val) ∧ (x.annAt + logInterval (sgn 4 (bits (s.blk.val (ki K.TIM_PTP_CFG (ptpInst l.val))) 12 9)) ≤ s.blk.ticks) :=
  ⟨0, { annSeq := 65535 }, ptpSt 0 1 { annSeq := 65535 }, by decide⟩
theorem test_wit_PtpMessages_9 : ∃ (l : Fin 17) (x : PtpPort) (s : State), (s.blk.dev = .flow) ∧ (s.blk.ptpRuns l.val 2 = true) ∧ (x = s.blk.ptp l.val) ∧ (x.reqAt + logInterval (sgn 4 (bits (s.blk.val (ki K.TIM_PTP_CFG (ptpInst l.val))) 16 13)) ≤ s.blk.ticks) :=
  ⟨16, { reqSeq := 65535 }, ptpSt 16 2 { reqSeq := 65535 }, by decide⟩
theorem test_wit_TimeReferences_1 : ∃ (rising : Bool) (frac : BitVec 16) (offset : Int) (s : State), (s.blk.live = true) ∧ ((s.blk.timSrc = 0 ∨ s.blk.timSrc = 2)) ∧ (rising ≠ (s.blk.f K.TIM_PTP_DOMAIN 0 8 8 == 1)) ∧ (-500000000 * 65536 ≤ offset) ∧ (offset < 500000000 * 65536) ∧ (s.start.instant frac.toNat - rndEven (sgn 32 (s.blk.f K.TIM_IN_DELAY 0 31 0) * 65536) 1000 - offset).emod (1000000000 * 65536) = 0 :=
  ⟨true, 0, 0, st { B.pf K.TIM_CFG 0 4 2 0 with dev := .flow }, by decide⟩
theorem test_wit_TimeReferences_2 : ∃ (err : Word) (s : State), (s.blk.live = true) ∧ ((s.blk.timSrc = 1 ∨ s.blk.timSrc = 2)) ∧ (err.toInt.natAbs ≤ 100000000) :=
  ⟨0xFFFFFFFFFFFFFFFF, st (B.pf K.TIM_CFG 0 4 2 1), by decide⟩
theorem test_wit_TimeReferences_3 : ∃ (err : Word) (s : State), (s.blk.live = true) ∧ ((s.blk.timSrc = 1 ∨ s.blk.timSrc = 2)) ∧ (100000000 < err.toInt.natAbs) :=
  ⟨100000001, st (B.pf K.TIM_CFG 0 4 2 2), by decide⟩
theorem test_wit_TimeReferences_4 : ∃ (b : Block) (s : State), (s.blk.dev = .flow) ∧ (s.blk.timSrc = 0) ∧ (s.blk.tim.lost = false) ∧ ((s.blk.timState = 1 ∨ s.blk.timState = 3)) ∧ (s.blk.timLocked = true) ∧ (s.blk.tim.refAt + (2 * 1600000000 + 1600) ≤ s.blk.ticks) ∧ (b = ((s.start.inc K.TIM_REF_LOSSES 0 1).raise 833 (beBytes 1 0)).pf K.TIM_STATE 0 6 6 0) :=
  ⟨((timRef.start.inc K.TIM_REF_LOSSES 0 1).raise 833 (beBytes 1 0)).pf K.TIM_STATE 0 6 6 0, timRef, ⟨by decide, by decide, by decide, by decide, by decide, by decide, rfl⟩⟩
theorem test_wit_TimeReferences_5 : ∃ (s : State), (s.blk.live = true) ∧ (s.blk.timState = 2) ∧ (s.blk.f K.TIM_HOLD_MAX 0 31 0 ≤ s.blk.holdSeconds) :=
  ⟨st { (B.pf K.TIM_STATE 0 1 0 2).pf K.TIM_HOLD_MAX 0 31 0 1 with ticks := 1600000000 }, by decide⟩
theorem test_wit_TimeReferences_6 : ∃ (s : State), (s.blk.live = true) ∧ (s.blk.f K.TIM_CFG 0 12 12 = 1) ∧ (s.blk.timLocked = true) ∧ (s.blk.tim.lockedAt + 86400 * 1600000000 ≤ s.blk.ticks) ∧ (s.blk.tim.learnAt + 86400 * 1600000000 ≤ s.blk.ticks) :=
  ⟨st { (B.pf K.TIM_STATE 0 2 2 1).pf K.TIM_CFG 0 12 12 1 with ticks := 86400 * 1600000000 }, by decide⟩
theorem test_wit_TimeReferences_7 : ∃ (d : Int) (s : State), (s.blk.live = true) ∧ (s.blk.cycle = 0) ∧ (s.blk.tim.step = true) ∧ (s.blk.f K.TIM_CFG 0 11 11 = 1) ∧ (s.blk.quiet = true) ∧ (s.blk.topology = 0) ∧ (d = (sgn 64 (s.blk.val K.TIM_OFFSET)).tdiv (5 * 1280 * 65536) * 5) ∧ (d ≠ 0) :=
  ⟨-5, st { (B.pf K.TIM_CFG 0 11 11 1).pv K.TIM_OFFSET 0 (uns 64 (-5 * 1280 * 65536)) with tim := { step := true } }, by decide⟩
theorem test_wit_TimeReferences_8 : ∃ (d : Int) (s : State), (s.blk.live = true) ∧ (s.blk.cycle = 0) ∧ (s.blk.tim.step = true) ∧ (s.blk.f K.TIM_CFG 0 11 11 = 1) ∧ (s.blk.leader = true) ∧ (s.blk.plt.notice = none) ∧ (s.blk.groupQuiet = true) ∧ (d = (sgn 64 (s.blk.val K.TIM_OFFSET)).tdiv (5 * 1280 * 65536) * 5) ∧ (d ≠ 0) :=
  ⟨5, st { ((((B.pf K.TIM_CFG 0 11 11 1).pv K.TIM_OFFSET 0 (5 * 1280 * 65536)).pf K.PLT_CFG 0 1 0 1)) with tim := { step := true } }, by decide⟩
theorem test_wit_TimeOutputsAndIntervals_1 : ∃ (k : Fin 2) (n : Nat) (d : Int) (s : State), (s.blk.live = true) ∧ (bit (s.blk.val (ki K.TIM_PPS_CFG (ppsInst k.val))) 0 = true) ∧ (bit (s.blk.val (ki K.TIM_PPS_CFG (ppsInst k.val))) 1 = false) ∧ (n : Int) * 1000000000000 + sgn 32 (s.blk.f K.TIM_PPS_DELAY (ppsInst k.val) 31 0) - s.blk.beat * 1280000 = d ∧ (0 ≤ d) ∧ (d < 1280000) ∧ (tget 0 s.blk.tim.pps k.val ≠ n + 1) :=
  ⟨1, 0, 0, st ((B.pf K.TIM_PPS_CFG (ppsInst 1) 1 0 1).pf K.TIM_PPS_DELAY (ppsInst 1) 31 0 0), by decide⟩
theorem test_wit_TimeOutputsAndIntervals_2 : ∃ (b : Block) (m : Meas) (rest : List Meas) (s : State), (s.blk.live = true) ∧ (b = s.start.tiuSweep) ∧ (b.tiu.meas = m :: rest) ∧ (b.tiuOver m.s = true) ∧ (b.tiu.edges.any (fun e => b.tiuIn m.s e.2.1) = false) :=
  ⟨tiuOne.start.tiuSweep, { s := 0, uncal := false }, [], tiuOne, ⟨by decide, rfl, by decide⟩⟩
theorem test_wit_TimeOutputsAndIntervals_3 : ∃ (temp : BitVec 16) (s : State), (s.blk.dev = .flow) ∧ (s.blk.f K.TIU_CAL_CFG 0 7 0 * 8 < (temp.toInt - s.blk.tiu.temp).natAbs) :=
  ⟨0x7FFF, st { B with dev := .flow }, by decide⟩
theorem test_wit_TimeOutputsAndIntervals_4 : ∃ (temp : BitVec 16) (s : State), (s.blk.dev = .flow) ∧ (temp.toInt - s.blk.tiu.temp).natAbs ≤ s.blk.f K.TIU_CAL_CFG 0 7 0 * 8 :=
  ⟨0, st { B with dev := .flow }, by decide⟩
theorem test_wit_TimeOutputsAndIntervals_5 : ∃ (hits : List (List (BitVec 32))) (h : List (List Nat)) (temp : BitVec 16) (s : State), (s.blk.dev = .flow) ∧ (s.blk.tiu.running = true) ∧ (h = hits.map (fun l => l.map (·.toNat))) ∧ (h.length = 16) ∧ (h.all histPass = true) :=
  ⟨tiuHits, tiuHits.map (fun l => l.map (·.toNat)), 5, st { B with dev := .flow, tiu := { running := true } }, ⟨by decide, by decide, rfl, by decide, by set_option maxRecDepth 8000 in decide⟩⟩
theorem test_wit_TimeOutputsAndIntervals_6 : ∃ (hits : List (List (BitVec 32))) (bad : List Nat) (temp : BitVec 16) (s : State), (s.blk.dev = .flow) ∧ (s.blk.tiu.running = true) ∧ ((hits.map (fun l => l.map (·.toNat))).take 16).find? (fun h => !histPass h) = some bad ∧ (s.blk.tiu.next = none) :=
  ⟨[[1]], [1], 5, st { B with dev := .flow, tiu := { running := true } }, by decide⟩
theorem test_wit_PlaitPortsAndTime_1 : ∃ (p : Fin 4) (node : BitVec 18) (port : Fin 4) (out back : BitVec 48) (cut : List (Fin 16 × Fin 4)) (b : Block) (s : State), (s.blk.live = true) ∧ ((s.blk.life bPLT (pltPort p.val) = lStarting ∨ s.blk.life bPLT (pltPort p.val) = lOn)) ∧ (s.blk.portState p.val ≠ 3) ∧ (s.blk.portState p.val ≠ 0) ∧ (s.blk.clkLocked 2 = true) ∧ (b = ((s.start.setPlt { s.blk.plt with cut := cut.map (fun x => (x.1.val, x.2.val)) }).pf K.PLT_PORT_STATE (pltPort p.val) 20 3 node.toNat).pf
      K.PLT_PORT_STATE (pltPort p.val) 22 21 port.val) ∧ (b.wiring b.member p.val = some (node.toNat % 16, port.val)) ∧ (b.portState p.val ≠ 0) :=
  ⟨0, 1, 1, 100, 50, [], ((pltSt 1).start.pf K.PLT_PORT_STATE (pltPort 0) 20 3 1).pf K.PLT_PORT_STATE (pltPort 0) 22 21 1, pltSt 1, ⟨by decide, by decide, by decide, by decide, by decide, rfl, by decide⟩⟩
theorem test_wit_PlaitPortsAndTime_2 : ∃ (p : Fin 4) (node : BitVec 18) (port : Fin 4) (out back : BitVec 48) (cut : List (Fin 16 × Fin 4)) (b : Block) (s : State), (s.blk.live = true) ∧ ((s.blk.life bPLT (pltPort p.val) = lStarting ∨ s.blk.life bPLT (pltPort p.val) = lOn)) ∧ (s.blk.portState p.val ≠ 3) ∧ (s.blk.clkLocked 2 = true) ∧ (b = ((s.start.setPlt { s.blk.plt with cut := cut.map (fun x => (x.1.val, x.2.val)) }).pf K.PLT_PORT_STATE (pltPort p.val) 20 3 node.toNat).pf
      K.PLT_PORT_STATE (pltPort p.val) 22 21 port.val) ∧ (b.wiring b.member p.val ≠ some (node.toNat % 16, port.val)) :=
  ⟨0, 2, 1, 100, 50, [], ((pltSt 1).start.pf K.PLT_PORT_STATE (pltPort 0) 20 3 2).pf K.PLT_PORT_STATE (pltPort 0) 22 21 1, pltSt 1, ⟨by decide, by decide, by decide, by decide, rfl, by decide⟩⟩
theorem test_wit_PlaitPortsAndTime_3 : ∃ (p : Fin 4) (node : BitVec 18) (port : Fin 4) (out back : BitVec 48) (cut : List (Fin 16 × Fin 4)) (s : State), (s.blk.live = true) ∧ (s.blk.portState p.val = 4) ∧ (s.blk.pPort p.val).since + 160000000 ≤ s.blk.ticks :=
  ⟨0, 1, 1, 100, 50, [], st { (pltSt 4).blk with ticks := 160000000 }, by decide⟩
theorem test_wit_PlaitPortsAndTime_4 : ∃ (p : Fin 4) (node : BitVec 18) (port : Fin 4) (out back : BitVec 48) (cut : List (Fin 16 × Fin 4)) (s : State), ((s.blk.portState p.val ≠ 4 ∨ s.blk.ticks < (s.blk.pPort p.val).since + 160000000)) :=
  ⟨0, 1, 1, 100, 50, [], st { (pltSt 4).blk with ticks := 159999999 }, by decide⟩
theorem test_wit_PlaitPortsAndTime_5 : ∃ (p : Fin 4) (crc : Bool) (cut : List (Fin 16 × Fin 4)) (s : State), (s.blk.live = true) ∧ ((s.blk.life bPLT (pltPort p.val) = lStarting ∨ s.blk.life bPLT (pltPort p.val) = lOn)) :=
  ⟨0, true, [], pltSt 3, by decide⟩
theorem test_wit_PlaitPortsAndTime_6 : ∃ (p : Fin 4) (t1 t2 t3 t4 : BitVec 80) (s : State), (s.blk.live = true) ∧ (s.blk.portHears p.val = true) :=
  ⟨0, 1, 2, 3, 4, pltSt 3, by decide⟩
theorem test_wit_PlaitPortsAndTime_7 : ∃ (p : Fin 4) (t1 t2 t3 t4 : BitVec 80) (s : State), (s.blk.live = true) ∧ (s.blk.portHears p.val = true) ∧ (s.blk.timSrc ≠ 4) :=
  ⟨0, 1, 2, 3, 4, pltSt 3, by decide⟩
theorem test_wit_PlaitPortsAndTime_8 : ∃ (p : Fin 4) (t1 t2 t3 t4 : BitVec 80) (h : Nat) (offset : Int) (s : State), (s.blk.live = true) ∧ (s.blk.portHears p.val = true) ∧ (s.blk.timSrc = 4) ∧ (s.blk.timMode = 1) ∧ (s.blk.upstream = some (p.val, h)) ∧ (offset = rndEven (((t4.toInt - t3.toInt) - (t2.toInt - t1.toInt) + 2 * sgn 32 (s.blk.val (ki K.PLT_ASYM (pltPort p.val)))) * 65536) 2000) :=
  ⟨0, 1, 2, 3, 2004, 1, 65536, st (pltJoin.pf K.TIM_CFG 0 4 0 17), by decide⟩
theorem test_wit_PlaitPortsAndTime_9 : ∃ (p : Fin 4) (n : Word) (quality : BitVec 2) (h : Nat) (s : State), (s.blk.live = true) ∧ (s.blk.portHears p.val = true) ∧ (s.blk.topology ≠ 0) ∧ (s.blk.leader = false) ∧ (s.blk.upstream = some (p.val, h)) ∧ (s.blk.timSrc ≠ 4) :=
  ⟨0, 5, 2, 1, st { (pltSt 3).blk with sys := { member := 3 } }, by decide⟩
theorem test_wit_PlaitPortsAndTime_10 : ∃ (p : Fin 4) (member : Fin 16) (joined quiet : Bool) (s : State), (s.blk.live = true) ∧ (s.blk.portHears p.val = true) ∧ (s.blk.leader = true) :=
  ⟨0, 15, true, false, pltSt 3, by decide⟩
theorem test_wit_PlaitPortsAndTime_11 : ∃ (p : Fin 4) (atBeat step : Word) (h : Nat) (s : State), (s.blk.live = true) ∧ (s.blk.portHears p.val = true) ∧ (s.blk.leader = false) ∧ (s.blk.upstream = some (p.val, h)) ∧ (s.blk.joinedNow = true) :=
  ⟨0, 100, 5, 1, st (pltJoin.pf K.TIM_CFG 0 4 0 17), by decide⟩
theorem test_wit_PlaitPortsAndTime_12 : ∃ (p : Fin 4) (member : Fin 16) (seq : BitVec 32) (status : BitVec 16) (s : State), (s.blk.live = true) ∧ (s.blk.portHears p.val = true) ∧ (s.blk.leader = true) ∧ (s.blk.val K.PLT_OUT_SEQ = seq.toNat) ∧ (s.blk.f K.PLT_OUT_DONE 0 15 0 &&& (2 ^ s.blk.grpSize - 1) = 2 ^ s.blk.grpSize - 1) :=
  ⟨0, 1, 0, 1, st ((pltSt 3).blk.pf K.PLT_OUT_DONE 0 15 0 15), by decide⟩
theorem test_wit_PlaitPortsAndTime_13 : ∃ (p : Fin 4) (op : BitVec 16) (q : Packet) (s : State), (s.blk.live = true) ∧ (s.blk.portHears p.val = true) ∧ (pkFlag q 0 = true) :=
  ⟨0, 0x10, { pk0 with flags := 1 }, pltSt 3, by decide⟩
theorem test_wit_PlaitPortsAndTime_14 : ∃ (p : Fin 4) (op : BitVec 16) (q : Packet) (s : State), (s.blk.live = true) ∧ (s.blk.portHears p.val = true) ∧ (pkFlag q 0 = false) :=
  ⟨0, 0x10, pk0, pltSt 3, by decide⟩
theorem test_wit_PlaitImports_1 : ∃ (x : Fin 8) (ctx : ExportContext) (i : Nat) (s : State), (s.blk.live = true) ∧ (i = s.blk.impLane x.val) ∧ (s.blk.portHears (s.blk.impPort x.val) = true) ∧ ((s.blk.life bPLT (pltImp x.val) = lStarting ∨ s.blk.life bPLT (pltImp x.val) = lOn)) ∧ (ctx.kind = s.blk.f K.LANE_CFG i 1 0) ∧ (s.blk.imp x.val).stopped = false ∧ (s.blk.imp x.val).context = false ∧ (s.blk.slotsFree i = true) :=
  ⟨7, ⟨1, 31, 0, 1, 8, 9, 10, 11, 500000000, 1⟩, 0, impSt 7 {}, by decide⟩
theorem test_wit_PlaitImports_2 : ∃ (x : Fin 8) (ctx : ExportContext) (s : State), (s.blk.live = true) ∧ (s.blk.portHears (s.blk.impPort x.val) = true) ∧ ((s.blk.life bPLT (pltImp x.val) = lStarting ∨ s.blk.life bPLT (pltImp x.val) = lOn)) ∧ (ctx.kind ≠ s.blk.f K.LANE_CFG (s.blk.impLane x.val) 1 0) ∧ (s.blk.imp x.val).stopped = false :=
  ⟨0, ⟨1, 31, 3, 1, 8, 9, 10, 11, 500000000, 1⟩, impSt 0 {}, by decide⟩
theorem test_wit_PlaitImports_3 : ∃ (x : Fin 8) (ctx : ExportContext) (s : State), (s.blk.live = true) ∧ (s.blk.portHears (s.blk.impPort x.val) = true) ∧ ((s.blk.life bPLT (pltImp x.val) = lStarting ∨ s.blk.life bPLT (pltImp x.val) = lOn)) ∧ (ctx.kind = s.blk.f K.LANE_CFG (s.blk.impLane x.val) 1 0) ∧ (s.blk.imp x.val).stopped = false ∧ (s.blk.imp x.val).context = false ∧ (s.blk.slotsFree (s.blk.impLane x.val) = false) :=
  ⟨0, ⟨1, 31, 1, 1, 8, 9, 10, 11, 500000000, 1⟩, st (((impSt 0 {}).blk.pf K.LANE_CFG 0 1 0 1).setLife bLANE 1 lOn), by decide⟩
theorem test_wit_PlaitImports_4 : ∃ (x : Fin 8) (late : Bool) (s : State), (s.blk.live = true) ∧ ((s.blk.life bPLT (pltImp x.val) = lStarting ∨ s.blk.life bPLT (pltImp x.val) = lOn)) ∧ (s.blk.imp x.val).context = true ∧ (s.blk.imp x.val).stopped = false :=
  ⟨0, false, impSt 0 { context := true }, by decide⟩
theorem test_wit_PlaitImports_5 : ∃ (x : Fin 8) (first count : Nat) (crc late : Bool) (s : State), (s.blk.live = true) ∧ ((s.blk.life bPLT (pltImp x.val) = lStarting ∨ s.blk.life bPLT (pltImp x.val) = lOn)) ∧ (s.blk.imp x.val).context = true ∧ (s.blk.imp x.val).stopped = false :=
  ⟨0, 9, 1, true, true, impSt 0 { context := true }, by decide⟩
theorem test_wit_PlaitImports_6 : ∃ (x : Fin 8) (first count : Nat) (crc late : Bool) (s : State), (s.blk.live = true) ∧ ((s.blk.life bPLT (pltImp x.val) = lStarting ∨ s.blk.life bPLT (pltImp x.val) = lOn)) ∧ (s.blk.imp x.val).context = true ∧ (s.blk.imp x.val).stopped = true :=
  ⟨0, 9, 2, true, true, impSt 0 { context := true, stopped := true }, by decide⟩
theorem test_wit_PlaitImports_7 : ∃ (x : Fin 8) (first seq cause detail i w : Nat) (sm : ExportSample) (late : Bool) (s : State), (s.blk.live = true) ∧ ((s.blk.life bPLT (pltImp x.val) = lStarting ∨ s.blk.life bPLT (pltImp x.val) = lOn)) ∧ (s.blk.imp x.val).context = true ∧ (s.blk.imp x.val).stopped = false ∧ (s.blk.portHears (s.blk.impPort x.val) = true) ∧ (i = s.blk.impLane x.val) ∧ (w = 4 * packBytes (s.blk.imp x.val).pack) ∧ (sm.flags = 0x10) :=
  ⟨0, 9, 5, 0, 0, 0, 12, ⟨5, -5, 0x10⟩, false, impSt 0 { context := true, pack := 0 }, by decide⟩
theorem test_wit_ResetAndBoot_1 : ∃ (s : State), (s.blk.dev ≠ .reset) ∧ (s.blk.dev ≠ .boot) :=
  ⟨st { B with dev := .halt }, by decide⟩
theorem test_wit_ResetAndBoot_2 : ∃ (s : State), (s.blk.dev ≠ .reset) ∧ (s.blk.dev ≠ .boot) :=
  ⟨st { B with dev := .flow }, by decide⟩
theorem test_wit_ResetAndBoot_3 : ∃ (s : State), ((s.blk.dev = .reset ∨ s.blk.dev = .boot)) ∧ (s.blk.sys.kind = 0) :=
  ⟨st { B with dev := .boot, sys := { kind := 0 } }, by decide⟩
theorem test_wit_ResetAndBoot_5 : ∃ (recent : List Nat) (s : State), (s.blk.live = true) ∧ (recent = s.blk.sys.wdogs.filter (fun t => decide (s.blk.ticks < t + 10 * 1600000000))) ∧ (recent.length < 2) :=
  ⟨[1], st { B with ticks := 16000000000, sys := { wdogs := [0, 1] } }, by decide⟩
theorem test_wit_ResetAndBoot_6 : ∃ (s : State), (s.blk.live = true) ∧ (2 ≤ (s.blk.sys.wdogs.filter (fun t => decide (s.blk.ticks < t + 10 * 1600000000))).length) :=
  ⟨st { B with dev := .flow, ticks := 16000000000, sys := { wdogs := [1, 2] } }, by decide⟩
theorem test_wit_ResetAndBoot_7 : ∃ (member : BitVec 4) (bootMode : BitVec 2) (s : State), (s.blk.dev = .reset) ∧ (s.blk.sys.held = 0) ∧ (s.blk.sys.kind ≠ 2) ∧ (bootMode ≠ 3) :=
  ⟨15, 2, st { B with dev := .reset }, by decide⟩
theorem test_wit_ResetAndBoot_8 : ∃ (member : BitVec 4) (s : State), (s.blk.dev = .reset) ∧ (s.blk.sys.held = 0) ∧ (s.blk.sys.kind ≠ 2) :=
  ⟨15, st { B with dev := .reset, sys := { kind := 1 } }, by decide⟩
theorem test_wit_ResetAndBoot_9 : ∃ (slot : BootSlot) (k : Nat) (rest : List Nat) (s : State), (s.blk.dev = .boot) ∧ (s.blk.sys.booted = false) ∧ (s.blk.sys.slots = k :: rest) :=
  ⟨⟨true, zeros 256, []⟩, 1, [], st { B with dev := .boot, sys := { slots := [1] } }, by decide⟩
theorem test_wit_ResetAndBoot_10 : ∃ (s : State), (s.blk.dev = .boot) ∧ (s.blk.sys.booted = true) :=
  ⟨st { B with dev := .boot, sys := { booted := true } }, by decide⟩
theorem test_wit_ResetAndBoot_11 : ∃ (s : State), (s.blk.dev ≠ .halt) :=
  ⟨st B, by decide⟩
theorem test_wit_TrainingAndFlow_1 : ∃ (bad : List (Fin 128)) (s : State), (s.blk.dev = .thaw) ∧ (s.blk.sys.trained = false) ∧ (which 128 (fun p => !(bad.map (·.val)).contains p)) ≠ [] :=
  ⟨[0, 127], st B, by decide⟩
theorem test_wit_TrainingAndFlow_2 : ∃ (s : State), (s.blk.dev = .thaw) ∧ (s.blk.cycle = 0) ∧ (s.blk.sys.trained = true) ∧ (s.blk.unreleased = none) ∧ (s.blk.f K.SYS_FLOW_PENDING 0 0 0 = 1) ∧ (128 ≤ s.blk.nPc) ∧ (s.blk.clkState 0 = 0) ∧ (s.blk.clkState 1 = 0) ∧ (s.blk.clkState 2 = 0) ∧ (List.range 6).find? (fun n => s.blk.clkState n == 5) = none :=
  ⟨flowSt, by decide⟩
theorem test_wit_TrainingAndFlow_3 : ∃ (s : State), (s.blk.dev = .thaw) ∧ (s.blk.cycle = 0) ∧ (s.blk.sys.trained = true) ∧ ((s.blk.flowAuto = true ∨ s.blk.flowRequested = true)) :=
  ⟨flowSt, by decide⟩
theorem test_wit_TrainingAndFlow_4 : ∃ (s : State), (s.blk.dev = .thaw) ∧ ((s.blk.sys.trained = false ∨ (s.blk.flowAuto = false ∧ s.blk.flowRequested = false))) :=
  ⟨st B, by decide⟩
theorem test_wit_JtagInstructions_4 : ∃ (pins tdi len : Nat) (s : State), (pins < 2 ^ len) ∧ (tdi < 2 ^ len) :=
  ⟨7, 5, 3, st B, by decide⟩
theorem test_wit_JtagInstructions_5 : ∃ (pins tdi len : Nat) (s : State), (pins < 2 ^ len) ∧ (tdi < 2 ^ len) :=
  ⟨7, 5, 3, st B, by decide⟩
theorem test_wit_ThermalAndSupply_1 : ∃ (temps : List (BitVec 16)) (t : BitVec 16) (rest : List (BitVec 16)) (top : Int) (s : State), (s.blk.live = true) ∧ (temps = t :: rest) ∧ (top = (rest.map (·.toInt)).foldl max t.toInt) ∧ (top ≤ sgn 16 (s.blk.f K.THM_DIE_MAX 0 15 0)) ∧ (s.blk.sys.hot = false) :=
  ⟨[400, 0xFFFF], 400, [0xFFFF], 400, st (B.pf K.THM_DIE_MAX 0 15 0 400), by decide⟩
theorem test_wit_ThermalAndSupply_2 : ∃ (temps : List (BitVec 16)) (t : BitVec 16) (rest : List (BitVec 16)) (top : Int) (b : Block) (s : State), (s.blk.live = true) ∧ (temps = t :: rest) ∧ (top = (rest.map (·.toInt)).foldl max t.toInt) ∧ (sgn 16 (s.blk.f K.THM_DIE_MAX 0 15 0) < top) ∧ (s.blk.sys.hot = true) ∧ (b = (s.start.pf K.THM_DIE_TEMP 0 15 0 (uns 16 top)).pf K.THM_DIE_MAX 0 15 0 (uns 16 top)) ∧ (sgn 16 (b.f K.THM_TSHUT 0 15 0) < top) :=
  ⟨[5, 0x7FFF], 5, [0x7FFF], 0x7FFF, (hotSt.start.pf K.THM_DIE_TEMP 0 15 0 (uns 16 0x7FFF)).pf K.THM_DIE_MAX 0 15 0 (uns 16 0x7FFF), hotSt, ⟨by decide, by decide, by decide, by decide, by decide, rfl, by decide⟩⟩
theorem test_wit_ThermalAndSupply_3 : ∃ (lowest : BitVec 12) (devclk : List (BitVec 32)) (b : Block) (s : State), (s.blk.live = true) ∧ (b = (List.range 4).foldl (fun b k => b.pv K.THM_DEVCLK (0x10 + k) ((devclk.map (·.toNat)).getD k 0 % 2 ^ 32)) s.start) ∧ (b.avsFault = false) ∧ (b.avsMode = 0) :=
  ⟨0, [1], (List.range 4).foldl (fun b k => b.pv K.THM_DEVCLK (0x10 + k) (([1].map (fun (x : BitVec 32) => x.toNat)).getD k 0 % 2 ^ 32)) (st B).start, st B, ⟨by decide, rfl, by decide⟩⟩
theorem test_wit_ThermalAndSupply_4 : ∃ (s : State), (s.blk.live = true) ∧ (s.blk.avsFault = false) ∧ (s.blk.avsMode = 0) :=
  ⟨st (B.pf K.THM_AVS_STATE 0 11 2 795), by decide⟩
theorem test_wit_ThermalAndSupply_5 : ∃ (s : State), (s.blk.live = true) :=
  ⟨st B, by decide⟩
theorem test_wit_ThermalAndSupply_6 : ∃ (w : BitVec 16) (v : Nat) (s : State), (s.blk.live = true) ∧ (s.blk.sys.pmBus = some (0x8B, v)) ∧ (s.blk.avsFault = false) ∧ (s.blk.sys.pmAgain = false) ∧ (tfind s.blk.waiting K.THM_AVS_CFG = none) :=
  ⟨820, 0, st { B with sys := { pmBus := some (0x8B, 0) } }, by decide⟩
theorem test_wit_ThermalAndSupply_7 : ∃ (c v : Nat) (b : Block) (s : State), (s.blk.live = true) ∧ (s.blk.sys.pmBus = some (c, v)) ∧ (2 ≤ s.blk.sys.pmFails) ∧ (b = (s.start.inc K.THM_AVS_ERR 0 1).setSys { s.blk.sys with
      pmFails := s.blk.sys.pmFails + 1, pmAgain := s.blk.sys.pmAgain || (c == pmVoutCommand && v == 800 && (s.start.inc K.THM_AVS_ERR 0 1).avsMode == 2) }) ∧ (b.avsFault = false) :=
  ⟨0x21, 800, pmFail3, st { B with sys := { pmBus := some (0x21, 800), pmFails := 2 } }, ⟨by decide, by decide, by decide, rfl, by decide⟩⟩
theorem test_wit_ThermalAndSupply_8 : ∃ (c v : Nat) (s : State), (s.blk.live = true) ∧ (s.blk.sys.pmBus = some (c, v)) ∧ (s.blk.avsFault = true) ∧ (s.blk.sys.pmRetryAt + 1600000000 ≤ s.blk.ticks) :=
  ⟨0x21, 800, st { B.pf K.THM_AVS_STATE 0 1 0 3 with ticks := 1600000000, sys := { pmBus := some (0x21, 800) } }, by decide⟩
theorem test_wit_SessionsAndWindowsEnd_1 : ∃ (id : BitVec 32) (s : State), (s.blk.live = true) :=
  ⟨3, st B, by decide⟩
theorem test_wit_SessionsAndWindowsEnd_2 : ∃ (id : BitVec 32) (x : Session) (s : State), (s.blk.live = true) ∧ (s.blk.session id.toNat = some x) ∧ (x.lastAccept + s.blk.f K.SYS_BCP_IDLE_TIMEOUT 0 11 0 * 1600000000 ≤ s.blk.ticks) :=
  ⟨5, sess, st { B.pf K.SYS_BCP_IDLE_TIMEOUT 0 11 0 1 with sessions := [sess], ticks := 1600000000 }, by decide⟩
theorem test_wit_SessionsAndWindowsEnd_3 : ∃ (id seq : BitVec 32) (t : Txn) (s : State), (s.blk.live = true) ∧ (s.blk.cycle = 0) ∧ (s.blk.txns.filter (fun t => decide (t.target ≤ s.blk.beat))).find? (fun t => t.session == id.toNat && t.seq == seq.toNat) = some t ∧ (t.committed = false) :=
  ⟨5, 7, ⟨5, 7, 10, [], false⟩, st { B with beat := 10, txns := [⟨5, 7, 10, [], false⟩] }, by decide⟩
theorem test_wit_SessionsAndWindowsEnd_4 : ∃ (id seq : BitVec 32) (t : Txn) (s : State), (s.blk.live = true) ∧ (s.blk.cycle = 0) ∧ (s.blk.txns.filter (fun t => decide (t.target ≤ s.blk.beat))).find? (fun t => t.session == id.toNat && t.seq == seq.toNat) = some t ∧ (t.committed = true) :=
  ⟨5, 7, ⟨5, 7, 10, [], true⟩, st { B with beat := 10, txns := [⟨5, 7, 10, [], true⟩] }, by decide⟩
theorem test_wit_SessionsAndWindowsEnd_5 : ∃ (blk inst : BitVec 8) (s : State), (s.blk.live = true) ∧ (s.blk.cycle = 0) ∧ (s.blk.heldReq blk.toNat inst.toNat = 1) ∧ (s.blk.life blk.toNat inst.toNat = lOff) ∧ (tget 0 s.blk.reached (mkKey blk.toNat inst.toNat 2) < s.blk.ticks) :=
  ⟨0x10, 0, st { B.setHeld 0x10 0 1 with ticks := 1 }, by decide⟩
theorem test_wit_SessionsAndWindowsEnd_6 : ∃ (blk inst : BitVec 8) (s : State), (s.blk.live = true) ∧ (s.blk.cycle = 0) ∧ (s.blk.heldReq blk.toNat inst.toNat = 2) ∧ (s.blk.life blk.toNat inst.toNat = lOn) ∧ (tget 0 s.blk.reached (mkKey blk.toNat inst.toNat 2) < s.blk.ticks) :=
  ⟨0x10, 0, st { (B.setLife 0x10 0 lOn).setHeld 0x10 0 2 with ticks := 1 }, by decide⟩
theorem test_wit_SessionsAndWindowsEnd_7 : ∃ (blk inst : BitVec 8) (s : State), (s.blk.live = true) ∧ (s.blk.cycle = 0) ∧ (hasLife blk.toNat inst.toNat = true) ∧ ((s.blk.life blk.toNat inst.toNat = lStarting ∨ s.blk.life blk.toNat inst.toNat = lStopping)) :=
  ⟨0x10, 0, st (B.setLife 0x10 0 lStarting), by decide⟩
theorem test_wit_SessionsAndWindowsEnd_8 : ∃ (blk : Nat) (code k : BitVec 8) (s : State), (s.blk.live = true) ∧ (s.blk.cycle = 0) ∧ ((blk = bJRX ∨ blk = bJTX)) ∧ (code.toNat = blk) ∧ (hasLife blk k.toNat = true) ∧ (s.blk.life blk k.toNat = lStarting) ∧ (s.blk.lnk blk k.toNat).everReleased = true :=
  ⟨4, 4, 15, st (B.setLife bJRX 15 lStarting |>.setLnk bJRX 15 { everReleased := true }), by decide⟩
theorem test_wit_SessionsAndWindowsEnd_9 : ∃ (blk : Nat) (code k : BitVec 8) (s : State), (s.blk.live = true) ∧ (s.blk.cycle = 0) ∧ ((blk = bJRX ∨ blk = bJTX)) ∧ (code.toNat = blk) ∧ (hasLife blk k.toNat = true) ∧ (s.blk.life blk k.toNat = lStopping) :=
  ⟨0x17, 0x17, 3, st (B.setLife bJTX 3 lStopping), by decide⟩
theorem test_wit_SessionsAndWindowsEnd_10 : ∃ (first : Nat) (s : State), (s.blk.live = true) ∧ (s.blk.cycle = 0) ∧ (s.blk.beat % 1024 = 0) ∧ (s.blk.winBeat ≠ s.blk.beat) ∧ (s.blk.supFirst = some first) :=
  ⟨4, st { B with beat := 1024, supFirst := some 4 }, by decide⟩
theorem test_wit_SessionsAndWindowsEnd_11 : ∃ (s : State), (s.blk.live = true) ∧ (s.blk.cycle = 0) ∧ (s.blk.beat % 1024 = 0) ∧ (s.blk.winBeat ≠ s.blk.beat) ∧ (s.blk.supFirst = none) :=
  ⟨st { B with beat := 2048 }, by decide⟩
theorem test_wit_BeatAndPerformance_1 : ∃ (s : State), (s.blk.live = false) :=
  ⟨st { B with dev := .halt }, by decide⟩
theorem test_wit_BeatAndPerformance_2 : ∃ (s : State), (s.blk.live = true) :=
  ⟨st B, by decide⟩
theorem test_wit_BeatAndPerformance_3 : ∃ (x : Accepted) (b : Block) (s : State), (s.blk.live = true) ∧ (s.blk.cycle = 0) ∧ (s.blk.accepted.find? (fun x => decide (x.target ≤ s.blk.beat)) = some x) ∧ (b = { s.start with accepted := s.blk.accepted.erase x }) ∧ (b.judgeNow [] x).good = true :=
  ⟨accW, { (accS accW).start with accepted := [] }, accS accW, ⟨by decide, by decide, by decide, rfl, by decide⟩⟩
theorem test_wit_BeatAndPerformance_4 : ∃ (x : Accepted) (b : Block) (s : State), (s.blk.live = true) ∧ (s.blk.cycle = 0) ∧ (s.blk.accepted.find? (fun x => decide (x.target ≤ s.blk.beat)) = some x) ∧ (b = { s.start with accepted := s.blk.accepted.erase x }) ∧ (b.judgeNow [] x).good = false :=
  ⟨accBad, { (accS accBad).start with accepted := [] }, accS accBad, ⟨by decide, by decide, by decide, rfl, by decide⟩⟩
theorem test_wit_BeatAndPerformance_5 : ∃ (id : BitVec 32) (e : SchedEntry) (s : State), (s.blk.live = true) ∧ (s.blk.cycle = 0) ∧ (s.blk.sched.filter (fun e => decide (e.next ≤ s.blk.beat) && e.left != some 0)).find? (fun e => e.id == id.toNat) = some e ∧ (e.opcode = 0) ∧ (s.blk.accepted = []) :=
  ⟨3, ⟨3, 5, 1, 0, 8, some 2, 0, []⟩, st { B with sched := [⟨3, 5, 1, 0, 8, some 2, 0, []⟩] }, by decide⟩
theorem test_wit_BeatAndPerformance_6 : ∃ (id : BitVec 32) (e : SchedEntry) (s : State), (s.blk.live = true) ∧ (s.blk.cycle = 0) ∧ (s.blk.sched.filter (fun e => decide (e.next ≤ s.blk.beat) && e.left != some 0)).find? (fun e => e.id == id.toNat) = some e :=
  ⟨3, ⟨3, 5, 1, 0, 0, some 1, 0x11, recB K.VEC_CFG 0 4 1⟩, st { B with sched := [⟨3, 5, 1, 0, 0, some 1, 0x11, recB K.VEC_CFG 0 4 1⟩] }, by decide⟩
theorem test_wit_PingAndHandshake_1 : ∃ (p : Packet) (x : Session) (b : Block) (s : State), (Comes 1 p x s) ∧ (Tagged 1 p x.h2e) ∧ (s.blk.shakes.any (fun h => h.id == p.session.toNat) = false) ∧ (p.target = 0) ∧ (p.payload.length ≤ 64) ∧ (b = opened p x s) :=
  ⟨sg 1 (pkt [7]), sess, opened (sg 1 (pkt [7])) sess bcpSt, bcpSt, ⟨by decide, tagged_sg _ _, by decide, by decide, by decide, rfl⟩⟩
theorem test_wit_PingAndHandshake_2 : ∃ (p : Packet) (s : State), (s.blk.live = true) ∧ (s.blk.bcpHears p.port.val p = true) ∧ (p.fragment = false) ∧ (s.blk.unprocessed p < 64) ∧ (48 ≤ p.udpLen) ∧ (p.udpLen ≤ s.blk.payloadLimit p.port.val + 48) ∧ (p.magic = 0x424350) ∧ (pkFlag p 4 = false) ∧ (p.version = 3) ∧ (p.session = 0) :=
  ⟨{ pkt (zeros 120) with session := 0 }, bcpSt, by set_option maxRecDepth 4000 in decide⟩
theorem test_wit_PingAndHandshake_3 : ∃ (p : Packet) (h : Handshake) (s : State), (s.blk.live = true) ∧ (s.blk.bcpHears p.port.val p = true) ∧ (p.fragment = false) ∧ (s.blk.unprocessed p < 64) ∧ (48 ≤ p.udpLen) ∧ (p.udpLen ≤ s.blk.payloadLimit p.port.val + 48) ∧ (p.magic = 0x424350) ∧ (pkFlag p 4 = false) ∧ (p.version = 3) ∧ (p.session ≠ 0) ∧ (s.blk.session p.session.toNat = none) ∧ (s.blk.shakes.find? (fun x => x.id == p.session.toNat) = some h) ∧ (p.seq = 1) ∧ (Tagged 1 p h.h2e) ∧ (formatOk 1 p = true) ∧ (p.target = 0) :=
  ⟨{ sg 1 (pkt []) with seq := 1, tag := (sg 1 { pkt [] with seq := 1 }).tag }, hs0, hsSt, ⟨by decide, by decide, by decide, by decide, by decide, by decide, by decide, by decide, by decide, by decide, by decide, by decide, by decide, tagged_sg 1 { pkt [] with seq := 1 }, by decide⟩⟩
theorem test_wit_PingAndHandshake_4 : ∃ (p : Packet) (x : Session) (b : Block) (s : State), (Comes 1 { p with flags := p.flags &&& 0xFFF7 } x s) ∧ (pkFlag p 3 = true) ∧ (Tagged 1 p x.h2e) ∧ (s.blk.shakes.any (fun h => h.id == p.session.toNat) = false) ∧ (formatOk 1 p = true) ∧ (p.target = 0) ∧ (p.payload.length ≤ 64) ∧ (b = opened p x s) :=
  ⟨sg 1 { pkt [7] with flags := 8 }, sess, opened (sg 1 { pkt [7] with flags := 8 }) sess bcpSt, bcpSt, ⟨by decide, by decide, tagged_sg _ _, by decide, by decide, by decide, by decide, rfl⟩⟩
theorem test_wit_WriteRequests_1 : ∃ (p : Packet) (x : Session) (b b' : Block) (k st : Nat) (v : List Byte) (s : State), (Comes 0x10 p x s) ∧ (Tagged 0x10 p x.h2e) ∧ (p.target = 0) ∧ (b = opened p x s) ∧ (parseRecs 256 p.payload = some [⟨k, 0, 0⟩]) ∧ (serviceCore k = none) ∧ (b.readTooBig (asked 0x10 p x s.blk.beat) [⟨k, 0, 0⟩] = false) ∧ (b.readRecord k = (b', st, v)) :=
  ⟨sg 0x10 (pkt (recB K.VEC_CFG 0 0 0)), sess, opened (sg 0x10 (pkt (recB K.VEC_CFG 0 0 0))) sess bcpSt, opened (sg 0x10 (pkt (recB K.VEC_CFG 0 0 0))) sess bcpSt, K.VEC_CFG, 0, beBytes 4 (bcpSt.blk.val K.VEC_CFG), bcpSt, ⟨by decide, tagged_sg _ _, by decide, rfl, by decide, by decide, by decide, by rfl⟩⟩
theorem test_wit_WriteRequests_2 : ∃ (p : Packet) (x : Session) (b : Block) (q : Req) (r : WireRec) (st : Status) (t : Nat) (s : State), (Comes 0x11 p x s) ∧ (Tagged 0x11 p x.h2e) ∧ (Dated p t s) ∧ (b = opened p x s) ∧ (q = asked 0x11 p x t) ∧ (parseRecs 256 p.payload = some [r]) ∧ (serviceCore r.key = none) ∧ ((p.target ≠ 0 ∨ isEnable r.key = true ∨ b.keyRow r.key = none ∨ ∃ row, b.keyRow r.key = some row ∧ effectOf r.key row ≠ .imm)) ∧ (st = b.checkWrite ⟨q.asker, t, false, p.target == 0⟩ [] r.write r.len) ∧ (st.good = true) ∧ (r.key ≠ K.SEC_ZEROISE) :=
  ⟨setP, sess, opened setP sess bcpSt, asked 0x11 setP sess 1, ⟨K.VEC_SAFE_W0, 8, 1⟩, .ok, 1, bcpSt, ⟨by decide, tagged_sg _ _, by decide, rfl, rfl, by decide, by decide, .inr (.inr (.inr ⟨_, rfl, by decide⟩)), by decide⟩⟩
theorem test_wit_WriteRequests_3 : ∃ (p : Packet) (x : Session) (b : Block) (q : Req) (r : WireRec) (st : Status) (t : Nat) (s : State), (Comes 0x11 p x s) ∧ (Tagged 0x11 p x.h2e) ∧ (Dated p t s) ∧ (b = opened p x s) ∧ (q = asked 0x11 p x t) ∧ (parseRecs 256 p.payload = some [r]) ∧ (serviceCore r.key = none) ∧ ((p.target ≠ 0 ∨ isEnable r.key = true ∨ b.keyRow r.key = none ∨ ∃ row, b.keyRow r.key = some row ∧ effectOf r.key row ≠ .imm)) ∧ (st = b.checkWrite ⟨q.asker, t, false, p.target == 0⟩ [] r.write r.len) ∧ (st.good = false) :=
  ⟨setBad, sess, opened setBad sess bcpSt, asked 0x11 setBad sess 1, ⟨0, 4, 1⟩, .paramKey, 1, bcpSt, ⟨by decide, tagged_sg _ _, by decide, rfl, rfl, by decide, by decide, .inr (.inr (.inl (by decide))), by decide⟩⟩
theorem test_wit_WriteRequests_4 : ∃ (p : Packet) (x : Session) (b : Block) (q : Req) (recs : List WireRec) (a : Ask) (t : Nat) (s : State), (Comes 0x12 p x s) ∧ (Tagged 0x12 p x.h2e) ∧ (Dated p t s) ∧ (b = opened p x s) ∧ (q = asked 0x12 p x t) ∧ (parseRecs 256 p.payload = some recs) ∧ (a = ⟨q.asker, t, true, p.target.toNat == 0⟩) ∧ (b.checkMany a recs).all (·.good) = true :=
  ⟨manyP, sess, opened manyP sess bcpSt, asked 0x12 manyP sess 9, [⟨K.VEC_SAFE_W0, 8, 1⟩, ⟨K.VEC_SAFE_W1, 8, 1⟩], ⟨.session 5 2, 9, true, false⟩, 9, bcpSt, ⟨by decide, tagged_sg _ _, by decide, rfl, rfl, by decide, rfl, by decide⟩⟩
theorem test_wit_StandingRequests_1 : ∃ (p : Packet) (x : Session) (b : Block) (q : Req) (t : Nat) (f : Nat → Nat → Nat) (s : State), (Comes 0x23 p x s) ∧ (Tagged 0x23 p x.h2e) ∧ (s.blk.dev = .flow) ∧ (Dated p t s) ∧ (p.target ≠ 0) ∧ (b = opened p x s) ∧ (q = asked 0x23 p x t) ∧ (f = (fun o n => beNat ((p.payload.drop o).take n))) ∧ (p.payload.length = 32 + f 28 4) ∧ (f 0 2 = 0) ∧ (f 2 2 = 0) ∧ (f 20 4 = 0) ∧ (f 26 2 = 0) ∧ (f 24 2 ∈ [0x0000, 0x11, 0x12, 0x20, 0x21, 0x22, 0x70]) ∧ (b.sched.length < 64) :=
  ⟨schP, sess, opened schP sess flowBcp, asked 0x23 schP sess 9, 9, (fun o n => beNat ((schP.payload.drop o).take n)), flowBcp, ⟨by decide, tagged_sg _ _, by decide, by decide, by decide, rfl, rfl, rfl, by decide⟩⟩
theorem test_wit_StandingRequests_2 : ∃ (p : Packet) (x : Session) (b : Block) (q : Req) (t : Nat) (f : Nat → Nat → Nat) (s : State), (Comes 0x23 p x s) ∧ (Tagged 0x23 p x.h2e) ∧ (s.blk.dev = .flow) ∧ (Dated p t s) ∧ (b = opened p x s) ∧ (q = asked 0x23 p x t) ∧ (f = (fun o n => beNat ((p.payload.drop o).take n))) ∧ (p.payload.length = 32 + f 28 4) ∧ (f 0 2 = 1) ∧ (f 2 2 = 0) ∧ (f 20 4 = 0) ∧ (f 26 2 = 0) ∧ (b.sched.any (fun e => e.id == f 4 4) = true) :=
  ⟨schC, sess, opened schC sess schSt, asked 0x23 schC sess 1, 1, (fun o n => beNat ((schC.payload.drop o).take n)), schSt, ⟨by decide, tagged_sg _ _, by decide, by decide, rfl, rfl, rfl, by decide⟩⟩
theorem test_wit_StandingRequests_3 : ∃ (p : Packet) (x : Session) (b : Block) (q : Req) (recs : List WireRec) (a : Ask) (t : Nat) (s : State), (Comes 0x30 p x s) ∧ (Tagged 0x30 p x.h2e) ∧ (s.blk.dev = .flow) ∧ (Dated p t s) ∧ (p.target ≠ 0) ∧ (b = opened p x s) ∧ (q = asked 0x30 p x t) ∧ (parseRecs 256 p.payload = some recs) ∧ (b.txns.filter (fun t => !t.committed)).length < 8 ∧ (a = ⟨q.asker, t, true, false⟩) ∧ (b.checkMany a recs).all (·.good) = true :=
  ⟨prepP, sess, opened prepP sess flowBcp, asked 0x30 prepP sess 9, [⟨K.VEC_SAFE_W0, 8, 1⟩], ⟨.session 5 2, 9, true, false⟩, 9, flowBcp, ⟨by decide, tagged_sg _ _, by decide, by decide, by decide, rfl, rfl, by decide, by decide, rfl, by decide⟩⟩
theorem test_wit_StandingRequests_4 : ∃ (p : Packet) (x : Session) (b : Block) (q : Req) (y : Txn) (t : Nat) (s : State), (Comes 0x31 p x s) ∧ (Tagged 0x31 p x.h2e) ∧ (s.blk.dev = .flow) ∧ (Dated p t s) ∧ (b = opened p x s) ∧ (q = asked 0x31 p x t) ∧ (p.payload.length = 4) ∧ (b.txns.find? (fun t => t.session == x.id && t.seq == beNat p.payload) = some y) ∧ (y.committed = false) ∧ (y.target = p.target.toNat) :=
  ⟨comP, sess, opened comP sess txnSt, asked 0x31 comP sess 9, txn0, 9, txnSt, ⟨by decide, tagged_sg _ _, by decide, by decide, rfl, rfl, by decide⟩⟩
theorem test_wit_StandingRequests_5 : ∃ (p : Packet) (x : Session) (b : Block) (q : Req) (y : Txn) (s : State), (Comes 0x32 p x s) ∧ (Tagged 0x32 p x.h2e) ∧ (s.blk.dev = .flow) ∧ (p.target = 0) ∧ (b = opened p x s) ∧ (q = asked 0x32 p x s.blk.beat) ∧ (p.payload.length = 4) ∧ (b.txns.find? (fun t => t.session == x.id && t.seq == beNat p.payload) = some y) ∧ (y.committed = false) :=
  ⟨abtP, sess, opened abtP sess txnSt, asked 0x32 abtP sess 0, txn0, txnSt, ⟨by decide, tagged_sg _ _, by decide, by decide, rfl, rfl, by decide⟩⟩
theorem test_wit_StandingRequests_6 : ∃ (p : Packet) (x : Session) (b : Block) (q : Req) (recs : List WireRec) (t : Nat) (s : State), (Comes 0x71 p x s) ∧ (Tagged 0x71 p x.h2e) ∧ (Dated p t s) ∧ (b = opened p x s) ∧ (q = asked 0x71 p x t) ∧ (parseRecs 256 p.payload = some recs) ∧ (t ≤ s.blk.beat + 781250) ∧ (b.readTooBig q recs = false) :=
  ⟨snapP, sess, opened snapP sess bcpSt, asked 0x71 snapP sess 1, [⟨K.VEC_CFG, 0, 0⟩], 1, bcpSt, ⟨by decide, tagged_sg _ _, by decide, rfl, rfl, by decide⟩⟩
theorem test_wit_StandingRequests_7 : ∃ (p : Packet) (x : Session) (b : Block) (q : Req) (t : Nat) (s : State), (Comes 0x81 p x s) ∧ (Tagged 0x81 p x.h2e) ∧ (Dated p t s) ∧ (b = opened p x s) ∧ (q = asked 0x81 p x t) ∧ (p.payload.length = 4) ∧ (beNat (p.payload.drop 1) = 0) ∧ (beNat (p.payload.take 1) ≤ 1) :=
  ⟨rstP, sess, opened rstP sess bcpSt, asked 0x81 rstP sess 1, 1, bcpSt, ⟨by decide, tagged_sg _ _, by decide, rfl, rfl, by decide⟩⟩
theorem test_wit_StandingRequests_8 : ∃ (p : Packet) (x : Session) (b : Block) (q : Req) (s : State), (Comes 0x80 p x s) ∧ (Tagged 0x80 p x.h2e) ∧ (s.blk.dev = .thaw) ∧ (p.target = 0) ∧ (b = opened p x s) ∧ (q = asked 0x80 p x s.blk.beat) ∧ (p.payload = []) ∧ ((s.blk.sys.trained = false ∨ 1 ≤ s.blk.nPc)) :=
  ⟨flwP, sess, opened flwP sess bcpSt, asked 0x80 flwP sess 0, bcpSt, ⟨by decide, tagged_sg _ _, by decide, by decide, rfl, rfl, by decide⟩⟩
theorem test_wit_MemoryAndProgramRequests_1 : ∃ (p : Packet) (x : Session) (b : Block) (q : Req) (a : MemAsk) (s : State), (Comes 0x40 p x s) ∧ (Tagged 0x40 p x.h2e) ∧ (p.target = 0) ∧ (b = opened p x s) ∧ (q = asked 0x40 p x s.blk.beat) ∧ (p.payload.length = 24) ∧ (memAsk p.payload = some a) ∧ (b.memCheck (b.payloadLimit p.port.val) a false = .ok) :=
  ⟨rdP, sess, opened rdP sess bcpSt, asked 0x40 rdP sess 0, ⟨1, 0, 8, 16⟩, bcpSt, ⟨by decide, tagged_sg _ _, by decide, rfl, rfl, by decide, rfl, by decide⟩⟩
theorem test_wit_MemoryAndProgramRequests_2 : ∃ (p : Packet) (x : Session) (b : Block) (q : Req) (a : MemAsk) (s : State), (Comes 0x41 p x s) ∧ (Tagged 0x41 p x.h2e) ∧ (p.target = 0) ∧ (b = opened p x s) ∧ (q = asked 0x41 p x s.blk.beat) ∧ (memAsk p.payload = some a) ∧ (p.payload.length = 24 + a.len) ∧ (b.memCheck (b.payloadLimit p.port.val) a true = .ok) :=
  ⟨wrP, sess, opened wrP sess bcpSt, asked 0x41 wrP sess 0, ⟨1, 0, 8, 8⟩, bcpSt, ⟨by decide, tagged_sg _ _, by decide, rfl, rfl, rfl, by decide⟩⟩
theorem test_wit_MemoryAndProgramRequests_3 : ∃ (p : Packet) (x : Session) (b : Block) (q : Req) (c off : Nat) (words : List Nat) (prog : Tab Word) (s : State), (Comes 0x50 p x s) ∧ (Tagged 0x50 p x.h2e) ∧ (p.target = 0) ∧ (b = opened p x s) ∧ (q = asked 0x50 p x s.blk.beat) ∧ (8 ≤ p.payload.length) ∧ (p.payload.length - 8) % 8 = 0 ∧ (c = beNat (p.payload.take 1)) ∧ (c ≤ 63) ∧ (beNat ((p.payload.drop 1).take 1) = 0) ∧ (beNat ((p.payload.drop 2).take 2) = 0) ∧ (off = beNat ((p.payload.drop 4).take 4)) ∧ (b.isOff bWVR c = true) ∧ (words = (chunks 8 ((p.payload.drop 8).take (p.payload.length - 8))).map beNat) ∧ (off + words.length ≤ 16384) ∧ (prog = (words.zip (List.range words.length)).foldl (fun t p => tset t (off + p.2) (BitVec.ofNat 64 p.1)) (b.core c).prog) :=
  ⟨ldP, sess, opened ldP sess bcpSt, asked 0x50 ldP sess 0, 63, 2, [7], [(2, 7)], bcpSt, ⟨by decide, tagged_sg _ _, by decide, rfl, rfl, by decide⟩⟩
theorem test_wit_MemoryAndProgramRequests_4 : ∃ (p : Packet) (x : Session) (b : Block) (q : Req) (c off : Nat) (words : List Nat) (prog : Tab Word) (s : State), (Comes 0x50 p x s) ∧ (Tagged 0x50 p x.h2e) ∧ (p.target = 0) ∧ (b = opened p x s) ∧ (q = asked 0x50 p x s.blk.beat) ∧ (56 ≤ p.payload.length) ∧ (p.payload.length - 56) % 8 = 0 ∧ (c = beNat (p.payload.take 1)) ∧ (c ≤ 63) ∧ (beNat ((p.payload.drop 1).take 1) = 1) ∧ (beNat ((p.payload.drop 2).take 2) = 0) ∧ (off = beNat ((p.payload.drop 4).take 4)) ∧ (b.isOff bWVR c = true) ∧ (words = (chunks 8 ((p.payload.drop 8).take (p.payload.length - 56))).map beNat) ∧ (off + words.length ≤ 16384) ∧ (prog = (words.zip (List.range words.length)).foldl (fun t p => tset t (off + p.2) (BitVec.ofNat 64 p.1)) (b.core c).prog) :=
  ⟨ldL, sess, opened ldL sess bcpSt, asked 0x50 ldL sess 0, 63, 0, [7], [(0, 7)], bcpSt, ⟨by decide, tagged_sg _ _, by decide, rfl, rfl, by decide⟩⟩
theorem test_wit_MemoryAndProgramRequests_5 : ∃ (p : Packet) (x : Session) (b : Block) (q : Req) (cores : List Nat) (t : Nat) (s : State), (Comes 0x51 p x s) ∧ (Tagged 0x51 p x.h2e) ∧ (Dated p t s) ∧ (b = opened p x s) ∧ (q = asked 0x51 p x t) ∧ (p.payload.length = 16) ∧ (beNat ((p.payload.drop 8).take 2) < 16384) ∧ (beNat ((p.payload.drop 10).take 6) = 0) ∧ (cores = which 64 (fun c => bit (beNat (p.payload.take 8)) c)) ∧ (cores ≠ []) ∧ (cores.all (fun c => b.verified c) = true) ∧ (b.checkMany ⟨q.asker, t, true, p.target.toNat == 0⟩ (cores.map (fun c => ⟨mkKey bWVR c 1, 4, 1⟩))).all (·.good) = true :=
  ⟨staP, sess, opened staP sess coreSt, asked 0x51 staP sess 1, [0], 1, coreSt, ⟨by decide, tagged_sg _ _, by decide, rfl, rfl, by decide⟩⟩
theorem test_wit_MemoryAndProgramRequests_6 : ∃ (p : Packet) (x : Session) (b : Block) (q : Req) (cores : List Nat) (t : Nat) (s : State), (Comes 0x52 p x s) ∧ (Tagged 0x52 p x.h2e) ∧ (Dated p t s) ∧ (b = opened p x s) ∧ (q = asked 0x52 p x t) ∧ (p.payload.length = 8) ∧ (cores = which 64 (fun c => bit (beNat (p.payload.take 8)) c)) ∧ (cores ≠ []) ∧ (b.checkMany ⟨q.asker, t, true, p.target.toNat == 0⟩ (cores.map (fun c => ⟨mkKey bWVR c 1, 4, 0⟩))).all (·.good) = true :=
  ⟨stoP, sess, opened stoP sess bcpSt, asked 0x52 stoP sess 1, [63], 1, bcpSt, ⟨by decide, tagged_sg _ _, by decide, rfl, rfl, by decide⟩⟩
theorem test_wit_MemoryAndProgramRequests_7 : ∃ (p : Packet) (x y : Session) (b : Block) (q : Req) (s : State), (Comes 0x60 p x s) ∧ (Tagged 0x60 p x.h2e) ∧ (p.target = 0) ∧ (b = opened p x s) ∧ (q = asked 0x60 p x s.blk.beat) ∧ (b.session x.id = some y) ∧ (p.payload.length = 132) ∧ (beNat ((p.payload.drop 2).take 1) ≤ 4) ∧ (beNat ((p.payload.drop 3).take 1) = 0) :=
  ⟨subP, sess, sessTaken, opened subP sess bcpSt, asked 0x60 subP sess 0, bcpSt, ⟨by set_option maxRecDepth 4000 in decide, tagged_sg _ _, by decide, rfl, rfl, by decide, by set_option maxRecDepth 4000 in decide, by decide⟩⟩
theorem test_wit_MemoryAndProgramRequests_8 : ∃ (p : Packet) (x y : Session) (b : Block) (q : Req) (s : State), (Comes 0x61 p x s) ∧ (Tagged 0x61 p x.h2e) ∧ (p.target = 0) ∧ (b = opened p x s) ∧ (q = asked 0x61 p x s.blk.beat) ∧ (b.session x.id = some y) ∧ (p.payload.length = 128) :=
  ⟨unsP, sess, sessTaken, opened unsP sess bcpSt, asked 0x61 unsP sess 0, bcpSt, ⟨by set_option maxRecDepth 4000 in decide, tagged_sg _ _, by decide, rfl, rfl, by decide, by set_option maxRecDepth 4000 in decide⟩⟩
theorem test_wit_MemoryAndProgramRequests_9 : ∃ (op : BitVec 16) (p : Packet) (x : Session) (b : Block) (s : State), (Comes op.toNat p x s) ∧ (Tagged op.toNat p x.h2e) ∧ (opKnown op.toNat = false) ∧ (b = opened p x s) :=
  ⟨0x99, sg 0x99 (pkt []), sess, opened (sg 0x99 (pkt [])) sess bcpSt, bcpSt, ⟨by decide, tagged_sg _ _, by decide, rfl⟩⟩
theorem test_wit_MemoryAndProgramRequests_10 : ∃ (op : BitVec 16) (p : Packet) (k : Nat) (s : State), (s.blk.live = true) ∧ (s.blk.bcpHears p.port.val p = true) ∧ (p.fragment = false) ∧ (s.blk.unprocessed p < 64) ∧ (48 ≤ p.udpLen) ∧ (p.udpLen ≤ s.blk.payloadLimit p.port.val + 48) ∧ (p.magic = 0x424350) ∧ (pkFlag p 4 = true) ∧ (pkDest p ≠ s.blk.member) ∧ (s.blk.portToward (pkDest p) = some k) :=
  ⟨0x10, { pkt [] with flags := 0x110 }, 0, st ((ringSt).pf K.PLT_PORT_STATE (pltPort 0) 2 0 3), by decide⟩
theorem test_wit_MemoryAndProgramRequests_11 : ∃ (op : BitVec 16) (p : Packet) (s : State), (s.blk.live = true) ∧ (s.blk.bcpHears p.port.val p = true) ∧ (p.fragment = false) ∧ (s.blk.unprocessed p < 64) ∧ (48 ≤ p.udpLen) ∧ (p.udpLen ≤ s.blk.payloadLimit p.port.val + 48) ∧ (p.magic = 0x424350) ∧ (pkFlag p 4 = true) ∧ (pkDest p ≠ s.blk.member) ∧ (s.blk.portToward (pkDest p) = none) :=
  ⟨0x10, { pkt [] with flags := 0x110 }, bcpSt, by decide⟩
theorem test_wit_WritesForABeat_2 : ∃ (w : Write) (s : State), (s.blk.live = true) ∧ (selPlain w.key.toNat w.val.toNat = true) ∧ (w.target ≠ 0) ∧ (w.target.toNat ≤ s.blk.beat) :=
  ⟨⟨BitVec.ofNat 32 K.VEC_SAFE_W0, 1, 1⟩, st { B with beat := 1 }, by decide⟩
theorem test_wit_WritesForABeat_3 : ∃ (w : Write) (s : State), (s.blk.live = true) ∧ (selPlain w.key.toNat w.val.toNat = true) ∧ (s.blk.beat + 2 ^ 32 < w.target.toNat) :=
  ⟨⟨BitVec.ofNat 32 K.VEC_SAFE_W0, 1, 0x100000001⟩, st B, by decide⟩
theorem test_wit_WritesForABeat_4 : ∃ (w : Write) (s : State), (s.blk.live = true) ∧ (selPlain w.key.toNat w.val.toNat = true) ∧ (w.target = 0) ∧ (s.blk.plt.notice ≠ none) ∧ (s.blk.leader = false) :=
  ⟨⟨BitVec.ofNat 32 K.VEC_SAFE_W0, 1, 0⟩, st { B with plt := { notice := some (5, 1) } }, by decide⟩
theorem test_wit_WritesForABeat_5 : ∃ (w : Write) (s : State), (s.blk.live = true) ∧ (selPlain w.key.toNat w.val.toNat = true) ∧ (w.target = 0) ∧ ((s.blk.plt.notice = none ∨ s.blk.leader = true)) ∧ (256 ≤ s.blk.waitingGroups) :=
  ⟨⟨BitVec.ofNat 32 K.VEC_SAFE_W0, 1, 0⟩, st { B with accepted := (List.range 256).map (fun g => ⟨.core 0, g, 9, .arm []⟩) }, ⟨by decide, by decide, by decide, by decide, by set_option maxRecDepth 20000 in decide⟩⟩
theorem test_wit_ImmediateWrites_1 : ∃ (w : Write) (row : Row) (st : Status) (s : State), (s.blk.live = true) ∧ (w.target = 0) ∧ ((s.blk.plt.notice = none ∨ s.blk.leader = true)) ∧ (s.blk.waitingGroups < 256) ∧ (selOutAck w.key.toNat 0 = true) ∧ (s.blk.keyRow w.key.toNat = some row) ∧ (st = s.start.checkWrite ⟨.session 0 0, s.blk.beat, false, true⟩ [] ⟨w.key.toNat, w.val.toNat⟩ row.width) :=
  ⟨⟨BitVec.ofNat 32 K.EVT_OUT_ACK, 1, 0⟩, immRow K.EVT_OUT_ACK, immSt K.EVT_OUT_ACK 1, st B, ⟨by decide, by decide, by decide, by decide, by decide, rfl, rfl⟩⟩
theorem test_wit_ImmediateWrites_2 : ∃ (w : Write) (row : Row) (st : Status) (s : State), (s.blk.live = true) ∧ (w.target = 0) ∧ ((s.blk.plt.notice = none ∨ s.blk.leader = true)) ∧ (s.blk.waitingGroups < 256) ∧ (selWinCfg w.key.toNat 0 = true) ∧ (s.blk.keyRow w.key.toNat = some row) ∧ (st = s.start.checkWrite ⟨.session 0 0, s.blk.beat, false, true⟩ [] ⟨w.key.toNat, w.val.toNat⟩ row.width) :=
  ⟨⟨BitVec.ofNat 32 (ki K.XFM_WIN_CFG 0xC0), 1, 0⟩, immRow (ki K.XFM_WIN_CFG 0xC0), immSt (ki K.XFM_WIN_CFG 0xC0) 1, st B, ⟨by decide, by decide, by decide, by decide, by decide, rfl, rfl⟩⟩
theorem test_wit_ImmediateWrites_3 : ∃ (w : Write) (row : Row) (st : Status) (s : State), (s.blk.live = true) ∧ (w.target = 0) ∧ ((s.blk.plt.notice = none ∨ s.blk.leader = true)) ∧ (s.blk.waitingGroups < 256) ∧ (selBufCfg w.key.toNat 0 = true) ∧ (s.blk.keyRow w.key.toNat = some row) ∧ (st = s.start.checkWrite ⟨.session 0 0, s.blk.beat, false, true⟩ [] ⟨w.key.toNat, w.val.toNat⟩ row.width) :=
  ⟨⟨BitVec.ofNat 32 (ki K.DEN_BUF_CFG 0x5F), 0, 0⟩, immRow (ki K.DEN_BUF_CFG 0x5F), immSt (ki K.DEN_BUF_CFG 0x5F) 0, st B, ⟨by decide, by decide, by decide, by decide, by decide, rfl, rfl⟩⟩
theorem test_wit_ImmediateWrites_4 : ∃ (w : Write) (row : Row) (st : Status) (s : State), (s.blk.live = true) ∧ (w.target = 0) ∧ ((s.blk.plt.notice = none ∨ s.blk.leader = true)) ∧ (s.blk.waitingGroups < 256) ∧ (selCredit w.key.toNat 0 = true) ∧ (s.blk.keyRow w.key.toNat = some row) ∧ (st = s.start.checkWrite ⟨.session 0 0, s.blk.beat, false, true⟩ [] ⟨w.key.toNat, w.val.toNat⟩ row.width) :=
  ⟨⟨BitVec.ofNat 32 (ki K.STR_RDMA_CREDIT 63), 9, 0⟩, immRow (ki K.STR_RDMA_CREDIT 63), immSt (ki K.STR_RDMA_CREDIT 63) 9, st B, ⟨by decide, by decide, by decide, by decide, by decide, rfl, rfl⟩⟩
theorem test_wit_ImmediateWrites_5 : ∃ (w : Write) (row : Row) (st : Status) (s : State), (s.blk.live = true) ∧ (w.target = 0) ∧ ((s.blk.plt.notice = none ∨ s.blk.leader = true)) ∧ (s.blk.waitingGroups < 256) ∧ (selPlain w.key.toNat w.val.toNat = true) ∧ (serviceCore w.key.toNat = none) ∧ (s.blk.keyRow w.key.toNat = some row) ∧ (effectOf w.key.toNat row = .imm) ∧ (st = s.start.checkWrite ⟨.session 0 0, s.blk.beat, false, true⟩ [] ⟨w.key.toNat, w.val.toNat⟩ row.width) :=
  ⟨⟨BitVec.ofNat 32 (ki K.SEC_HOST_W 0x10), 9, 0⟩, immRow (ki K.SEC_HOST_W 0x10), immSt (ki K.SEC_HOST_W 0x10) 9, st B, ⟨by decide, by decide, by decide, by decide, by decide, by decide, rfl, by decide, rfl⟩⟩
theorem test_wit_KeyAndFuseWrites_2 : ∃ (k : Fin 8) (w : Write) (id seq : BitVec 32) (row : Row) (st : Status) (b : Block) (s : State), (bit w.val.toNat 1 = false) ∧ (bit w.val.toNat 0 = true) ∧ (w.key.toNat = ki K.SEC_HOST_COMMIT (0x10 + k.val)) ∧ (s.blk.live = true) ∧ (w.target = 0) ∧ ((s.blk.plt.notice = none ∨ s.blk.leader = true)) ∧ (s.blk.waitingGroups < 256) ∧ (s.blk.keyRow w.key.toNat = some row) ∧ (st = s.start.checkWrite ⟨.session id.toNat seq.toNat, s.blk.beat, false, true⟩ [] ⟨w.key.toNat, w.val.toNat⟩ row.width) ∧ (b = s.start.storeVal w.key.toNat w.val.toNat) :=
  ⟨7, ⟨BitVec.ofNat 32 (ki K.SEC_HOST_COMMIT 0x17), 1, 0⟩, 5, 2, immRow (ki K.SEC_HOST_COMMIT 0x17), secSt (ki K.SEC_HOST_COMMIT 0x17) 1, (st B).start.storeVal (ki K.SEC_HOST_COMMIT 0x17) 1, st B, ⟨by decide, by decide, by decide, by decide, by decide, by decide, by decide, rfl, rfl, rfl⟩⟩
theorem test_wit_KeyAndFuseWrites_3 : ∃ (k : Fin 8) (w : Write) (id seq : BitVec 32) (row : Row) (st : Status) (b : Block) (s : State), (bit w.val.toNat 1 = true) ∧ (bit w.val.toNat 0 = false) ∧ (w.key.toNat = ki K.SEC_HOST_COMMIT (0x10 + k.val)) ∧ (bit (b.val K.SEC_HOST_KEYS) k.val = true) ∧ (s.blk.live = true) ∧ (w.target = 0) ∧ ((s.blk.plt.notice = none ∨ s.blk.leader = true)) ∧ (s.blk.waitingGroups < 256) ∧ (s.blk.keyRow w.key.toNat = some row) ∧ (st = s.start.checkWrite ⟨.session id.toNat seq.toNat, s.blk.beat, false, true⟩ [] ⟨w.key.toNat, w.val.toNat⟩ row.width) ∧ (b = s.start.storeVal w.key.toNat w.val.toNat) :=
  ⟨0, ⟨BitVec.ofNat 32 (ki K.SEC_HOST_COMMIT 0x10), 2, 0⟩, 5, 2, immRow (ki K.SEC_HOST_COMMIT 0x10), keySt.start.checkWrite ⟨.session 5 2, 0, false, true⟩ [] ⟨ki K.SEC_HOST_COMMIT 0x10, 2⟩ (immRow (ki K.SEC_HOST_COMMIT 0x10)).width, keySt.start.storeVal (ki K.SEC_HOST_COMMIT 0x10) 2, keySt, ⟨by decide, by decide, by decide, by decide, by decide, by decide, by decide, by decide, rfl, rfl, rfl⟩⟩
theorem test_wit_KeyAndFuseWrites_4 : ∃ (g : Fin 4) (w : Write) (id seq : BitVec 32) (row : Row) (st : Status) (b : Block) (s : State), (bit w.val.toNat 1 = false) ∧ (bit w.val.toNat 0 = true) ∧ (w.key.toNat = ki K.SEC_GROUP_COMMIT (0x20 + g.val)) ∧ (s.blk.live = true) ∧ (w.target = 0) ∧ ((s.blk.plt.notice = none ∨ s.blk.leader = true)) ∧ (s.blk.waitingGroups < 256) ∧ (s.blk.keyRow w.key.toNat = some row) ∧ (st = s.start.checkWrite ⟨.session id.toNat seq.toNat, s.blk.beat, false, true⟩ [] ⟨w.key.toNat, w.val.toNat⟩ row.width) ∧ (b = s.start.storeVal w.key.toNat w.val.toNat) ∧ (tfind b.sys.group g.val = none) :=
  ⟨3, ⟨BitVec.ofNat 32 (ki K.SEC_GROUP_COMMIT 0x23), 1, 0⟩, 5, 2, immRow (ki K.SEC_GROUP_COMMIT 0x23), secSt (ki K.SEC_GROUP_COMMIT 0x23) 1, (st B).start.storeVal (ki K.SEC_GROUP_COMMIT 0x23) 1, st B, ⟨by decide, by decide, by decide, by decide, by decide, by decide, by decide, rfl, rfl, rfl, by decide⟩⟩
theorem test_wit_KeyAndFuseWrites_5 : ∃ (g : Fin 4) (w : Write) (id seq : BitVec 32) (row : Row) (st : Status) (b : Block) (n : Nat) (h e : List Byte) (s : State), (bit w.val.toNat 1 = true) ∧ (bit w.val.toNat 0 = false) ∧ (w.key.toNat = ki K.SEC_GROUP_COMMIT (0x20 + g.val)) ∧ (s.blk.live = true) ∧ (w.target = 0) ∧ ((s.blk.plt.notice = none ∨ s.blk.leader = true)) ∧ (s.blk.waitingGroups < 256) ∧ (s.blk.keyRow w.key.toNat = some row) ∧ (st = s.start.checkWrite ⟨.session id.toNat seq.toNat, s.blk.beat, false, true⟩ [] ⟨w.key.toNat, w.val.toNat⟩ row.width) ∧ (b = s.start.storeVal w.key.toNat w.val.toNat) ∧ (tfind b.sys.group g.val = some (n, h, e)) :=
  ⟨0, ⟨BitVec.ofNat 32 (ki K.SEC_GROUP_COMMIT 0x20), 2, 0⟩, 5, 2, immRow (ki K.SEC_GROUP_COMMIT 0x20), keySt.start.checkWrite ⟨.session 5 2, 0, false, true⟩ [] ⟨ki K.SEC_GROUP_COMMIT 0x20, 2⟩ (immRow (ki K.SEC_GROUP_COMMIT 0x20)).width, keySt.start.storeVal (ki K.SEC_GROUP_COMMIT 0x20) 2, 0x80000001, [], [], keySt, ⟨by decide, by decide, by decide, by decide, by decide, by decide, by decide, rfl, rfl, rfl, by decide⟩⟩
theorem test_wit_KeyAndFuseWrites_6 : ∃ (k : Fin 8) (w : Write) (id seq : BitVec 32) (row : Row) (st : Status) (b : Block) (s : State), (bit w.val.toNat 1 = false) ∧ (bit w.val.toNat 0 = true) ∧ (w.key.toNat = ki K.SEC_STREAM_COMMIT (0x30 + k.val)) ∧ (s.blk.live = true) ∧ (w.target = 0) ∧ ((s.blk.plt.notice = none ∨ s.blk.leader = true)) ∧ (s.blk.waitingGroups < 256) ∧ (s.blk.keyRow w.key.toNat = some row) ∧ (st = s.start.checkWrite ⟨.session id.toNat seq.toNat, s.blk.beat, false, true⟩ [] ⟨w.key.toNat, w.val.toNat⟩ row.width) ∧ (b = s.start.storeVal w.key.toNat w.val.toNat) :=
  ⟨7, ⟨BitVec.ofNat 32 (ki K.SEC_STREAM_COMMIT 0x37), 1, 0⟩, 5, 2, immRow (ki K.SEC_STREAM_COMMIT 0x37), secSt (ki K.SEC_STREAM_COMMIT 0x37) 1, (st B).start.storeVal (ki K.SEC_STREAM_COMMIT 0x37) 1, st B, ⟨by decide, by decide, by decide, by decide, by decide, by decide, by decide, rfl, rfl, rfl⟩⟩
theorem test_wit_KeyAndFuseWrites_7 : ∃ (k : Fin 8) (w : Write) (id seq : BitVec 32) (row : Row) (st : Status) (b : Block) (s : State), (bit w.val.toNat 1 = true) ∧ (bit w.val.toNat 0 = false) ∧ (w.key.toNat = ki K.SEC_STREAM_COMMIT (0x30 + k.val)) ∧ (s.blk.live = true) ∧ (w.target = 0) ∧ ((s.blk.plt.notice = none ∨ s.blk.leader = true)) ∧ (s.blk.waitingGroups < 256) ∧ (s.blk.keyRow w.key.toNat = some row) ∧ (st = s.start.checkWrite ⟨.session id.toNat seq.toNat, s.blk.beat, false, true⟩ [] ⟨w.key.toNat, w.val.toNat⟩ row.width) ∧ (b = s.start.storeVal w.key.toNat w.val.toNat) ∧ (tfind b.streamKeys k.val).isSome = true :=
  ⟨0, ⟨BitVec.ofNat 32 (ki K.SEC_STREAM_COMMIT 0x30), 2, 0⟩, 5, 2, immRow (ki K.SEC_STREAM_COMMIT 0x30), keySt.start.checkWrite ⟨.session 5 2, 0, false, true⟩ [] ⟨ki K.SEC_STREAM_COMMIT 0x30, 2⟩ (immRow (ki K.SEC_STREAM_COMMIT 0x30)).width, keySt.start.storeVal (ki K.SEC_STREAM_COMMIT 0x30) 2, keySt, ⟨by decide, by decide, by decide, by decide, by decide, by decide, by decide, rfl, rfl, rfl, by decide⟩⟩
theorem test_wit_KeyAndFuseWrites_8 : ∃ (w : Write) (id seq : BitVec 32) (row : Row) (st : Status) (s : State), (bit w.val.toNat 0 = true) ∧ (w.key.toNat = K.SEC_ZEROISE) ∧ (s.blk.live = true) ∧ (w.target = 0) ∧ ((s.blk.plt.notice = none ∨ s.blk.leader = true)) ∧ (s.blk.waitingGroups < 256) ∧ (s.blk.keyRow w.key.toNat = some row) ∧ (st = s.start.checkWrite ⟨.session id.toNat seq.toNat, s.blk.beat, false, true⟩ [] ⟨w.key.toNat, w.val.toNat⟩ row.width) ∧ (st.good = true) :=
  ⟨⟨BitVec.ofNat 32 K.SEC_ZEROISE, 1, 0⟩, 5, 2, immRow K.SEC_ZEROISE, secSt K.SEC_ZEROISE 1, st B, ⟨by decide, by decide, by decide, by decide, by decide, by decide, rfl, rfl, by decide⟩⟩
theorem test_wit_WriteActions_2 : ∃ (b : Block) (m : Mem) (t : Fin 32) (v id seq : Nat), (bit v 0 = true) :=
  ⟨B, [], 31, 1, 0, 0, by decide⟩
theorem test_wit_WriteActions_3 : ∃ (b : Block) (m : Mem) (w : Fin 32) (v id seq : Nat), (bit v 0 = true) :=
  ⟨B, [], 31, 1, 0, 0, by decide⟩
theorem test_wit_WriteActions_4 : ∃ (b : Block) (m : Mem) (p : Fin 16) (v id seq : Nat), (bit v 0 = true) :=
  ⟨B, [], 15, 1, 0, 0, by decide⟩
theorem test_wit_WriteActions_5 : ∃ (b : Block) (m : Mem) (k : Fin 2) (v id seq : Nat), (bit v 0 = true) :=
  ⟨B, [], 1, 1, 0, 0, by decide⟩
theorem test_wit_WriteActions_6 : ∃ (b : Block) (m : Mem) (c : Fin 4) (v id seq : Nat), (bit v 12 = true) :=
  ⟨B, [], 3, 0x1005, 0, 0, by decide⟩
theorem test_wit_WriteActions_7 : ∃ (b : Block) (m : Mem) (v id seq : Nat), (bit v 0 = true) :=
  ⟨B, [], 1, 0, 0, by decide⟩
theorem test_wit_WriteActions_9 : ∃ (b : Block) (m : Mem) (j : Fin 8) (v id seq : Nat), (bit v 0 = true) :=
  ⟨B, [], 7, 1, 0, 0, by decide⟩
theorem test_wit_WriteActions_10 : ∃ (b : Block) (m : Mem) (v id seq : Nat), (bit v 0 = true) :=
  ⟨B, [], 1, 0, 0, by decide⟩
theorem test_wit_WriteActions_11 : ∃ (b : Block) (m : Mem) (n : Fin 6) (v id seq : Nat), (bit v 0 = true) :=
  ⟨B, [], 5, 1, 0, 0, by decide⟩
theorem test_wit_WriteActions_12 : ∃ (b : Block) (m : Mem) (i : Fin 32) (v id seq : Nat), (bit v 0 = true) :=
  ⟨B, [], 31, 1, 0, 0, by decide⟩
theorem test_wit_WriteActions_13 : ∃ (b : Block) (m : Mem) (i : Fin 32) (v id seq : Nat), (bit v 0 = true) :=
  ⟨B, [], 31, 1, 0, 0, by decide⟩
theorem test_wit_WriteActions_14 : ∃ (b : Block) (m : Mem) (v id seq : Nat), (bit v 0 = true) :=
  ⟨B, [], 1, 0, 0, by decide⟩
theorem test_wit_WriteActions_15 : ∃ (b : Block) (m : Mem) (v id seq : Nat), (bit v 0 = true) :=
  ⟨B, [], 1, 0, 0, by decide⟩
theorem test_wit_WriteActions_16 : ∃ (b : Block) (m : Mem) (v id seq : Nat), (bit v 0 = true) :=
  ⟨B, [], 1, 0, 0, by decide⟩
theorem test_wit_StepTakesTheFront_1 : ∃ (c : Instr) (rest : List Instr) (s : State), (s.pending = c :: rest) :=
  ⟨.powerOnReset, [.idcode], ⟨B, [], [.powerOnReset, .idcode]⟩, by decide⟩
theorem test_wit_IdleCycle_1 : ∃ (s : State), (s.pending = []) ∧ (s.blk.cycle + (if s.blk.coreSafe = true then 4 else 1) ≤ 2047) :=
  ⟨⟨{ B with cycle := 2043 }, [], []⟩, by decide⟩
theorem test_wit_IdleCycle_2 : ∃ (s : State), (s.pending = []) ∧ (s.blk.cycle = 2047) :=
  ⟨⟨{ B with cycle := 2047 }, [], []⟩, by decide⟩
theorem test_wit_EveryCommandCompletes_2 : ∃ (c : Instr) (s u : State), (s.start = u.start) ∧ (s.mem = u.mem) ∧ (s.pending = u.pending) :=
  ⟨.idcode, st B, st { B with sent := [.tdo 1 1] }, by decide⟩
theorem test_wit_MemoryStaysCanonical_1 : ∃ (s t : State), (MemOk s) ∧ (step s = .next t) :=
  ⟨⟨B, [(2, 1)], []⟩, ⟨B.clockTick, [(2, 1)], []⟩, ⟨by unfold MemOk; decide, rfl⟩⟩
theorem test_wit_MemoryChangesByStores_1 : ∃ (c : Instr) (s t : State) (a : Nat), (MemOk s) ∧ (exec c s = .next t) :=
  ⟨.idcode, st B, st { B with sent := [.tdo 0x285160B3 32] }, 5, ⟨by unfold MemOk; decide, rfl⟩⟩
theorem test_wit_MemoryChangesByStores_2 : ∃ (p : Packet) (x : Session) (q : MemAsk) (k : Nat) (s t : State), (MemOk s) ∧ (Comes 0x41 p x s) ∧ (Tagged 0x41 p x.h2e) ∧ (p.target = 0) ∧ (memAsk p.payload = some q) ∧ (q.space = 1) ∧ (p.payload.length = 24 + q.len) ∧ (opened p x s).memCheck ((opened p x s).payloadLimit p.port.val) q true = .ok ∧ (exec (.writeMem p) s = .next t) ∧ (k < q.len) :=
  ⟨wrP, sess, ⟨1, 0, 8, 8⟩, 7, bcpSt, (nextOf (.writeMem wrP) bcpSt), ⟨by unfold MemOk; decide, by decide, tagged_sg _ _, by decide, rfl, by decide, by decide, by decide, nextOf_eq _ _, by decide⟩⟩
theorem test_wit_MemoryChangesByStores_3 : ∃ (p : Packet) (x : Session) (q : MemAsk) (a : Nat) (s t : State), (MemOk s) ∧ (Comes 0x41 p x s) ∧ (Tagged 0x41 p x.h2e) ∧ (p.target = 0) ∧ (memAsk p.payload = some q) ∧ (q.space = 1) ∧ (p.payload.length = 24 + q.len) ∧ (opened p x s).memCheck ((opened p x s).payloadLimit p.port.val) q true = .ok ∧ (exec (.writeMem p) s = .next t) ∧ ((a < spShared q.addr ∨ spShared (q.addr + q.len) ≤ a)) :=
  ⟨wrP, sess, ⟨1, 0, 8, 8⟩, 2 ^ 48 + 16, bcpSt, (nextOf (.writeMem wrP) bcpSt), ⟨by unfold MemOk; decide, by decide, tagged_sg _ _, by decide, rfl, by decide, by decide, by decide, nextOf_eq _ _, by decide⟩⟩
theorem test_wit_MemoryChangesByStores_4 : ∃ (p : Packet) (x : Session) (s t : State), (Comes 0x40 p x s) ∧ (Tagged 0x40 p x.h2e) ∧ (p.target = 0) ∧ (exec (.readMem p) s = .next t) :=
  ⟨rdP, sess, bcpSt, (nextOf (.readMem rdP) bcpSt), ⟨by decide, tagged_sg _ _, by decide, nextOf_eq _ _⟩⟩
theorem test_wit_ServiceOnlyInThawAndFlow_1 : ∃ (c : Instr) (p : Packet) (op : BitVec 16) (k : Fin 4) (again : Bool) (id : BitVec 32) (s : State), (s.blk.live = false) ∧ (c ∈ [.ping p, .pingHandshakeOpen p, .pingHandshakeConfirm p, .pingClose p, .get p, .set p, .setMany p, .arm p, .disarm p, .force p, .schedule p,
      .prepare p, .commit p, .abort p, .readMem p, .writeMem p, .loadProgram p, .startCore p, .stopCore p, .subscribe p, .unsubscribe p, .calRun p,
      .snapshot p, .enterFlow p, .reset p, .unknownOpcodeRequest op p, .forwardRequest op p, .pltCtrlMessage k op p again, .eventPacketSend id,
      .eventPacketTimeout id]) :=
  ⟨.get (pkt []), pkt [], 0, 0, false, 0, st { B with dev := .boot }, ⟨by decide, by simp⟩⟩
theorem test_wit_ServiceOnlyInThawAndFlow_2 : ∃ (c : Instr) (s t : State), (s.blk.live = false) ∧ (exec c s = .next t) ∧ (t.blk.live = false) :=
  ⟨.idcode, st { B with dev := .halt }, st { B with dev := .halt, sent := [.tdo 0x285160B3 32] }, ⟨by decide, rfl, by decide⟩⟩
theorem test_wit_ServiceOnlyInThawAndFlow_3 : ∃ (s : State), (s.blk.live = true) :=
  ⟨st { B.pf K.SYS_DEGRADED_CAUSES 0 5 0 1 with dev := .flow }, by decide⟩
theorem test_wit_KeyComposition_1 : ∃ (blk inst item : Nat), (blk < 256) ∧ (inst < 256) ∧ (item < 65536) :=
  ⟨255, 255, 65535, by decide⟩
theorem test_wit_SubscriptionMask_1 : ∃ (p : Packet) (x : Session) (s t : State), (Comes 0x60 p x s) ∧ (Tagged 0x60 p x.h2e) ∧ (p.target = 0) ∧ (p.payload.length = 132) ∧ (beNat ((p.payload.drop 2).take 1) ≤ 4) ∧ (beNat ((p.payload.drop 3).take 1) = 0) ∧ (exec (.subscribe p) s = .next t) :=
  ⟨subP, sess, bcpSt, (nextOf (.subscribe subP) bcpSt), ⟨by set_option maxRecDepth 4000 in decide, tagged_sg _ _, by decide, by set_option maxRecDepth 4000 in decide, by decide, by decide, nextOf_eq _ _⟩⟩
theorem test_wit_SubscriptionMask_2 : ∃ (p : Packet) (x : Session) (s t : State), (Comes 0x61 p x s) ∧ (Tagged 0x61 p x.h2e) ∧ (p.target = 0) ∧ (p.payload.length = 128) ∧ (exec (.unsubscribe p) s = .next t) :=
  ⟨unsP, sess, bcpSt, (nextOf (.unsubscribe unsP) bcpSt), ⟨by set_option maxRecDepth 4000 in decide, tagged_sg _ _, by decide, by set_option maxRecDepth 4000 in decide, nextOf_eq _ _⟩⟩
theorem test_wit_SubscriptionMask_3 : ∃ (id : BitVec 32) (x : Session) (s : State), (s.blk.live = true) ∧ (s.blk.session id.toNat = some x) ∧ (x.closed ≠ []) ∧ (x.iface < 17) ∧ (s.blk.netUsable x.iface = true) :=
  ⟨5, { sess with closed := [⟨[⟨1, 2, false, 3, 4, {}, [], 0⟩]⟩] }, st { B.pf K.NET_STATUS 16 0 0 1 with sessions := [{ sess with closed := [⟨[⟨1, 2, false, 3, 4, {}, [], 0⟩]⟩] }] }, by decide⟩
theorem test_wit_SubscriptionMask_4 : ∃ (b : Block) (o : Occ) (x : Session), (o.id < 1024) ∧ (b.session x.id = some x) ∧ (bit x.mask o.id = true) ∧ (x.minSev ≤ b.srcCfg o.id 2 0) ∧ (x.full = false) ∧ (x.taken < 256) ∧ ((o.id = 978 ∨ o.id = 979 ∨ b.srcCfg o.id 15 4 = 0 ∨ tget 0 b.srcWin o.id < b.srcCfg o.id 15 4)) :=
  ⟨{ B with sessions := [{ sess with mask := 2 ^ 255 }] }, ⟨255, [], none⟩, { sess with mask := 2 ^ 255 }, by decide⟩
theorem test_wit_SubscriptionMask_5 : ∃ (b : Block) (o : Occ) (n : Nat), (o.id < 1024) ∧ ((∀ y ∈ b.sessions, y.id = n → (bit y.mask o.id = false ∨ b.srcCfg o.id 2 0 < y.minSev))) :=
  ⟨{ B with sessions := [{ sess with mask := 2 ^ 254 }] }, ⟨255, [], none⟩, 5, by decide⟩
theorem test_wit_ParameterFrame_1 : ∃ (b : Block) (k i hi lo v k' : Nat), (k' ≠ ki k i) :=
  ⟨B, 5, 0, 3, 1, 9, 6, by decide⟩
theorem test_wit_ParameterFrame_2 : ∃ (b : Block) (k i hi lo v : Nat), (lo ≤ hi) ∧ (hi < 64) :=
  ⟨B, K.VEC_CFG, 0, 63, 0, 2 ^ 65 + 5, by decide⟩
theorem test_wit_ParameterFrame_3 : ∃ (b : Block) (k i hi lo v n : Nat), (lo ≤ hi) ∧ (hi < 64) ∧ (n < 64) ∧ ((n < lo ∨ hi < n)) :=
  ⟨B, K.VEC_CFG, 0, 17, 2, 9, 1, by decide⟩
theorem test_wit_ParameterFrame_5 : ∃ (b : Block) (blk i l : Nat), (l < 4) :=
  ⟨B.setHeld bVEC 0 2, bVEC, 0, 3, by decide⟩

end Slice0Tests
end

section
/-! PROOFS. The statements of the scope chapter: the keys of the parameters, the frame of an engine's write, the idle cycle, the state
after reset, and the writes that are taken at once. -/
namespace Sys2Proof
open Machine

/-! ## Keys (R4) -/

theorem keyBlock_eq (k : Nat) : keyBlock k = k / 2 ^ 24 % 2 ^ 8 := rfl
theorem keyInst_eq (k : Nat) : keyInst k = k / 2 ^ 16 % 2 ^ 8 := rfl
theorem keyItem_eq (k : Nat) : keyItem k = k % 2 ^ 16 := by rw [keyItem, bits, Nat.pow_zero, Nat.div_one]

theorem keyBlock_mkKey {blk inst item : Nat} (hblk : blk < 256) (hinst : inst < 256) (hitem : item < 65536) :
    keyBlock (mkKey blk inst item) = blk := by
  rw [keyBlock_eq, mkKey]; omega

theorem keyInst_mkKey {blk inst item : Nat} (hinst : inst < 256) (hitem : item < 65536) : keyInst (mkKey blk inst item) = inst := by
  rw [keyInst_eq, mkKey]; omega

theorem keyItem_mkKey {blk inst item : Nat} (hitem : item < 65536) : keyItem (mkKey blk inst item) = item := by
  rw [keyItem_eq, mkKey]; omega

theorem mkKey_lt {blk inst item : Nat} (hblk : blk < 256) (hinst : inst < 256) (hitem : item < 65536) : mkKey blk inst item < 2 ^ 32 := by
  rw [mkKey]; omega

/-- A key of 32 bits is made of its three fields. -/
theorem mkKey_of_fields {k : Nat} (hk : k < 2 ^ 32) : mkKey (keyBlock k) (keyInst k) (keyItem k) = k := by
  rw [keyBlock_eq, keyInst_eq, keyItem_eq, mkKey]; omega

theorem keyBlock_extract (k : BitVec 32) : keyBlock k.toNat = (k.extractLsb' 24 8).toNat := by
  rw [keyBlock_eq, BitVec.extractLsb'_toNat, Nat.shiftRight_eq_div_pow]

theorem keyInst_extract (k : BitVec 32) : keyInst k.toNat = (k.extractLsb' 16 8).toNat := by
  rw [keyInst_eq, BitVec.extractLsb'_toNat, Nat.shiftRight_eq_div_pow]

theorem keyItem_extract (k : BitVec 32) : keyItem k.toNat = (k.extractLsb' 0 16).toNat := by
  rw [keyItem_eq, BitVec.extractLsb'_toNat, Nat.shiftRight_zero]

/-- Settles O58: the three fields lie side by side, so each is what division and remainder by a power of two give. -/
theorem keyComposition : Obligations.KeyComposition := by
  refine ⟨fun blk inst item hblk hinst hitem => ?_, fun k => ?_, rfl, rfl⟩
  · exact ⟨mkKey_lt hblk hinst hitem, keyBlock_mkKey hblk hinst hitem, keyInst_mkKey hinst hitem, keyItem_mkKey hitem⟩
  · refine ⟨?_, keyBlock_extract k, keyInst_extract k, keyItem_extract k⟩
    rw [← keyBlock_extract, ← keyInst_extract, ← keyItem_extract]
    exact mkKey_of_fields k.isLt

/-! ## What the engine's writes leave -/

/-- The bits beside the field that the engine writes. -/
theorem bit_pf_beside (b : Block) (k i hi lo v n : Nat) (h : lo ≤ hi + 1) (w : n < 64) (d : n < lo ∨ hi < n) :
    bit ((b.pf k i hi lo v).val (ki k i)) n = bit (b.val (ki k i)) n := by
  rw [Block.pf, val_setVal_same, bit_mod _ _ _ w, bit_testBit, testBit_setBits _ _ _ _ _ h, if_neg (by omega), bit_testBit]

/-- A counter wraps (log entry 7). -/
theorem val_inc_same (b : Block) (k i n : Nat) : (b.inc k i n).val (ki k i) = (b.val (ki k i) + n) % 2 ^ 32 := by
  rw [Block.inc, val_pv_same]
  exact Nat.mod_eq_of_lt (by omega)

/-- A function that enters a state changes no parameter but its FUNC_STATE, whatever else it reports. -/
theorem val_setLife (b : Block) (blk i st key : Nat) :
    (b.setLife blk i st).val key = (b.setVal (mkKey blk i 2) (setBits (b.val (mkKey blk i 2)) 1 0 st)).val key := by
  by_cases same : b.life blk i = st
  · simp only [Block.setLife, if_pos same]
  · simp only [Block.setLife, if_neg same]
    by_cases rests : st = lOff ∨ st = lOn <;> cases lifeEvent blk i <;> simp only [rests, if_true, if_false] <;> rfl

theorem life_setLife (b : Block) (blk i : Nat) {st : Nat} (h : st < 4) : (b.setLife blk i st).life blk i = st := by
  rw [Block.life, val_setLife, val_setVal_same, bits_mod _ _ _ _ (by decide), bits_setBits_same _ _ _ _ (by decide)]
  exact Nat.mod_eq_of_lt h

theorem heldReq_setLife (b : Block) (blk i st : Nat) : (b.setLife blk i st).heldReq blk i = b.heldReq blk i := by
  rw [Block.heldReq, val_setLife, val_setVal_same, bits_mod _ _ _ _ (by decide), bits_setBits_ne _ _ _ _ _ _ (by decide) (by decide)]
  rfl

/-- Settles O60, from the rules of the bit fields and of the tables. -/
theorem parameterFrame : Obligations.ParameterFrame := by
  refine ⟨?_, ?_, ?_, val_inc_same, ?_⟩
  · exact fun b k i hi lo v k' other => val_pf_ne b k i hi lo v k' other
  · exact fun b k i hi lo v order width => f_pf_same b k i hi lo v (by omega) width
  · exact fun b k i hi lo v n order _ width beside => bit_pf_beside b k i hi lo v n (by omega) width beside
  · exact fun b blk i l code => ⟨life_setLife b blk i code, heldReq_setLife b blk i l⟩

/-! ## The idle cycle -/

/-- Within the beat a core cycle takes one unit, and four on the safe clock (R414). -/
theorem clockTick_within (b : Block) (h : b.cycle + (if b.coreSafe = true then 4 else 1) ≤ 2047) :
    b.clockTick = { b with cycle := b.cycle + (if b.coreSafe = true then 4 else 1), ticks := b.ticks + (if b.coreSafe = true then 4 else 1) } := by
  simp only [Block.clockTick, Nat.min_eq_right h, Nat.add_sub_cancel_left, Nat.max_eq_right (Nat.le_add_right _ _)]

/-- The last unit of a beat stays (log entry 8). -/
theorem clockTick_last (b : Block) (h : b.cycle = 2047) : b.clockTick = b := by
  simp only [Block.clockTick, h, Nat.min_eq_left (Nat.le_add_right _ _), Nat.max_self, Nat.sub_self, Nat.add_zero]
  rw [← h]

theorem step_idle (s : Machine.State) (h : s.pending = []) : step s = .next { s with blk := s.blk.clockTick } := by
  simp only [step, h]

/-- Settles O51: an empty queue lets the clock tick, and nothing else. -/
theorem idleCycle : Obligations.IdleCycle := by
  refine ⟨fun s idle within => ?_, fun s idle last => ?_⟩
  · rw [step_idle s idle, clockTick_within s.blk within]
  · rw [step_idle s idle, clockTick_last s.blk last]

/-! ## The state after reset -/

/-- At reset no parameter has been written, so each reads as the table's Reset column gives it (R5). -/
theorem val_reset (k : Nat) : State.reset.blk.val k = resetVal k := rfl

theorem f_reset (k i hi lo : Nat) : State.reset.blk.f k i hi lo = bits (resetVal (ki k i)) hi lo := rfl

theorem life_reset (blk i : Nat) : State.reset.blk.life blk i = bits (resetVal (mkKey blk i 2)) 1 0 := rfl

theorem isOff_reset {blk i : Nat} (h : resetVal (mkKey blk i 2) = 0) : State.reset.blk.isOff blk i = true := by
  rw [Block.isOff, life_reset, h]; rfl

theorem resetVal_laneState : ∀ i < 32, resetVal (mkKey bLANE i 2) = 0 := by decide

theorem resetVal_coreState : ∀ c < 64, resetVal (mkKey bWVR c 2) = 0 := by decide

/-- Settles O56: the state is the empty one, and a parameter that nothing has written reads as its row's Reset column. -/
theorem resetState : Obligations.ResetState := by
  refine ⟨rfl, rfl, rfl, rfl, rfl, rfl, rfl, rfl, rfl, ?_⟩
  simp only [val_reset, f_reset]
  refine ⟨rfl, rfl, rfl, rfl, rfl, rfl, rfl, rfl, rfl, rfl, rfl, rfl, rfl, ?_, ?_⟩
  · exact fun i lane => isOff_reset (resetVal_laneState i lane)
  · exact fun c core => isOff_reset (resetVal_coreState c core)

/-! ## Rows of keys -/

/-- The row found for a key covers it (R47). -/
theorem rowOf_covers {k : Nat} {r : Row} (h : rowOf k = some r) :
    r ∈ blockRows (keyBlock k) ∧ r.ilo ≤ keyInst k ∧ keyInst k ≤ r.ihi ∧ r.item ≤ keyItem k ∧ keyItem k < r.item + r.n := by
  have covers := List.find?_some h
  simp only [Bool.and_eq_true, decide_eq_true_eq] at covers
  obtain ⟨⟨⟨lo, hi⟩, first⟩, last⟩ := covers
  exact ⟨List.mem_of_find?_eq_some h, lo, hi, first, last⟩

/-- A defined key other than of ENABLE and FUNC_STATE has the row of its block's table. -/
theorem rowOf_of_keyRow {b : Block} {k : Nat} {r : Row} (h : b.keyRow k = some r) (enable : keyItem k ≠ 1) (state : keyItem k ≠ 2) :
    rowOf k = some r := by
  simp only [Block.keyRow, enable, state, false_and, if_false] at h
  split at h
  · exact absurd h (by simp)
  · exact h

theorem keyIs_iff {key lo hi k : Nat} :
    keyIs key lo hi k = true ↔ keyBlock k = keyBlock key ∧ keyItem k = keyItem key ∧ lo ≤ keyInst k ∧ keyInst k ≤ hi := by
  simp only [keyIs, Bool.and_eq_true, beq_iff_eq, decide_eq_true_eq, and_assoc]

/-- Every row of the key's block that holds its item at some number from `lo` to `hi` is IMM. -/
abbrev RowsImm (key lo hi : Nat) : Prop :=
  ∀ r ∈ blockRows (keyBlock key), lo ≤ r.ihi → r.ilo ≤ hi → r.item ≤ keyItem key → keyItem key < r.item + r.n → r.eff = .imm

theorem effectOf_imm {b : Block} {key lo hi k : Nat} {r : Row} (sel : keyIs key lo hi k = true) (h : b.keyRow k = some r)
    (enable : keyItem key ≠ 1) (state : keyItem key ≠ 2) (net : keyBlock key ≠ bNET) (rows : RowsImm key lo hi) : effectOf k r = .imm := by
  obtain ⟨blk, item, hlo, hhi⟩ := keyIs_iff.mp sel
  rw [← item] at enable state
  rw [RowsImm, ← blk, ← item] at rows
  obtain ⟨listed, low, high, first, last⟩ := rowOf_covers (rowOf_of_keyRow h enable state)
  rw [effectOf, if_neg (fun c => net (blk ▸ c.1))]
  exact rows r listed (Nat.le_trans hlo high) (Nat.le_trans low hhi) first last

/-! ## Writes that are taken at once (R8, R56) -/

/-- The write is taken at once: of an IMM parameter that no core serves, and none of the SEC registers with a meaning of their own. -/
structure TakenAtOnce (b : Block) (k : Nat) (row : Row) : Prop where
  unserved : serviceCore k = none
  plain : isEnable k = false
  defined : b.keyRow k = some row
  imm : effectOf k row = .imm
  sec : keyBlock k = bSEC → isCommit (keyInst k) (keyItem k) = false ∧ k ≠ K.SEC_ZEROISE

theorem TakenAtOnce.notZeroise {b : Block} {k : Nat} {row : Row} (h : TakenAtOnce b k row) : k ≠ K.SEC_ZEROISE :=
  fun e => (h.sec (e ▸ rfl)).2 e

theorem TakenAtOnce.commitRefused {b : Block} {k : Nat} {row : Row} (h : TakenAtOnce b k row) (c : Block) (v : Nat) (st : Status) :
    c.commitRefused k v st = c := by
  rw [Block.commitRefused, if_neg]
  rintro ⟨blk, commit, -⟩
  rw [(h.sec blk).1] at commit
  exact Bool.false_ne_true commit

/-- A key of a command row of its own, outside the cores, the ports and SEC, whose rows are all IMM. -/
theorem takenAtOnce_of_keyIs {b : Block} {key lo hi k : Nat} {row : Row} (sel : keyIs key lo hi k = true) (h : b.keyRow k = some row)
    (blk : keyBlock key ∉ [bWVR, bNET, bSEC]) (item : keyItem key ∉ [1, 2])
    (rows : RowsImm key lo hi) : TakenAtOnce b k row := by
  obtain ⟨hblk, hitem, -⟩ := keyIs_iff.mp sel
  simp only [List.mem_cons, List.not_mem_nil, or_false, not_or] at blk item
  obtain ⟨core, net, sec⟩ := blk
  exact {
    unserved := by rw [serviceCore, hblk, if_neg (fun c => core c.1)]
    plain := by rw [isEnable, hitem, beq_false_of_ne item.1, Bool.false_and]
    defined := h
    imm := effectOf_imm sel h item.1 item.2 net rows
    sec := fun e => absurd (hblk ▸ e) sec }

theorem keyIs_of_commit {k : Nat} (blk : keyBlock k = bSEC) (h : isCommit (keyInst k) (keyItem k) = true) :
    keyIs K.SEC_HOST_COMMIT 0x10 0x17 k = true ∨ keyIs K.SEC_GROUP_COMMIT 0x20 0x23 k = true ∨ keyIs K.SEC_STREAM_COMMIT 0x30 0x37 k = true := by
  have commits : keyBlock K.SEC_HOST_COMMIT = bSEC ∧ keyBlock K.SEC_GROUP_COMMIT = bSEC ∧ keyBlock K.SEC_STREAM_COMMIT = bSEC ∧
    keyItem K.SEC_HOST_COMMIT = 0x20 ∧ keyItem K.SEC_GROUP_COMMIT = 0x21 ∧ keyItem K.SEC_STREAM_COMMIT = 0x20 := by decide
  simp only [isCommit, Bool.or_eq_true, Bool.and_eq_true, decide_eq_true_eq, beq_iff_eq] at h
  simp only [keyIs_iff, blk, commits, true_and]
  omega

/-- A parameter without a command of its own is no ENABLE and no commit or ZEROISE of SEC. -/
theorem takenAtOnce_of_plain {b : Block} {k v : Nat} {row : Row} (sel : selPlain k v = true) (core : serviceCore k = none)
    (h : b.keyRow k = some row) (imm : effectOf k row = .imm) : TakenAtOnce b k row := by
  simp only [selPlain, List.any_cons, List.any_nil, Bool.and_eq_true, Bool.not_eq_true', Bool.or_eq_false_iff] at sel
  obtain ⟨enable, -, -, -, -, -, -, -, -, -, -, -, -, -, -, -, -, -, -, -, -, -, -, -, -, zeroise, enrol, hostGone, install, groupGone, stream,
    streamGone, -⟩ := sel
  refine ⟨core, enable, h, imm, fun blk => ⟨?_, ?_⟩⟩
  · apply Bool.eq_false_iff.mpr
    intro commit
    rcases keyIs_of_commit blk commit with c | c | c
    · simp_all [selHostEnroll, selHostRemove]
    · simp_all [selGroupInstall, selGroupRemove]
    · simp_all [selStreamInstall, selStreamRemove]
  · rintro rfl
    exact absurd (zeroise.symm.trans rfl) Bool.false_ne_true

/-- The status that the write is answered with (R54, R57). -/
def immStatus (b : Block) (k v : Nat) (row : Row) : Status := b.checkWrite ⟨.session 0 0, b.beat, false, true⟩ [] ⟨k, v⟩ row.width

/-- The block after a write that is taken at once, and after one that is refused. -/
def immBlock (b : Block) (m : Mem) (k v : Nat) (row : Row) : Block :=
  if (immStatus b k v row).good = true then (b.writeVal m k v 0 0).lanesApply else b

/-- What a record of a SET that is taken at once leaves. -/
theorem setAll_takenAtOnce {b : Block} {k : Nat} {row : Row} (h : TakenAtOnce b k row) (m : Mem) (rto : ReplyTo) (beat v : Nat) :
    b.setAll m ⟨.session 0 0, rto, 0, beat, []⟩ [⟨k, row.width, v⟩] =
      { b := immBlock b m k v row, recs := [(k, (immStatus b k v row).num, [])] } := by
  have queue : ∀ q : Req, q.asker = .session 0 0 → { b with accepted := (b.accept q []).accepted } = b := by
    rintro ⟨_, _, _, _, _⟩ rfl
    simp only [Block.accept, Block.takePrimitives, List.map_nil, List.append_nil]
  have status : ∀ q : Req, q.asker = .session 0 0 →
      Block.checkWrite { b with accepted := (b.accept q []).accepted } ⟨.session 0 0, b.beat, false, true⟩ [] ⟨k, v⟩ row.width =
        immStatus b k v row := fun q e => by rw [queue q e]; rfl
  simp only [Block.setAll, List.foldl_cons, List.foldl_nil, Setting.one, h.unserved, h.plain, h.defined, h.imm, WireRec.write,
    beq_self_eq_true, Bool.not_false, Bool.and_true, if_true, status, List.nil_append]
  unfold immBlock
  cases good : (immStatus b k v row).good
  · simp only [Bool.not_false, if_true, h.commitRefused, Bool.false_eq_true, if_false]
  · simp only [h.notZeroise, false_and, if_false, if_true, Bool.not_true, Bool.false_eq_true, Block.takePrimitives, Block.askerIds]

/-- A write command whose record is taken at once. -/
theorem writeCmd_takenAtOnce {b : Block} {w : Write} {row : Row} (h : TakenAtOnce b w.key.toNat row) (m : Mem) (target : w.target = 0)
    (free : b.plt.notice = none ∨ b.leader = true) (room : b.waitingGroups < 256) :
    b.writeCmd m w 0 0 = (immBlock b m w.key.toNat w.val.toNat row).send (.result (immStatus b w.key.toNat w.val.toNat row).num) := by
  have awaits : b.stepAwaited = false := by
    rcases free with none | leads
    · simp [Block.stepAwaited, none]
    · simp [Block.stepAwaited, leads]
  have beat : b.opBeat 0x11 0 = .inr (b.beat + 1) := by
    simp [Block.opBeat, opNotInThaw, opActs, awaits]
  have now : w.target.toNat = 0 := by rw [target]; rfl
  simp only [Block.writeCmd, now, beat, if_neg (Nat.not_le.mpr room), h.defined, setAll_takenAtOnce h, List.isEmpty_nil, if_true,
    Option.isSome_none, Bool.false_eq_true, if_false, List.map_cons, List.map_nil, List.headD_cons]

theorem runWrite_selected {sel : Nat → Nat → Bool} {w : Write} {s : Machine.State} (live : s.blk.live = true)
    (selected : sel w.key.toNat w.val.toNat = true) :
    s.runWrite sel w = .next (s.finish (s.start.writeCmd s.mem w 0 0)) := by
  rw [Machine.State.runWrite, runLive_live _ _ live, if_pos selected]

/-- A write command of a state in which it acts, on a key of its own, taken at once. -/
theorem runWrite_takenAtOnce {sel : Nat → Nat → Bool} {w : Write} {row : Row} {s : Machine.State} (h : TakenAtOnce s.start w.key.toNat row)
    (live : s.blk.live = true) (target : w.target = 0) (free : s.blk.plt.notice = none ∨ s.blk.leader = true)
    (room : s.blk.waitingGroups < 256) (selected : sel w.key.toNat w.val.toNat = true) :
    s.runWrite sel w = .next (s.finish (
      if (immStatus s.start w.key.toNat w.val.toNat row).good = true then
        (s.start.writeVal s.mem w.key.toNat w.val.toNat 0 0).lanesApply.send (.result (immStatus s.start w.key.toNat w.val.toNat row).num)
      else s.start.send (.result (immStatus s.start w.key.toNat w.val.toNat row).num))) := by
  rw [runWrite_selected live selected, writeCmd_takenAtOnce h s.mem target free room, immBlock]
  split <;> rfl

/-! ## What each such write does -/

theorem writeVal_outAck {b : Block} {k : Nat} (sel : selOutAck k 0 = true) (m : Mem) (v id seq : Nat) :
    b.writeVal m k v id seq = (b.storeVal k v).outAck v := by
  obtain ⟨blk, item, -⟩ := keyIs_iff.mp sel
  have here : keyBlock k = 0x02 ∧ keyItem k = 0x12 := ⟨blk, item⟩
  simp only [Block.writeVal, Block.actVal, here, if_true]

theorem writeVal_winCfg {b : Block} {k : Nat} {row : Row} (sel : selWinCfg k 0 = true) (h : b.keyRow k = some row) (m : Mem) (v id seq : Nat) :
    b.writeVal m k v id seq = (b.placeVal k row v).winConfigure (keyInst k - 0xC0) v := by
  obtain ⟨blk, item, lo, -⟩ := keyIs_iff.mp sel
  have here : keyBlock k = 0x06 ∧ keyItem k = 0x10 := ⟨blk, item⟩
  have trace : ¬ keyInst k < 0xA0 := by omega
  simp [Block.writeVal, Block.actVal, Block.storeVal, Block.settleVal, h, here, lo, trace, bDEN, bLANE]

theorem writeVal_bufCfg {b : Block} {k : Nat} {row : Row} (sel : selBufCfg k 0 = true) (h : b.keyRow k = some row) (m : Mem) (v id seq : Nat) :
    b.writeVal m k v id seq = (b.bufCfg (keyInst k - 0x50) v).1 := by
  obtain ⟨blk, item, lo, hi⟩ := keyIs_iff.mp sel
  have here : keyBlock k = 0x0A ∧ keyItem k = 0x10 := ⟨blk, item⟩
  have output : ¬ 0x80 ≤ keyInst k := by omega
  have buffer : keyInst k < 0x60 := by omega
  simp [Block.writeVal, Block.actVal, Block.storeVal, h, here, lo, output, buffer, bDEN]

theorem writeVal_credit {b : Block} {k : Nat} {row : Row} (sel : selCredit k 0 = true) (h : b.keyRow k = some row)
    (imm : effectOf k row = .imm) (m : Mem) (v id seq : Nat) : b.writeVal m k v id seq = b.setVal k (mergeVal row (b.val k) v) := by
  obtain ⟨blk, item, -⟩ := keyIs_iff.mp sel
  have here : keyBlock k = 0x0D ∧ keyItem k = 0x1E := ⟨blk, item⟩
  have other : k ≠ K.THM_AVS_CFG := by
    rintro rfl
    exact absurd blk (by decide)
  simp [Block.writeVal, Block.actVal, Block.storeVal, Block.settleVal, Block.placeVal, imm, h, here, other, bDEN, bLANE, bXFM]

/-- Settles O47: each command's key is one that is taken at once, and `writeVal` of it is what the statement names. -/
theorem immediateWrites : Obligations.ImmediateWrites := by
  refine ⟨?_, ?_, ?_, ?_, ?_⟩
  · rintro w row _ s live target free room sel h rfl
    rw [← writeVal_outAck sel s.mem _ 0 0]
    exact runWrite_takenAtOnce (takenAtOnce_of_keyIs sel h (by decide) (by decide) (by decide)) live target free room sel
  · rintro w row _ s live target free room sel h rfl
    rw [← writeVal_winCfg (b := s.start) sel h s.mem _ 0 0]
    exact runWrite_takenAtOnce (takenAtOnce_of_keyIs sel h (by decide) (by decide) (by decide)) live target free room sel
  · rintro w row _ s live target free room sel h rfl
    rw [← writeVal_bufCfg (b := s.start) sel h s.mem _ 0 0]
    exact runWrite_takenAtOnce (takenAtOnce_of_keyIs sel h (by decide) (by decide) (by decide)) live target free room sel
  · rintro w row _ s live target free room sel h rfl
    have now : TakenAtOnce s.start w.key.toNat row := takenAtOnce_of_keyIs sel h (by decide) (by decide) (by decide)
    rw [← start_val, ← writeVal_credit (b := s.start) sel h now.imm s.mem _ 0 0]
    exact runWrite_takenAtOnce now live target free room sel
  · rintro w row _ s live target free room sel core h imm rfl
    exact runWrite_takenAtOnce (takenAtOnce_of_plain sel core h imm) live target free room sel

end Sys2Proof
end

section
/-! PROOFS. The statements of the engine overview: what the engine does outside THAW and FLOW, and the beat boundary with its items taken
alone. -/
namespace Sys2Proof
open Machine

/-! ## Commands outside THAW and FLOW (R32, R468, R477) -/

/-- The commands that act in RESET, BOOT and HALT too: time, the reset pins, reset and boot, JTAG and the keeper. -/
def actsAlways : Instr → Bool
  | .beatBoundary | .powerOnReset | .coldResetPin | .resetPinRelease _ | .watchdogReset | .keeperFault => true
  | .resetEnd _ _ | .bootSlot _ | .thawEntry => true
  | .extest _ _ _ | .idcode | .samplePreload _ _ _ | .haltCause | .bypass _ _ => true
  | _ => false

theorem not_actsAlways_of_mem {l : List Instr} (all : l.all (fun c => !actsAlways c) = true) {c : Instr} (h : c ∈ l) :
    actsAlways c = false := by
  simpa using List.all_eq_true.mp all c h

/-- A command that acts in THAW and FLOW alone leaves the block as it finds it elsewhere. -/
theorem next_start_of_ite_live {s : Machine.State} {o : Host.Outcome Machine.State Fault Refusal} {b : Block}
    (run : o = .next (s.finish (if s.start.live then b else s.start))) (dead : s.blk.live = false) : o = .next (s.finish s.start) := by
  rw [run, start_live, dead]; rfl

/-- Every other command leaves the block as it finds it. -/
theorem exec_dead {c : Instr} (other : actsAlways c = false) {s : Machine.State} (dead : s.blk.live = false) :
    exec c s = .next (s.finish s.start) := by
  cases c
  case beatBoundary | powerOnReset | coldResetPin | resetPinRelease | watchdogReset | keeperFault => cases other
  case resetEnd | bootSlot | thawEntry => cases other
  case extest | idcode | samplePreload | haltCause | bypass => cases other
  all_goals exact next_start_of_ite_live rfl dead

/-! ## What the commands of RESET, BOOT and HALT send -/

/-- Neither a BCP packet nor one that is passed on. -/
def notBcp : Sent → Bool
  | .bcp .. => false
  | .ctrl .. => false
  | _ => true

/-- The command in progress has raised no event, and sent no BCP packet. -/
structure Silent (b : Block) : Prop where
  noEvent : b.raised = []
  noPacket : b.sent.all notBcp = true

/-- Only what has been sent and raised counts. -/
theorem Silent.of_eq {b c : Block} (h : Silent b) (raised : c.raised = b.raised) (sent : c.sent = b.sent) : Silent c :=
  ⟨raised.trans h.noEvent, sent ▸ h.noPacket⟩

theorem Silent.pf {b : Block} (h : Silent b) (k i hi lo v : Nat) : Silent (b.pf k i hi lo v) := ⟨h.noEvent, h.noPacket⟩

theorem Silent.withDev {b : Block} (h : Silent b) (d : DevState) : Silent { b with dev := d } := ⟨h.noEvent, h.noPacket⟩

theorem Silent.setSys {b : Block} (h : Silent b) (x : SysUnit) : Silent (b.setSys x) := ⟨h.noEvent, h.noPacket⟩

theorem Silent.firnSet {b : Block} (h : Silent b) (k v : Nat) : Silent (b.firnSet k v) := ⟨h.noEvent, h.noPacket⟩

theorem Silent.send {b : Block} (h : Silent b) {x : Sent} (other : notBcp x = true) : Silent (b.send x) :=
  ⟨h.noEvent, by simp [h.noPacket, other]⟩

theorem silent_start (s : Machine.State) : Silent s.start := ⟨rfl, rfl⟩

/-- A silent command delivers no event, so what it has sent is what leaves. -/
theorem Silent.finish {b : Block} (h : Silent b) (s : Machine.State) : (s.finish b).blk.sent.all notBcp = true := by
  rw [finish_quiet s b h.noEvent]
  exact h.noPacket

/-- A reset takes back pins and clocks, and sends nothing else. -/
theorem resetPins_notBcp (b : Block) : b.resetPins.all notBcp = true := by
  have vec : (if (b.vec.w0, b.vec.w1) = (0, 0) then [] else [Sent.vec 0 0 b.now]).all notBcp = true := by split <;> rfl
  have ref : (if b.tim.refOn then [Sent.clockOut (b.f K.TIM_REF_CFG refInst 1 1) false] else []).all notBcp = true := by split <;> rfl
  simp only [Block.resetPins, List.all_append, Bool.and_eq_true]
  refine ⟨⟨⟨⟨⟨?_, ?_⟩, vec⟩, ?_⟩, ?_⟩, ref⟩ <;> simp [notBcp]

theorem Silent.of_resetPins {b c : Block} (h : Silent b) (raised : c.raised = []) (sent : c.sent = b.sent ++ b.resetPins) : Silent c :=
  ⟨raised, by rw [sent, List.all_append, h.noPacket, resetPins_notBcp, Bool.and_self]⟩

theorem Silent.coldBlock {b : Block} (h : Silent b) (kind : Nat) : Silent (b.coldBlock kind) := h.of_resetPins rfl rfl

theorem Silent.warmBlock {b : Block} (h : Silent b) : Silent b.warmBlock := h.of_resetPins rfl rfl

theorem Silent.resetBegin {b : Block} (h : Silent b) (kind cause : Nat) : Silent (b.resetBegin kind cause) := by
  simp only [Block.resetBegin]
  by_cases warm : (if (b.dev == .reset || b.dev == .boot) = true then min kind b.sys.kind else kind) = 2
  · rw [if_pos warm]
    exact h.warmBlock.pf ..
  · rw [if_neg warm]
    exact (h.coldBlock _).pf ..

theorem Silent.enterHalt {b : Block} (h : Silent b) (cause : Nat) : Silent (b.enterHalt cause) := by
  have cold := ((h.pf K.EVT_OUT_STATE 0 1 0 0).coldBlock b.sys.kind).firnSet K.SYS_LAST_HALT cause
  exact ((((cold.withDev .halt).pf K.EVT_OUT_STATE 0 1 0 3).setSys _).send rfl).send rfl

theorem Silent.pinReset {b : Block} (h : Silent b) (pin : Nat) : Silent (b.pinReset pin) := (h.resetBegin pin pin).setSys _

theorem Silent.resetEnd {b : Block} (h : Silent b) (member bootMode : Nat) : Silent (b.resetEnd member bootMode) := by
  unfold Block.resetEnd
  split
  · exact h
  · simp only
    split
    · exact (h.setSys _).enterHalt 2
    · exact h.of_eq rfl rfl

theorem Silent.bootSlot {b : Block} (h : Silent b) (slot : BootSlot) : Silent (b.bootSlot slot) := by
  unfold Block.bootSlot
  split
  · exact h
  · split
    · exact h
    · simp only
      split
      · exact h.of_eq rfl rfl
      · split
        · exact (h.setSys _).enterHalt 1
        · exact h.of_eq rfl rfl

theorem Silent.jtagShift {b : Block} (h : Silent b) (v len : Nat) : Silent (b.jtagShift v len) :=
  Silent.send (h.setSys _) rfl

theorem Silent.jtagExtest {b : Block} (h : Silent b) (pins tdi len : Nat) : Silent (b.jtagExtest pins tdi len) :=
  Silent.send (h.setSys _) rfl

theorem Silent.jtagSample {b : Block} (h : Silent b) (pins tdi len : Nat) : Silent (b.jtagSample pins tdi len) :=
  (h.setSys _).jtagShift _ _

/-- The keeper's fault changes nothing in HALT (R477). -/
theorem Silent.keeperFault {b : Block} (h : Silent b) : Silent (if b.dev = .halt then b else b.enterHalt 4) := by
  split
  · exact h
  · exact h.enterHalt 4

/-- Outside THAW and FLOW the watchdog counts nothing. -/
theorem watchdog_dead {b : Block} (dead : b.live = false) : b.watchdog = b := by
  simp [Block.watchdog, dead]

theorem Silent.watchdog {b : Block} (h : Silent b) (dead : b.live = false) : Silent b.watchdog := by
  rwa [watchdog_dead dead]

/-- Outside THAW and FLOW a boundary only lets time pass. -/
theorem beatBoundary_dead {b : Block} (dead : b.live = false) (m : Mem) :
    Block.beatBoundary m b = { b with
      ticks := b.ticks + (2048 - b.cycle)
      cycle := 0
      beat := if b.dev = .reset ∧ b.sys.kind = 2 then (b.beat + 1) % 2 ^ 64 else b.beat } := by
  simp [Block.beatBoundary, dead]

theorem Silent.beatBoundary {b : Block} (h : Silent b) (dead : b.live = false) (m : Mem) : Silent (Block.beatBoundary m b) := by
  rw [beatBoundary_dead dead]
  exact ⟨h.noEvent, h.noPacket⟩

/-! ## The device state through the entry to THAW and through the delivery of events -/

theorem foldl_dev {α : Type} {f : Block → α → Block} (h : ∀ b x, (f b x).dev = b.dev) (l : List α) (b : Block) :
    (l.foldl f b).dev = b.dev := by
  induction l generalizing b with
  | nil => rfl
  | cons x l ih => rw [List.foldl_cons, ih, h]

@[simp] theorem pf_dev (b : Block) (k i hi lo v : Nat) : (b.pf k i hi lo v).dev = b.dev := rfl

@[simp] theorem inc_dev (b : Block) (k i n : Nat) : (b.inc k i n).dev = b.dev := rfl

@[simp] theorem countSource_dev (b : Block) (id : Nat) : (b.countSource id).dev = b.dev := rfl

theorem strOffer_dev (b : Block) (s : Nat) (it : StrItem) : (b.strOffer s it).1.dev = b.dev := by
  unfold Block.strOffer
  split <;> simp

@[simp] theorem strEvent_dev (b : Block) (severity : Nat) (bytes : List Byte) : (b.strEvent severity bytes).dev = b.dev :=
  foldl_dev (fun b s => strOffer_dev b s _) _ b

theorem deliverTo_dev (b : Block) (sid : Nat) (o : Occ) : (b.deliverTo sid o).dev = b.dev := by
  unfold Block.deliverTo
  split
  · rfl
  · simp [apply_ite Block.dev]

@[simp] theorem routePin_dev (b : Block) (id k : Nat) : (b.routePin id k).dev = b.dev := by
  simp [Block.routePin, apply_ite Block.dev]

@[simp] theorem pendLine_dev (b : Block) (c line : Nat) : (b.pendLine c line).dev = b.dev := by
  simp [Block.pendLine, apply_ite Block.dev]

theorem occur_dev (b : Block) (o : Occ) : (b.occur o).dev = b.dev := by
  simp [Block.occur, apply_ite Block.dev, foldl_dev (fun c sid => deliverTo_dev c sid o)]

theorem flushEvents_dev (b : Block) : b.flushEvents.dev = b.dev := foldl_dev occur_dev _ b

@[simp] theorem pllSeries_dev (b : Block) (n : Nat) : (b.pllSeries n).dev = b.dev := by
  unfold Block.pllSeries
  split <;> rfl

theorem calShow_dev (b : Block) (t : Nat) : (b.calShow t).dev = b.dev :=
  foldl_dev (f := fun b j => b.firnSet (ki (K.CAL_POINT + j) t) _) (fun _ _ => rfl) _ b

@[simp] theorem setAuxReady_dev (b : Block) (on : Bool) : (b.setAuxReady on).dev = b.dev := by
  simp [Block.setAuxReady, apply_ite Block.dev]

@[simp] theorem auxCalBegin_dev (b : Block) : b.auxCalBegin.dev = b.dev := by
  simp [Block.auxCalBegin, Block.auxStopFilter, apply_ite Block.dev]

@[simp] theorem auxRefReady_dev (b : Block) : b.auxRefReady.dev = b.dev := by
  simp [Block.auxRefReady, apply_ite Block.dev]

@[simp] theorem auxRefStart_dev (b : Block) : b.auxRefStart.dev = b.dev := by
  simp [Block.auxRefStart, apply_ite Block.dev]

@[simp] theorem pltSettle_dev (b : Block) : b.pltSettle.dev = b.dev := by
  simp [Block.pltSettle, apply_ite Block.dev]

@[simp] theorem pmNext_dev (b : Block) : b.pmNext.dev = b.dev := by
  unfold Block.pmNext
  split
  · rfl
  · split <;> rfl

@[simp] theorem pmQueue_dev (b : Block) (front : Bool) (l : List (Nat × Nat)) : (b.pmQueue front l).dev = b.dev := by
  simp [Block.pmQueue]

@[simp] theorem tiuCalStart_dev (b : Block) : b.tiuCalStart.dev = b.dev := rfl

/-- The entry to THAW does nothing, enters HALT, or leaves the engine in THAW (R470). -/
theorem thawEntry_cases (b : Block) : b.thawEntry = b ∨ b.thawEntry = b.tick.enterHalt 6 ∨ b.thawEntry.dev = .thaw := by
  unfold Block.thawEntry
  simp only
  split
  · exact .inl rfl
  · split
    · exact .inr (.inl rfl)
    · refine .inr (.inr ?_)
      have calShows := foldl_dev (fun c (e : Nat × Cal) => calShow_dev c e.1)
      have groups := foldl_dev (f := fun (c : Block) (e : Nat × Nat × List Byte × List Byte) => c.groupSession e.2.1 e.2.2.1 e.2.2.2)
        (fun _ _ => rfl)
      simp only [pmQueue_dev, pltSettle_dev, tick_frame, auxRefStart_dev, setAux_frame, calShows, tiuCalStart_dev, groups,
        foldl_dev pllSeries_dev]
      split <;> rfl

/-! ## What a command leaves outside THAW and FLOW -/

theorem live_iff (b : Block) : b.live = true ↔ b.dev = .thaw ∨ b.dev = .flow := by
  simp [Block.live]

/-- The delivery of events leaves THAW and FLOW as they are. -/
theorem finish_live (s : Machine.State) (b : Block) : (s.finish b).blk.live = b.live := by
  rw [finish_blk, Block.live, flushEvents_dev, Block.live]

/-- The entry to THAW is silent, or the engine is in THAW after it. -/
theorem Silent.thawEntry_or_live {b : Block} (h : Silent b) : Silent b.thawEntry ∨ b.thawEntry.live = true := by
  rcases thawEntry_cases b with same | halt | thaw
  · exact .inl (h.of_eq (congrArg _ same) (congrArg _ same))
  · rw [halt]
    exact .inl (Silent.enterHalt (b := b.tick) ⟨h.noEvent, h.noPacket⟩ 6)
  · exact .inr ((live_iff _).mpr (.inl thaw))

/-- Outside THAW and FLOW a command raises no event and sends no BCP packet, or it enters THAW. -/
theorem exec_silent_or_live (c : Instr) {s : Machine.State} (dead : s.blk.live = false) :
    ∃ b : Block, exec c s = .next (s.finish b) ∧ (Silent b ∨ b.live = true) := by
  have start := silent_start s
  cases other : actsAlways c
  · exact ⟨s.start, exec_dead other dead, .inl start⟩
  · cases c
    case beatBoundary => exact ⟨_, rfl, .inl (start.beatBoundary dead s.mem)⟩
    case powerOnReset => exact ⟨_, rfl, .inl (start.pinReset 0)⟩
    case coldResetPin => exact ⟨_, rfl, .inl (start.pinReset 1)⟩
    case resetPinRelease pin => exact ⟨_, rfl, .inl (start.setSys _)⟩
    case watchdogReset => exact ⟨_, rfl, .inl (start.watchdog dead)⟩
    case keeperFault => exact ⟨_, rfl, .inl start.keeperFault⟩
    case resetEnd member bootMode => exact ⟨_, rfl, .inl (start.resetEnd _ _)⟩
    case bootSlot slot => exact ⟨_, rfl, .inl (start.bootSlot slot)⟩
    case thawEntry => exact ⟨_, rfl, start.thawEntry_or_live⟩
    case extest pins tdi len => exact ⟨_, rfl, .inl (start.jtagExtest pins tdi len)⟩
    case idcode => exact ⟨_, rfl, .inl (start.jtagShift _ _)⟩
    case samplePreload pins tdi len => exact ⟨_, rfl, .inl (start.jtagSample pins tdi len)⟩
    case haltCause => exact ⟨_, rfl, .inl (start.jtagShift _ _)⟩
    case bypass tdi len => exact ⟨_, rfl, .inl (start.jtagShift _ _)⟩
    all_goals cases other

/-! ## SYS[0].STATE (R10, R32) -/

/-- The row of STATE: two fields that are read only (R10). -/
def stateRow : Row := row 0 0 0x0001 1 .imm [ro 2 0 0x2, ro 3 3 0x0, rsv 31 4 .ro]

theorem keyRow_state (b : Block) : b.keyRow K.SYS_STATE = some stateRow := rfl

/-- A read shows both fields of STATE, and clears nothing. -/
theorem readKey_state (b : Block) : b.readKey K.SYS_STATE stateRow = (b, Nat.land b.stateWord 15) := rfl

/-- STATE is 2 in THAW and 3 in FLOW, and bit 3 is DEGRADED (R10, R32). -/
theorem stateWord_live {b : Block} (live : b.live = true) :
    b.stateWord = if b.dev = .thaw then 2 else if b.f K.SYS_DEGRADED_CAUSES 0 5 0 = 0 then 3 else 11 := by
  rcases (live_iff b).mp live with thaw | flow
  · simp [Block.stateWord, Block.degraded, thaw, b2n]
  · by_cases none : b.f K.SYS_DEGRADED_CAUSES 0 5 0 = 0 <;> simp [Block.stateWord, Block.degraded, flow, none, b2n]

theorem readRecord_state {b : Block} (live : b.live = true) :
    b.readRecord K.SYS_STATE =
      (b, 0, beBytes 4 (if b.dev = .thaw then 2 else if b.f K.SYS_DEGRADED_CAUSES 0 5 0 = 0 then 3 else 11)) := by
  rw [Block.readRecord, keyRow_state]
  simp only [readKey_state, stateWord_live live]
  by_cases thaw : b.dev = .thaw
  · simp only [if_pos thaw]; rfl
  · simp only [if_neg thaw]
    split <;> rfl

/-- Settles O57: requests and event packets are not among the commands that act outside THAW and FLOW, those that are send no BCP packet
unless they enter THAW, and STATE is read from the device state. -/
theorem serviceOnlyInThawAndFlow : Obligations.ServiceOnlyInThawAndFlow := by
  refine ⟨?_, ?_, fun s live => readRecord_state live⟩
  · intro c p op k again id s dead request
    exact exec_dead (not_actsAlways_of_mem rfl request) dead
  · intro c s t dead next after
    obtain ⟨b, run, silent | live⟩ := exec_silent_or_live c dead
    all_goals
      rw [next] at run
      cases run
    · exact silent.finish s
    · rw [finish_live, live] at after
      cases after

/-! ## The boundary and its items (R55, R56, R63) -/

theorem exec_beatBoundary (s : Machine.State) : exec .beatBoundary s = .next (s.finish (Block.beatBoundary s.mem s.start)) := rfl

theorem exec_requestPerformance {s : Machine.State} (live : s.blk.live = true) (first : s.blk.cycle = 0) :
    exec .requestPerformance s = .next (s.finish (Block.performOne s.mem s.start)) :=
  runBoundary_on _ s live first

theorem exec_schedulePerformance (id : BitVec 32) {s : Machine.State} (live : s.blk.live = true) (first : s.blk.cycle = 0) :
    exec (.schedulePerformance id) s = .next (s.finish (Block.entryOne s.mem s.start id.toNat)) :=
  runBoundary_on (fun m b => Block.entryOne m b id.toNat) s live first

/-- A request alone at its boundary is judged by `judgeNow` with no other kept. -/
theorem judgeAll_one (b : Block) (x : Accepted) :
    b.judgeAll [x] = if (b.judgeNow [] x).good = true then (b, [x]) else (b.schedFailed x.asker (b.judgeNow [] x).num, []) := rfl

theorem performOne_some {b : Block} {x : Accepted} (m : Mem) (due : b.accepted.find? (fun x => decide (x.target ≤ b.beat)) = some x) :
    Block.performOne m b =
      let y := Block.performDue m { b with accepted := b.accepted.erase x } [x] false
      y.2.foldl Block.performReset (y.2.foldl Block.performLast y.1) := by
  simp only [Block.performOne, due]

theorem performDue_good {b : Block} {x : Accepted} (m : Mem) (good : (b.judgeNow [] x).good = true) :
    Block.performDue m b [x] false = (Starting.go (performFirst m b [x]), [x]) := by
  simp only [Block.performDue, judgeAll_one, if_pos good, Bool.false_eq_true, if_false]

theorem performDue_bad {b : Block} {x : Accepted} (m : Mem) (bad : (b.judgeNow [] x).good = false) :
    Block.performDue m b [x] false = (Starting.go (performFirst m (b.schedFailed x.asker (b.judgeNow [] x).num) []), []) := by
  simp only [Block.performDue, judgeAll_one, bad, Bool.false_eq_true, if_false]

theorem performDue_none (b : Block) (m : Mem) : Block.performDue m b [] false = (Starting.go (performFirst m b []), []) := rfl

/-- An entry without a request is dated anew, and nothing more. -/
theorem entryRun_idle {e : SchedEntry} (idle : e.opcode = 0) (m : Mem) (b : Block) :
    Block.entryRun m b e =
      { b with sched := b.sched.map (fun x => if x.id = e.id then { x with next := x.next + x.period, left := x.left.map (· - 1) } else x) } := by
  simp only [Block.entryRun, Block.entryAccept, idle, if_true]

theorem entryOne_some {b : Block} {id : Nat} {e : SchedEntry} (m : Mem) (due : b.entriesDue.find? (fun e => e.id == id) = some e) :
    Block.entryOne m b id =
      let old := b.accepted.length
      let b := Block.entryRun m b e
      let now := (b.accepted.drop old).filter (fun x => decide (x.target ≤ b.beat))
      let keep := b.accepted.take old ++ (b.accepted.drop old).filter (fun x => !decide (x.target ≤ b.beat))
      (Block.performDue m { b with accepted := keep } now false).1.entriesEnd := by
  simp only [Block.entryOne, due]

/-- Settles O41: a boundary taken whole is the model's own sequence, and each item taken alone follows what is judged and run for it. -/
theorem beatAndPerformance : Obligations.BeatAndPerformance := by
  refine ⟨?_, ?_, ?_, ?_, ?_, ?_⟩
  · intro s dead
    rw [exec_beatBoundary, beatBoundary_dead (b := s.start) dead]
    rfl
  · intro s live
    rw [exec_beatBoundary, Block.beatBoundary, start_live, live]
    rfl
  · rintro x b s live first due rfl good
    rw [exec_requestPerformance live first, performOne_some s.mem (b := s.start) due, performDue_good]
    · rfl
    · exact good
  · rintro x b s live first due rfl bad
    rw [exec_requestPerformance live first, performOne_some s.mem (b := s.start) due, performDue_bad]
    · rfl
    · exact bad
  · intro id e s live first due idle empty
    have same : e.id = id.toNat := by simpa using List.find?_some due
    have none : s.start.accepted = [] := empty
    rw [exec_schedulePerformance id live first, entryOne_some s.mem (b := s.start) due, entryRun_idle idle, same]
    simp only [none, List.length_nil, List.drop_nil, List.take_nil, List.filter_nil, List.append_nil, performDue_none]
    rfl
  · intro id e s live first due
    rw [exec_schedulePerformance id live first, entryOne_some s.mem (b := s.start) due]
    rfl

end Sys2Proof
end

section
/-! PROOFS. The statements of the events chapter: event packets that close and leave, and the pulses of the event pins. -/
namespace Sys2Proof
open Machine

/-! ## A BCP message leaves its port (R337) -/

theorem netUsable_setSession (b : Block) (x : Session) (l : Nat) : (b.setSession x).netUsable l = b.netUsable l := rfl

theorem portState_setSession (b : Block) (x : Session) (p : Nat) : (b.setSession x).portState p = b.portState p := rfl

theorem portSends_net {b : Block} {port : Nat} (net : port < 17) : b.portSends port = b.netUsable port :=
  if_neg (Nat.not_le.mpr net)

theorem portSends_plait {b : Block} {port : Nat} (plait : 17 ≤ port) : b.portSends port = (b.portState (port - 17) == 3) :=
  if_pos plait

theorem sendMsg_net {b : Block} {port : Nat} (net : port < 17) (up : b.netUsable port = true) (addr dport : Nat) (m : BcpMsg) :
    b.sendMsg port addr dport m = (b.inc K.NET_TX_FRAMES port 1).send (.bcp port addr dport m) := by
  rw [Block.sendMsg, if_neg (Nat.not_le.mpr net), if_pos up]

theorem sendMsg_plait {b : Block} {port : Nat} (plait : 17 ≤ port) (up : b.portState (port - 17) = 3) (addr dport : Nat) (m : BcpMsg) :
    b.sendMsg port addr dport m = b.send (.ctrl (port - 17) (m.bytes ++ m.tag) addr dport) := by
  rw [Block.sendMsg, if_pos plait, if_pos up]

/-! ## Event packets (R81, R83) -/

/-- The EVENT of a session that carries `recs`, with the session's next event sequence number (R81). -/
def eventMsg (b : Block) (id : Nat) (x : Session) (recs : List EvRec) : BcpMsg :=
  BcpMsg.signed ⟨1, 0xE0, id, x.evtSeq, 0, (recs.map (·.beat)).headD 0, (recs.map b.recBytes).flatten, []⟩ x.e2h

/-- A session whose oldest closed packet has left up to its record `n`: the records from there on stay first. -/
def eventLeft (x : Session) (p : EvPkt) (rest : List EvPkt) (n : Nat) : Session :=
  { x with closed := if p.recs.drop n = [] then rest else ⟨p.recs.drop n⟩ :: rest, evtSeq := (x.evtSeq + 1) % 2 ^ 32 }

/-- A packet that the frame holds whole leaves nothing behind. -/
theorem eventLeft_whole {p : EvPkt} {n : Nat} (fits : p.recs.length ≤ n) (x : Session) (rest : List EvPkt) :
    eventLeft x p rest n = { x with closed := rest, evtSeq := (x.evtSeq + 1) % 2 ^ 32 } := by
  rw [eventLeft, if_pos (List.drop_eq_nil_of_le fits)]

/-- An open packet with a record is closed (R83). -/
theorem closePacket_some {b : Block} {id : Nat} {x : Session} (found : b.session id = some x) (waits : x.queue ≠ []) :
    b.closePacket id = b.setSession { x with queue := [], closed := x.closed ++ [⟨x.queue⟩] } := by
  have found : b.sessions.find? (fun y => y.id == id) = some x := found
  simp [Block.closePacket, found, waits]

/-- The oldest closed packet leaves by a port that sends, cut at the port's limit (R81). -/
theorem eventSend_some {b : Block} {id : Nat} {x : Session} {p : EvPkt} {rest : List EvPkt} (found : b.session id = some x)
    (closed : x.closed = p :: rest) (sends : b.portSends x.iface = true) :
    b.eventSend id =
      (b.setSession (eventLeft x p rest (b.recLimit x.iface))).sendMsg x.iface x.addr x.evtPort
        (eventMsg b id x (p.recs.take (b.recLimit x.iface))) := by
  simp [Block.eventSend, found, closed, sends, eventLeft, eventMsg]

theorem eventSend_net {b : Block} {id : Nat} {x : Session} {p : EvPkt} {rest : List EvPkt} (found : b.session id = some x)
    (closed : x.closed = p :: rest) (net : x.iface < 17) (up : b.netUsable x.iface = true) :
    b.eventSend id =
      ((b.setSession (eventLeft x p rest (b.recLimit x.iface))).inc K.NET_TX_FRAMES x.iface 1).send
        (.bcp x.iface x.addr x.evtPort (eventMsg b id x (p.recs.take (b.recLimit x.iface)))) := by
  rw [eventSend_some found closed ((portSends_net net).trans up), sendMsg_net net ((netUsable_setSession ..).trans up)]

/-- A packet of no more records than the limit leaves whole by a Plait port, and no frame is counted. -/
theorem eventSend_plait {b : Block} {id : Nat} {x : Session} {p : EvPkt} {rest : List EvPkt} (found : b.session id = some x)
    (closed : x.closed = p :: rest) (plait : 17 ≤ x.iface) (fits : p.recs.length ≤ b.recLimit x.iface) (up : b.portState (x.iface - 17) = 3) :
    b.eventSend id =
      (b.setSession { x with closed := rest, evtSeq := (x.evtSeq + 1) % 2 ^ 32 }).send
        (.ctrl (x.iface - 17) ((eventMsg b id x p.recs).bytes ++ (eventMsg b id x p.recs).tag) x.addr x.evtPort) := by
  have sends : b.portSends x.iface = true := (portSends_plait plait).trans (beq_iff_eq.mpr up)
  rw [eventSend_some found closed sends, List.take_of_length_le fits, eventLeft_whole fits,
    sendMsg_plait plait ((portState_setSession ..).trans up)]

/-! ## Pulses (R84) -/

/-- An asserted pin in PULSE mode whose width has passed is released. -/
theorem pulseEnd_due {b : Block} {k : Nat} (pulse : bit (b.val (K.EVT_OUT_CFG0 + k)) 0 = true) (asserted : bit (b.val K.EVT_OUT_STATE) k = true)
    (due : tget 0 b.evtEnd k ≤ b.ticks) :
    b.pulseEnd k = (b.pf K.EVT_OUT_STATE 0 k k 0).send (.pin "EVT_OUT_N" k true 0) := by
  simp [Block.pulseEnd, Block.clock, pulse, asserted, due]

/-! ## The commands -/

theorem exec_eventPacketTimeout (id : BitVec 32) {s : Machine.State} (live : s.blk.live = true) :
    exec (.eventPacketTimeout id) s = .next (s.finish (s.start.closePacket id.toNat)) :=
  runLive_live (fun _ b => b.closePacket id.toNat) s live

theorem exec_eventPacketSend (id : BitVec 32) {s : Machine.State} (live : s.blk.live = true) :
    exec (.eventPacketSend id) s = .next (s.finish (s.start.eventSend id.toNat)) :=
  runLive_live (fun _ b => b.eventSend id.toNat) s live

theorem exec_evtOutPulseEnd (k : Fin 2) {s : Machine.State} (live : s.blk.live = true) :
    exec (.evtOutPulseEnd k) s = .next (s.finish (s.start.pulseEnd k.val)) :=
  runLive_live (fun _ b => b.pulseEnd k.val) s live

/-- Settles O4: each command runs one step on the block, and what that step does follows from the session's packets, the state of
its port and the pin. -/
theorem eventPacketsAndPulses : Obligations.EventPacketsAndPulses := by
  refine ⟨?_, ?_, ?_, ?_⟩
  · intro id x s live found waits
    rw [exec_eventPacketTimeout id live, closePacket_some (b := s.start) found waits]
  · intro id x p rest s live found closed net up
    rw [exec_eventPacketSend id live, eventSend_net (b := s.start) found closed net up]
    rfl
  · rintro id x p rest m s live found closed plait fits up rfl
    rw [exec_eventPacketSend id live, eventSend_plait (b := s.start) found closed plait fits up]
    rfl
  · intro k s live pulse asserted due
    rw [exec_evtOutPulseEnd k live, pulseEnd_due (b := s.start) pulse asserted due]

end Sys2Proof
end

section
/-! PROOFS. The statements of the converter-links chapter: the start sequence of a receive link, its errors, its re-release, the events of
a transmit link, and the end of an SPI transaction. -/
namespace Sys2Proof
open Machine

/-- A command that acts in THAW and FLOW leaves, in one of them, what it makes of the block it starts from. -/
theorem next_of_runLive {o : Host.Outcome Machine.State Fault Refusal} {s : Machine.State} {b : Block} (f : Block → Block)
    (run : o = s.runLive (fun _ => f)) (live : s.blk.live = true) (makes : f s.start = b) : o = .next (s.finish b) := by
  rw [run, runLive_live _ _ live, makes]

/-! ## Settings and state of a link -/

/-- What a link holds is no parameter. -/
@[simp] theorem val_setLnk (b : Block) (blk k : Nat) (x : Link) (key : Nat) : (b.setLnk blk k x).val key = b.val key := by
  unfold Block.setLnk
  split <;> rfl

theorem mkKey_ne_of_item_ne (blk k : Nat) {i j : Nat} (h : i ≠ j) : mkKey blk k i ≠ mkKey blk k j :=
  fun e => h (Nat.add_left_cancel e)

/-- STATUS is none of a link's settings (R91). -/
theorem lk_setVal_status (b : Block) (blk k v : Nat) {item : Nat} (setting : item ≠ 0x20) :
    (b.setVal (mkKey blk k 0x20) v).lk blk k item = b.lk blk k item := by
  funext hi lo
  rw [Block.lk, val_setVal_ne _ _ _ _ (mkKey_ne_of_item_ne blk k setting), Block.lk]

theorem lkIsB_clearStatus (b : Block) (blk k : Nat) (locks : Bool) : (b.clearStatus blk k locks).lkIsB blk k = b.lkIsB blk k := by
  rw [Block.lkIsB, Block.clearStatus, lk_setVal_status _ _ _ _ (by decide), Block.lkIsB]

theorem lkIsB_setLnk (b : Block) (blk k : Nat) (x : Link) : (b.setLnk blk k x).lkIsB blk k = b.lkIsB blk k := by
  simp only [Block.lkIsB, Block.lk, val_setLnk]

theorem ki_jrxStatus (k : Nat) : ki K.JRX_STATUS k = mkKey bJRX k 0x20 := by
  simp only [ki, mkKey, K.JRX_STATUS, bJRX]
  omega

theorem lk_pf_status (b : Block) (k hi lo v : Nat) {item : Nat} (setting : item ≠ 0x20) :
    (b.pf K.JRX_STATUS k hi lo v).lk bJRX k item = b.lk bJRX k item := by
  rw [Block.pf, ki_jrxStatus, lk_setVal_status _ _ _ _ setting]

/-- The release latency follows from the link's settings alone (R94). -/
theorem latencyAt_pf_status (b : Block) (k hi lo v r : Nat) : (b.pf K.JRX_STATUS k hi lo v).latencyAt k r = b.latencyAt k r := by
  unfold Block.latencyAt Block.embSamples Block.lkIsB Block.lkDrop Block.lkE Block.lkK Block.lkL Block.lkM Block.lkS Block.lkNp
  rw [lk_pf_status b k hi lo v (item := 0x10) (by decide), lk_pf_status b k hi lo v (item := 0x11) (by decide),
    lk_pf_status b k hi lo v (item := 0x12) (by decide)]

/-- An epoch that a link has stays (R96). -/
theorem takeEpoch_some {b : Block} {blk k : Nat} {e : Int} (epoch : (b.lnk blk k).epoch = some e) : b.takeEpoch blk k = b := by
  simp only [Block.takeEpoch, epoch]

/-- A receive link that begins its start sequence loses its STATUS, and drives JRX_SYNC_N as its coding asks (R96, R97). -/
theorem linkBegin_jrx (b : Block) (k : Nat) :
    b.linkBegin bJRX k =
      ((b.clearStatus bJRX k true).setLnk bJRX k { b.lnk bJRX k with step := 1, started := b.ticks }).send
        (.pin "JRX_SYNC_N" k (!b.lkIsB bJRX k) 0) := by
  simp only [Block.linkBegin, if_true, Block.jrxSync, lkIsB_setLnk, lkIsB_clearStatus, Block.clock]

/-! ## The start sequence of a receive link (R94 to R97, R100, R510) -/

theorem jrxCdrLock_locks {b : Block} {k : Nat} (waits : (b.lnk bJRX k).step = 1 ∨ (b.lnk bJRX k).step = 2) :
    b.jrxCdrLock k =
      let c := (b.pf K.JRX_STATUS k 7 0 (b.allLanes bJRX k)).setLnk bJRX k { b.lnk bJRX k with step := 3 }
      if c.lkIsB bJRX k then c.jrxSync k true else c :=
  if_pos waits

/-- The arrival of the latest lane (R95). -/
def latest (arr : List Nat) : Nat := arr.foldl max 0

/-- Alignment is noted with the arrival of the latest lane (R95). -/
def aligned (b : Block) (k arrival : Nat) : Block := (b.pf K.JRX_STATUS k 8 8 1).pv K.JRX_ARRIVAL k (arrival % 2 ^ 32)

/-- MARGIN at the configured release delay (R95). -/
def configuredMargin (b : Block) (k arrival : Nat) : Int := b.marginAt k (b.lkRBD bJRX k) arrival

theorem jrxAlignDone_fits {b : Block} {k : Nat} {arr : List Nat} (aligns : (b.lnk bJRX k).step = 3)
    (fits : 0 ≤ configuredMargin (aligned b k (latest arr)) k (latest arr)) :
    b.jrxAlignDone k arr =
      let x := b.lnk bJRX k
      let c := aligned b k (latest arr)
      let r := c.lkRBD bJRX k
      ((c.pv K.JRX_MARGIN k (uns 32 (configuredMargin c k (latest arr)))).setLnk bJRX k
        { x with step := 4, delay := r, changed := x.changed || x.delay != r }).takeEpoch bJRX k :=
  (if_pos aligns).trans (if_pos fits)

/-- Before the first release a link that is too late at its configured delay stays at step 3 (R100). -/
theorem jrxAlignDone_late {b : Block} {k : Nat} {arr : List Nat} (aligns : (b.lnk bJRX k).step = 3)
    (first : (b.lnk bJRX k).everReleased = false) (late : configuredMargin (aligned b k (latest arr)) k (latest arr) < 0) :
    b.jrxAlignDone k arr =
      let c := aligned b k (latest arr)
      ((c.pv K.JRX_MARGIN k (uns 32 (configuredMargin c k (latest arr)))).setLnk bJRX k { b.lnk bJRX k with step := 3 }).jrxDown k rAlign
        (c.lateLanes k (c.lkRBD bJRX k) arr) :=
  (if_pos aligns).trans ((if_neg (Int.not_le.mpr late)).trans (if_pos (by rw [first]; rfl)))

/-- The link releases: RELEASED is set, and LATENCY is that of its release delay (R94). -/
def releasing (b : Block) (k : Nat) : Block :=
  let c := b.pf K.JRX_STATUS k 9 9 1
  c.pv K.JRX_LATENCY k (c.latencyAt k (b.lnk bJRX k).delay % 2 ^ 32)

theorem jrxRelease_first {b : Block} {k : Nat} {e : Int} (waits : (b.lnk bJRX k).step = 4) (epoch : (b.lnk bJRX k).epoch = some e)
    (first : (b.lnk bJRX k).everReleased = false) :
    b.jrxRelease k =
      let c := (releasing b k).setLnk bJRX k { b.lnk bJRX k with step := 0, everReleased := true, changed := false, shift := 0 }
      c.raise (704 + 4 * k) (c.jrxUpPayload k) := by
  have goes : (b.lnk bJRX k).step = 4 ∧ (b.lnk bJRX k).epoch.isSome = true ∧ (!(b.lnk bJRX k).everReleased) = true :=
    ⟨waits, by rw [epoch]; rfl, by rw [first]; rfl⟩
  simp only [Block.jrxRelease, if_pos waits, takeEpoch_some epoch, if_pos goes, releasing, latencyAt_pf_status]

theorem jrxTimeout_late {b : Block} {k : Nat} (mask : Nat) (starts : (b.lnk bJRX k).step ≠ 0)
    (unreleased : ¬((b.lnk bJRX k).step = 4 ∧ (b.lnk bJRX k).epoch.isSome = true)) (late : (b.lnk bJRX k).started + tenMs ≤ b.ticks) :
    b.jrxTimeout k mask = (b.jrxDown k rAlign (mask % 2 ^ b.lkL bJRX k)).linkBegin bJRX k :=
  if_pos ⟨starts, unreleased, late⟩

/-- Settles O5: each command takes the branch of its step, and a new start of the sequence is `linkBegin`. -/
theorem receiveLinkStartSequence : Obligations.ReceiveLinkStartSequence := by
  refine ⟨?_, ?_, ?_, ?_, ?_⟩
  · intro k s live waits
    exact next_of_runLive (·.jrxCdrLock k.val) rfl live (jrxCdrLock_locks (b := s.start) waits)
  · intro k arr s live aligns fits
    exact next_of_runLive (·.jrxAlignDone k.val (arr.map BitVec.toNat)) rfl live (jrxAlignDone_fits (b := s.start) aligns fits)
  · intro k arr s live aligns first late
    exact next_of_runLive (·.jrxAlignDone k.val (arr.map BitVec.toNat)) rfl live (jrxAlignDone_late (b := s.start) aligns first late)
  · intro k e s live waits epoch first
    have releases := jrxRelease_first (b := s.start) waits epoch first
    exact next_of_runLive (fun b => (b.jrxRelease k.val).lanesLatency k.val) rfl live (congrArg (·.lanesLatency k.val) releases)
  · intro k mask s live starts unreleased late
    have again := jrxTimeout_late (b := s.start) mask.toNat starts unreleased late
    exact next_of_runLive (·.jrxTimeout k.val mask.toNat) rfl live (again.trans (linkBegin_jrx ..))

/-! ## The errors of a receive link (R87, R90, R99 to R101, R509) -/

/-- What an error that loses samples leaves of a link that then goes back to step `back`: only one that has released reports it, notes the
cause of the loss unless it has one, and counts its 10 ms anew (log entry 150). -/
def lossOf (b : Block) (k counter reason mask back : Nat) : Block :=
  let x := b.lnk bJRX k
  let c := b.inc counter k 1
  let c := if x.everReleased then c.jrxDown k reason (mask % 2 ^ c.lkL bJRX k) else c
  let c := c.clearStatus bJRX k true
  let c := if c.lkIsB bJRX k then c.jrxSync k false else c
  c.setLnk bJRX k { x with step := back, lost := if x.everReleased then some (x.lost.getD reason) else none,
                           started := if x.everReleased then c.ticks else x.started }

/-- An error that sends the link back before step 3 takes its lock bits too. -/
theorem jrxLoss_running {b : Block} {k back : Nat} (running : b.linkLive k = true) (locks : back < 3) (counter reason mask : Nat) :
    b.jrxLoss k counter reason mask back = lossOf b k counter reason mask back := by
  rw [Block.jrxLoss, if_pos running, decide_eq_true locks]
  rfl

/-- The samples that a CRC-12 mismatch discards: those of a multiblock under DROP, and none in a lost stretch (R99, R101). -/
def crcDropped (b : Block) (k : Nat) : Nat :=
  if b.lkDrop bJRX k = true ∧ (b.lnk bJRX k).lost = none then b.mbSamples bJRX k else 0

theorem crcDropped_eq (b : Block) (k : Nat) :
    crcDropped b k = if b.lkDrop bJRX k && (b.lnk bJRX k).lost.isNone then b.mbSamples bJRX k else 0 := by
  simp only [crcDropped, Bool.and_eq_true, Option.isNone_iff_eq_none]

theorem jrxCrc_released {b : Block} {k : Nat} (running : b.linkLive k = true) (released : (b.lnk bJRX k).everReleased = true) (mask : Nat) :
    b.jrxCrc k mask =
      let c := b.inc K.JRX_CRC_ERR k 1
      let n := crcDropped c k
      let d := if n = 0 then c else c.jrxDrop k n
      d.raise (706 + 4 * k) (beBytes 1 (mask % 2 ^ d.lkL bJRX k) ++ beBytes 4 n) := by
  simp only [crcDropped_eq]
  exact (if_pos running).trans (if_pos released)

theorem jrxCrc_unreleased {b : Block} {k : Nat} (running : b.linkLive k = true) (first : (b.lnk bJRX k).everReleased = false) (mask : Nat) :
    b.jrxCrc k mask = b.inc K.JRX_CRC_ERR k 1 :=
  (if_pos running).trans (if_neg (Bool.eq_false_iff.mp first))

theorem jrxChar_running {b : Block} {k : Nat} (running : b.linkLive k = true) (mask : Nat) :
    b.jrxChar k mask =
      let c := b.inc K.JRX_CRC_ERR k 1
      if (b.lnk bJRX k).everReleased then c.raise (706 + 4 * k) (beBytes 1 (mask % 2 ^ c.lkL bJRX k) ++ beBytes 4 0) else c :=
  if_pos running

/-- A released link, outside a lost stretch, whose epoch moves (R100). -/
theorem epochMove_released {b : Block} {k : Nat} (old new : Int) (released : (b.lnk bJRX k).everReleased = true)
    (whole : (b.lnk bJRX k).lost = none) :
    b.epochMove bJRX k old new =
      let x := b.lnk bJRX k
      (b.clearStatus bJRX k false).setLnk bJRX k
        { x with epoch := some new, step := if x.step = 1 ∨ x.step = 2 then x.step else 3, lost := some rAlign,
                 changed := true, shift := b.epochShift k old new, drops := [] } := by
  refine (if_pos ⟨rfl, released⟩).trans ?_
  simp only [whole, Option.isNone_none, if_true, Option.getD_none]

theorem jrxEpochMove_disagrees {b : Block} {k : Nat} {old new : Int} (running : b.linkLive k = true)
    (epoch : (b.lnk bJRX k).epoch = some old) (edge : b.sysrefEpoch (b.lkSel bJRX k) = some new)
    (disagrees : b.epochsAgree bJRX k old new = false) : b.jrxEpochMove k = b.epochMove bJRX k old new := by
  simp only [Block.jrxEpochMove, epoch, edge, running, disagrees, Bool.not_false, Bool.and_self, if_true]

theorem jrxRate_running {b : Block} {k : Nat} (running : b.linkLive k = true) (ppm : Int) :
    b.jrxRate k ppm =
      let c := b.pv K.JRX_RATE_PPM k (uns 32 ppm)
      if 20000 < ppm.natAbs ∧ (b.lnk bJRX k).everReleased = true then c.jrxDown k rRate (c.allLanes bJRX k) else c := by
  have written : (b.pv K.JRX_RATE_PPM k (uns 32 ppm)).lnk bJRX k = b.lnk bJRX k := rfl
  simp only [Block.jrxRate, if_pos running, written, Bool.and_eq_true, decide_eq_true_eq]

/-- Settles O6: the five errors that lose samples are one `lossOf`, and each other command takes the branch of a running link. -/
theorem receiveLinkErrors : Obligations.ReceiveLinkErrors := by
  refine ⟨?_, ?_, ?_, ?_, ?_, ?_⟩
  · intro k mask s live running
    have loss {back : Nat} (locks : back < 3) {counter reason : Nat} :=
      jrxLoss_running (b := s.start) running locks counter reason mask.toNat
    refine ⟨?_, ?_, ?_, ?_, fun isB => ?_⟩
    · exact next_of_runLive (·.jrxLoss k.val K.JRX_HDR_ERR rHeader mask.toNat 2) rfl live (loss (by decide))
    · exact next_of_runLive (·.jrxLoss k.val K.JRX_ALIGN_ERR rAlign mask.toNat 2) rfl live (loss (by decide))
    · exact next_of_runLive (·.jrxLoss k.val K.JRX_ELASTIC_ERR rElastic mask.toNat 2) rfl live (loss (by decide))
    · exact next_of_runLive (·.jrxLoss k.val K.JRX_HDR_ERR rHeader mask.toNat 1) rfl live (loss (by decide))
    · exact next_of_runLive (fun b => if b.lkIsB bJRX k.val then b.jrxLoss k.val K.JRX_ALIGN_ERR rIlas mask.toNat 2 else b) rfl live
        ((if_pos isB).trans (loss (by decide)))
  · intro k mask s live running released
    exact next_of_runLive (·.jrxCrc k.val mask.toNat) rfl live (jrxCrc_released (b := s.start) running released mask.toNat)
  · intro k mask s live running first
    exact next_of_runLive (·.jrxCrc k.val mask.toNat) rfl live (jrxCrc_unreleased (b := s.start) running first mask.toNat)
  · intro k mask s live running
    exact next_of_runLive (·.jrxChar k.val mask.toNat) rfl live (jrxChar_running (b := s.start) running mask.toNat)
  · intro k old new s live running epoch edge disagrees released whole
    have moves := jrxEpochMove_disagrees (b := s.start) running epoch edge disagrees
    exact next_of_runLive (·.jrxEpochMove k.val) rfl live (moves.trans (epochMove_released old new released whole))
  · intro k ppm s live running
    exact next_of_runLive (·.jrxRate k.val ppm.toInt) rfl live (jrxRate_running (b := s.start) running ppm.toInt)

/-! ## Re-release of a receive link (R99, R100, R126) -/

/-- The link releases after an error, and what it has lost is a gap (R100). -/
def reReleasing (b : Block) (k lost : Nat) : Block := (releasing b k).incSat K.JRX_GAP_SAMPLES k lost

/-- The link runs again, and reports that it is up. -/
def upAgain (b : Block) (k : Nat) (x : Link) : Block :=
  let c := b.setLnk bJRX k { x with step := 0, lost := none, changed := false, shift := 0 }
  c.raise (704 + 4 * k) (c.jrxUpPayload k)

/-- The link is at step 4 with an epoch, and has released before. -/
structure AwaitsReRelease (b : Block) (k : Nat) : Prop where
  step : (b.lnk bJRX k).step = 4
  epoch : ∃ e, (b.lnk bJRX k).epoch = some e
  before : (b.lnk bJRX k).everReleased = true

/-- What a re-release leaves, and whether it has moved: under another delay or epoch, or at another LATENCY (R100). -/
theorem jrxReRelease_awaited {b : Block} {k : Nat} (h : AwaitsReRelease b k) (lost : Nat) :
    b.jrxReRelease k lost =
      let x := b.lnk bJRX k
      let old := b.val (ki K.JRX_LATENCY k)
      let c := reReleasing b k lost
      let new := c.val (ki K.JRX_LATENCY k)
      let moved := x.changed || old != new
      (upAgain (if moved then c.raise (707 + 4 * k) (beBytes 4 old ++ beBytes 4 new ++ beBytes 4 (uns 32 x.shift)) else c) k x, moved) := by
  obtain ⟨step, ⟨e, epoch⟩, before⟩ := h
  have goes : (b.lnk bJRX k).step = 4 ∧ (b.lnk bJRX k).epoch.isSome = true ∧ (b.lnk bJRX k).everReleased = true :=
    ⟨step, by rw [epoch]; rfl, before⟩
  simp only [Block.jrxReRelease, if_pos step, takeEpoch_some epoch, if_pos goes, upAgain, reReleasing, releasing, latencyAt_pf_status]

theorem jrxReRelease_unmoved {b : Block} {k lost : Nat} (h : AwaitsReRelease b k) (unchanged : (b.lnk bJRX k).changed = false)
    (same : b.val (ki K.JRX_LATENCY k) = (reReleasing b k lost).val (ki K.JRX_LATENCY k)) :
    b.jrxReRelease k lost = (upAgain (reReleasing b k lost) k (b.lnk bJRX k), false) := by
  simp only [jrxReRelease_awaited h, unchanged, ← same, bne_self_eq_false, Bool.or_self, Bool.false_eq_true, if_false]

theorem jrxReRelease_moved {b : Block} {k : Nat} (h : AwaitsReRelease b k) (changed : (b.lnk bJRX k).changed = true) (lost : Nat) :
    b.jrxReRelease k lost =
      let c := reReleasing b k lost
      (upAgain (c.raise (707 + 4 * k) (beBytes 4 (b.val (ki K.JRX_LATENCY k)) ++ beBytes 4 (c.val (ki K.JRX_LATENCY k)) ++
        beBytes 4 (uns 32 (b.lnk bJRX k).shift))) k (b.lnk bJRX k), true) := by
  simp only [jrxReRelease_awaited h, changed, Bool.true_or, if_true]

/-- The lanes that the link feeds and that run go through an input link change, and their calibration runs end (R126, R430). -/
def changeLanes (b : Block) (k : Nat) : Block :=
  (b.lanesOfLink k).foldl (fun b i => if (b.lane i).running then (b.linkChange i (b.lnSource i) 0).calAbort i else b) b

/-- A re-release reaches the lanes exactly when it has moved. -/
theorem jrxAgain_eq {b c : Block} {k lost : Nat} {moved : Bool} (clock : b.clkLocked 1 = true) (again : b.jrxReRelease k lost = (c, moved)) :
    b.jrxAgain k lost = if moved then changeLanes c k else c := by
  cases moved <;> simp [Block.jrxAgain, clock, again, changeLanes]

/-! ## Transmit links (R97, R102) -/

theorem jtxUp_starting {b : Block} {t : Nat} {e : Int} (starts : (b.lnk bJTX t).step ≠ 0) (epoch : (b.lnk bJTX t).epoch = some e)
    (starting : b.life bJTX t = lStarting) :
    b.jtxUp t =
      let c := b.setVal (mkKey bJTX t 0x20) (b.allLanes bJTX t + 2 ^ 8 + 2 ^ 9)
      let c := c.setVal (mkKey bJTX t 0x21) (Config.jtxLatency t).toNat
      (c.setLnk bJTX t { b.lnk bJTX t with step := 0, everReleased := true }).raise (768 + 2 * t) (beBytes 4 (Config.jtxLatency t).toNat) := by
  have completes : (b.lnk bJTX t).step ≠ 0 ∧ (b.lnk bJTX t).epoch.isSome = true ∧ b.life bJTX t = lStarting :=
    ⟨starts, by rw [epoch]; rfl, starting⟩
  simp only [Block.jtxUp, takeEpoch_some epoch, if_pos completes]

theorem jtxSyncLoss_running {b : Block} {t : Nat} (isB : b.lkIsB bJTX t = true) (released : (b.lnk bJTX t).everReleased = true)
    (on : b.isOn bJTX t = true) (synced : (b.lnk bJTX t).resync = false) :
    b.jtxSyncLoss t =
      ((b.setVal (mkKey bJTX t 0x20) (setBits (b.val (mkKey bJTX t 0x20)) 9 9 0)).setLnk bJTX t { b.lnk bJTX t with resync := true }).raise
        (769 + 2 * t) (beBytes 1 rHeader) := by
  simp only [Block.jtxSyncLoss, isB, released, on, synced, Bool.not_false, Bool.and_self, if_true]

theorem jtxResync_lost {b : Block} {t : Nat} (lost : (b.lnk bJTX t).resync = true) :
    b.jtxResync t =
      (b.setVal (mkKey bJTX t 0x20) (setBits (b.val (mkKey bJTX t 0x20)) 9 9 1)).setLnk bJTX t { b.lnk bJTX t with resync := false } :=
  if_pos lost

/-! ## SPI masters (R103) -/

/-- A transaction that no core waits for ends. -/
theorem spiDone_busy {b : Block} {j : Nat} (rx : Nat) (busy : b.f K.JRX_SPI_STAT (0x40 + j) 0 0 = 1) (host : (tget {} b.spi j).core = none) :
    b.spiDone j rx =
      let x := tget {} b.spi j
      ((b.pf K.JRX_SPI_STAT (0x40 + j) 0 0 0).pv K.JRX_SPI_RX (0x40 + j) (rx % 2 ^ x.len)).raise (776 + j / 2)
        (beBytes 1 j ++ beBytes 1 x.len ++ beBytes 8 (rx % 2 ^ x.len)) := by
  have runs : b.spiBusy j = true := beq_iff_eq.mpr busy
  simp only [Block.spiDone, if_pos runs, host]

/-- Settles O7: a re-release reaches the lanes only where it has moved, and each other command takes its one branch that acts. -/
theorem reReleaseTransmitLinksAndSpi : Obligations.ReReleaseTransmitLinksAndSpi := by
  refine ⟨?_, ?_, ?_, ?_, ?_, ?_⟩
  · intro k lost e s live clock step epoch before unchanged same
    have awaits : AwaitsReRelease s.start k.val := ⟨step, ⟨e, epoch⟩, before⟩
    have unmoved := jrxAgain_eq (b := s.start) clock (jrxReRelease_unmoved awaits unchanged same)
    exact next_of_runLive (·.jrxAgain k.val lost.toNat) rfl live unmoved
  · intro k lost e s live clock step epoch before changed
    have awaits : AwaitsReRelease s.start k.val := ⟨step, ⟨e, epoch⟩, before⟩
    have moved := jrxAgain_eq (b := s.start) clock (jrxReRelease_moved awaits changed lost.toNat)
    exact next_of_runLive (·.jrxAgain k.val lost.toNat) rfl live moved
  · intro t e s live starts epoch starting
    exact next_of_runLive (·.jtxUp t.val) rfl live (jtxUp_starting (b := s.start) starts epoch starting)
  · intro t s live isB released on synced
    exact next_of_runLive (·.jtxSyncLoss t.val) rfl live (jtxSyncLoss_running (b := s.start) isB released on synced)
  · intro t s live lost
    exact next_of_runLive (·.jtxResync t.val) rfl live (jtxResync_lost (b := s.start) lost)
  · intro j rx s live busy host
    exact next_of_runLive (·.spiDone j.val rx.toNat) rfl live (spiDone_busy (b := s.start) rx.toNat busy host)

end Sys2Proof
end

section
/-! PROOFS. The statement of the lanes and views: a lane's positions and its late start, a spectrum and a trace that are delivered. -/
namespace Sys2Proof
open Machine

/-! ## Lanes (R108, R126, R127) -/

theorem exec_laneOutputSample (i : Fin 32) (raws : List RawSample) (late : Bool) {s : Machine.State} (live : s.blk.live = true) :
    exec (.laneOutputSample i raws late) s = .next (s.finish (Block.laneRun s.mem s.start i.val raws late)) :=
  runLive_live (fun m b => Block.laneRun m b i.val raws late) s live

/-- A lane that numbers samples of its own takes first the positions without data, then those of the command. -/
theorem laneRun_own {b : Block} {i : Nat} (running : (b.lane i).running = true) (own : b.importOf i = none)
    (delivers : b.life bLANE i = lStarting ∨ b.life bLANE i = lOn) (m : Mem) (raws : List RawSample) (late : Bool) :
    Block.laneRun m b i raws late =
      raws.foldl (fun b r => Block.laneOne m b i r late) (Block.laneFill (fun b o => Block.laneDeliver m b i late o) b i) := by
  have runs : ¬ (!(b.lane i).running || (b.importOf i).isSome) = true := by simp [running, own]
  rw [Block.laneRun, if_neg runs, if_pos delivers]

theorem exec_laneStartAfterRelease (i : Fin 32) {s : Machine.State} (live : s.blk.live = true) (first : s.blk.cycle = 0) :
    exec (.laneStartAfterRelease i) s = .next (s.finish (s.start.laneReleaseBegin i.val)) :=
  runBoundary_on (fun _ b => b.laneReleaseBegin i.val) s live first

theorem laneReleaseBegin_released {b : Block} {i : Nat} (waits : (b.lane i).waitRelease = true) (released : b.lnReleased i = true) :
    b.laneReleaseBegin i = (b.lnBegin i b.beat).expReanchor i := by
  have begins : ((b.lane i).waitRelease && b.lnReleased i) = true := by rw [waits, released, Bool.and_self]
  rw [Block.laneReleaseBegin, if_pos begins, Block.laneReleaseStart, if_pos begins]

/-! ## Spectra (R139, R150, R151) -/

theorem exec_spectrumDelivered (j : BitVec 7) (late : Bool) {s : Machine.State} (live : s.blk.live = true) :
    exec (.spectrumDelivered j late) s = .next (s.finish (Block.spectrumRun s.mem s.start j.toNat late)) :=
  runLive_live (fun m b => Block.spectrumRun m b j.toNat late) s live

/-- A window's spectrum is its own view's. -/
@[simp] theorem transform_view (b : Block) (j : Nat) (w : Window) (late : Bool) : (b.transform j w late).view = j := rfl

theorem spectrumRun_cons {b : Block} {j : Nat} {w : Window} {rest : List Window} (oldest : (b.view j).ready = w :: rest) (m : Mem) (late : Bool) :
    Block.spectrumRun m b j late =
      Block.spectrumDeliver m (b.setView j { b.view j with ready := rest, delivered := true }).tick (b.transform j w late) := by
  simp only [Block.spectrumRun, oldest]

/-- What a delivered spectrum reaches, in order; the fires of its masks act before the planes take it. -/
theorem spectrumDeliver_eq (m : Mem) (b : Block) (sp : Spectrum) :
    Block.spectrumDeliver m b sp =
      let r := (b.viewCount sp).fmaskAll sp
      let b := r.2.2.foldl (fun b v => b.tapVerdict sp.q v) (Block.acting m (r.1, r.2.1))
      let b := Block.acting m (b.plTakeAll sp)
      let b := (List.range 32).foldl (fun b t => b.trcTake t sp) b
      ((b.capView sp).strSpectrum sp).tapSpectrum sp := rfl

/-! ## Traces (R158, R161, R163) -/

theorem tracePeriodEnd_ended {b : Block} {t : Nat} {p : Period} (ended : (b.trc t).periods.find? (fun p => decide (p.stop ≤ b.beat)) = some p) :
    b.tracePeriodEnd t =
      let r := b.trcClose t (b.trc t) p
      let b := ((b.setTrc t { r.2 with latest := some r.1 }).inc K.XFM_TRC_SEQ (trcInst t) 1).pv K.XFM_TRC_LAST_BEAT (trcInst t) r.1.start
      (((b.spgTake r.1).capTrace r.1).strTrace r.1).tapTrace r.1 := by
  simp only [Block.tracePeriodEnd, ended]

/-- Settles O8: each command takes its one branch that acts, on the oldest window or the oldest ended period where there is a choice. -/
theorem lanesAndViewsDeliver : Obligations.LanesAndViewsDeliver := by
  refine ⟨?_, ?_, ?_, ?_⟩
  · intro i raws late s live running own delivers
    rw [exec_laneOutputSample i raws late live, laneRun_own (b := s.start) running own delivers]
  · intro i s live first waits released
    rw [exec_laneStartAfterRelease i live first, laneReleaseBegin_released (b := s.start) waits released]
    rfl
  · intro j late w rest s live oldest
    rw [exec_spectrumDelivered j late live, spectrumRun_cons (b := s.start) oldest, spectrumDeliver_eq, Block.viewCount, transform_view]
    rfl
  · intro t p s live ended
    exact next_of_runLive (·.tracePeriodEnd t.val) rfl live (tracePeriodEnd_ended (b := s.start) ended)

end Sys2Proof
end

section
/-! PROOFS. The statements of the trigger units' inputs and outputs: the edges, reports and instants that reach them, the intervals that have
drained, and the pulses of TRIG_OUT. -/
namespace Sys2Proof
open Machine

/-- A command that acts in THAW and FLOW on the block and the memories leaves, in one of them, what it makes of both. -/
theorem next_of_runLive_mem {o : Host.Outcome Machine.State Fault Refusal} {s : Machine.State} {b : Block} (f : Mem → Block → Block)
    (run : o = s.runLive f) (live : s.blk.live = true) (makes : f s.mem s.start = b) : o = .next (s.finish b) := by
  rw [run, runLive_live _ _ live, makes]

/-- A command that detects conditions leaves, in THAW and FLOW, what the fires of its core cycle make of the block. -/
theorem next_of_acting {o : Host.Outcome Machine.State Fault Refusal} {s : Machine.State} {r : Block × List Fire}
    (detect : Block → Block × List Fire) (run : o = s.runLive (fun m b => Block.acting m (detect b))) (live : s.blk.live = true)
    (makes : detect s.start = r) : o = .next (s.finish (Block.acting s.mem r)) :=
  next_of_runLive_mem _ run live (congrArg (Block.acting s.mem) makes)

/-! ## Edges and reports (R181, R191, R405, R456) -/

theorem trigInEdge_eq (b : Block) (k : Nat) (rising : Bool) (code : Nat) (late : Bool) :
    b.trigInEdge k rising code late =
      let r := ((b.pf K.TRG_IN_LEVEL (0x30 + k) 0 0 (b2n rising)).passPins k rising).tiuStamp (8 + k) code
      let a := r.1.tiuAccept (8 + k) r.2.1
      if a.2 then a.1.edgeAll 5 k rising r.2.1 a.1.quality late else (a.1, []) := rfl

theorem tiuInEdge_eq (b : Block) (k : Nat) (rising : Bool) (code : Nat) (late : Bool) :
    b.tiuInEdge k rising code late =
      let r := b.tiuStamp k code
      let a := r.1.tiuAccept k r.2.1
      if a.2 then (a.1.tiuEdge k rising r.2.1 r.2.2).edgeAll 6 k rising r.2.1 a.1.quality late else (a.1, []) := rfl

/-- A replay is counted, and the reports seen stay as they are (R452). -/
@[simp] theorem replayed_plt (b : Block) (p : Nat) (again : Bool) : (b.replayed p again).plt = b.plt := by
  cases again <;> rfl

theorem plaitArrives_new {b : Block} {p node unit seq : Nat} (hears : b.portHears p = true) (new : b.plt.seen.contains (node, unit, seq) = false)
    (ch : Nat) (tp : Fysiva) (again : Bool) :
    b.plaitArrives p ch node unit seq tp again =
      (((b.replayed p again).sawReport (node, unit, seq)).pltFlood p 4 (sentReport ch node unit seq tp)).plaitAll ch tp again := by
  simp only [Block.plaitArrives, hears, replayed_plt, new, Bool.not_true, Bool.false_eq_true, if_false]

theorem plaitArrives_seen {b : Block} {p node unit seq : Nat} (hears : b.portHears p = true) (seen : b.plt.seen.contains (node, unit, seq) = true)
    (ch : Nat) (tp : Fysiva) (again : Bool) : b.plaitArrives p ch node unit seq tp again = (b.replayed p again, []) := by
  simp only [Block.plaitArrives, hears, replayed_plt, seen, Bool.not_true, Bool.false_eq_true, if_false, if_true]

/-! ## The intervals of a unit under its present configuration (R169, R171) -/

@[simp] theorem underCfg_nil {α : Type} (b : Block) (f : Block → Block × α) : b.underCfg [] f = f b := rfl

/-- A unit armed under its present configuration, with nothing that drains, takes a step in its one interval. -/
theorem eachArm_armed {b : Block} {u : Nat} {a : Arm} (armed : b.trg u = { arm := some a, drains := [] }) (present : a.cfg = [])
    (f : Block → Arm → Block × Option Arm × List Fire) :
    b.eachArm u f = (((f b a).1.setTrg u { arm := (f b a).2.1, drains := [] }).trgShow u, (f b a).2.2) := by
  simp only [Block.eachArm, armed, present, underCfg_nil, List.foldl_nil, List.nil_append]

theorem timeUnit_armed {b : Block} {u : Nat} {a : Arm} (time : b.tgSource u = 8) (armed : b.trg u = { arm := some a, drains := [] })
    (present : a.cfg = []) (late : Bool) :
    b.timeUnit u late =
      let r := b.timeStep u a (late && b.lateSpan)
      ((r.1.setTrg u { arm := r.2.1, drains := [] }).trgShow u, r.2.2) := by
  have step : (if b.tgSource u == 8 then b.timeStep u a (late && b.lateSpan) else (b, some a, [])) = b.timeStep u a (late && b.lateSpan) :=
    if_pos (beq_iff_eq.mpr time)
  rw [Block.timeUnit, eachArm_armed armed present, step]

/-- Settles O9: a report goes on exactly when it is new, an armed TIME unit steps in its one interval, and the fires of each command act together. -/
theorem triggerInputsFire : Obligations.TriggerInputsFire := by
  refine ⟨?_, ?_, ?_, ?_, ?_⟩
  · intro k rising code late s live
    exact next_of_acting (·.trigInEdge k.val rising code.toNat late) rfl live (trigInEdge_eq s.start k.val rising code.toNat late)
  · intro k rising code late s live
    exact next_of_acting (·.tiuInEdge k.val rising code.toNat late) rfl live (tiuInEdge_eq s.start k.val rising code.toNat late)
  · intro p ch node unit seq tp s live hears new
    exact next_of_acting (·.plaitArrives p.val ch.toNat node.toNat unit.toNat seq.toNat _ false) rfl live
      (plaitArrives_new (b := s.start) hears new ch.toNat _ false)
  · intro p ch node unit seq tp s live hears seen
    exact next_of_acting (·.plaitArrives p.val ch.toNat node.toNat unit.toNat seq.toNat _ true) rfl live
      (plaitArrives_seen (b := s.start) hears seen ch.toNat _ true)
  · intro u late a s live time armed present
    exact next_of_acting (·.timeUnit u.val late) rfl live (timeUnit_armed (b := s.start) time armed present late)

/-! ## Drained intervals (R169, R195) -/

/-- Of a unit of instants whose intervals stand under its present configuration, every draining one ends. -/
theorem trgDrain_instants {b : Block} {u : Nat} (instants : b.tgInstants u = true) (present : ∀ a ∈ (b.trg u).drains, a.cfg = []) :
    b.trgDrain u true =
      (b.trg u).drains.foldl (fun b a => b.trgEnded u a) ((b.setTrg u { b.trg u with drains := [] }).trgShow u) := by
  have done : ∀ a ∈ (b.trg u).drains, (b.underCfg a.cfg (fun b => (b, b.trgDrained u a || (true && b.tgInstants u)))).2 = true := by
    intro a drains
    rw [present a drains, underCfg_nil, instants, Bool.and_self, Bool.or_true]
  have kept : (b.trg u).drains.filter (fun a => !(b.underCfg a.cfg (fun b => (b, b.trgDrained u a || (true && b.tgInstants u)))).2) = [] :=
    List.filter_eq_nil_iff.mpr (fun a drains => by rw [done a drains]; decide)
  simp only [Block.trgDrain, List.filter_eq_self.mpr done, kept]

/-! ## Pulses of TRIG_OUT (R192) -/

/-- A pin that is asserted is released. -/
theorem driveOut_release {x : OutPin} (on : x.on = true) (b : Block) (k : Nat) :
    b.driveOut k false x =
      ({ b with outPins := tset b.outPins k { x with on := false } }).send (.pin "TRIG_OUT" k (b.f K.TRG_OUT_CFG (0x20 + k) 2 2 == 1) 0) := by
  rw [Block.driveOut, if_neg (by simp [on]), Bool.false_bne]

theorem outPulseEnd_ended {b : Block} {k : Nat} (on : (b.outPin k).on = true) (pulses : b.f K.TRG_OUT_CFG (0x20 + k) 1 0 ≠ 2)
    (past : (b.outPin k).stop ≤ b.ticks * 625) : b.outPulseEnd k = b.driveOut k false (b.outPin k) := by
  have ends : (b.outPin k).on = true ∧ b.f K.TRG_OUT_CFG (0x20 + k) 1 0 ≠ 2 ∧ (b.outPin k).stop ≤ b.clock * 625 := ⟨on, pulses, past⟩
  rw [Block.outPulseEnd, if_pos ends]

theorem timedPulse_due {b : Block} {k : Nat} {t : Int} {r : List Int} (pend : (b.outPin k).pend = t :: r)
    (due : r.foldl min t < ((b.beat + 1) * 1280000 * 65536 : Nat)) :
    b.timedPulse k =
      let t' := r.foldl min t
      ({ b with outPins := tset b.outPins k { b.outPin k with pend := (t :: r).erase t' } }).pulseOut k
        (some (rndEven (t' - (b.beat * 1280000 * 65536 : Nat)) 655360 * 10)) := by
  simp only [Block.timedPulse, pend, if_pos due]

/-- Settles O10: every interval of a unit of instants is done at once, and a pulse ends or begins on its one branch that acts. -/
theorem triggerDrainsAndPulses : Obligations.TriggerDrainsAndPulses := by
  refine ⟨?_, ?_, ?_⟩
  · intro u s live instants present
    exact next_of_runLive (·.trgDrain u.val true) rfl live (trgDrain_instants (b := s.start) instants present)
  · intro k s live on pulses past
    exact next_of_runLive (·.outPulseEnd k.val) rfl live
      ((outPulseEnd_ended (b := s.start) on pulses past).trans (driveOut_release (x := s.start.outPin k.val) on s.start k.val))
  · intro k t r s live pend due
    exact next_of_runLive (·.timedPulse k.val) rfl live (timedPulse_due (b := s.start) pend due)

end Sys2Proof
end

section
/-! PROOFS. The statement of the control words of a Weaver core: what the issue of a legal CWR leaves, and what each control word that acts does. -/
namespace Sys2Proof
open Machine

/-! ## What every issued word leaves of its core (R297) -/

/-- What a core holds beside the results of its words: whether it idles in WAITB, whether an overrun is to restart it, its descriptors, and
whether a request of its own is in progress. -/
def coreWaits (x : Core) : Bool × Bool × List DmaDesc × Bool := (x.waitb, x.abortDue, x.dma, x.reqBusy)

theorem coreWaits_land (x : Core) (r : Flight) : coreWaits (x.land r) = coreWaits x := by
  unfold Core.land
  split <;> rfl

theorem coreWaits_loopCount (x : Core) : coreWaits x.loopCount = coreWaits x := by
  unfold Core.loopCount
  split <;> rfl

theorem coreWaits_nextWord (x : Core) : coreWaits x.nextWord = coreWaits x := by
  have loop := coreWaits_loopCount { x with rep := none }
  unfold Core.nextWord
  split
  · rfl
  · dsimp only
    split
    · exact loop
    · exact loop
    · split <;> exact loop

theorem coreWaits_advance (x : Core) (l : List Flight) : coreWaits (x.advance l) = coreWaits x := by
  have landing : ∀ done : List Flight, coreWaits (done.foldl Core.land x) = coreWaits x := by
    intro done
    induction done generalizing x with
    | nil => rfl
    | cons r rest ih => exact (ih (x.land r)).trans (coreWaits_land x r)
  exact landing _

theorem coreWaits_step1 (x : Core) (l : List Flight) : coreWaits (x.step1 l) = coreWaits x :=
  (coreWaits_advance _ l).trans (coreWaits_nextWord x)

@[simp] theorem step1_frame (x : Core) (l : List Flight) :
    (x.step1 l).waitb = x.waitb ∧ (x.step1 l).abortDue = x.abortDue ∧ (x.step1 l).dma = x.dma ∧ (x.step1 l).reqBusy = x.reqBusy := by
  simpa only [coreWaits, Prod.mk.injEq] using coreWaits_step1 x l

@[simp] theorem coreAfter_core (s : Machine.State) (c : Fin 64) (y : Core) :
    (coreAfter s c y).core c.val = { y with fromWaitb := y.fromWaitb && !y.waitb } := setCore_core _ _ _

@[simp] theorem coreAfter_isOn (s : Machine.State) (c : Fin 64) (y : Core) (blk i : Nat) : (coreAfter s c y).isOn blk i = s.blk.isOn blk i := rfl

/-! ## The issue of a CWR (R309, R331) -/

/-- Only the control format has the operation CWR (R319, R331). -/
theorem isCtl_of_cwr {w : Nat} (cwr : wordOp w = some .cwr) : isCtl w = true := by
  unfold wordOp at cwr
  unfold isCtl
  split at cwr
  · unfold parOp at cwr; split at cwr <;> simp at cwr
  · unfold immOp at cwr; split at cwr <;> simp at cwr
  · next ctl => rw [ctl]; rfl
  · simp at cwr

theorem mayIssue_of_issues {s : Machine.State} {c : Fin 64} {w : Nat} (h : Issues s c w) : s.start.mayIssue c.val = true := by
  obtain ⟨-, on, halted, waitb, abort, -, -⟩ := h
  have on : (s.start.life bWVR c.val == lOn) = true := on
  have halted : (s.start.core c.val).halted = false := halted
  have waitb : (s.start.core c.val).waitb = false := waitb
  have abort : (s.start.core c.val).abortDue = false := abort
  simp [Block.mayIssue, Block.wvrTakes, on, halted, waitb, abort]

/-- The command of a row of words leaves the issue of the word at the program counter, where that is a word of the row. -/
theorem next_of_runWord {o : Host.Outcome Machine.State Fault Refusal} {s : Machine.State} {c : Fin 64} {w : Nat} {row : Nat → Bool} {b : Block}
    (h : Issues s c w) (run : o = s.runWord c row) (mine : row w = true) (makes : s.start.issue s.mem c.val = b) : o = .next (s.finish b) := by
  obtain ⟨live, -, -, -, -, loaded, legal⟩ := h
  have loaded : s.start.wordAt c.val = some w := loaded
  have legal : (s.start.core c.val).illegal w = false := legal
  have word : s.start.wordIs c.val row = true := by
    rw [Block.wordIs, loaded]
    simp [legal, mine]
  exact next_of_runLive_mem _ run live ((if_pos word).trans makes)

/-- A core that issues a CWR steps on, and gives the control word the value of its register. -/
theorem coreIssue_cwr {x : Core} {v : Word} (loaded : tfind x.prog x.pc.toNat = some v) (legal : x.illegal v.toNat = false)
    (cwr : wordOp v.toNat = some .cwr) (cap : Nat) (rd : BankRead) (cwRead : Nat → Nat) :
    x.issue cap rd cwRead = { core := x.step1 [], control := some (bits v.toNat 51 38, x.dreg (bits v.toNat 4 1)) } := by
  simp only [Core.issue, loaded, legal, cwr, isCtl_of_cwr cwr, Core.issueCtl, Bool.false_eq_true, if_false, if_true]

/-- What the issue of a CWR leaves: the control word acts on the core after it, and what waited for the end of a REP follows. -/
theorem issue_cwr {s : Machine.State} {c : Fin 64} {w : Nat} (h : Issues s c w) (cwr : wordOp w = some .cwr) (m : Mem) :
    s.start.issue m c.val =
      wordEnd ((coreAfter s c ((s.blk.core c.val).step1 [])).cwWrite m c.val (bits w 51 38) ((s.blk.core c.val).dreg (bits w 4 1))) c := by
  have may := mayIssue_of_issues h
  obtain ⟨-, -, -, waitb, -, loaded, legal⟩ := h
  obtain ⟨v, found, rfl⟩ := Option.map_eq_some_iff.mp loaded
  have issued := coreIssue_cwr (x := s.start.core c.val) found legal cwr (s.start.repCap c.val)
    (fun bank i => s.start.rdWord48 m c.val bank i) (s.start.cwRead c.val)
  have noRead : (s.start.wordAt c.val).bind crdAddr = none := by
    rw [show s.start.wordAt c.val = some v.toNat from loaded, Option.bind_some, crdAddr, if_neg (by simp [cwr])]
  have awake : ((s.start.core c.val).step1 []).waitb = false := (step1_frame _ _).1.trans waitb
  have unmeasured : (((s.start.core c.val).step1 []).waitb && (s.start.core c.val).bh) = false := by rw [awake, Bool.false_and]
  simp only [Block.issue, may, issued, noRead, unmeasured, Bool.not_true, Bool.false_eq_true, if_false, List.foldl_nil]
  rfl

/-- Nothing follows a word of a core that stays ON and that no overrun is to restart. -/
theorem wordEnd_of_on {b : Block} {c : Fin 64} (on : b.isOn bWVR c.val = true) (abort : (b.core c.val).abortDue = false) : wordEnd b c = b := by
  have runs : b.life bWVR c.val = lOn := beq_iff_eq.mp on
  rw [wordEnd, abort, if_neg Bool.false_ne_true, Block.coreLeaves, if_neg (fun stops => absurd (runs.symm.trans stops.1) (by decide))]

/-! ## What each control word that acts does (R183, R309 to R314) -/

/-- A CWR leaves what its control word makes of the block, and what waited for the end of a REP follows. -/
theorem next_of_cwr {o : Host.Outcome Machine.State Fault Refusal} {s : Machine.State} {c : Fin 64} {w a : Nat} {b : Block} (h : Issues s c w)
    (cwr : wordOp w = some .cwr) (word : bits w 51 38 = a) (run : o = s.runWord c (cwrTo [a]))
    (acts : (coreAfter s c ((s.blk.core c.val).step1 [])).cwWrite s.mem c.val a ((s.blk.core c.val).dreg (bits w 4 1)) = b) :
    o = .next (s.finish (wordEnd b c)) :=
  next_of_runWord h run (by simp [cwrTo, cwr, word]) ((issue_cwr h cwr s.mem).trans (by rw [word, acts]))

/-- The same where the core stays ON and no overrun is to restart it: nothing follows. -/
theorem next_of_cwr_on {o : Host.Outcome Machine.State Fault Refusal} {s : Machine.State} {c : Fin 64} {w a : Nat} {b : Block} (h : Issues s c w)
    (cwr : wordOp w = some .cwr) (word : bits w 51 38 = a) (run : o = s.runWord c (cwrTo [a]))
    (acts : (coreAfter s c ((s.blk.core c.val).step1 [])).cwWrite s.mem c.val a ((s.blk.core c.val).dreg (bits w 4 1)) = b)
    (stays : b.isOn bWVR c.val = (coreAfter s c ((s.blk.core c.val).step1 [])).isOn bWVR c.val)
    (holds : (b.core c.val).abortDue = ((coreAfter s c ((s.blk.core c.val).step1 [])).core c.val).abortDue) : o = .next (s.finish b) := by
  have next := next_of_cwr h cwr word run acts
  obtain ⟨-, on, -, -, abort, -, -⟩ := h
  have quiet : (b.core c.val).abortDue = false := by simpa [abort] using holds
  rwa [wordEnd_of_on ((stays.trans (coreAfter_isOn ..)).trans on) quiet] at next

/-- A parameter that is not its FUNC_STATE leaves a function ON or not as it was. -/
theorem isOn_setVal (b : Block) {k blk i : Nat} (other : mkKey blk i 2 ≠ k) (v : Nat) : (b.setVal k v).isOn blk i = b.isOn blk i := by
  rw [Block.isOn, Block.life, val_setVal_ne _ _ _ _ other, Block.isOn, Block.life]

theorem isOn_setCore (b : Block) (c : Nat) (x : Core) (blk i : Nat) : (b.setCore c x).isOn blk i = b.isOn blk i := rfl

theorem abortDue_setCore (b : Block) (c : Nat) (x : Core) : ((b.setCore c x).core c).abortDue = x.abortDue := by rw [setCore_core]

theorem cwWrite_dmaGo (b : Block) (m : Mem) (c v : Nat) : b.cwWrite m c 0x23 v = b.dmaGo c (v % 2 ^ 16) := rfl
theorem cwWrite_evtGo (b : Block) (m : Mem) (c v : Nat) : b.cwWrite m c 0x2B v = b.evtGo c := rfl
theorem cwWrite_trqGo (b : Block) (m : Mem) (c v : Nat) : b.cwWrite m c 0x2E v = b.trqGo m c (v % 16) := rfl
theorem cwWrite_gate (b : Block) (m : Mem) (c v : Nat) :
    b.cwWrite m c 0x2F v = b.setCore c { b.core c with gates := (b.core c).gates ++ [(v % 16, bits v 4 4)] } := rfl
theorem cwWrite_reqGo (b : Block) (m : Mem) (c v : Nat) : b.cwWrite m c 0x30 v = b.reqGo c v := rfl
theorem cwWrite_spiCtl (b : Block) (m : Mem) (c v : Nat) : b.cwWrite m c 0x34 v = b.spiCtl c v := rfl
theorem cwWrite_strGo (b : Block) (m : Mem) (c v : Nat) : b.cwWrite m c 0x3D v = b.strGo m c := rfl
theorem cwWrite_svcAns (b : Block) (m : Mem) (c v : Nat) :
    b.cwWrite m c 0x3F v = b.svcAnswer c (v % 2 ^ 16) (bits v 31 16) (tget 0 (b.core c).cw 0x3E) := rfl

theorem dmaGo_queues {b : Block} {c : Nat} (room : (b.core c).dma.length < 8) (tag : Nat) :
    b.dmaGo c tag =
      let x := b.core c
      b.setCore c { x with dma := x.dma ++ [⟨tget 0 x.cw 0x20, tget 0 x.cw 0x21, tget 0 x.cw 0x22, tag⟩] } :=
  if_neg (Nat.not_le.mpr room)

theorem dmaGo_full {b : Block} {c : Nat} (full : 8 ≤ (b.core c).dma.length) (tag : Nat) :
    b.dmaGo c tag =
      (b.setCore c { b.core c with dmaTag := tag, dmaStatus := 0x10 }).wvrFault c 4 false (b.core c).last.toNat 0x10 := by
  have last : ((b.setCore c { b.core c with dmaTag := tag, dmaStatus := Status.busy.num }).core c).last = (b.core c).last := by
    rw [setCore_core]
  rw [Block.dmaGo, if_pos full, Block.dmaStat, if_neg (by decide), last]
  rfl

theorem trqGo_taken {b : Block} {u : Nat} (takes : b.tgTakes u (fun b => b.tgSource u == 9) = true) (m : Mem) (c : Nat) :
    b.trqGo m c u = Block.acting m (b.trgRequest u ((b.core c).cw64 0x2C) (b.core c).late) :=
  if_pos takes

theorem reqGo_free {b : Block} {c : Nat} (free : (b.core c).reqBusy = false) (v : Nat) :
    b.reqGo c v = b.setCore c { b.core c with reqBusy := true, reqAddr := v % 2 ^ 14 } := by
  rw [Block.reqGo, free, if_neg Bool.false_ne_true]

theorem spiCtl_starts {b : Block} {v : Nat} (free : b.spiBusy (bits v 2 0) = false)
    (cores : b.f K.JRX_SPI_CFG (0x40 + bits v 2 0) 17 17 ≠ 0) (c : Nat) :
    b.spiCtl c v =
      let x := b.core c
      (b.setCore c { x with spi := bits v 2 0 :: x.spi.erase (bits v 2 0) }).spiStart (bits v 2 0) (bits v 8 3 + 1) (bits v 9 9) (x.cw64 0x35)
        (some c) := by
  have goes : ¬ (b.spiBusy (bits v 2 0) || b.f K.JRX_SPI_CFG (0x40 + bits v 2 0) 17 17 == 0) = true := by simp [free, cores]
  rw [Block.spiCtl, if_neg goes]

/-- A block that lies in its bank goes to its stream, which may refuse it. -/
theorem strGo_inside {b : Block} {c : Nat} (bank : bits (tget 0 (b.core c).cw 0x3C) 47 46 < 2)
    (inside : bits (tget 0 (b.core c).cw 0x3C) 45 32 + bits (tget 0 (b.core c).cw 0x3C) 31 16 ≤ 16384) (m : Mem) :
    b.strGo m c =
      let v := tget 0 (b.core c).cw 0x3C
      let r := b.strWeaver (bits v 5 0) c ((List.range (bits v 31 16)).map (fun k =>
        beBytes 6 (b.rdWord48 m c (bits v 47 46) (bits v 45 32 + k)))).flatten (b.core c).late
      if r.2 then r.1 else r.1.wvrFaultFree c 7 false (b.core c).last.toNat := by
  simp only [Block.strGo, if_pos (And.intro bank inside)]

/-- A transaction that starts leaves a core ON or not as it was. -/
theorem isOn_spiStart (b : Block) (j len cs tx : Nat) (core : Option Nat) (c : Nat) :
    (b.spiStart j len cs tx core).isOn bWVR c = b.isOn bWVR c :=
  isOn_setVal b (by simp only [mkKey, ki, bWVR, K.JRX_SPI_STAT]; omega) _

/-- A fault leaves its core ON or not as it was. -/
theorem isOn_wvrFault (b : Block) (c cause : Nat) (halted : Bool) (addr status : Nat) :
    (b.wvrFault c cause halted addr status).isOn bWVR c = b.isOn bWVR c :=
  isOn_setVal b (by simp only [mkKey, ki, bWVR, K.WVR_FAULT]; omega) _

/-- Settles O24: the issue of a CWR gives its control word the value of the register, and each control word takes its branch that acts; nothing
follows where only the core itself, a port or an event changes. -/
theorem weaverControlWordActions : Obligations.WeaverControlWordActions := by
  refine ⟨?_, ?_, ?_, ?_, ?_, ?_, ?_, ?_, ?_⟩
  · intro c w s issues cwr word room
    have room : ((coreAfter s c ((s.blk.core c.val).step1 [])).core c.val).dma.length < 8 := by simpa using room
    exact next_of_cwr_on issues cwr word rfl ((cwWrite_dmaGo ..).trans (dmaGo_queues room _)) (isOn_setCore ..) (abortDue_setCore ..)
  · intro c w s issues cwr word full
    have full : 8 ≤ ((coreAfter s c ((s.blk.core c.val).step1 [])).core c.val).dma.length := by simpa using full
    exact next_of_cwr_on issues cwr word rfl ((cwWrite_dmaGo ..).trans (dmaGo_full full _)) (isOn_wvrFault ..) (abortDue_setCore ..)
  · intro c w s issues cwr word
    exact next_of_cwr_on issues cwr word rfl (cwWrite_evtGo ..) rfl rfl
  · intro c w s issues cwr word takes
    exact next_of_cwr issues cwr word rfl ((cwWrite_trqGo ..).trans (trqGo_taken takes s.mem c.val))
  · intro c w s issues cwr word
    exact next_of_cwr_on issues cwr word rfl (cwWrite_gate ..) (isOn_setCore ..) (abortDue_setCore ..)
  · intro c w s issues cwr word free
    have free : ((coreAfter s c ((s.blk.core c.val).step1 [])).core c.val).reqBusy = false := by simpa using free
    exact next_of_cwr_on issues cwr word rfl ((cwWrite_reqGo ..).trans (reqGo_free free _)) (isOn_setCore ..) (abortDue_setCore ..)
  · intro c w s issues cwr word free cores
    have starts := spiCtl_starts (b := coreAfter s c ((s.blk.core c.val).step1 [])) free cores c.val
    exact next_of_cwr_on issues cwr word rfl ((cwWrite_spiCtl ..).trans starts) (isOn_spiStart ..) (abortDue_setCore ..)
  · intro c w s issues cwr word bank inside
    have words : ((coreAfter s c ((s.blk.core c.val).step1 [])).core c.val).cw = ((s.blk.core c.val).step1 []).cw := by rw [coreAfter_core]
    rw [← words] at bank inside
    exact next_of_cwr issues cwr word rfl ((cwWrite_strGo ..).trans (strGo_inside bank inside s.mem))
  · intro c w s issues cwr word
    exact next_of_cwr issues cwr word rfl (cwWrite_svcAns ..)

end Sys2Proof
end

section
/-! PROOFS. The statement of the capture writers' FIFO shares and backlogs, the evidence chains and the replay sources that start. -/
namespace Sys2Proof
open Machine

/-! ## The FIFO share and the backlog (R209, R222) -/

theorem cpDrain_eq (b : Block) (w : Nat) :
    b.cpDrain w =
      let x := b.cap w
      let fill := if b.cpDirect w then (x.pass.map (·.length)).foldl (· + ·) (x.blk.length * packBytes (b.cpPack w))
        else x.fill - 32 * (b.ticks - x.fillAt)
      b.setCap w { x with fill := fill, fillAt := b.ticks, ovf := x.ovf && decide (262144 < fill) } := rfl

/-- A STREAM_THROUGH writer with something that waits writes its drafts in order until one finds no space; its ends follow only
where none is left. -/
theorem cpResume_waiting {b : Block} {w : Nat} (through : b.cpMode w = 4) (waits : (b.cap w).backlog = true ∨ (b.cap w).ending.isSome = true) :
    b.cpResume w =
      let x := b.cap w
      let r := x.drafts.foldl (fun (a : Block × List Draft) d =>
        if a.2.isEmpty then (if (a.1.cpPut w d false).2 then ((a.1.cpPut w d false).1, []) else (a.1, [d])) else (a.1, a.2 ++ [d]))
        (b.setCap w { x with drafts := [] }, [])
      let y := { r.1.cap w with drafts := r.2 }
      let free := r.1.cpBytes w - usedBytes y.recs
      let c := r.1.setCap w { y with backlog := !(r.2.isEmpty && decide (r.1.unitBytes w + 512 ≤ free)) }
      if r.2.isEmpty then (c.onTails w (fun b => b.cpEnded w)).cpEnded w else c := by
  have acts : ¬ (b.cpMode w ≠ 4 ∨ (!(b.cap w).backlog && (b.cap w).ending.isNone) = true) := by
    have busy : (!(b.cap w).backlog && (b.cap w).ending.isNone) = false := by
      rcases waits with backlog | ending
      · rw [backlog, Bool.not_true, Bool.false_and]
      · rw [← Option.not_isSome, ending, Bool.not_true, Bool.and_false]
    simp [through, busy]
  rw [Block.cpResume, if_neg acts]

/-! ## Evidence (R220) -/

theorem cpSign_some {b : Block} {w first last : Nat} (chain : (b.cap w).evid = some (first, last)) (m : Mem) :
    b.cpSign m w =
      let fp := (List.range 48).map (fun k => Config.deviceFingerprint k)
      let recs := (b.cap w).recs.filter (fun r => decide (first ≤ r.seq) && decide (r.seq ≤ last))
      let h := recs.foldl (fun h r => sha384 (h ++ b.ringRead m w r.off r.len))
        (sha384 (fp ++ beBytes 4 (b.val (ki K.CAP_ARM_SEQ w)) ++ beBytes 1 w))
      let t := b.now.bytes
      let sig := (List.range 96).map (fun k => Config.identitySignature (beNat (sha384 (h ++ beBytes 8 first ++ beBytes 8 last ++ t ++ fp))) k)
      let c := (b.cpPut w { type := 0x1E, count := recs.length, index := first, body := beBytes 8 last ++ t ++ zeros 12 ++ h ++ sig ++ fp } true).1
      ((c.setCap w { c.cap w with evid := none }).setCpState w 0).raise 673 (beBytes 1 w ++ zeros 7 ++ beBytes 8 (b.val (ki K.CAP_NEXT_SEQ w))) := by
  simp only [Block.cpSign, chain]

theorem capEvidence_cons {b : Block} {w : Nat} {rest : List Nat} (order : b.evidence = w :: rest) (m : Mem) :
    b.capEvidence m = { b with evidence := rest }.cpSign m w := by
  simp only [Block.capEvidence, order]

/-! ## A replay source that starts (R225) -/

theorem val_setLife_ne (b : Block) {blk i key : Nat} (st : Nat) (other : key ≠ mkKey blk i 2) : (b.setLife blk i st).val key = b.val key :=
  (val_setLife b blk i st key).trans (val_setVal_ne _ _ _ _ other)

/-- A function that enters a state changes no decompressor, whatever else it reports. -/
theorem dec_setLife (b : Block) (blk i st d : Nat) : (b.setLife blk i st).dec d = b.dec d := by
  unfold Block.setLife
  by_cases same : b.life blk i = st
  · rw [if_pos same]
    rfl
  · rw [if_neg same]
    by_cases rests : st = lOff ∨ st = lOn <;> cases lifeEvent blk i <;> simp only [rests, if_true, if_false] <;> rfl

/-- The source of a replay is neither its FUNC_STATE nor its RPL_STATE. -/
theorem f_rplSrc_started (b : Block) (r st shown hi lo : Nat) :
    ((b.setLife bCAP (0x20 + r) st).setRplState r shown).f K.CAP_RPL_SRC (0x20 + r) hi lo = b.f K.CAP_RPL_SRC (0x20 + r) hi lo := by
  have notState : ki K.CAP_RPL_SRC (0x20 + r) ≠ ki K.CAP_RPL_STATE (0x20 + r) := by
    simp only [ki, K.CAP_RPL_SRC, K.CAP_RPL_STATE]
    omega
  have notLife : ki K.CAP_RPL_SRC (0x20 + r) ≠ mkKey bCAP (0x20 + r) 2 := by
    simp only [ki, mkKey, K.CAP_RPL_SRC, bCAP]
    omega
  rw [Block.setRplState, f_pf_ne _ _ _ _ _ _ _ _ _ _ notState, Block.f, val_setLife_ne b st notLife, Block.f]

theorem dec_started (b : Block) (r st shown d : Nat) : ((b.setLife bCAP (0x20 + r) st).setRplState r shown).dec d = b.dec d :=
  dec_setLife b bCAP (0x20 + r) st d

theorem replayBuffered_ring {b : Block} {r : Nat} (starting : b.life bCAP (0x20 + r) = lStarting) (ring : b.f K.CAP_RPL_SRC (0x20 + r) 5 5 = 0) :
    b.replayBuffered r = (b.setLife bCAP (0x20 + r) lOn).setRplState r 2 := by
  simp only [Block.replayBuffered, if_pos starting, f_rplSrc_started, ring]

/-- A replay from a decompressor takes the index of the first block that has come out of it. -/
theorem replayBuffered_decompressor {b : Block} {r : Nat} {d : DecRun} {rest : List DecRun} (starting : b.life bCAP (0x20 + r) = lStarting)
    (decodes : b.f K.CAP_RPL_SRC (0x20 + r) 5 5 = 1) (out : (b.dec (b.f K.CAP_RPL_SRC (0x20 + r) 6 6)).out = d :: rest) :
    b.replayBuffered r = ((b.setLife bCAP (0x20 + r) lOn).setRplState r 2).pv K.CAP_RPL_FIRST (0x20 + r) d.first := by
  simp only [Block.replayBuffered, if_pos starting, f_rplSrc_started, dec_started, decodes, out]

/-- Settles O11: the FIFO share drains as it stands, and each other command takes its one branch that acts. -/
theorem captureFifoAndEvidence : Obligations.CaptureFifoAndEvidence := by
  refine ⟨?_, ?_, ?_, ?_, ?_⟩
  · intro w s live
    exact next_of_runLive (·.cpDrain w.val) rfl live (cpDrain_eq s.start w.val)
  · intro w s live through waits
    exact next_of_runLive (·.cpResume w.val) rfl live (cpResume_waiting (b := s.start) through waits)
  · intro w first last rest s live order chain
    exact next_of_runLive_mem (fun m b => b.capEvidence m) rfl live
      ((capEvidence_cons (b := s.start) order s.mem).trans (cpSign_some (b := { s.start with evidence := rest }) chain s.mem))
  · intro r s live starting ring
    exact next_of_runLive (·.replayBuffered r.val) rfl live (replayBuffered_ring (b := s.start) starting ring)
  · intro r d rest s live starting decodes out
    exact next_of_runLive (·.replayBuffered r.val) rfl live (replayBuffered_decompressor (b := s.start) starting decodes out)

end Sys2Proof
end

section
/-! PROOFS. The statements of the capture memory controller: requests by rank and refreshes, stack temperatures, training pauses, failures,
repair and retirement. -/
namespace Sys2Proof
open Machine

/-! ## Requests by rank (R235, R236, R240) -/

/-- A pseudo-channel with the new requests in its queue, at their time of arrival. -/
def pcTaking (b : Block) (p : Nat) (new : List (Option Nat × Nat × Nat × Bool)) : Pc :=
  { b.pc p with
    queue := (b.pc p).queue ++ new.map (fun r => ⟨r.1, r.2.1, r.2.2.1, r.2.2.2, b.ticks⟩)
    touched := (b.pc p).touched || !new.isEmpty }

/-- The requests of a command as a pseudo-channel takes them. -/
def hbmAsks (asks : List HbmAsk) : List (Option Nat × Nat × Nat × Bool) :=
  asks.map (fun a => (a.port.map (·.val), a.slot.toNat, a.line.val, a.write))

theorem pcTaking_hbmAsks (b : Block) (p : Nat) (asks : List HbmAsk) :
    pcTaking b p (hbmAsks asks) = { b.pc p with
      queue := (b.pc p).queue ++ asks.map (fun a => ⟨a.port.map (·.val), a.slot.toNat, a.line.val, a.write, b.ticks⟩)
      touched := (b.pc p).touched || !asks.isEmpty } := by
  rw [pcTaking, hbmAsks, List.map_map, List.isEmpty_map]
  rfl

/-- What the pseudo-channel `x` does once it has taken its requests. -/
def pcServing (b : Block) (p : Nat) (x : Pc) (draw : Nat) : Block :=
  if b.ticks < max x.readyAt (max x.pauseEnd x.burstEnd) then b
  else match b.hbmPick x with
    | none => if x.queue.isEmpty ∧ b.pcState p ≤ 1 ∧ 0 < b.debt p then (b.setDebt p (b.debt p - 1)).refresh p else b
    | some r =>
      let c := (b.send (.hbm p (b.hbmRank x r) r.slot r.line r.write)).setPc p
        { x with queue := x.queue.erase r, open' := tset x.open' (r.slot % 48) (r.slot / 48) }
      if tfind x.open' (r.slot % 48) = some (r.slot / 48) then c else c.neighbours p (r.slot / 48) draw

theorem hbmRequest_inService {b c : Block} {p : Nat} {new : List (Option Nat × Nat × Nat × Bool)} (service : b.inService p = true)
    (woken : c = if new.isEmpty then b else (b.pcWake p).pauseOwed p) (draw : Nat) :
    b.hbmRequest p new draw = pcServing (c.setPc p (pcTaking c p new)) p (pcTaking c p new) draw := by
  have served : ¬ (!b.inService p) = true := by simp [service]
  rw [Block.hbmRequest, if_neg served, woken]
  rfl

/-- Held by no wake, pause or burst, a pseudo-channel serves the request picked from its queue. -/
theorem pcServing_picked {b : Block} {p : Nat} {x : Pc} {r : HbmReq} (free : max x.readyAt (max x.pauseEnd x.burstEnd) ≤ b.ticks)
    (picked : b.hbmPick x = some r) (draw : Nat) :
    pcServing b p x draw =
      let c := (b.send (.hbm p (b.hbmRank x r) r.slot r.line r.write)).setPc p
        { x with queue := x.queue.erase r, open' := tset x.open' (r.slot % 48) (r.slot / 48) }
      if tfind x.open' (r.slot % 48) = some (r.slot / 48) then c else c.neighbours p (r.slot / 48) draw := by
  simp only [pcServing, if_neg (Nat.not_lt.mpr free), picked]

/-! ## Refreshes (R237) -/

/-- Whether an owed pause starts or not, no time passes. -/
@[simp] theorem pauseOwed_ticks (b : Block) (p : Nat) : (b.pauseOwed p).ticks = b.ticks := by
  unfold Block.pauseOwed
  cases (b.pc p).pauseOwed with
  | none => rfl
  | some found => cases found <;> simp only [Block.pauseTrain, apply_ite Block.ticks] <;> simp [Block.inc, Block.pv]

/-- A refresh that falls due at an awake pseudo-channel in service is postponed, or issued. -/
theorem refreshTick_awake {b : Block} {p : Nat} (service : b.inService p = true) (awake : b.pcState p ≠ 2) :
    b.refreshTick p =
      let c := b.pauseOwed p
      if (!(c.pc p).queue.isEmpty) = true ∧ c.debt p < (if c.doubled p then 4 else 8) then c.setDebt p (c.debt p + 1) else c.refresh p := by
  have due : ¬ (!b.inService p || b.pcState p == 2) = true := by simp [service, awake]
  rw [Block.refreshTick, if_neg due]

theorem refreshTick_issues {b c : Block} {p : Nat} (service : b.inService p = true) (awake : b.pcState p ≠ 2) (owed : c = b.pauseOwed p)
    (due : (c.pc p).queue = [] ∨ (if c.doubled p then 4 else 8) ≤ c.debt p) : b.refreshTick p = c.refresh p := by
  subst owed
  rw [refreshTick_awake service awake]
  refine if_neg ?_
  rintro ⟨waits, room⟩
  rcases due with none | full
  · simp [none] at waits
  · exact Nat.not_lt.mpr full room

theorem refreshTick_postpones {b c : Block} {p : Nat} (service : b.inService p = true) (awake : b.pcState p ≠ 2) (owed : c = b.pauseOwed p)
    (waits : (c.pc p).queue ≠ []) (room : c.debt p < (if c.doubled p then 4 else 8)) : b.refreshTick p = c.setDebt p (c.debt p + 1) := by
  subst owed
  rw [refreshTick_awake service awake]
  exact if_pos ⟨by simpa using waits, room⟩

/-- The FIFO levels of the ports are taken before the requests (R235). -/
theorem exec_hbmRequest (p : Fin 128) (asks : List HbmAsk) (levels : List (Fin 10 × BitVec 21)) (draw : Word) {s : Machine.State}
    (live : s.blk.live = true) :
    exec (.hbmRequest p asks levels draw) s = .next (s.finish (
      (levels.foldl (fun b l => b.portLevel (32 + l.1.val) l.2.toNat (b.portOn (32 + l.1.val))) s.start.writerLevels).hbmRequest p.val
        (hbmAsks asks) draw.toNat)) := by
  show execHbmRequest p asks levels draw s = _
  exact runLive_live _ s live

/-- Settles O12: a pseudo-channel that nothing holds serves its pick, and a due refresh is issued exactly when its queue or its debt asks for it. -/
theorem hbmServesByRankAndRefreshes : Obligations.HbmServesByRankAndRefreshes := by
  refine ⟨?_, ?_, ?_⟩
  · rintro p asks levels draw r a b x s live rfl service woken takes free picked
    rw [← pcTaking_hbmAsks] at takes
    rw [exec_hbmRequest p asks levels draw live, hbmRequest_inService (c := b) service (by rwa [hbmAsks, List.isEmpty_map]), ← takes,
      pcServing_picked (b := b.setPc p.val x) free picked]
  · intro p b s live service awake owed due
    refine next_of_runLive (·.refreshTick p.val) rfl live ((refreshTick_issues (b := s.start) service awake owed due).trans ?_)
    rw [Block.refresh, Block.clock, owed, pauseOwed_ticks]
    rfl
  · intro p b s live service awake owed waits room
    exact next_of_runLive (·.refreshTick p.val) rfl live (refreshTick_postpones (b := s.start) service awake owed waits room)

/-! ## Stack temperatures (R238) -/

/-- The first reading above 85.0 °C: the stack's debts are repaid in bursts, and its region is doubled. -/
theorem stackReading_hot {b : Block} {k : Nat} {t : Int} (normal : b.f K.MEM_TEMP (stackInst k) 16 16 = 0) (hot : 1360 < t) :
    b.stackReading k t =
      let b := b.pf K.MEM_TEMP (stackInst k) 15 0 (uns 16 t)
      let pcs := (List.range 32).map (fun j => 32 * k + j)
      let d := pcs.foldl (fun a p => if b.inService p then max a (b.debt p) else a) 0
      let b := (((pcs.foldl Block.debtBurst b).pf K.MEM_TEMP (stackInst k) 16 16 1).inc K.MEM_HOT_ENTRIES (stackInst k) 1).raise 675
        (beBytes 1 k ++ zeros 1 ++ beBytes 2 (uns 16 t) ++ beBytes 1 d)
      { b with coolOnce := tset b.coolOnce k false } := by
  have enters : (!(b.f K.MEM_TEMP (stackInst k) 16 16 == 1)) = true ∧ 1360 < t := ⟨by rw [normal]; rfl, hot⟩
  exact if_pos enters

/-- The second reading in a row at or below 83.0 °C leaves the doubled region. -/
theorem stackReading_cool {b : Block} {k : Nat} {t : Int} (doubled : b.f K.MEM_TEMP (stackInst k) 16 16 = 1) (cool : t ≤ 1328)
    (second : tget false b.coolOnce k = true) :
    b.stackReading k t =
      let b := ((b.pf K.MEM_TEMP (stackInst k) 15 0 (uns 16 t)).pf K.MEM_TEMP (stackInst k) 16 16 0).raise 676
        (beBytes 1 k ++ zeros 1 ++ beBytes 2 (uns 16 t))
      { b with coolOnce := tset b.coolOnce k false } := by
  have stays : ¬ ((!(b.f K.MEM_TEMP (stackInst k) 16 16 == 1)) = true ∧ 1360 < t) := by simp [doubled]
  have leaves : (b.f K.MEM_TEMP (stackInst k) 16 16 == 1) = true ∧ t ≤ 1328 := ⟨beq_iff_eq.mpr doubled, cool⟩
  exact (if_neg stays).trans ((if_pos leaves).trans (if_pos second))

/-- A reading that is not above 105 °C takes the stack from those read so. -/
theorem stackRead_below {t : Int} (below : t ≤ 1680) (b : Block) (k : Nat) :
    b.stackRead k t =
      let b := b.stackReading k t
      b.setSys { b.sys with stackHot := b.sys.stackHot.filter (· != k) } := by
  have safe : decide (1680 < t) = false := decide_eq_false (Int.not_lt.mpr below)
  simp only [Block.stackRead, safe, Bool.false_and, Bool.false_eq_true, if_false]

/-! ## Training pauses (R239, R241) -/

theorem pauseFree_iff {b : Block} {p : Nat} :
    b.pauseFree p = true ↔ b.inService p = true ∧ b.pcState p = 0 ∧ ((b.pc p).burstEnd = 0 ∨ (b.pc p).burstEnd + 3200 ≤ b.ticks) ∧
      ∀ k < 32, (b.pc (32 * (p / 32) + k)).pauseEnd ≤ b.ticks := by
  simp only [Block.pauseFree, Bool.and_eq_true, beq_iff_eq, Bool.or_eq_true, decide_eq_true_eq, List.all_eq_true, List.mem_range, and_assoc]
  rfl

theorem retrain_owed {b : Block} {p : Nat} (service : b.inService p = true) (busy : b.pauseFree p = false) (found : Bool) :
    b.retrain p found = b.setPc p { b.pc p with pauseOwed := some found } := by
  simp only [Block.retrain, service, busy, Bool.not_true, Bool.false_eq_true, if_false]

theorem retrain_free {b : Block} {p : Nat} (free : b.pauseFree p = true) (found : Bool) : b.retrain p found = b.pauseTrain p found := by
  simp only [Block.retrain, (pauseFree_iff.mp free).1, free, Bool.not_true, Bool.false_eq_true, if_false, if_true]

/-! ## Parity errors, repair and retirement (R242, R243) -/

/-- A transfer that failed once and `more` times again; with three it has failed all its attempts. -/
theorem parityError_inService {b : Block} {p : Nat} (service : b.inService p = true) (lane more slot line : Nat) (write : Bool)
    (attempts : more < 4) :
    b.parityError p lane (more + 1) slot line write =
      let x := b.pc p
      let errs := (x.errs.filter (fun e => decide (b.ticks - 1600000 ≤ e.2))) ++ List.replicate (more + 1) (lane, b.ticks)
      let b := (b.inc K.MEM_LANE_ERR (pcInst p) (more + 1)).setPc p { x with errs := errs }
      let failed := decide (more = 3)
      let b := if failed then b.inc K.MEM_LINE_FAIL (pcInst p) 1 else b
      let b := if failed ∧ write then
          (b.stBytes (spHbm (physical p slot line)) ((List.range 64).map (fun k => Config.failedLine b.fresh k))).tick
        else b
      if failed ∨ b.f K.MEM_ERR_LIMIT 0 7 0 < (errs.filter (fun e => e.1 == lane)).length then b.ladder p lane else b := by
  have served : ¬ (!b.inService p) = true := by simp [service]
  have all : decide (4 ≤ more + 1) = decide (more = 3) := decide_eq_decide.mpr (by omega)
  rw [Block.parityError, if_neg served, all]
  rfl

theorem laneRepair_free {b : Block} {p lane : Nat} (waits : (b.pc p).repair = some lane) (free : b.pauseFree p = true) :
    b.laneRepair p =
      let sp := b.spares p - 1
      ((b.pf K.MEM_PC_STATE (pcInst p) 8 7 sp).setPc p { b.pc p with
        repair := none
        errs := (b.pc p).errs.filter (fun e => e.1 != lane)
        pauseEnd := b.ticks + 960 }).raise 678 (beBytes 1 p ++ beBytes 1 lane ++ beBytes 1 sp) := by
  simp only [Block.laneRepair, Block.clock, waits, free, Bool.not_true, Bool.false_eq_true, if_false]

/-- A retirement decided before this boundary takes place, and the owners of the memory act. -/
theorem retireNow_decided {b : Block} {p t : Nat} (decided : (b.pc p).retire = some t) (before : t < b.ticks) :
    b.retireNow p =
      let b := b.retirePc p
      let b := (List.range 32).foldl (fun b w => b.capRetire w p) b
      ((List.range 16).foldl Block.spgRetire b).poolRetire.stmRetire := by
  have due : ¬ (!(b.pc p).retire.any (fun t => decide (t < b.clock))) = true := by simp [decided, Block.clock, before]
  rw [Block.retireNow, if_neg due]

/-- Settles O13: each reading, slot, error and boundary takes its one branch that acts. -/
theorem hbmTemperatureTrainingAndFailures : Obligations.HbmTemperatureTrainingAndFailures := by
  refine ⟨?_, ?_, ?_, ?_, ?_, ?_, ?_⟩
  · intro k temp s live normal hot below
    refine next_of_runLive (·.stackRead k.val temp.toInt) rfl live ?_
    rw [stackRead_below below, stackReading_hot (b := s.start) normal hot]
  · intro k temp s live doubled cool second
    refine next_of_runLive (·.stackRead k.val temp.toInt) rfl live ?_
    rw [stackRead_below (Int.le_trans cool (by decide)), stackReading_cool (b := s.start) doubled cool second]
  · intro p found s live service busy
    exact next_of_runLive (·.retrain p.val found) rfl live (retrain_owed (b := s.start) service busy found)
  · intro p found s live service awake burst pauses
    have free : s.start.pauseFree p.val = true := pauseFree_iff.mpr ⟨service, awake, burst, pauses⟩
    exact next_of_runLive (·.retrain p.val found) rfl live (retrain_free free found)
  · intro p lane more slot line write s live service
    exact next_of_runLive (·.parityError p.val lane.toNat (more.val + 1) slot.toNat line.val write) rfl live
      (parityError_inService (b := s.start) service _ _ _ _ _ more.isLt)
  · intro p lane s live waits free
    exact next_of_runLive (·.laneRepair p.val) rfl live (laneRepair_free (b := s.start) waits free)
  · intro p t s live first decided before
    refine (runBoundary_on (fun _ b => b.retireNow p.val) s live first).trans ?_
    rw [retireNow_decided (b := s.start) decided before]

end Sys2Proof
end

section
/-! PROOFS. The statement of the end of HBM3E training and of the entry to FLOW, and what the ending of the writers leaves. -/
namespace Sys2Proof
open Machine

/-! ## Training (R243, R246, R470) -/

theorem hbmTrained_working {b : Block} {bad : List Nat} (thaw : b.dev = .thaw) (untrained : b.sys.trained = false)
    (works : which 128 (fun p => !bad.contains p) ≠ []) :
    b.hbmTrained bad =
      let ok (p : Nat) : Bool := !bad.contains p
      let n := (which 128 ok).length
      let b := (List.range 4).foldl (fun b s => b.pv K.MEM_PC_OK (stackInst s) (maskOf 32 (fun c => ok (32 * s + c)))) b
      let b := (b.pf K.MEM_N_PC 0 7 0 n).pv K.MEM_UNIT_BYTES 0 (n * 8388608)
      let gone := which 128 (fun p => !ok p)
      let b := (gone.mapIdx (fun k p => (k, p))).foldl (fun b e =>
        (b.setPcState e.2 3).raise 679 (beBytes 1 e.2 ++ beBytes 1 (127 - e.1) ++ zeros 6 ++ beBytes 8 b.beat)) b
      let b := { b with firstRetired := gone.head? }
      b.setSys { b.sys with trained := true } := by
  have ends : ¬ (b.dev ≠ .thaw ∨ b.sys.trained = true) := by simp [thaw, untrained]
  have some : ¬ (which 128 (fun p => !bad.contains p)).length = 0 := mt List.length_eq_zero_iff.mp works
  rw [Block.hbmTrained, if_neg ends]
  exact if_neg some

/-! ## Steps taken along a list -/

/-- What each step leaves as it is, all of them leave so. -/
theorem foldl_keeps {α β γ : Type} {f : β → α → β} (g : β → γ) (h : ∀ b x, g (f b x) = g b) (l : List α) (b : β) : g (l.foldl f b) = g b :=
  List.foldlRecOn l f (motive := fun c => g c = g b) rfl (fun c kept x _ => (h c x).trans kept)

/-! ## An arm that is still to end is run under its own values (R210) -/

theorem tfind_tdel_ne {α : Type} (t : Tab α) {k j : Nat} (h : j ≠ k) : tfind (tdel t k) j = tfind t j := by
  induction t with
  | nil => rfl
  | cons e t ih =>
    obtain ⟨i, v⟩ := e
    rw [tdel] at ih ⊢
    by_cases same : i = k
    · rw [List.filter_cons_of_neg (by simpa using same), ih, tfind, if_neg (by omega)]
    · rw [List.filter_cons_of_pos (by simpa using same), tfind, tfind, ih]

/-- The table with an entry put back as it was found. -/
def putBack (p : Tab Word) (k : Nat) : Option Word → Tab Word
  | some v => tset p k v
  | none => tdel p k

@[simp] theorem tfind_putBack_same (p : Tab Word) (k : Nat) (found : Option Word) : tfind (putBack p k found) k = found := by
  cases found with
  | some v => exact tfind_tset_same p k v
  | none => exact tfind_tdel_same p k

theorem tfind_putBack_ne (p : Tab Word) {k j : Nat} (found : Option Word) (h : j ≠ k) : tfind (putBack p k found) j = tfind p j := by
  cases found with
  | some v => exact tfind_tset_ne p k j v h
  | none => exact tfind_tdel_ne p h

/-- A key among those put back reads as it was found, and every other as it stands. -/
theorem tfind_putBack_all (found own p : Tab Word) (j : Nat) :
    tfind (own.foldl (fun p e => putBack p e.1 (tfind found e.1)) p) j = if j ∈ own.map Prod.fst then tfind found j else tfind p j := by
  induction own generalizing p with
  | nil => rfl
  | cons e own ih =>
    rw [List.foldl_cons, ih]
    by_cases here : j = e.1
    · simp [here]
    · simp [here, tfind_putBack_ne]

/-- A key that is not among an arm's own values reads as before under them. -/
theorem tfind_overlay_ne {j : Nat} {own : Tab Word} (other : j ∉ own.map Prod.fst) (p : Tab Word) :
    tfind (own.foldl (fun p e => tset p e.1 e.2) p) j = tfind p j := by
  induction own generalizing p with
  | nil => rfl
  | cons e own ih =>
    rw [List.map_cons, List.mem_cons, not_or] at other
    rw [List.foldl_cons, ih other.2, tfind_tset_ne _ _ _ _ other.1]

/-- The block under the values of an arm that is still to end. -/
def onArm (b : Block) (w : Nat) (t : CapArm × Tab Word) : Block :=
  { b with params := t.2.foldl (fun p (e : Nat × Word) => tset p e.1 e.2) b.params }.setCap w { b.cap w with toCapArm := t.1 }

theorem onTail_params (b : Block) (w : Nat) (t : CapArm × Tab Word) (f : Block → Block) :
    (b.onTail w t f).1.params = t.2.foldl (fun p e => putBack p e.1 (tfind b.params e.1)) (f (onArm b w t)).params := by
  show List.foldl _ _ (List.map _ _) = _
  rw [List.foldl_map]
  rfl

theorem val_eq_of_tfind {b c : Block} {key : Nat} (h : tfind c.params key = tfind b.params key) : c.val key = b.val key := by
  rw [Block.val, Block.val, h]

/-- A value that a step leaves at every block, it leaves on an arm's own values too. -/
theorem val_onTail {key : Nat} {f : Block → Block} (h : ∀ b, (f b).val key = b.val key) (b : Block) (w : Nat) (t : CapArm × Tab Word) :
    (b.onTail w t f).1.val key = b.val key := by
  have back := tfind_putBack_all b.params t.2 (f (onArm b w t)).params key
  rw [← onTail_params] at back
  by_cases own : key ∈ t.2.map Prod.fst
  · exact val_eq_of_tfind (back.trans (if_pos own))
  · calc (b.onTail w t f).1.val key
      _ = (f (onArm b w t)).val key := val_eq_of_tfind (back.trans (if_neg own))
      _ = (onArm b w t).val key := h _
      _ = b.val key := val_eq_of_tfind (tfind_overlay_ne own b.params)

theorem val_onTails {key : Nat} {f : Block → Block} (h : ∀ b, (f b).val key = b.val key) (b : Block) (w : Nat) :
    (b.onTails w f).val key = b.val key := by
  have tails := foldl_keeps (fun (r : Block × List (CapArm × Tab Word)) => r.1.val key)
    (f := fun r t => ((r.1.onTail w t f).1, r.2 ++ (r.1.onTail w t f).2.toList)) (fun r t => val_onTail h r.1 w t) (b.cap w).tails (b, [])
  unfold Block.onTails
  split
  · rfl
  · exact tails

/-! ## The parameters of the blocks before CAP, as the writers end (R201, R210)

The steps that end a writer write no parameter of a block with a lower code than that of CAP; the clocks' (R425) are among these. -/

@[simp] theorem val_ringStore (b : Block) (a : Nat) (l : List Byte) (key : Nat) : (b.ringStore a l).val key = b.val key := by
  unfold Block.ringStore
  split <;> rfl

theorem val_ite {p : Prop} [Decidable p] {b c : Block} {key v : Nat} (hb : b.val key = v) (hc : c.val key = v) :
    (if p then b else c).val key = v := by
  split <;> assumption

section
variable {key : Nat} (low : key < 0x08000000)
include low

theorem val_pf_low {k : Nat} (high : 0x08000000 ≤ k) (b : Block) (i hi lo v : Nat) : (b.pf k i hi lo v).val key = b.val key :=
  val_pf_ne _ _ _ _ _ _ _ (by rw [ki]; omega)

theorem val_pv_low {k : Nat} (high : 0x08000000 ≤ k) (b : Block) (i v : Nat) : (b.pv k i v).val key = b.val key :=
  val_pv_ne _ _ _ _ _ (by rw [ki]; omega)

theorem val_inc_low {k : Nat} (high : 0x08000000 ≤ k) (b : Block) (i n : Nat) : (b.inc k i n).val key = b.val key :=
  val_pv_low low high (b.noteCount (ki k i) n) i _

theorem val_incSat_low {k : Nat} (high : 0x08000000 ≤ k) (b : Block) (i n : Nat) : (b.incSat k i n).val key = b.val key :=
  val_pv_low low high (b.noteCount (ki k i) _) i _

theorem val_setCpState_low (b : Block) (w s : Nat) : (b.setCpState w s).val key = b.val key := val_pf_low low (by decide) b w 2 0 s

theorem val_cpOldest_low (b : Block) (w : Nat) : (b.cpOldest w).val key = b.val key := by
  unfold Block.cpOldest
  split <;> simp (disch := decide) only [val_pv_low low, val_pf_low low]

theorem val_cpPut_low (b : Block) (w : Nat) (d : Draft) (closing : Bool) : (b.cpPut w d closing).1.val key = b.val key := by
  unfold Block.cpPut
  simp only [apply_ite Prod.fst, apply_ite (Block.val · key)]
  split
  · simp (disch := decide) only [val_cpOldest_low low, val_pv_low low, setCap_frame]
  · simp (disch := decide) only [val_cpOldest_low low, val_pv_low low, val_pf_low low, setCap_frame, apply_ite (Block.val · key),
      val_ringStore, ite_self]

theorem val_cpWrite_low (b : Block) (w : Nat) (d : Draft) : (b.cpWrite w d).1.val key = b.val key := by
  have put := val_cpPut_low low b w d false
  unfold Block.cpWrite
  simp only [apply_ite Prod.fst, apply_ite (Block.val · key), setCap_frame, put, ite_self]

theorem val_cpGap_low (b : Block) (w : Nat) (g : MissRun) : (b.cpGap w g).1.val key = b.val key := by
  have write := val_cpWrite_low low b w (b.gapDraft w g)
  unfold Block.cpGap
  simp (disch := decide) only [apply_ite Prod.fst, apply_ite (Block.val · key), raise_frame, val_incSat_low low, val_inc_low low, write,
    ite_self]

/-- A block dropped for its compressor is a GAP, and counts at the compressor. -/
theorem val_cpBacklog_low {b : Block} {w : Nat} {d : Draft} {r : Block × Bool} (drops : b.cpBacklog w d = some r) : r.1.val key = b.val key := by
  simp only [Block.cpBacklog, Option.ite_none_right_eq_some, Option.some.injEq] at drops
  rw [← drops.2]
  simp (disch := decide) only [raise_frame, val_inc_low low, val_cpGap_low low]

theorem val_cpCloseBlock_low (b : Block) (w : Nat) : (b.cpCloseBlock w).1.val key = b.val key := by
  unfold Block.cpCloseBlock
  split
  next d _ =>
    split
    next c ok drops => exact (val_cpBacklog_low low drops :)
    next => exact val_cpWrite_low low b w d
  next => rfl

theorem val_cpClose_low (b : Block) (w : Nat) : (b.cpClose w).1.val key = b.val key := by
  have gaps := foldl_keeps (fun (r : Block × Bool) => r.1.val key) (f := fun r g => if r.2 then r.1.cpGap w g else r)
    (fun r g => by split <;> simp only [val_cpGap_low low]) (b.cap w).gaps (b.cpCloseBlock w)
  exact gaps.trans (val_cpCloseBlock_low low b w)

theorem val_cpFinish_low (b : Block) (w reason : Nat) : (b.cpFinish w reason).val key = b.val key := by
  have viols := foldl_keeps (·.val key) (f := fun (b : Block) (v : Report × Violation) => (b.cpPut w (violDraft v.1 v.2) true).1)
    (fun b v => val_cpPut_low low b w _ _)
  unfold Block.cpFinish
  refine val_ite ((val_setCpState_low low _ w 4).trans ?_) ((val_setCpState_low low _ w 0).trans ?_) <;>
    simp only [apply_ite (Block.val · key), setCap_frame, raise_frame, val_cpPut_low low, tick_frame, viols, ite_self]

theorem val_cpEnd_low (b : Block) (w reason : Nat) : (b.cpEnd w reason).val key = b.val key := by
  unfold Block.cpEnd
  simp only [apply_ite (Block.val · key), val_setCpState_low low, setCap_frame, val_cpFinish_low low, val_cpClose_low low, ite_self]

theorem val_cpSign_low (b : Block) (m : Mem) (w : Nat) : (b.cpSign m w).val key = b.val key := by
  cases chain : (b.cap w).evid with
  | none => simp only [Block.cpSign, chain]
  | some c => simp only [cpSign_some chain, raise_frame, val_setCpState_low low, setCap_frame, val_cpPut_low low]

/-- A function of CAP that enters a state. -/
theorem val_setLife_low (b : Block) (w st : Nat) : (b.setLife bCAP w st).val key = b.val key :=
  val_setLife_ne b st (by simp only [mkKey, bCAP]; omega)

theorem val_setEnable_low (b : Block) (w : Nat) (on : Bool) : (b.setEnable bCAP w on).val key = b.val key :=
  val_setVal_ne b _ _ _ (by simp only [mkKey, bCAP]; omega)

theorem val_setHeld_low (b : Block) (w h : Nat) : (b.setHeld bCAP w h).val key = b.val key :=
  val_setVal_ne b _ _ _ (by simp only [mkKey, bCAP]; omega)

theorem val_capFlowEntry_low (b : Block) (m : Mem) : (Block.capFlowEntry m b).val key = b.val key := by
  refine foldl_keeps (·.val key) (fun b w => ?_) _ b
  have ends := val_onTails (fun b => val_cpEnd_low low b w 6)
  refine val_ite rfl ((val_setHeld_low low _ w 0).trans ?_)
  simp only [val_setLife_low low, val_setEnable_low low, val_setCpState_low low, setCap_frame, val_cpSign_low low, val_cpEnd_low low, ends]

theorem val_cpRingShow_low (b : Block) (w : Nat) : (b.cpRingShow w).val key = b.val key := by
  simp (disch := decide) only [Block.cpRingShow, val_pf_low low]

end

/-! ## The entry to FLOW (R475, R476) -/

theorem clkState_of_val {b c : Block} {n : Nat} (h : c.val (ki K.CLK_STATUS n) = b.val (ki K.CLK_STATUS n)) : c.clkState n = b.clkState n := by
  rw [Block.clkState, Block.f, h, Block.clkState, Block.f]

/-- A cause of DEGRADED is shown in SYS, not by a clock. -/
theorem clkState_setCause (b : Block) (c unit n : Nat) : (b.setCause c unit).clkState n = b.clkState n := by
  unfold Block.setCause
  split
  · rfl
  · exact f_pf_ne _ _ _ _ _ _ _ _ _ _ (by simp only [ki, K.CLK_STATUS, K.SYS_DEGRADED_CAUSES]; omega)

/-- The engine in FLOW before its causes of DEGRADED: its writers have ended, their rings are those of FLOW, and no request is pending. -/
def flowBegun (m : Mem) (b : Block) : Block :=
  let b := Block.capFlowEntry m b
  (List.range 32).foldl Block.cpRingShow
    ({ b with dev := .flow, stores := .clear (spThaw 0) (spThaw (2 ^ 26)) :: b.stores }.pf K.SYS_FLOW_PENDING 0 0 0 0)

/-- The causes of DEGRADED that the memory and the links give. -/
def flowCauses (b : Block) : Block :=
  let b := if b.nPc < 128 then b.setCause 1 (mkKey bMEM (pcInst (b.firstRetired.getD 0)) 0) else b
  match b.unreleased with | some k => b.setCause 5 (mkKey bJRX k 0) | none => b

/-- The causes that the clocks give, `late` being those not locked, and what the engine then starts. -/
def flowClocks (b : Block) (late : List Nat) : Block :=
  let b := b.setSys { b.sys with flowPlls := late }
  let b := match late with | [] => b | n :: _ => b.setCause 6 (clkUnit n)
  let b := match (List.range 6).find? (fun n => b.clkState n == 5) with | some n => b.setCause 4 (clkUnit n) | none => b
  ([3, 4].foldl Block.pllSeries b).tiuCalStart

theorem live_of_thaw {b : Block} (thaw : b.dev = .thaw) : b.live = true := (live_iff b).mpr (.inl thaw)

theorem flowRequested_iff {b : Block} :
    b.flowRequested = true ↔ b.f K.SYS_FLOW_PENDING 0 0 0 = 1 ∧ 1 ≤ b.nPc ∧ b.clkState 0 = 0 := by
  simp only [Block.flowRequested, Bool.and_eq_true, beq_iff_eq, decide_eq_true_eq, and_assoc]

theorem flowEntry_enters {b : Block} (thaw : b.dev = .thaw) (trained : b.sys.trained = true) (asked : b.flowAuto = true ∨ b.flowRequested = true)
    (m : Mem) :
    Block.flowEntry m b =
      let c := flowCauses (flowBegun m b)
      let c := flowClocks c ([1, 2].filter (fun n => c.clkState n != 0))
      c.raise 976 (beBytes 4 c.stateWord ++ beBytes 4 b.stateWord) := by
  have enters : ¬ (b.dev ≠ .thaw ∨ (!b.sys.trained) = true ∨ (!(b.flowAuto || b.flowRequested)) = true) := by
    rcases asked with auto | requested
    · simp [thaw, trained, auto]
    · simp [thaw, trained, requested]
  rw [Block.flowEntry, if_neg enters]
  rfl

theorem flowEntry_stays {b : Block} (stays : b.sys.trained = false ∨ (b.flowAuto = false ∧ b.flowRequested = false)) (m : Mem) :
    Block.flowEntry m b = b := by
  refine if_pos (.inr ?_)
  rcases stays with untrained | ⟨auto, requested⟩
  · simp [untrained]
  · simp [auto, requested]

@[simp] theorem setCause_dev (b : Block) (c unit : Nat) : (b.setCause c unit).dev = b.dev := by
  simp [Block.setCause, apply_ite Block.dev]

theorem cpRingShow_dev (b : Block) (w : Nat) : (b.cpRingShow w).dev = b.dev := rfl

theorem flowBegun_dev (m : Mem) (b : Block) : (flowBegun m b).dev = .flow := foldl_dev cpRingShow_dev _ _

theorem flowCauses_dev (b : Block) : (flowCauses b).dev = b.dev := by
  unfold flowCauses
  simp only
  split <;> simp [apply_ite Block.dev]

theorem flowClocks_dev (b : Block) (late : List Nat) : (flowClocks b late).dev = b.dev := by
  unfold flowClocks
  simp only [tiuCalStart_dev, foldl_dev pllSeries_dev]
  cases late with
  | nil => split <;> simp only [setCause_dev, setSys_frame]
  | cons n later => split <;> simp only [setCause_dev, setSys_frame]

theorem flowEntry_dev {b : Block} (thaw : b.dev = .thaw) (trained : b.sys.trained = true) (asked : b.flowAuto = true ∨ b.flowRequested = true)
    (m : Mem) : (Block.flowEntry m b).dev = .flow := by
  rw [flowEntry_enters thaw trained asked]
  exact (flowClocks_dev _ _).trans ((flowCauses_dev _).trans (flowBegun_dev m b))

theorem val_flowBegun (m : Mem) (b : Block) {key : Nat} (clock : 0x03000000 ≤ key) (low : key < 0x08000000) :
    (flowBegun m b).val key = b.val key := by
  have pending : key ≠ ki K.SYS_FLOW_PENDING 0 := by
    simp only [ki, K.SYS_FLOW_PENDING]
    omega
  unfold flowBegun
  refine (foldl_keeps (fun b : Block => b.val key) (val_cpRingShow_low low) _ _).trans ?_
  exact (val_pf_ne _ _ _ _ _ _ _ pending).trans (val_capFlowEntry_low low b m)

theorem clkState_flowCauses (b : Block) (n : Nat) : (flowCauses b).clkState n = b.clkState n := by
  unfold flowCauses
  simp only
  split <;> simp only [clkState_setCause, apply_ite (Block.clkState · n), ite_self]

/-- When the engine reads which clocks come late, each stands as before the entry. -/
theorem clkState_flowEntry (m : Mem) (b : Block) {n : Nat} (pll : n < 6) : (flowCauses (flowBegun m b)).clkState n = b.clkState n := by
  refine (clkState_flowCauses _ n).trans (clkState_of_val (val_flowBegun m b ?_ ?_)) <;> (simp only [ki, K.CLK_STATUS]; omega)

/-- With the clocks of the links and of the network locked, none comes late. -/
theorem flowEntry_locked {b : Block} (thaw : b.dev = .thaw) (trained : b.sys.trained = true) (asked : b.flowAuto = true ∨ b.flowRequested = true)
    (locked1 : b.clkState 1 = 0) (locked2 : b.clkState 2 = 0) (m : Mem) :
    Block.flowEntry m b =
      let c := flowClocks (flowCauses (flowBegun m b)) []
      c.raise 976 (beBytes 4 c.stateWord ++ beBytes 4 2) := by
  have before : b.stateWord = 2 := (stateWord_live (live_of_thaw thaw)).trans (if_pos thaw)
  have late : [1, 2].filter (fun n => (flowCauses (flowBegun m b)).clkState n != 0) = [] := by
    simp [clkState_flowEntry, locked1, locked2]
  rw [flowEntry_enters thaw trained asked, before]
  simp only [late]

theorem exec_hbmTrainingEnd (bad : List (Fin 128)) {s : Machine.State} (live : s.blk.live = true) :
    exec (.hbmTrainingEnd bad) s = .next (s.finish (s.start.hbmTrained (bad.map (·.val)))) := by
  show execHbmTrainingEnd bad s = _
  exact runLive_live _ s live

/-- Settles O37: a working pseudo-channel ends training with FLOW still asked for, and no step of the entry to FLOW changes a clock's state before
the late ones are read, so with the clocks locked none is late. -/
theorem trainingAndFlow : Obligations.TrainingAndFlow := by
  refine ⟨?_, ?_, ?_, ?_⟩
  · intro bad s thaw untrained works
    rw [exec_hbmTrainingEnd bad (live_of_thaw thaw), hbmTrained_working (b := s.start) thaw untrained works]
  · intro s thaw first trained _ pending channels core base net _
    have requested : s.start.flowRequested = true := flowRequested_iff.mpr ⟨pending, Nat.le_trans (by decide) channels, core⟩
    refine (runBoundary_on Block.flowEntry s (live_of_thaw thaw) first).trans ?_
    rw [flowEntry_locked (b := s.start) thaw trained (.inr requested) base net]
    rfl
  · intro s thaw first trained asked
    refine ⟨_, runBoundary_on Block.flowEntry s (live_of_thaw thaw) first, ?_⟩
    rw [finish_blk, flushEvents_dev]
    exact flowEntry_dev (b := s.start) thaw trained asked s.mem
  · intro s thaw stays
    show s.runBoundary Block.flowEntry = _
    by_cases first : s.blk.cycle = 0
    · rw [runBoundary_on _ s (live_of_thaw thaw) first, flowEntry_stays (b := s.start) stays]
    · exact runBoundary_off _ s first

end Sys2Proof
end

section
/-! PROOFS. The statement of the planes and the compositor: close passes, spectrogram lines, composite ticks, complete frames and the buffers
that are released. -/
namespace Sys2Proof
open Machine

/-! ## The close pass of a density plane (R253, R254) -/

/-- The weight of a plane's frame is not its number. -/
theorem val_frameSeq_pf_weight (b : Block) (p w : Nat) :
    (b.pf K.DEN_WEIGHT p 23 0 w).val (ki K.DEN_FRAME_SEQ p) = b.val (ki K.DEN_FRAME_SEQ p) :=
  val_pf_ne _ _ _ _ _ _ _ (by simp only [ki, K.DEN_WEIGHT, K.DEN_FRAME_SEQ]; omega)

/-- A pass that ends for a closed frame; the frame's number is advanced after its weight is stored. -/
theorem plPassEnd_closing {b : Block} {p : Nat} {c : Closing} (closing : (b.plane p).closing = some c) (late : Option Bool) :
    b.plPassEnd p late =
      let x := b.plane p
      let mode := b.plAt K.DEN_DECAY p c.stop 1 0
      let dec (n : Nat) : Nat := decayed mode (b.plAt K.DEN_DECAY p c.stop 6 2) (b.plAt K.DEN_DECAY p c.stop 31 16) n
      let w := satCount (x.wDecayed + c.incl)
      let sat := x.sat || (mode == 0 && w == 16777215)
      let b := (b.plWrite p c w sat).inc K.DEN_SAT_CELLS p (x.closed.filter (fun e => e.2 == 16777215)).length
      let b := b.pf K.DEN_WEIGHT p 23 0 w
      let b := b.pv K.DEN_FRAME_SEQ p (b.val (ki K.DEN_FRAME_SEQ p) + 1)
      let r := b.denAll p c w x.closed late
      let left := if c.cleared then [] else (x.closed.map (fun e => (e.1, dec e.2))).filter (fun e => e.2 != 0)
      let y := { r.1.plane p with closing := none, closed := [], sat := sat, wDecayed := if c.cleared then 0 else dec w }
      let y := if x.stopAt = some c.stop then { y with finished := true }
        else if c.stop < x.start then { y with closed := left, closing := some ⟨c.stop, r.1.frameEnd p c.stop x, false, 0, 0, none, false⟩ }
        else { y with count := left.foldl (fun t e => tupd 0 t e.1 (fun n => satCount (n + e.2))) y.count }
      (r.1.setPlane p y, r.2) := by
  simp only [Block.plPassEnd, closing, val_frameSeq_pf_weight]

/-! ## A line of a spectrogram plane (R262, R263) -/

/-- The number of a spectrogram plane's lines is not the first that is valid. -/
theorem val_validFrom_pv_lineSeq (b : Block) (i n : Nat) :
    (b.pv K.DEN_LINE_SEQ i n).val (ki K.DEN_VALID_FROM i) = b.val (ki K.DEN_VALID_FROM i) :=
  val_pv_ne _ _ _ _ _ (by simp only [ki, K.DEN_LINE_SEQ, K.DEN_VALID_FROM]; omega)

/-- The oldest trace delivered is stored at its line's place of the ring, and the line joins the valid ones. -/
theorem spgLine_cons {b : Block} {k : Nat} {t : Trace} {rest : List Trace} (oldest : (b.spg k).pend = t :: rest) :
    b.spgLine k =
      let i := spgInst k
      let l := b.f K.DEN_SPG_RING i 21 8 + 1
      let n := b.val (ki K.DEN_LINE_SEQ i)
      let w := b.f K.DEN_LINE_BYTES i 15 0
      let bytes := fixLen w (t.descriptor ++ beBytes 8 n ++ zeros 24 ++
        ((if t.cols.isEmpty then t.pts else t.cols).map (fun v => beBytes 2 (uns 16 v))).flatten)
      let b := (b.hbmStores (b.f K.DEN_BASE_ADDR i 47 0 + n % l * w) bytes).pv K.DEN_LINE_SEQ i (n + 1)
      let b := b.pv K.DEN_VALID_FROM i (max (b.val (ki K.DEN_VALID_FROM i)) (n + 1 - l))
      { b with spgs := tset b.spgs k { pend := rest } } := by
  simp only [Block.spgLine, oldest, val_validFrom_pv_lineSeq]

/-! ## The ticks of the compositor (R266, R267) -/

/-- The block at a composite tick: the FRAME values are in force, and the instant is no tick again. -/
def tickTaken (b : Block) : Block := { b.takeHeld bDEN compInst with comp := { b.comp with tickAt := some b.clock } }

/-- The frame buffer that a tick takes: none while a composition runs (log entry 24). -/
def tickBuffer (b : Block) : Option Nat := if b.comp.busy.isSome then none else b.compTarget

theorem tickBuffer_idle {b : Block} (idle : b.comp.busy = none) : tickBuffer b = b.compTarget := by
  rw [tickBuffer, idle, Option.isSome_none, if_neg Bool.false_ne_true]

/-- A tick leaves the composition and the latest frame as they are, so it takes no buffer where one runs or none is free. -/
theorem tickBuffer_tickTaken {b : Block} (skips : b.comp.busy.isSome = true ∨ (b.takeHeld bDEN compInst).compTarget = none) :
    tickBuffer (tickTaken b) = none := by
  rcases skips with busy | unfree
  · exact if_pos busy
  · rw [tickBuffer, show (tickTaken b).compTarget = none from unfree, ite_self]

/-- The block with the frame of a tick in composition in buffer `k`: the trace layer and the frame are stored (R267). -/
def composing (m : Mem) (b : Block) (k : Nat) : Block :=
  let w := b.f K.DEN_COMP_OUT compInst 11 0
  let h := b.f K.DEN_COMP_OUT compInst 23 12
  let v := b.val (ki K.DEN_LAYERS compInst)
  let r1 := rect (b.val (ki K.DEN_L1_RECT compInst))
  let frame := ((List.range h).map (fun y => ((List.range w).map (fun x => beBytes 4 (b.composePixel m x y))).flatten)).flatten
  let trace := ((List.range r1.2.2.2).map (fun y => ((List.range r1.2.2.1).map (fun x =>
    beBytes 4 (b.l1Pixel r1.2.2.1 r1.2.2.2 x y))).flatten)).flatten
  let c := { b with comp := { b.comp with busy := some ⟨k, b.layerBufs⟩ } }
  let c := if bit v 16 && c.bufIs (bits v 3 0) 0 r1.2.2.1 r1.2.2.2 then c.hbmStores (c.bufAddr (bits v 3 0)) trace else c
  c.hbmStores (c.bufAddr k) frame

/-- What a tick makes of the block, by the buffer that it takes. -/
theorem compTick_due {b : Block} (on : b.isOff bDEN compInst = false) (due : b.tickDue = true) (m : Mem) :
    b.compTick m =
      let c := tickTaken b
      match tickBuffer c with
      | none => c.inc K.DEN_COMP_SKIPPED compInst 1
      | some k => if !c.bufOk k then c.inc K.DEN_COMP_SKIPPED compInst 1 else composing m c k := by
  have acts : ¬ (b.isOff bDEN compInst || !b.tickDue) = true := by simp [on, due]
  rw [Block.compTick, if_neg acts]
  rfl

theorem compTick_composes {b : Block} {k : Nat} (on : b.isOff bDEN compInst = false) (due : b.tickDue = true)
    (idle : (tickTaken b).comp.busy = none) (target : (tickTaken b).compTarget = some k) (service : (tickTaken b).bufOk k = true) (m : Mem) :
    b.compTick m = composing m (tickTaken b) k := by
  have inService : ¬ (!(tickTaken b).bufOk k) = true := by simp [service]
  simp only [compTick_due on due, tickBuffer_idle idle, target]
  exact if_neg inService

theorem compTick_skips {b : Block} (on : b.isOff bDEN compInst = false) (due : b.tickDue = true)
    (skips : b.comp.busy.isSome = true ∨ (b.takeHeld bDEN compInst).compTarget = none) (m : Mem) :
    b.compTick m = (tickTaken b).inc K.DEN_COMP_SKIPPED compInst 1 := by
  simp only [compTick_due on due, tickBuffer_tickTaken skips]

theorem compDone_busy {b : Block} {c : Composing} (runs : b.comp.busy = some c) :
    b.compDone = (({ b with comp := { b.comp with busy := none, latest := some c.fb } }).inc K.DEN_COMP_SEQ compInst 1).bufSettleAll := by
  simp only [Block.compDone, runs]

/-! ## The buffers of the pool (R281) -/

theorem bufSettle_free {b : Block} {k v : Nat} (waits : tfind b.bufWait k = some v) (free : b.bufReferenced k = false) :
    b.bufSettle k =
      (({ b with bufWait := tdel b.bufWait k }).pv K.DEN_BUF_CFG (bufInst k) v).raise 903 (beBytes 1 k) := by
  simp only [Block.bufSettle, waits, free, Bool.false_eq_true, if_false]

/-- Settles O14: each pass, line, tick, frame and release takes its one branch that acts; a frame's number is not touched by its weight, nor the
first valid line by the number of lines. -/
theorem planesAndCompositor : Obligations.PlanesAndCompositor := by
  refine ⟨?_, ?_, ?_, ?_, ?_, ?_⟩
  · intro p late c s live closing
    exact next_of_acting (·.plPassEnd p.val (some late)) rfl live (plPassEnd_closing (b := s.start) closing (some late))
  · intro k t rest s live oldest
    refine next_of_runLive (·.spgLine k.val) rfl live ?_
    rw [spgLine_cons (b := s.start) oldest]
    simp only [start_f, start_val]
  · intro k b s live on due taken idle target service
    subst taken
    exact next_of_runLive_mem (fun m b => b.compTick m) rfl live (compTick_composes (b := s.start) on due idle target service s.mem)
  · intro s live on due skips
    exact next_of_runLive_mem (fun m b => b.compTick m) rfl live (compTick_skips (b := s.start) on due skips s.mem)
  · intro c s live runs
    exact next_of_runLive (·.compDone) rfl live (compDone_busy (b := s.start) runs)
  · intro k v s live waits free
    exact next_of_runLive (·.bufSettle k.val) rfl live (bufSettle_free (b := s.start) waits free)

end Sys2Proof
end

section
/-! PROOFS. The statements of display scan-out: DisplayPort training, hot plug and the side channel; and the frame boundary where the block still
holds the stores of the command before. -/
namespace Sys2Proof
open Machine

/-! ## DisplayPort training (R285) -/

theorem dpTrained_training {b : Block} (on : b.isOff bDEN 0x81 = false) (trains : b.outLink 1 = 1) :
    b.dpTrained true =
        (let c := ((b.setOutLink 1 2).setOut 1 { b.out 1 with step := if (b.out 1).step = 2 then 3 else (b.out 1).step }).linkEvent 1 3
         if (b.out 1).step = 2 then c.send (.scanBlank 1) else c) ∧
      b.dpTrained false = ((b.setOutLink 1 3).setOut 1 { b.out 1 with failAt := b.clock }).linkEvent 1 4 := by
  have acts : ¬ (b.isOff bDEN 0x81 = true ∨ b.outLink 1 ≠ 1) := by simp [on, trains]
  constructor <;> rw [Block.dpTrained, if_neg acts]
  · rfl
  · rfl

theorem dpRetry_due {b : Block} (on : b.isOff bDEN 0x81 = false) (failed : b.outLink 1 = 3) (due : (b.out 1).failAt + usCycles 100000 ≤ b.clock) :
    b.dpRetry = b.setOutLink 1 1 := by
  have acts : ¬ (b.isOff bDEN 0x81 = true ∨ b.outLink 1 ≠ 3 ∨ b.clock < (b.out 1).failAt + usCycles 100000) := by
    simp [on, failed, due]
  rw [Block.dpRetry, if_neg acts]

/-! ## HPD (R285) -/

/-- The level of HPD is not an output's FUNC_STATE. -/
theorem isOff_pf_hpd (b : Block) (v : Nat) : (b.pf K.DEN_STATUS 0x81 2 2 v).isOff bDEN 0x81 = b.isOff bDEN 0x81 := by
  rw [Block.isOff, Block.life, val_pf_ne _ _ _ _ _ _ _ (by decide), Block.isOff, Block.life]

theorem hpdEdge_changes {b : Block} {high : Bool} (on : b.isOff bDEN 0x81 = false) (level : b.outHpd 1 = !high) :
    ¬ (b.outHpd 1 = high ∨ (b.pf K.DEN_STATUS 0x81 2 2 (b2n high)).isOff bDEN 0x81 = true) := by
  simp [isOff_pf_hpd, on, level]

theorem hpdEdge_rises {b : Block} (on : b.isOff bDEN 0x81 = false) (low : b.outHpd 1 = false) :
    b.hpdEdge true =
      let c := (b.pf K.DEN_STATUS 0x81 2 2 1).linkEvent 1 2
      if (b.out 1).step = 1 then c else (c.setOutLink 1 1).setOut 1 { b.out 1 with step := 2 } := by
  rw [Block.hpdEdge]
  exact if_neg (hpdEdge_changes (high := true) on low)

theorem hpdEdge_falls {b : Block} (on : b.isOff bDEN 0x81 = false) (high : b.outHpd 1 = true) :
    b.hpdEdge false =
      ((((b.pf K.DEN_STATUS 0x81 2 2 0).setOutLink 1 0).setOut 1 { b.out 1 with
        refs := false
        latched := none
        step := if (b.out 1).step = 1 then 1 else 2 }).linkEvent 1 1).bufSettleAll := by
  rw [Block.hpdEdge]
  exact if_neg (hpdEdge_changes (high := false) on high)

theorem irqHpd_high {b : Block} (on : b.isOff bDEN 0x81 = false) (high : b.outHpd 1 = true) (lost : Bool) :
    b.irqHpd lost =
      let c := b.linkEvent 1 5
      if lost ∧ c.outLink 1 = 2 then (c.setOutLink 1 1).setOut 1 { c.out 1 with step := if (c.out 1).step = 1 then 1 else 2 } else c := by
  have acts : ¬ (b.isOff bDEN 0x81 = true ∨ (!b.outHpd 1) = true) := by simp [on, high]
  rw [Block.irqHpd, if_neg acts]

/-! ## The side channel (R286) -/

theorem sideDone_onItsWay {b : Block} {o : Nat} (busy : b.sideBusy o = true) (sent : (b.out o).side = none) (rx : Nat) (err timeout : Bool) :
    b.sideDone o rx err timeout =
      ((b.pf K.DEN_SIDE_STAT (outInst o) 2 0 (2 * b2n err + 4 * b2n timeout)).pv K.DEN_SIDE_RX (outInst o) rx).raise (896 + 8 * o + 4)
        (beBytes 1 (2 * b2n err + 4 * b2n timeout) ++ zeros 7 ++ beBytes 8 rx) := by
  have ends : b.sideBusy o = true ∧ (b.out o).side.isNone = true := ⟨busy, by rw [sent, Option.isNone_none]⟩
  rw [Block.sideDone]
  exact if_pos ends

/-- Settles O16: each edge, report and completion takes its one branch that acts. -/
theorem displayPortAndSideChannel : Obligations.DisplayPortAndSideChannel := by
  refine ⟨?_, ?_, ?_, ?_, ?_, ?_⟩
  · intro s live on trains
    have ⟨well, ill⟩ := dpTrained_training (b := s.start) on trains
    exact ⟨next_of_runLive (·.dpTrained true) rfl live well, next_of_runLive (·.dpTrained false) rfl live ill⟩
  · intro s live on failed due
    exact next_of_runLive (·.dpRetry) rfl live (dpRetry_due (b := s.start) on failed due)
  · intro s live on low
    exact next_of_runLive (·.hpdEdge true) rfl live (hpdEdge_rises (b := s.start) on low)
  · intro s live on high
    exact next_of_runLive (·.hpdEdge false) rfl live (hpdEdge_falls (b := s.start) on high)
  · intro lost s live on high
    exact next_of_runLive (·.irqHpd lost) rfl live (irqHpd_high (b := s.start) on high lost)
  · intro o rx err timeout s live busy sent
    exact next_of_runLive (·.sideDone o.val rx.toNat err timeout) rfl live (sideDone_onItsWay (b := s.start) busy sent rx.toNat err timeout)

/-! ## A frame shown while the block holds old stores (R276)

A command reads the memories through the stores of its own step, of which it starts with none. The statement reads the pixel through those that the
block held before the command. -/

/-- Output 0 is ON in RGB101010 with one active pixel, filled by a frame of one pixel in buffer 0 of a pool on one pseudo-channel; the memories are
empty, and the block still holds the store of a 1 at the last byte of that pixel. -/
def staleStore : Machine.State :=
  let b : Block := { poolSize := 1, comp := { latest := some 0 }, stores := [.byte 3 1] }
  let b := ((b.pv K.MEM_N_PC 0 6).pv K.MEM_PC_OK 0x10 1).pv K.DEN_POOL compInst 0x100
  let b := ((b.setVal (mkKey bDEN 0x80 2) lOn).pv K.DEN_OUT_CFG 0x80 2).pv K.DEN_COMP_OUT compInst 0x1001
  ⟨(b.pv K.DEN_H_TIMING 0x80 1).pv K.DEN_V_TIMING 0x80 1, [], []⟩

/-- The active lines of each frame that a command sends. -/
def shownFrames : Host.Outcome Machine.State Fault Refusal → List (List (List Nat))
  | .next t => t.blk.sent.filterMap (fun x => match x with | .scan _ _ lines => some lines | _ => none)
  | _ => []

/-- The frame boundary shows the memory, not the old store. -/
theorem shownFrames_staleStore : shownFrames (exec (.displayFrameBoundary 0) staleStore) = [[[0]]] := by decide

/-- Refutes O15: its second clause takes the pixel through the stores that the block held before the command (`s.blk.bufPixel`), where the command has
put these away (`s.start`). Where an old store and the memory differ, so do the two pixels: the statement shows a 1, the model a 0. No command
leaves such a state: at its end the memories have taken its stores (`memRead_memApplyAll`). -/
theorem not_displayFramesAndTearing : ¬ Obligations.DisplayFramesAndTearing := by
  rintro ⟨-, shows, -⟩
  have stated := shows 0 0 staleStore (by decide) (by decide) (by decide) (by decide) (by decide) (by decide) (by decide) (by decide) (by decide)
    (by decide) (by decide)
  have sends := shownFrames_staleStore
  rw [stated] at sends
  exact absurd sends (by decide)

end Sys2Proof
end

section
/-! PROOFS. What the writes of the engine leave of the parameters beside the one written, and tables that are written twice. -/
namespace Sys2Proof
open Machine

theorem val_noteCount (b : Block) (key n j : Nat) : (b.noteCount key n).val j = b.val j := rfl

theorem val_inc_ne (b : Block) (k i n j : Nat) (h : j ≠ ki k i) : (b.inc k i n).val j = b.val j :=
  (val_pv_ne (b.noteCount (ki k i) n) k i _ j h).trans (val_noteCount ..)

theorem val_incSat_ne (b : Block) (k i n j : Nat) (h : j ≠ ki k i) : (b.incSat k i n).val j = b.val j :=
  (val_pv_ne (b.noteCount (ki k i) _) k i _ j h).trans (val_noteCount ..)

/-- A field of another parameter than the counter. -/
theorem f_inc_ne (b : Block) (k i n k' i' hi lo : Nat) (h : ki k' i' ≠ ki k i) : (b.inc k i n).f k' i' hi lo = b.f k' i' hi lo :=
  congrArg (bits · hi lo) (val_inc_ne b k i n _ h)

/-- A field of another parameter than the one written whole. -/
theorem f_pv_ne (b : Block) (k i v k' i' hi lo : Nat) (h : ki k' i' ≠ ki k i) : (b.pv k i v).f k' i' hi lo = b.f k' i' hi lo :=
  congrArg (bits · hi lo) (val_pv_ne b k i v _ h)

/-- A table written twice at one place holds what was written last. -/
theorem tset_tset {α : Type} (l : Tab α) (k : Nat) (v w : α) : tset (tset l k v) k w = tset l k w := by
  induction l with
  | nil => simp [tset]
  | cons e rest ih =>
    obtain ⟨i, x⟩ := e
    by_cases low : k < i
    · simp [tset, low]
    · by_cases same : k = i
      · simp [tset, same]
      · simp [tset, low, same, ih]

/-- A command that acts at the first core cycle of a beat leaves, there, what it makes of the block it starts from. -/
theorem next_of_runBoundary {o : Host.Outcome Machine.State Fault Refusal} {s : Machine.State} {b : Block} (f : Block → Block)
    (run : o = s.runBoundary (fun _ => f)) (live : s.blk.live = true) (first : s.blk.cycle = 0) (makes : f s.start = b) : o = .next (s.finish b) := by
  rw [run, runBoundary_on _ _ live first, makes]

end Sys2Proof
end

section
/-! PROOFS. The statements of clock synthesis: loss, lock and failure of an ADPLL, its retry, and the end of a slew. -/
namespace Sys2Proof
open Machine

/-- Two changes of an ADPLL that agree on the block reach its domain alike. -/
theorem pllAct_congr {b : Block} {f g : Block → Block} (n : Nat) (agree : f b = g b) : b.pllAct n f = b.pllAct n g := by
  simp only [Block.pllAct, agree]

/-! ## An ADPLL's own changes (R416, R421 to R425) -/

theorem clkLoss_running {b : Block} {n : Nat} (runs : b.clkState n ≤ 1) :
    b.clkLoss n =
      let c := b.inc K.CLK_UNLOCKS n 1
      ((c.raise (864 + 4 * n + 1) (beBytes 1 (b.clkState n) ++ beBytes 1 (c.f K.CLK_STATUS n 8 3) ++ zeros 6 ++ beBytes 8 b.beat)).clkSequence
        n false).pf K.CLK_STATUS n 10 9 1 :=
  if_pos runs

theorem clkLock_sequence {b : Block} {n : Nat} (seeks : b.clkState n = 2 ∨ b.clkState n = 3) (band ns : Nat) :
    b.clkLock n band ns =
      let c := ((b.setClkState n 0).pf K.CLK_STATUS n 8 3 band).pf K.CLK_STATUS n 10 9 0
      let d := (c.pf K.CLK_LAST_LOCK n 15 0 ns).pv K.CLK_FREQ_OUT n (c.clkTarget n)
      (d.setPll n { d.pll n with target := some (d.clkTarget n), change := false }).raise (864 + 4 * n)
        (beBytes 1 band ++ beBytes 1 (b.attempts n) ++ zeros 2 ++ beBytes 4 (bits ns 15 0) ++ beBytes 8 b.beat) :=
  if_pos seeks

/-- A counter of another parameter leaves the attempts. -/
theorem attempts_relockFail (b : Block) (n : Nat) (x : Pll) : ((b.inc K.CLK_RELOCK_FAIL n 1).setPll n x).attempts n = b.attempts n := by
  have other : ki K.CLK_STATUS n ≠ ki K.CLK_RELOCK_FAIL n := by simp only [ki, K.CLK_STATUS, K.CLK_RELOCK_FAIL]; omega
  exact congrArg (bits · 10 9) (val_setVal_ne _ _ _ _ other)

theorem clkTimeout_fails {b : Block} {n : Nat} (seeks : b.clkState n = 2 ∨ b.clkState n = 3) (late : (b.pll n).since + 96000 ≤ b.clock) :
    b.clkTimeout n = b.clkFail n :=
  if_pos ⟨seeks, late⟩

/-- A failed sequence of an ADPLL that no new target and no command began waits for its next attempt, or is the last one (R424). -/
theorem clkFail_own {b : Block} {n : Nat} (own : (b.pll n).change = false) :
    b.clkFail n =
      let c := b.inc K.CLK_RELOCK_FAIL n 1
      let d := c.setPll n { c.pll n with since := c.clock, change := false }
      if 3 ≤ b.attempts n then (d.setClkState n 5).raise (864 + 4 * n + 2) (beBytes 1 (b.attempts n))
      else (d.setClkState n 4).pf K.CLK_STATUS n 10 9 (b.attempts n) := by
  have own : ((b.inc K.CLK_RELOCK_FAIL n 1).pll n).change = false := own
  simp only [Block.clkFail, own, Bool.false_eq_true, if_false, attempts_relockFail]

theorem clkRetry_due {b : Block} {n : Nat} (waits : b.clkState n = 4) (due : (b.pll n).since + 160000 ≤ b.clock) :
    b.clkRetry n = (b.clkSequence n false).pf K.CLK_STATUS n 10 9 (b.attempts n + 1) :=
  if_pos ⟨waits, due⟩

theorem pllSlewDone_slewing {b : Block} {n : Nat} (slews : b.clkState n = 1) :
    b.pllSlewDone n = if n = 3 ∨ n = 4 then (b.setClkState n 0).outPllDone (n - 3) else b.setClkState n 0 := by
  simp only [Block.pllSlewDone, Block.clkSlewDone, slews, if_true, true_and]

/-- Settles O1: each command takes the branch of its ADPLL that acts, and `pllAct` takes the same change to the domain. -/
theorem pllLossFailureAndRelock : Obligations.PllLossFailureAndRelock := by
  refine ⟨?_, ?_, ?_, ?_, ?_, ?_⟩
  · intro n s live runs
    exact next_of_runLive (·.pllUnlock n.val) rfl live (pllAct_congr n.val (clkLoss_running (b := s.start) runs))
  · intro n band ns s live seeks
    exact next_of_runLive (·.pllLock n.val band.toNat ns.toNat) rfl live (pllAct_congr n.val (clkLock_sequence (b := s.start) seeks _ _))
  · intro n s live seeks late own more
    have fails := (clkTimeout_fails (b := s.start) seeks late).trans ((clkFail_own (b := s.start) own).trans (if_neg (Nat.not_le.mpr more)))
    exact next_of_runLive (·.pllTimeout n.val) rfl live (pllAct_congr n.val fails)
  · intro n s live seeks late own last
    have fails := (clkTimeout_fails (b := s.start) seeks late).trans ((clkFail_own (b := s.start) own).trans (if_pos (Nat.le_of_eq last.symm)))
    rw [show s.start.attempts n.val = 3 from last] at fails
    exact next_of_runLive (·.pllTimeout n.val) rfl live (pllAct_congr n.val fails)
  · intro n s live waits due
    exact next_of_runLive (·.clkRetry n.val) rfl live (clkRetry_due (b := s.start) waits due)
  · intro n s live slews
    exact next_of_runLive (·.pllSlewDone n.val) rfl live (pllSlewDone_slewing (b := s.start) slews)

end Sys2Proof
end

section
/-! PROOFS. The statements of self-calibration and of the auxiliary converter: the course of a run, the commits, and the converter's own events. -/
namespace Sys2Proof
open Machine

/-! ## The course of a run (R429 to R435) -/

theorem calReading_due {b : Block} {t : Nat} (auto : b.f K.CAL_CFG t 0 0 = 1) (beat : b.beat % 1024 = 0) (first : (b.cal t).readAt ≠ b.beat + 1) :
    b.calReading t =
      let x := b.cal t
      let heat := b.calSource t
      let c := b.pf K.CAL_TEMP t 15 0 (uns 16 heat)
      c.setCal t { x with
        readAt := b.beat + 1
        runDue := x.runDue || (c.calMay t && c.calRun t == 0 &&
          (match x.last with | some l => decide (8 * c.f K.CAL_CFG t 14 9 < (heat - l).natAbs) | none => true))
        interpDue := x.interpDue || (match x.commitAt with
          | some at' => decide (c.f K.CAL_INTERP_DT 0x40 5 0 ≤ (heat - at').natAbs)
          | none => !x.points.isEmpty)
        heats := if c.calRun t = 1 ∨ c.calRun t = 2 then heat :: x.heats else x.heats } := by
  have acts : ¬ (b.f K.CAL_CFG t 0 0 = 0 ∨ b.beat % 1024 ≠ 0 ∨ (b.cal t).readAt = b.beat + 1) := by simp [auto, beat, first]
  exact if_neg acts

theorem calBlock_counts {b : Block} {t : Nat} {st : CalStats} (gathers : b.calRun t = 2) (good : st.bad = false) (signal : 2 ^ 62 ≤ st.power * 10000) :
    b.calBlock t st =
      let x := b.cal t
      let n := b.f K.CAL_BLOCKS t 6 0 + 1
      ((b.setCal t { x with
          since := b.clock
          sums := { il := if x.sums.il.isEmpty then st.il else (x.sums.il.zip st.il).map (fun (p, q) => addLists p q)
                    dc := addLists x.sums.dc st.dc
                    iq := addLists x.sums.iq st.iq } }).pf K.CAL_BLOCKS t 6 0 n).setCalRun t (if 64 ≤ n then 3 else 2) := by
  have runs : ¬ (b.calRun t ≠ 1 ∧ b.calRun t ≠ 2) := by simp [gathers]
  have notWaiting : ¬ b.calRun t = 1 := by simp [gathers]
  have counts : (!st.bad && decide (2 ^ 62 ≤ st.power * 10000)) = true := by rw [good, decide_eq_true signal]; rfl
  simp only [Block.calBlock, if_neg runs, if_neg notWaiting, counts, if_true]

theorem calBlock_silent {b : Block} {t : Nat} {st : CalStats} (gathers : b.calRun t = 2) (silent : st.bad = true ∨ st.power * 10000 < 2 ^ 62)
    (first : (b.cal t).told = false) :
    b.calBlock t st =
      let c := b.setCalRun t 1
      (c.setCal t { b.cal t with since := b.clock, told := true }).raise 945 (beBytes 1 t ++ beBytes 1 (c.f K.CAL_BLOCKS t 6 0)) := by
  have runs : ¬ (b.calRun t ≠ 1 ∧ b.calRun t ≠ 2) := by simp [gathers]
  have notWaiting : ¬ b.calRun t = 1 := by simp [gathers]
  have quiet : (!st.bad && decide (2 ^ 62 ≤ st.power * 10000)) = false := by
    rcases silent with bad | weak
    · rw [bad]; rfl
    · rw [decide_eq_false (Nat.not_le.mpr weak), Bool.and_false]
  simp only [Block.calBlock, if_neg runs, if_neg notWaiting, quiet, first, Bool.false_eq_true, if_false]

/-- What the values of a run are checked on: the run counts, and its temperature is the latest (R431). -/
def calRan (b : Block) (t : Nat) : Block :=
  (b.tick.firnSet (ki K.CAL_RUNS t) ((b.val (ki K.CAL_RUNS t) + 1) % 2 ^ 32)).setCal t { b.cal t with last := some (b.cal t).runTemp }

theorem calComputed_computing {b : Block} {t : Nat} (computes : b.calRun t = 3) :
    b.calComputed t =
      let x := b.cal t
      let v := b.calEstimate t
      let c := calRan b t
      if calPlausible x.base v (!x.points.isEmpty) then
        let d := (c.setCal t { c.cal t with points := calStore x.points (4 * c.f K.CAL_CFG t 14 9) x.runTemp v }).calShow t
        (((d.firnSet (ki K.CAL_LAST_OK_W0 t) d.now.w0).firnSet (ki K.CAL_LAST_OK_W1 t) d.now.w1).firnSet (ki K.CAL_LAST_OK_TEMP t)
          (uns 16 x.runTemp)).calEnd t 1 x.runTemp
      else (c.firnSet (ki K.CAL_FAILS t) ((c.val (ki K.CAL_FAILS t) + 1) % 2 ^ 32)).calEnd t 2 x.runTemp :=
  if_neg (not_not_intro computes)

theorem calTimeout_due {b : Block} {t : Nat} (waits : b.calRun t = 1) (limited : b.f K.CAL_WAIT_MAX 0x40 15 0 ≠ 0)
    (due : b.f K.CAL_WAIT_MAX 0x40 15 0 * secCycles ≤ (b.cal t).waited + (b.clock - (b.cal t).since)) :
    b.calTimeout t = b.calEnd t 4 (b.cal t).runTemp :=
  if_pos ⟨waits, limited, due⟩

/-- Settles O2: each command takes the branch that acts. -/
theorem calibrationRunProceeds : Obligations.CalibrationRunProceeds := by
  refine ⟨?_, ?_, ?_, ?_, ?_, ?_⟩
  · intro t s live auto beat first
    exact (next_of_runLive (·.calReading t.val) rfl live (calReading_due (b := s.start) auto beat first)).trans rfl
  · intro t st s live gathers good signal
    exact next_of_runLive (·.calBlock t.val st) rfl live (calBlock_counts (b := s.start) gathers good signal)
  · intro t st s live gathers silent first
    exact next_of_runLive (·.calBlock t.val st) rfl live (calBlock_silent (b := s.start) gathers silent first)
  · intro t s live computes plausible
    exact next_of_runLive (·.calComputed t.val) rfl live ((calComputed_computing (b := s.start) computes).trans (if_pos plausible))
  · intro t s live computes implausible
    have fails := (calComputed_computing (b := s.start) computes).trans (if_neg (Bool.eq_false_iff.mp implausible))
    exact next_of_runLive (·.calComputed t.val) rfl live fails
  · intro t s live waits limited due
    exact next_of_runLive (·.calTimeout t.val) rfl live (calTimeout_due (b := s.start) waits limited due)

/-! ## Commits (R436, R437) -/

theorem calCommitRun_due {b : Block} {t : Nat} (quiet : b.calBusy (b.calGroup t) = false) (ready : ∃ j, j ∈ b.calGroup t ∧ b.calRun j = 4)
    (free : ∀ j, j ∈ b.calGroup t → b.calRun j = 4 → b.f K.CAL_CFG j 1 1 = 0) : b.calCommitRun t = b.calCommitAll (b.calGroup t) 0 := by
  obtain ⟨j, member, done⟩ := ready
  have some' : ((b.calGroup t).filter (fun j => b.calRun j == 4)).isEmpty = false := by
    rw [List.isEmpty_eq_false_iff_exists_mem]
    exact ⟨j, List.mem_filter.mpr ⟨member, beq_iff_eq.mpr done⟩⟩
  have unheld : ((b.calGroup t).filter (fun j => b.calRun j == 4)).any (fun j => b.f K.CAL_CFG j 1 1 == 1) = false := by
    rw [List.any_eq_false]
    intro k ready
    obtain ⟨member, done⟩ := List.mem_filter.mp ready
    simp [free k member (beq_iff_eq.mp done)]
  simp [Block.calCommitRun, quiet, some', unheld]

theorem calCommitInterp_due {b : Block} {t : Nat} (due : ∃ j, j ∈ b.calGroup t ∧ (b.cal j).interpDue = true)
    (idle : ∀ j, j ∈ b.calGroup t → b.calRun j = 0) : b.calCommitInterp t = b.calCommitAll (b.calGroup t) 1 :=
  if_pos ⟨List.any_eq_true.mpr due, List.all_eq_true.mpr fun j member => beq_iff_eq.mpr (idle j member)⟩

/-! ## The auxiliary converter (R441 to R445) -/

theorem auxRefReady_settled {b : Block} (runs : b.dev = .thaw ∨ b.dev = .flow) (waits : b.auxReady = false)
    (settled : b.aux.refAt + (match b.f K.AUX_CFG 0 1 0 with | 0 => 6400000 | 1 => 1600000 | _ => 0) ≤ b.clock) :
    b.auxRefReady =
      let c := b.pf K.AUX_STATUS 0 0 0 1
      (c.raise 960 (beBytes 1 1 ++ beBytes 1 (c.f K.AUX_CFG 0 1 0))).auxCalBegin := by
  have rises : b.setAuxReady true = (b.pf K.AUX_STATUS 0 0 0 1).raise 960 (beBytes 1 1 ++ beBytes 1 (b.f K.AUX_CFG 0 1 0)) := by
    rw [Block.setAuxReady, waits, if_neg Bool.false_ne_true]
    rfl
  have same : (b.pf K.AUX_STATUS 0 0 0 1).f K.AUX_CFG 0 1 0 = b.f K.AUX_CFG 0 1 0 := f_pf_ne _ _ _ _ _ _ _ _ _ _ (by decide)
  have acts : b.auxRefReady = (b.setAuxReady true).auxCalBegin := if_pos ⟨runs, by rw [waits]; rfl, settled⟩
  rw [acts, rises]
  dsimp only
  rw [same]

theorem auxBegin_due {b : Block} (on : b.isOn bAUX 0 = true) (ready : b.auxReady = true) (noCal : b.aux.phase = 0) (idle : b.aux.start = none)
    (locked : b.clkLocked 5 = true) (due : if b.auxTriggered then b.auxRunning = true else b.beat % 625 = 0) :
    b.auxBegin = b.setAux { b.aux with start := some (b.beat, b.clock), results := 0 } :=
  if_pos ⟨on, ready, noCal, by rw [idle]; rfl, locked, due⟩

/-- The code of a channel and its overrange bit are shown (R444). -/
def auxShow (b : Block) (e : (Int × Bool) × Nat) : Block :=
  let c := (b.pf K.AUX_DATA (auxCh e.2) 23 0 (uns 24 e.1.1)).pf K.AUX_DATA (auxCh e.2) 24 24 (b2n e.1.2)
  if e.1.2 then c.inc K.AUX_OVR_COUNT (auxCh e.2) 1 else c

/-- The result whose codes are shown is numbered and dated, `mods` clocks after the start at `beat`, and its overranges are reported (R442, R444). -/
def auxNumbered (c : Block) (codes : List (Int × Bool)) (beat mods : Nat) : Block :=
  let seq := (c.val K.AUX_DATA_SEQ + 1) % 2 ^ 64
  let t := timeAt beat (mods * 3200000 : Nat) c.quality
  let c := ((c.pv K.AUX_DATA_SEQ 0 seq).pf K.AUX_DATA_TIME_W0 0 47 0 t.w0).pf K.AUX_DATA_TIME_W1 0 47 0 t.w1
  let mask := maskOf 8 (fun i => (codes.getD i (0, false)).2)
  let c := if mask = 0 then c else c.raise 962 (beBytes 1 mask ++ zeros 7 ++ beBytes 8 seq)
  if c.auxTriggered then c.auxStopFilter
  else (c.setAux { c.aux with results := c.aux.results + 1 }).pf K.AUX_STATUS 0 2 2 1

/-- Codes that are shown leave the converter's settings. -/
theorem auxD_shown (l : List ((Int × Bool) × Nat)) (b : Block) : (l.foldl auxShow b).auxD = b.auxD := by
  induction l generalizing b with
  | nil => rfl
  | cons e rest ih =>
    have data : ki K.AUX_CFG 0 ≠ ki K.AUX_DATA (auxCh e.2) := by simp only [ki, auxCh, K.AUX_CFG, K.AUX_DATA]; omega
    have ovr : ki K.AUX_CFG 0 ≠ ki K.AUX_OVR_COUNT (auxCh e.2) := by simp only [ki, auxCh, K.AUX_CFG, K.AUX_OVR_COUNT]; omega
    have shown : (auxShow b e).f K.AUX_CFG 0 16 4 = b.f K.AUX_CFG 0 16 4 := by
      unfold auxShow
      split
      · rw [f_inc_ne _ _ _ _ _ _ _ _ ovr, f_pf_ne _ _ _ _ _ _ _ _ _ _ data, f_pf_ne _ _ _ _ _ _ _ _ _ _ data]
      · rw [f_pf_ne _ _ _ _ _ _ _ _ _ _ data, f_pf_ne _ _ _ _ _ _ _ _ _ _ data]
    exact (ih _).trans (congrArg (· + 1) shown)

theorem auxResult_due {b : Block} {beat at' : Nat} (started : b.aux.start = some (beat, at')) (on : b.isOn bAUX 0 = true)
    (settled : b.auxPassed at' ((b.auxN + b.auxL - 1 + b.aux.results * b.auxL) * b.auxD + 4) = true) (raws : List Int) :
    b.auxResult raws =
      let codes := (List.range 8).map (fun i => b.auxCode i (raws.getD i 0))
      auxNumbered (codes.zipIdx.foldl auxShow b) codes beat ((b.auxN + b.auxL - 1 + b.aux.results * b.auxL) * b.auxD) := by
  have counts : ¬ ((!b.isOn bAUX 0) = true ∨ (!b.auxPassed at' ((b.auxN + b.auxL - 1 + b.aux.results * b.auxL) * b.auxD + 4)) = true) := by
    simp [on, settled]
  have shown := auxD_shown ((List.range 8).map (fun i => b.auxCode i (raws.getD i 0))).zipIdx b
  simp only [Block.auxResult, started, if_neg counts]
  rw [← shown]
  rfl

/-- A phase of self-calibration that is due ends. -/
theorem auxPhaseDone_due {b : Block} (runs : b.aux.phase ≠ 0) (locked : b.clkLocked 5 = true)
    (due : b.auxPassed b.aux.phaseAt ((b.auxN + 16) * b.auxD + 4) = true) :
    ¬ (b.aux.phase = 0 ∨ (!b.clkLocked 5) = true ∨ (!b.auxPassed b.aux.phaseAt ((b.auxN + 16) * b.auxD + 4)) = true) := by
  simp [runs, locked, due]

theorem auxPhaseDone_early {b : Block} (early : b.aux.phase = 1 ∨ b.aux.phase = 2) (locked : b.clkLocked 5 = true)
    (due : b.auxPassed b.aux.phaseAt ((b.auxN + 16) * b.auxD + 4) = true) (raws : List Int) :
    b.auxPhaseDone raws = b.setAux { b.aux with phase := b.aux.phase + 1, phaseAt := b.clock, codes := b.aux.codes ++ [raws] } := by
  have acts := auxPhaseDone_due (by omega) locked due
  have more : b.aux.phase < 3 := by omega
  simp only [Block.auxPhaseDone, if_neg acts, if_pos more]

/-- Folds of functions that agree on the members of a list. -/
theorem foldl_eq_of_members {α β : Type} {g h : β → α → β} {l : List α} (same : ∀ c, ∀ i ∈ l, g c i = h c i) (b : β) :
    l.foldl g b = l.foldl h b := by
  induction l generalizing b with
  | nil => rfl
  | cons i l ih => rw [List.foldl_cons, List.foldl_cons, same b i List.mem_cons_self, ih fun c j member => same c j (List.mem_cons_of_mem i member)]

/-- A mask over the places of a list that a function fills is the mask over the function. -/
theorem maskOf_map_range {α : Type} (n : Nat) (f : Nat → α) (d : α) (p : α → Bool) :
    maskOf n (fun i => p (((List.range n).map f).getD i d)) = maskOf n (fun i => p (f i)) := by
  refine foldl_eq_of_members (fun a i member => ?_) 0
  have below : i < n := List.mem_range.mp member
  simp [below]

/-- A fold over the places and values that a function fills. -/
theorem foldl_zipIdx_map_range {α β : Type} (n : Nat) (f : Nat → α) (g : β → α × Nat → β) (b : β) :
    ((List.range n).map f).zipIdx.foldl g b = (List.range n).foldl (fun b i => g b (f i, i)) b := by
  have places : ((List.range n).map f).zipIdx = (List.range n).map (fun i => (f i, i)) := List.ext_getElem (by simp) (by simp)
  rw [places, List.foldl_map]

theorem auxPhaseDone_last {b : Block} (last : b.aux.phase = 3) (locked : b.clkLocked 5 = true)
    (due : b.auxPassed b.aux.phaseAt ((b.auxN + 16) * b.auxD + 4) = true) (raws : List Int) :
    b.auxPhaseDone raws =
      let get (p i : Nat) : Int := ((b.aux.codes ++ [raws]).getD p []).getD i 0
      let off (i : Nat) : Int := rndEven (get 0 i) 65536
      let gain (i : Nat) : Int := if 0 < get 1 i - get 2 i then rndEven (2 ^ 57) (get 1 i - get 2 i).toNat else 0
      let ok (i : Nat) : Bool := decide ((off i).natAbs ≤ 2 ^ 20) && decide (122880 ≤ gain i) && decide (gain i ≤ 139264)
      let bad := maskOf 8 (fun i => !ok i)
      let c := if bad ≠ 0 then b
        else (List.range 8).foldl (fun b i =>
          (b.firnSet (ki K.AUX_SC_OFFSET (auxCh i)) (uns 24 (off i))).firnSet (ki K.AUX_SC_GAIN (auxCh i)) (gain i).toNat) b
      ((c.setAux { c.aux with phase := 0, codes := [] }).pf K.AUX_STATUS 0 1 1 0).raise 961 (beBytes 1 (b2n (bad != 0)) ++ beBytes 1 bad) := by
  have acts := auxPhaseDone_due (by omega) locked due
  have none : ¬ b.aux.phase < 3 := by omega
  simp only [Block.auxPhaseDone, if_neg acts, if_neg none, maskOf_map_range 8 _ _ (fun r : Int × Int × Bool => !r.2.2), foldl_zipIdx_map_range]

/-- Settles O3: each commit and each event of the converter takes the branch that acts. -/
theorem calibrationCommitsAndAuxConverter : Obligations.CalibrationCommitsAndAuxConverter := by
  refine ⟨?_, ?_, ?_, ?_, ?_, ?_, ?_⟩
  · intro t s live first quiet ready free
    exact next_of_runBoundary (fun b => (b.calCommitRun t.val).lanesApply) rfl live first
      (congrArg Block.lanesApply (calCommitRun_due (b := s.start) quiet ready free))
  · intro t s live first due idle
    exact next_of_runBoundary (fun b => (b.calCommitInterp t.val).lanesApply) rfl live first
      (congrArg Block.lanesApply (calCommitInterp_due (b := s.start) due idle))
  · intro s runs waits settled
    exact next_of_runLive (·.auxRefReady) rfl ((live_iff s.blk).mpr runs) (auxRefReady_settled (b := s.start) runs waits settled)
  · intro s live first on ready noCal idle locked due
    exact next_of_runBoundary (·.auxBegin) rfl live first (auxBegin_due (b := s.start) on ready noCal idle locked due)
  · intro raws beat at' s live started on settled
    exact next_of_runLive (·.auxResult (raws.map BitVec.toInt)) rfl live (auxResult_due (b := s.start) started on settled _)
  · intro raws s live early locked due
    exact next_of_runLive (·.auxPhaseDone (raws.map BitVec.toInt)) rfl live (auxPhaseDone_early (b := s.start) early locked due _)
  · intro raws s live last locked due
    exact next_of_runLive (·.auxPhaseDone (raws.map BitVec.toInt)) rfl live (auxPhaseDone_last (b := s.start) last locked due _)

end Sys2Proof
end

section
/-! PROOFS. The statements of the words of a Weaver core: what the issue of a legal word leaves, by its format; and the words that repeat, wait,
branch and read or write control words. -/
namespace Sys2Proof
open Machine

/-! ## Formats (R319) -/

/-- The format of an operation's words: 0 PAR, 1 IMM, 2 CTL. -/
def formatOf : WOp → Nat
  | .ldi | .ldis | .iaddi | .andi | .ori | .xori | .cmpi | .addp => 1
  | .br | .call | .jmp | .rti | .loop | .loopd | .rep | .repd | .waitb | .crd | .cwr => 2
  | _ => 0

theorem formatOf_parOp {n : Nat} {op : WOp} (h : parOp n = some op) : formatOf op = 0 := by
  unfold parOp at h
  split at h <;> cases h <;> rfl

theorem formatOf_immOp {n : Nat} {op : WOp} (h : immOp n = some op) : formatOf op = 1 := by
  unfold immOp at h
  split at h <;> cases h <;> rfl

theorem formatOf_ctlOp {n : Nat} {op : WOp} (h : ctlOp n = some op) : formatOf op = 2 := by
  unfold ctlOp at h
  split at h <;> cases h <;> rfl

/-- A word of an operation has its format. -/
theorem format_of_wordOp {w : Nat} {op : WOp} (h : wordOp w = some op) : bits w 63 62 = formatOf op := by
  unfold wordOp at h
  split at h
  · next par => rw [par, formatOf_parOp h]
  · next imm => rw [imm, formatOf_immOp h]
  · next ctl => rw [ctl, formatOf_ctlOp h]
  · cases h

/-! ## The issue of a legal word (R297) -/

/-- A core that may issue the legal word at its program counter issues it by its format. -/
theorem coreIssue_of_issues {s : Machine.State} {c : Fin 64} {w : Nat} {op : WOp} (h : Issues s c w) (is : wordOp w = some op) (cap : Nat)
    (rd : BankRead) (cwRead : Nat → Nat) :
    (s.start.core c.val).issue cap rd cwRead =
      let x := s.blk.core c.val
      if formatOf op = 2 then x.issueCtl cap cwRead op w
      else if formatOf op = 0 then
        { core := x.step1 (opResults op x w ++ moveResults rd x (move0 w) ++ moveResults rd x (move1 w)),
          stores := moveStore x (move0 w) ++ moveStore x (move1 w) }
      else { core := x.step1 (opResults op x w) } := by
  obtain ⟨-, -, -, -, -, loaded, legal⟩ := h
  obtain ⟨v, found, rfl⟩ := Option.map_eq_some_iff.mp loaded
  have found : tfind (s.start.core c.val).prog (s.start.core c.val).pc.toNat = some v := found
  have legal : (s.start.core c.val).illegal v.toNat = false := legal
  simp only [Core.issue, found, legal, is, isCtl, format_of_wordOp is, beq_iff_eq, Bool.false_eq_true, if_false]
  rfl

theorem crdAddr_of_ne {w : Nat} {op : WOp} (is : wordOp w = some op) (other : op ≠ .crd) : crdAddr w = none := by
  rw [crdAddr, if_neg]
  rw [is]
  exact fun e => other (Option.some.inj e)

/-- A store of a core leaves the life of every function, and the core as it waits. -/
theorem coreStores_frame (l : List (Nat × Nat × Nat)) (b : Block) (c : Nat) :
    (∀ blk i, (l.foldl (fun b t => b.coreStore c t.1 t.2.1 t.2.2) b).isOn blk i = b.isOn blk i) ∧
      ((l.foldl (fun b t => b.coreStore c t.1 t.2.1 t.2.2) b).core c).abortDue = (b.core c).abortDue := by
  induction l generalizing b with
  | nil => exact ⟨fun _ _ => rfl, rfl⟩
  | cons t rest ih =>
    obtain ⟨lives, aborts⟩ := ih (b.coreStore c t.1 t.2.1 t.2.2)
    exact ⟨lives, aborts.trans (abortDue_setCore _ _ _)⟩

/-- What a word that does not halt its core leaves: its core, what its CRD reads, its stores, the measure of the handler that it ends, and what
waited for its end. -/
theorem issue_word {s : Machine.State} {c : Fin 64} {w : Nat} {y : Core} {stores : List (Nat × Nat × Nat)} (h : Issues s c w) (m : Mem)
    (issued : (s.start.core c.val).issue (s.start.repCap c.val) (fun bank i => s.start.rdWord48 m c.val bank i) (s.start.cwRead c.val) =
      { core := y, stores := stores }) :
    s.start.issue m c.val = wordEnd
      (let b := stores.foldl (fun b t => b.coreStore c.val t.1 t.2.1 t.2.2)
        ((crdAddr w).elim (coreAfter s c y) (fun a => (coreAfter s c y).cwReads c.val a))
      if y.waitb && (s.blk.core c.val).bh then
        let n := (s.blk.core c.val).hcycles
        (b.pv K.WVR_LAST_CYCLES c.val (n % 2 ^ 32)).pv K.WVR_MAX_CYCLES c.val (max (b.val (ki K.WVR_MAX_CYCLES c.val)) (n % 2 ^ 32))
      else b) c := by
  have may := mayIssue_of_issues h
  obtain ⟨-, -, -, -, -, loaded, -⟩ := h
  have read : (s.start.wordAt c.val).bind crdAddr = crdAddr w := by rw [show s.start.wordAt c.val = some w from loaded, Option.bind_some]
  simp only [Block.issue, may, issued, read, Bool.not_true, Bool.false_eq_true, if_false]
  cases crdAddr w <;> rfl

/-- A word that neither halts its core nor puts it into WAITB, and is no CRD and no CWR, leaves its core and its stores. -/
theorem issue_plain {s : Machine.State} {c : Fin 64} {w : Nat} {op : WOp} {y : Core} {stores : List (Nat × Nat × Nat)} (h : Issues s c w)
    (is : wordOp w = some op) (notRead : op ≠ .crd) (waits : coreWaits y = coreWaits (s.blk.core c.val)) (m : Mem)
    (issued : (s.start.core c.val).issue (s.start.repCap c.val) (fun bank i => s.start.rdWord48 m c.val bank i) (s.start.cwRead c.val) =
      { core := y, stores := stores }) :
    s.start.issue m c.val = stores.foldl (fun b t => b.coreStore c.val t.1 t.2.1 t.2.2) (coreAfter s c y) := by
  rw [issue_word h m issued, crdAddr_of_ne is notRead]
  obtain ⟨-, on, -, waitb, abort, -, -⟩ := h
  simp only [coreWaits, Prod.mk.injEq] at waits
  obtain ⟨awake, aborts, -⟩ := waits
  have unmeasured : (y.waitb && (s.blk.core c.val).bh) = false := by rw [awake, waitb, Bool.false_and]
  obtain ⟨lives, holds⟩ := coreStores_frame stores (coreAfter s c y) c.val
  have quiet : ((coreAfter s c y).core c.val).abortDue = false := by rw [coreAfter_core]; exact aborts.trans abort
  rw [unmeasured, if_neg Bool.false_ne_true]
  exact wordEnd_of_on ((lives _ _).trans on) (holds.trans quiet)

theorem runOp_mine {w : Nat} {op : WOp} (is : wordOp w = some op) : (wordOp w == some op) = true := by rw [is, beq_self_eq_true]

/-- A PAR word of some row does its operation and both moves. -/
theorem next_of_parWord {o : Host.Outcome Machine.State Fault Refusal} {s : Machine.State} {c : Fin 64} {w : Nat} {row : Nat → Bool} {op : WOp}
    {l : List Flight} (h : Issues s c w) (is : wordOp w = some op) (par : formatOf op = 0) (run : o = s.runWord c row) (mine : row w = true)
    (gives : opResults op (s.blk.core c.val) w = l) : o = .next (s.finish (parAfter s c w l)) := by
  have notRead : op ≠ .crd := fun crd => absurd (crd ▸ par) (by decide)
  have notCtl : formatOf op ≠ 2 := fun ctl => absurd (par.symm.trans ctl) (by decide)
  refine next_of_runWord h run mine (issue_plain h is notRead (coreWaits_step1 _ _) s.mem ?_)
  rw [coreIssue_of_issues h is, ← gives]
  exact (if_neg notCtl).trans (if_pos par)

/-- A PAR word of the row of its operation. -/
theorem next_of_par {o : Host.Outcome Machine.State Fault Refusal} {s : Machine.State} {c : Fin 64} {w : Nat} {op : WOp} {l : List Flight}
    (h : Issues s c w) (is : wordOp w = some op) (run : o = s.runOp c op) (par : formatOf op = 0)
    (gives : opResults op (s.blk.core c.val) w = l) : o = .next (s.finish (parAfter s c w l)) :=
  next_of_parWord h is par run (runOp_mine is) gives

/-- An IMM word does its operation. -/
theorem next_of_imm {o : Host.Outcome Machine.State Fault Refusal} {s : Machine.State} {c : Fin 64} {w : Nat} {op : WOp} {l : List Flight}
    (h : Issues s c w) (is : wordOp w = some op) (run : o = s.runOp c op) (imm : formatOf op = 1)
    (gives : opResults op (s.blk.core c.val) w = l) : o = .next (s.finish (immAfter s c w l)) := by
  have notRead : op ≠ .crd := fun crd => absurd (crd ▸ imm) (by decide)
  have notCtl : formatOf op ≠ 2 := fun ctl => absurd (imm.symm.trans ctl) (by decide)
  have notPar : formatOf op ≠ 0 := fun par => absurd (imm.symm.trans par) (by decide)
  refine next_of_runWord h run (runOp_mine is) (issue_plain (stores := []) h is notRead (coreWaits_step1 _ _) s.mem ?_)
  rw [coreIssue_of_issues h is, ← gives]
  exact (if_neg notCtl).trans (if_neg notPar)

/-- A CTL word other than CRD that neither writes a control word nor halts leaves its core as `issueCtl` makes it. -/
theorem next_of_ctl {o : Host.Outcome Machine.State Fault Refusal} {s : Machine.State} {c : Fin 64} {w : Nat} {op : WOp} {y : Core}
    (h : Issues s c w) (is : wordOp w = some op) (run : o = s.runOp c op) (ctl : formatOf op = 2) (notRead : op ≠ .crd)
    (issued : (s.blk.core c.val).issueCtl (s.start.repCap c.val) (s.start.cwRead c.val) op w = { core := y })
    (waits : coreWaits y = coreWaits (s.blk.core c.val)) : o = .next (s.finish (coreAfter s c y)) := by
  refine next_of_runWord h run (runOp_mine is) (issue_plain (stores := []) h is notRead waits s.mem ?_)
  rw [coreIssue_of_issues h is]
  exact (if_pos ctl).trans issued

/-! ## The data, accumulator, special-register and immediate words (R328 to R330) -/

/-- Settles O17: each word is one of its format, and its results are those of its operation. -/
theorem weaverArithmeticWords : Obligations.WeaverArithmeticWords :=
  ⟨fun _ _ _ h is => next_of_par h is rfl rfl rfl, fun _ _ _ h is => next_of_par h is rfl rfl rfl,
    fun _ _ _ h is => next_of_par h is rfl rfl rfl, fun _ _ _ h is => next_of_par h is rfl rfl rfl,
    fun _ _ _ h is => next_of_par h is rfl rfl rfl, fun _ _ _ h is => next_of_par h is rfl rfl rfl,
    fun _ _ _ h is => next_of_imm h is rfl rfl rfl, fun _ _ _ h is => next_of_par h is rfl rfl rfl,
    fun _ _ _ h is => next_of_par h is rfl rfl rfl⟩

/-- Settles O18: each word is one of its format, and its results are those of its operation. -/
theorem weaverLogicAndCompareWords : Obligations.WeaverLogicAndCompareWords :=
  ⟨fun _ _ _ h is => next_of_par h is rfl rfl rfl, fun _ _ _ h is => next_of_par h is rfl rfl rfl,
    fun _ _ _ h is => next_of_par h is rfl rfl rfl, fun _ _ _ h is => next_of_par h is rfl rfl rfl,
    fun _ _ _ h is => next_of_par h is rfl rfl rfl, fun _ _ _ h is => next_of_par h is rfl rfl rfl,
    fun _ _ _ h is => next_of_par h is rfl rfl rfl, fun _ _ _ h is => next_of_imm h is rfl rfl rfl,
    fun _ _ _ h is => next_of_imm h is rfl rfl rfl, fun _ _ _ h is => next_of_imm h is rfl rfl rfl,
    fun _ _ _ h is => next_of_imm h is rfl rfl rfl, fun _ _ _ h is => next_of_par h is rfl rfl rfl,
    fun _ _ _ h is => next_of_par h is rfl rfl rfl, fun _ _ _ h is => next_of_par h is rfl rfl rfl,
    fun _ _ _ h is => next_of_par h is rfl rfl rfl⟩

/-- Settles O19: each word is one of its format, and its results are those of its operation. -/
theorem weaverShiftWords : Obligations.WeaverShiftWords :=
  ⟨fun _ _ _ h is => next_of_par h is rfl rfl rfl, fun _ _ _ h is => next_of_par h is rfl rfl rfl,
    fun _ _ _ h is => next_of_par h is rfl rfl rfl, fun _ _ _ h is => next_of_par h is rfl rfl rfl,
    fun _ _ _ h is => next_of_par h is rfl rfl rfl, fun _ _ _ h is => next_of_par h is rfl rfl rfl,
    fun _ _ _ h is => next_of_par h is rfl rfl rfl, fun _ _ _ h is => next_of_par h is rfl rfl rfl,
    fun _ _ _ h is => next_of_par h is rfl rfl rfl, fun _ _ _ h is => next_of_par h is rfl rfl rfl,
    fun _ _ _ h is => next_of_par h is rfl rfl rfl⟩

/-- Settles O20: each word is one of its format, and its results are those of its operation. -/
theorem weaverAccumulatorWords : Obligations.WeaverAccumulatorWords :=
  ⟨fun _ _ _ h is => next_of_par h is rfl rfl rfl, fun _ _ _ h is => next_of_par h is rfl rfl rfl,
    fun _ _ _ h is => next_of_par h is rfl rfl rfl, fun _ _ _ h is => next_of_par h is rfl rfl rfl,
    fun _ _ _ h is => next_of_par h is rfl rfl rfl, fun _ _ _ h is => next_of_par h is rfl rfl rfl,
    fun _ _ _ h is => next_of_par h is rfl rfl rfl, fun _ _ _ h is => next_of_par h is rfl rfl rfl,
    fun _ _ _ h is => next_of_par h is rfl rfl rfl, fun _ _ _ h is => next_of_par h is rfl rfl rfl,
    fun _ _ _ h is => next_of_par h is rfl rfl rfl, fun _ _ _ h is => next_of_par h is rfl rfl rfl,
    fun _ _ _ h is => next_of_par h is rfl rfl rfl, fun _ _ _ h is => next_of_par h is rfl rfl rfl⟩

/-- Settles O21: each word is one of its format, and its results are those of its operation. -/
theorem weaverSpecialWordsAndImmediates : Obligations.WeaverSpecialWordsAndImmediates :=
  ⟨fun _ _ _ h is => next_of_par h is rfl rfl rfl, fun _ _ _ h is => next_of_par h is rfl rfl rfl,
    fun _ _ _ h is => next_of_par h is rfl rfl rfl, fun _ _ _ h is => next_of_imm h is rfl rfl rfl,
    fun _ _ _ h is => next_of_imm h is rfl rfl rfl, fun _ _ _ h is => next_of_imm h is rfl rfl rfl⟩

/-! ## Moves, branches and loops (R321, R322, R331, R332) -/

/-- A word with a move is a PAR word. -/
theorem formatOf_of_hasMove {w : Nat} {op : WOp} {dir : Move → Bool} (is : wordOp w = some op) (moves : hasMove dir w = true) : formatOf op = 0 := by
  rw [hasMove, Bool.and_eq_true, beq_iff_eq] at moves
  rw [← format_of_wordOp is, moves.1]

theorem coreWaits_branch (x : Core) (t : Nat) : coreWaits (x.branch t) = coreWaits x := coreWaits_loopCount x

theorem coreWaits_stepTo (x : Core) (t : Nat) (l : List Flight) : coreWaits (x.stepTo t l) = coreWaits x :=
  (coreWaits_advance _ l).trans (coreWaits_branch x t)

/-- A word that leads to its target where its condition holds and else goes on, leaves what its core waits for. -/
theorem coreWaits_taken (x : Core) (cond : Bool) (t : Nat) (l : List Flight) :
    coreWaits (if cond then x.stepTo t l else x.step1 []) = coreWaits x := by
  cases cond
  · exact coreWaits_step1 x []
  · exact coreWaits_stepTo x t l

/-- Settles O22: a word with a move is a PAR word, and the others step to their target or on, with their results in flight. -/
theorem weaverMovesAndBranches : Obligations.WeaverMovesAndBranches :=
  ⟨fun _ _ _ _ h moves is => next_of_parWord h is (formatOf_of_hasMove is moves) rfl moves rfl,
    fun _ _ _ _ h moves is => next_of_parWord h is (formatOf_of_hasMove is moves) rfl moves rfl,
    fun _ _ _ h is => next_of_ctl h is rfl rfl (by decide) rfl (coreWaits_taken ..),
    fun _ _ _ h is => next_of_ctl h is rfl rfl (by decide) rfl (coreWaits_taken ..),
    fun _ _ _ h is => next_of_ctl h is rfl rfl (by decide) rfl (coreWaits_taken ..),
    fun _ _ _ h is => next_of_ctl h is rfl rfl (by decide) rfl (coreWaits_stepTo ..),
    fun _ _ _ h is => next_of_ctl h is rfl rfl (by decide) rfl (coreWaits_step1 ..),
    fun _ _ _ h is => next_of_ctl h is rfl rfl (by decide) rfl (coreWaits_step1 ..)⟩

/-! ## REP, WAITB, CRD and CWR (R299, R303, R309, R331, R333) -/

/-- The count of a legal REP is not 0 (R331). -/
theorem repCount_pos {s : Machine.State} {c : Fin 64} {w : Nat} (h : Issues s c w) (rep : wordOp w = some .rep) : 0 < bits w 23 8 := by
  obtain ⟨-, -, -, -, -, -, legal⟩ := h
  have ctl : bits w 63 62 = 2 := format_of_wordOp rep
  have rep : ctlOp (bits w 61 56) = some .rep := by simpa [wordOp, ctl] using rep
  refine Nat.pos_of_ne_zero fun zero => ?_
  simp [Core.illegal, ctl, ctlLegal, rep, zero] at legal

theorem issueRep_repeats {x : Core} {cap n : Nat} (within : n ≤ cap) (some' : 0 < n) :
    x.issueRep cap n = { core := { x.step1 [] with rep := some n } } := by
  rw [Core.issueRep, if_neg (Nat.not_lt.mpr within), if_neg (Nat.ne_of_gt some')]

theorem issueRep_skips (x : Core) (cap : Nat) :
    x.issueRep cap 0 = { core := { x.step1 [] with pc := (x.step1 []).pc + 1 } } := by
  rw [Core.issueRep, if_neg (Nat.not_lt_zero cap), if_pos rfl]

/-- A core whose word halts it, halts at it (R316). -/
theorem issue_halts {b : Block} {c : Nat} {m : Mem} {cause : Nat} (may : b.mayIssue c = true)
    (halts : ((b.core c).issue (b.repCap c) (fun bank i => b.rdWord48 m c bank i) (b.cwRead c)).halt = some cause) :
    b.issue m c = b.coreHalt c cause := by
  simp only [Block.issue, may, halts, Bool.not_true, Bool.false_eq_true, if_false]

/-- What a CRD reads on the side leaves a core ON or not, and as it waits. -/
theorem cwReads_frame (b : Block) (c a : Nat) :
    (b.cwReads c a).isOn bWVR c = b.isOn bWVR c ∧ ((b.cwReads c a).core c).abortDue = (b.core c).abortDue := by
  unfold Block.cwReads
  split
  · exact ⟨isOn_setCore .., abortDue_setCore ..⟩
  · split <;> exact ⟨rfl, rfl⟩

/-- What the issue of a CRD leaves: its core, and what the read does on the side. -/
theorem issue_read {s : Machine.State} {c : Fin 64} {w a : Nat} {y : Core} (h : Issues s c w) (reads : crdAddr w = some a)
    (waits : coreWaits y = coreWaits (s.blk.core c.val)) (m : Mem)
    (issued : (s.start.core c.val).issue (s.start.repCap c.val) (fun bank i => s.start.rdWord48 m c.val bank i) (s.start.cwRead c.val) =
      { core := y }) : s.start.issue m c.val = (coreAfter s c y).cwReads c.val a := by
  rw [issue_word (stores := []) h m issued, reads]
  obtain ⟨-, on, -, waitb, abort, -, -⟩ := h
  simp only [coreWaits, Prod.mk.injEq] at waits
  obtain ⟨awake, aborts, -⟩ := waits
  have unmeasured : (y.waitb && (s.blk.core c.val).bh) = false := by rw [awake, waitb, Bool.false_and]
  obtain ⟨lives, holds⟩ := cwReads_frame (coreAfter s c y) c.val a
  have quiet : ((coreAfter s c y).core c.val).abortDue = false := by rw [coreAfter_core]; exact aborts.trans abort
  rw [unmeasured, if_neg Bool.false_ne_true]
  exact wordEnd_of_on (lives.trans on) (holds.trans quiet)

/-- A control word that only holds a value. -/
theorem cwWrite_holds {a : Nat} (holds : [0x20, 0x21, 0x22, 0x28, 0x29, 0x2A, 0x2C, 0x2D, 0x35, 0x36, 0x3C, 0x3E].contains a = true) (b : Block) (m : Mem)
    (c v : Nat) : b.cwWrite m c a v = b.setCore c { b.core c with cw := tset (b.core c).cw a v } := by
  simp only [List.contains_cons, List.contains_nil, Bool.or_eq_true, beq_iff_eq, Bool.or_false] at holds
  rcases holds with rfl | rfl | rfl | rfl | rfl | rfl | rfl | rfl | rfl | rfl | rfl | rfl <;> rfl

/-- The core that WAITB leaves (R303). -/
def coreWaiting (x : Core) : Core :=
  { x.step1 [] with waitb := true, pc := x.pc, late := false, sr := BitVec.ofNat 16 (setBits (x.step1 []).sr.toNat 5 5 0) }

/-- What the issue of WAITB leaves: the core idles, and a beat handler that it ends is measured. -/
theorem issue_waitb {s : Machine.State} {c : Fin 64} {w : Nat} (h : Issues s c w) (is : wordOp w = some .waitb) (m : Mem) :
    s.start.issue m c.val = wordEnd
      (let b := coreAfter s c (coreWaiting (s.blk.core c.val))
      if (s.blk.core c.val).bh then
        let n := (s.blk.core c.val).hcycles
        (b.pv K.WVR_LAST_CYCLES c.val (n % 2 ^ 32)).pv K.WVR_MAX_CYCLES c.val (max (b.val (ki K.WVR_MAX_CYCLES c.val)) (n % 2 ^ 32))
      else b) c := by
  rw [issue_word (y := coreWaiting (s.blk.core c.val)) (stores := []) h m (coreIssue_of_issues h is _ _ _), crdAddr_of_ne is (by decide)]
  rfl

/-- Nothing follows a WAITB where no overrun is to restart the core. -/
theorem wordEnd_waiting {s : Machine.State} {c : Fin 64} {w : Nat} {b : Block} (h : Issues s c w) (stays : b.isOn bWVR c.val = s.blk.isOn bWVR c.val)
    (same : b.core c.val = (coreAfter s c (coreWaiting (s.blk.core c.val))).core c.val) : wordEnd b c = b := by
  obtain ⟨-, on, -, -, abort, -, -⟩ := h
  have held : (coreWaiting (s.blk.core c.val)).abortDue = (s.blk.core c.val).abortDue := (step1_frame _ _).2.1
  refine wordEnd_of_on (stays.trans on) ?_
  rw [same, coreAfter_core]
  exact held.trans abort

/-- A measure of a core's handler leaves it ON or not as it was. -/
theorem isOn_pv_measure (b : Block) (c v n : Nat) :
    ((b.pv K.WVR_LAST_CYCLES c v).pv K.WVR_MAX_CYCLES c n).isOn bWVR c = b.isOn bWVR c :=
  (isOn_setVal _ (by simp only [mkKey, ki, bWVR, K.WVR_MAX_CYCLES]; omega) _).trans
    (isOn_setVal _ (by simp only [mkKey, ki, bWVR, K.WVR_LAST_CYCLES]; omega) _)

theorem wordEnd_measured {s : Machine.State} {c : Fin 64} {w : Nat} (h : Issues s c w) (v n : Nat) :
    wordEnd (((coreAfter s c (coreWaiting (s.blk.core c.val))).pv K.WVR_LAST_CYCLES c.val v).pv K.WVR_MAX_CYCLES c.val n) c =
      ((coreAfter s c (coreWaiting (s.blk.core c.val))).pv K.WVR_LAST_CYCLES c.val v).pv K.WVR_MAX_CYCLES c.val n :=
  wordEnd_waiting h (isOn_pv_measure ..) rfl

theorem maxCycles_pv_last (b : Block) (c v : Nat) : (b.pv K.WVR_LAST_CYCLES c v).val (ki K.WVR_MAX_CYCLES c) = b.val (ki K.WVR_MAX_CYCLES c) :=
  val_pv_ne _ _ _ _ _ (by simp only [ki, K.WVR_MAX_CYCLES, K.WVR_LAST_CYCLES]; omega)

/-- Settles O23: REP, WAITB and CRD leave what `issueCtl` makes of them, a REP above REP_CAP halts, and a word that only holds a value is stored. -/
theorem weaverRepeatsWaitAndControlWords : Obligations.WeaverRepeatsWaitAndControlWords := by
  refine ⟨?_, ?_, ?_, ?_, ?_, ?_, ?_, ?_⟩
  · intro c w s h rep within
    exact next_of_ctl h rep rfl rfl (by decide) (issueRep_repeats within (repCount_pos h rep)) (coreWaits_step1 ..)
  · intro c w s h rep above
    refine next_of_runWord h rfl (runOp_mine rep) (issue_halts (mayIssue_of_issues h) ?_)
    rw [coreIssue_of_issues h rep]
    exact congrArg Issued.halt (if_pos above)
  · intro c w s h repd counts within
    exact next_of_ctl h repd rfl rfl (by decide) (issueRep_repeats within counts) (coreWaits_step1 ..)
  · intro c w s h repd zero
    refine next_of_ctl h repd rfl rfl (by decide) ?_ (coreWaits_step1 ..)
    have skips := issueRep_skips (s.blk.core c.val) (s.start.repCap c.val)
    rwa [← zero] at skips
  · intro c w s h waitb handler
    refine next_of_runWord h rfl (runOp_mine waitb) ((issue_waitb h waitb s.mem).trans ?_)
    rw [handler, if_neg Bool.false_ne_true]
    exact wordEnd_waiting h rfl rfl
  · intro c w s h waitb handler
    refine next_of_runWord h rfl (runOp_mine waitb) ((issue_waitb h waitb s.mem).trans ?_)
    simp only [handler, if_true, wordEnd_measured h, maxCycles_pv_last]
    rfl
  · intro c w s h crd
    have reads : crdAddr w = some (bits w 51 38) := if_pos crd
    exact next_of_runWord h rfl (runOp_mine crd) (issue_read h reads (coreWaits_step1 ..) s.mem (coreIssue_of_issues h crd _ _ _))
  · intro c w s h cwr holds
    have acts := (issue_cwr h cwr s.mem).trans (congrArg (wordEnd · c) (cwWrite_holds holds ..))
    obtain ⟨-, on, -, -, abort, -, -⟩ := id h
    refine next_of_runWord h rfl (runOp_mine cwr) (acts.trans (wordEnd_of_on on ?_))
    rw [abortDue_setCore, coreAfter_core]
    exact (step1_frame _ _).2.1.trans abort

/-! ## The events of a core (R300 to R316) -/

theorem setCore_setCore (b : Block) (c : Nat) (x y : Core) : (b.setCore c x).setCore c y = b.setCore c y :=
  congrArg (fun cores => { b with cores := cores }) (tset_tset b.cores c x y)

/-- The halt of a core stops it first, and then shows the fault at its word (R316). -/
theorem coreHalt_eq (b : Block) (c cause : Nat) :
    b.coreHalt c cause =
      let q := b.wvrQuiesce c
      let h := q.setCore c { q.core c with halted := true }
      h.wvrFaultFree c cause true (h.core c).pc.toNat := by
  simp only [Block.coreHalt, setCore_core]

theorem interrupt_taken {b : Block} {c l : Nat} (on : b.isOn bWVR c = true) (runs : (b.core c).halted = false) (noRep : (b.core c).rep = none)
    (noDelay : (b.core c).delay = none) (abort : (b.core c).abortDue = false) (noBeat : (b.core c).waitb = false ∨ (b.core c).beatDue = false)
    (line : (b.core c).lineDue = some l) :
    b.interrupt c =
      let y := (b.core c).landAll
      b.setCore c { y with
        ira := y.pc, isr := y.sr, sr := BitVec.ofNat 16 (setBits y.sr.toNat 0 0 0),
        pc := BitVec.ofNat 14 (bits (b.val (ki K.WVR_IVEC c)) (14 * l + 13) (14 * l)),
        pend := tset y.pend l (tget 0 y.pend l - 1), waitb := false, fromWaitb := y.fromWaitb || y.waitb, hcycles := y.hcycles + 4 } := by
  have takes : b.wvrTakes c = true := by rw [Block.wvrTakes, show (b.life bWVR c == lOn) = true from on, Bool.or_true]
  have early : ((b.core c).waitb && (b.core c).beatDue) = false := by
    rcases noBeat with awake | none
    · rw [awake, Bool.false_and]
    · rw [none, Bool.and_false]
  simp only [Block.interrupt, takes, runs, noRep, noDelay, early, abort, line, Bool.not_true, Option.isSome_none, Bool.or_self, Bool.false_eq_true, if_false]

theorem beatTake_waiting {b : Block} {c : Nat} (on : b.isOn bWVR c = true) (runs : (b.core c).halted = false) (abort : (b.core c).abortDue = false)
    (waits : (b.core c).waitb = true) (due : (b.core c).beatDue = true) : b.beatTake c = b.beatStart c := by
  have takes : b.wvrTakes c = true := by rw [Block.wvrTakes, show (b.life bWVR c == lOn) = true from on, Bool.or_true]
  simp [Block.beatTake, takes, runs, abort, waits, due]

theorem beatTake_aborted {b : Block} {c : Nat} (on : b.isOn bWVR c = true) (runs : (b.core c).halted = false) (abort : (b.core c).abortDue = true)
    (noRep : (b.core c).rep = none) : b.beatTake c = b.abortStart c := by
  have takes : b.wvrTakes c = true := by rw [Block.wvrTakes, show (b.life bWVR c == lOn) = true from on, Bool.or_true]
  simp [Block.beatTake, takes, runs, abort, noRep]

/-- A descriptor that passes its check moves its data, and its status and line follow (R311). -/
theorem dmaDone_ok {b : Block} {c : Nat} {x : DmaDesc} {t : List DmaDesc} (next : (b.core c).dma = x :: t)
    (passes : (b.setCore c { b.core c with dma := t }).dmaCheck x = .ok) (m : Mem) :
    b.dmaDone m c =
      let r := (b.setCore c { b.core c with dma := t }).dmaMove m c x
      let r := r.setCore c { r.core c with dmaTag := x.tag, dmaStatus := 0 }
      if 1 ≤ bits x.len 30 28 ∧ bits x.len 30 28 ≤ 4 then r.pendLine c (bits x.len 30 28 - 1) else r := by
  simp only [Block.dmaDone, next, passes, Block.dmaStat, if_true]
  rfl

/-- A descriptor that fails its check only shows its status, with a fault (R311). -/
theorem dmaDone_failed {b : Block} {c : Nat} {x : DmaDesc} {t : List DmaDesc} {e : Status} (next : (b.core c).dma = x :: t) (fails : e ≠ .ok)
    (check : (b.setCore c { b.core c with dma := t }).dmaCheck x = e) (m : Mem) :
    b.dmaDone m c =
      (b.setCore c { b.core c with dma := t, dmaTag := x.tag, dmaStatus := e.num }).wvrFault c 4 false (b.core c).last.toNat e.num := by
  simp only [Block.dmaDone, next, check, Block.dmaStat, fails, if_false, setCore_setCore, setCore_core]

theorem coreRequest_busy {b : Block} {c : Nat} (busy : (b.core c).reqBusy = true) (m : Mem) :
    b.coreRequest m c =
      let w (k : Nat) : Nat := b.rdWord48 m c 0 (((b.core c).reqAddr + k) % 16384)
      let len := min (w 3 % 2 ^ 32) 98304
      b.serve m (w 0 % 2 ^ 16) (.core c) ⟨0, 0, 0, false, 0, 0, 0⟩ (w 1 + w 2 % 2 ^ 16 * 2 ^ 48)
        (((List.range (ceilDiv len 6)).map (fun k => beBytes 6 (w (4 + k)))).flatten.take len) := by
  simp only [Block.coreRequest, busy, Bool.not_true, Bool.false_eq_true, if_false]

/-- The oldest record that has waited for 40 us is answered ST_BUSY and counted (R314). -/
theorem svcTimeout_due {b : Block} {c : Nat} {r : SvcRec} {t : List SvcRec} (oldest : (b.core c).svcRecs = r :: t) (due : r.since + 64000 ≤ b.clock) :
    b.svcTimeout c = ((b.setCore c { b.core c with svcRecs := t }).inc K.WVR_SVC_LATE c 1).heldFill r.reply r.place 0x10 [] := by
  have due : r.since + svcLimit ≤ b.clock := due
  simp only [Block.svcTimeout, oldest, due, if_true]
  rfl

/-- Settles O25: an illegal and an unloaded word halt the core at it, and each other event takes its branch that acts. -/
theorem weaverEventsOfACore : Obligations.WeaverEventsOfACore := by
  refine ⟨?_, ?_, ?_, ?_, ?_, ?_, ?_, ?_, ?_⟩
  · intro c w s live may loaded illegal
    obtain ⟨v, found, rfl⟩ := Option.map_eq_some_iff.mp loaded
    have found : tfind (s.start.core c.val).prog (s.start.core c.val).pc.toNat = some v := found
    have illegal : (s.start.core c.val).illegal v.toNat = true := illegal
    have meets : s.start.wordIllegal c.val = true := by simp [Block.wordIllegal, Block.wordAt, found, illegal]
    have halts : s.start.issue s.mem c.val = s.start.coreHalt c.val 1 := issue_halts may (by simp only [Core.issue, found, illegal, if_true]; rfl)
    exact next_of_runLive_mem (fun m b => if b.wordIllegal c.val then b.issue m c.val else b) rfl live ((if_pos meets).trans (halts.trans (coreHalt_eq ..)))
  · intro c s live may unloaded
    have found : tfind (s.start.core c.val).prog (s.start.core c.val).pc.toNat = none := Option.map_eq_none_iff.mp unloaded
    have meets : (s.start.wordAt c.val).isNone = true := by simp [Block.wordAt, found]
    have halts : s.start.issue s.mem c.val = s.start.coreHalt c.val 3 := issue_halts may (by simp only [Core.issue, found]; rfl)
    exact next_of_runLive_mem (fun m b => if (b.wordAt c.val).isNone then b.issue m c.val else b) rfl live ((if_pos meets).trans (halts.trans (coreHalt_eq ..)))
  · intro c l s live on runs noRep noDelay abort noBeat line
    exact next_of_runLive (·.interrupt c.val) rfl live (interrupt_taken (b := s.start) on runs noRep noDelay abort noBeat line)
  · intro c s live on runs abort waits due
    exact next_of_runLive (·.beatTake c.val) rfl live (beatTake_waiting (b := s.start) on runs abort waits due)
  · intro c s live on runs abort noRep
    exact next_of_runLive (·.beatTake c.val) rfl live (beatTake_aborted (b := s.start) on runs abort noRep)
  · intro c x t s live next passes
    exact next_of_runLive_mem (fun m b => b.dmaDone m c.val) rfl live (dmaDone_ok (b := s.start) next passes s.mem)
  · intro c x t e s live next fails check
    exact next_of_runLive_mem (fun m b => b.dmaDone m c.val) rfl live (dmaDone_failed (b := s.start) next fails check s.mem)
  · intro c s live busy
    exact next_of_runLive_mem (fun m b => b.coreRequest m c.val) rfl live (coreRequest_busy (b := s.start) busy s.mem)
  · intro c r t s live oldest due
    exact next_of_runLive (·.svcTimeout c.val) rfl live (svcTimeout_due (b := s.start) oldest due)

end Sys2Proof
end

section
/-! PROOFS. The statements of the network: links, neighbours and flow control, and the codec's blocks; and what refutes that of the streams. -/
namespace Sys2Proof
open Machine

/-! ## Links and neighbours (R336, R337, R341) -/

theorem netLink_changes {b : Block} {l : Nat} {up : Bool} (other : b.linkUp l ≠ up) :
    b.netLink l up =
      ((b.pf K.NET_STATUS l 0 0 (b2n up)).pf K.NET_STATUS l 3 1 (b.netCode l)).raise (780 + l) (beBytes 1 (b2n up) ++ beBytes 1 (b.netCode l)) :=
  if_neg other

/-- An answer or a request reaches an interface whose link is up. -/
theorem arrives_up {b : Block} {l : Nat} (up : b.linkUp l = true) : ¬ (!b.linkUp l) = true := by simp [up]

theorem netReply_known {b : Block} {l ip : Nat} {v6 : Bool} {x : Neigh} (up : b.linkUp l = true) (known : b.neigh l v6 ip = some x) (mac : Nat) :
    b.netReply l v6 ip mac = (b.netRx l).setNeigh { x with mac := some mac, asked := false, since := b.clock } := by
  simp only [Block.netReply, if_neg (arrives_up up), known]

theorem netRetry_due {b : Block} {l ip : Nat} {v6 : Bool} {x : Neigh} (known : b.neigh l v6 ip = some x) (asked : x.asked = true)
    (due : x.since + 1600000000 ≤ b.clock) : b.netRetry l v6 ip = (b.netAsk l v6 ip).setNeigh { x with since := b.clock } := by
  simp only [Block.netRetry, known, asked, due, and_self, if_true]

theorem netRefresh_due {b : Block} {l ip : Nat} {v6 : Bool} {x : Neigh} (known : b.neigh l v6 ip = some x) (answered : x.asked = false)
    (due : x.since + 96000000000 ≤ b.clock) : b.netRefresh l v6 ip = (b.netAsk l v6 ip).setNeigh { x with asked := true, since := b.clock } := by
  simp only [Block.netRefresh, known, answered, due, Bool.not_false, and_self, if_true]

/-- A received frame leaves the settings of its interface. -/
theorem netCfg_netRx (b : Block) (l hi lo : Nat) : (b.netRx l).f K.NET_CFG l hi lo = b.f K.NET_CFG l hi lo :=
  f_inc_ne _ _ _ _ _ _ _ _ (by simp only [ki, K.NET_CFG, K.NET_RX_FRAMES]; omega)

theorem netPfc_pauses {b : Block} {l mask : Nat} (up : b.linkUp l = true) (port : l ≠ mgmtPort) (pfc : b.f K.NET_CFG l 1 1 = 1)
    (priority : bit mask (b.f K.NET_CFG l 4 2) = true) (quanta : Nat) :
    b.netPfc l mask quanta =
      let c := b.netRx l
      { c with pfc := tset c.pfc l (c.clock + ceilDiv (quanta * 512 * 1600) (c.netRate l)) } := by
  have priority : bit mask ((b.netRx l).f K.NET_CFG l 4 2) = true := by rw [netCfg_netRx, priority]
  exact (if_neg (arrives_up up)).trans ((if_pos ⟨port, pfc⟩).trans (if_pos priority))

theorem netDropped_up {b : Block} {l : Nat} (up : b.linkUp l = true) (corr uncorr : Nat) :
    b.netDropped l corr uncorr = ((b.netDrop l).inc K.NET_FEC_CORR l corr).inc K.NET_FEC_UNCORR l uncorr :=
  if_pos up

/-- Settles O26: each event takes the branch that acts. -/
theorem networkLinksAndNeighbours : Obligations.NetworkLinksAndNeighbours := by
  refine ⟨?_, ?_, ?_, ?_, ?_, ?_, ?_, ?_, ?_, ?_⟩
  · intro l s live runs down
    have changes := netLink_changes (b := s.start) (l := l.val) (up := true) (fun up => absurd (down.symm.trans up) (by decide))
    exact next_of_runLive (·.netUp l.val) rfl live ((if_pos runs).trans changes)
  · intro l s live up
    have changes := netLink_changes (b := s.start) (l := l.val) (up := false) (fun down => absurd (up.symm.trans down) (by decide))
    exact next_of_runLive (·.netDown l.val) rfl live changes
  · intro l mac ip target s live up
    exact next_of_runLive (·.netArp l.val mac.toNat ip.toNat target.toNat) rfl live (if_neg (arrives_up (b := s.start) up))
  · intro l mac ip target s live up
    exact next_of_runLive (·.netSolicit l.val mac.toNat ip.toNat target.toNat) rfl live (if_neg (arrives_up (b := s.start) up))
  · intro l v6 ip target data s live up
    exact next_of_runLive (·.netEcho l.val v6 ip.toNat target.toNat data) rfl live (if_neg (arrives_up (b := s.start) up))
  · intro l v6 ip mac x s live up known
    exact next_of_runLive (·.netReply l.val v6 ip.toNat mac.toNat) rfl live (netReply_known (b := s.start) up known _)
  · intro l v6 ip x s live known asked due
    exact next_of_runLive (·.netRetry l.val v6 ip.toNat) rfl live (netRetry_due (b := s.start) known asked due)
  · intro l v6 ip x s live known answered due
    exact next_of_runLive (·.netRefresh l.val v6 ip.toNat) rfl live (netRefresh_due (b := s.start) known answered due)
  · intro l mask quanta s live up pfc priority
    have port : l.val ≠ mgmtPort := Nat.ne_of_lt l.isLt
    exact next_of_runLive (·.netPfc l.val mask.toNat quanta.toNat) rfl live (netPfc_pauses (b := s.start) up port pfc priority _)
  · intro l corrected uncorrected s live up
    exact next_of_runLive (·.netDropped l.val corrected.toNat uncorrected.toNat) rfl live (netDropped_up (b := s.start) up _ _)

/-! ## An event packet that waits keeps a stream packet back (R83) -/

/-- Stream 0 is ON over UDP with one block of a core ready, its interface 0 is ON with its link up, and a session that was last heard on that
interface has a closed event packet. -/
def eventsAhead : Machine.State :=
  let b : Block := { sessions := [{ id := 1, h2e := [], e2h := [], iface := 0, closed := [⟨[]⟩] }],
                     strs := [(0, { items := [{ kind := 8, index := 0, hdr := [], data := [] }] })] }
  let b := ((b.setVal (mkKey bSTR 0 2) lOn).setVal (mkKey bNET 0 2) lOn).pf K.NET_STATUS 0 0 0 1
  ⟨b.pf K.STR_CFG 0 2 0 2, [], []⟩

/-- The frames that a command sends. -/
def framesSent : Host.Outcome Machine.State Fault Refusal → Nat
  | .next t => (t.blk.sent.filter (fun x => match x with | .frame _ _ _ _ => true | _ => false)).length
  | _ => 0

theorem framesSent_eventsAhead : framesSent (exec (.streamPacketSend 0) eventsAhead) = 0 := by decide

/-- Refutes O27: its second clause has the stream send its packet while an event packet waits on the interface, which leaves before any stream
packet (R83), so the model holds the stream's packet back. -/
theorem not_streamsAndRoce : ¬ Obligations.StreamsAndRoce := by
  rintro ⟨-, sends, -⟩
  have stated := sends 0 ((eventsAhead.start.strRead [] 0).strSkip 0 64) { kind := 8, index := 0, hdr := [], data := [] } [] eventsAhead
    (by decide) (by decide) rfl (by decide) (by decide) (by decide) (by decide) (by decide) (by decide) (by decide) (by decide) (by decide)
  have none := framesSent_eventsAhead
  rw [stated] at none
  exact absurd none (by decide)

/-! ## Blocks of the codec (R356 to R362) -/

theorem codecDone_block {b : Block} {k : Nat} {j : Job} (found : tfind b.jobs k = some j) (m : Mem) (mismatch : Bool) :
    b.codecDone m k mismatch =
      let r := codeBlock j.w j.pred j.data mismatch
      let c := ({ b with jobs := tdel b.jobs k }).inc K.CDC_BLOCKS k 1
      let c := if r.2 then c.inc K.CDC_RAW_BLOCKS k 1 else c
      let c := if mismatch then
          (c.inc K.CDC_VERIFY_FAIL k 1).raise 800 (beBytes 1 k ++ beBytes 1 j.stream ++ zeros 6 ++ beBytes 8 j.index)
        else c
      let x := c.str j.stream
      let items := x.items.map (fun it => if !it.ready && it.index == j.index then { it with data := it.flags ++ r.1, ready := true } else it)
      let gains := ((c.wireTotal j.stream j.data.length (64 * (j.w / 4)), c.wireTotal j.stream (32 + r.1.length) 1) :: x.gains).take 1024
      let u : Nat := (gains.map (·.1)).foldl (· + ·) 0
      let v : Nat := (gains.map (·.2)).foldl (· + ·) 0
      ((c.setStr j.stream { x with items := items, gains := gains }).pf K.STR_WIRE_GAIN j.stream 15 0
        (min 65535 (rndEven (u * 256) (max 1 v)).toNat)).strRead m j.stream := by
  simp only [Block.codecDone, found]

/-- A frame that the interfaces' clock lets through reaches the decompressors (R337). -/
theorem decPacket_reaches {b : Block} {l : Nat} (usable : b.netUsable l = true) (port : l < 16) : ¬ ((!b.netUsable l) = true ∨ 16 ≤ l) := by
  simp [usable, port]

theorem decPacket_native {b : Block} {l port : Nat} {bytes : List Byte} {ds : List Nat} (usable : b.netUsable l = true) (below : l < 16)
    (mine : ds = which 2 (fun d => b.isOn bCDC (0x10 + d) && b.f K.CDC_DEC_CFG (0x10 + d) 16 16 == 0 && b.f K.CDC_DEC_CFG (0x10 + d) 15 0 == port))
    (some' : ds ≠ []) (magic : beNat (bytes.take 3) = 0x465953) (version : bytes.getD 3 0 = 1) (kind : bytes.getD 4 0 = 2) (long : 64 ≤ bytes.length) :
    b.decPacket l port bytes = ds.foldl (fun b d => b.decFragment d bytes) (b.netRx l) := by
  have native : (beNat (bytes.take 3) == 0x465953 && (bytes.getD 3 0) == 1 && (bytes.getD 4 0) == 2 && decide (64 ≤ bytes.length)) = true := by
    rw [magic, version, kind, decide_eq_true long]
    rfl
  have taken : ¬ (ds.isEmpty = true ∨ (!true) = true) := by simp [some']
  simp only [Block.decPacket, if_neg (decPacket_reaches usable below), native, ← mine, if_neg taken]

theorem decPacket_none {b : Block} {l port : Nat} (usable : b.netUsable l = true) (below : l < 16)
    (none : which 2 (fun d => b.isOn bCDC (0x10 + d) && b.f K.CDC_DEC_CFG (0x10 + d) 16 16 == 0 && b.f K.CDC_DEC_CFG (0x10 + d) 15 0 == port) = [])
    (bytes : List Byte) : b.decPacket l port bytes = b.netDrop l := by
  simp only [Block.decPacket, if_neg (decPacket_reaches usable below), none, List.isEmpty_nil, true_or, if_true]

theorem decBlock_length {b c : Block} {m : Mem} {d first : Nat} {l : List Byte} (on : b.isOn bCDC (0x10 + d) = true)
    (next : b.decNext m d = some (c, first, l)) (wrong : beNat ((l.drop 2).take 2) = 0 ∨ 4096 < beNat ((l.drop 2).take 2)) :
    b.decBlock m d = c.decFail d 1 := by
  simp only [Block.decBlock, on, next, wrong, Bool.not_true, Bool.false_eq_true, if_false, if_true]

theorem decBlock_output {b c : Block} {m : Mem} {d first : Nat} {l : List Byte} {vals : List (Int × Int)} (on : b.isOn bCDC (0x10 + d) = true)
    (next : b.decNext m d = some (c, first, l)) (some' : 0 < beNat ((l.drop 2).take 2)) (few : beNat ((l.drop 2).take 2) ≤ 4096)
    (gain : beNat ((l.drop 2).take 2) * 16 ≤ c.f K.CDC_DEC_CFG (0x10 + d) 28 17 * (16 + beNat ((l.drop 4).take 4) + beNat ((l.drop 8).take 4)))
    (decodes : decodeBlock l = some vals) (ordered : ∀ e, (c.dec d).next = some e → e ≤ first) (unlimited : c.f K.CDC_OUT_LIMIT (0x10 + d) 47 0 = 0) :
    b.decBlock m d = c.decEmit d first vals := by
  have lengthOk : ¬ (beNat ((l.drop 2).take 2) = 0 ∨ 4096 < beNat ((l.drop 2).take 2)) := by omega
  simp only [Block.decBlock, on, next, if_neg lengthOk, if_neg (Nat.not_lt.mpr gain), decodes, unlimited, Bool.not_true, Bool.false_eq_true, if_false,
    ne_eq, not_true_eq_false, false_and]
  cases e : (c.dec d).next with
  | none => rfl
  | some e' => exact if_neg (by simp [ordered e' e])

/-- Settles O28: each command takes the branch that acts. -/
theorem codecBlocks : Obligations.CodecBlocks := by
  refine ⟨?_, ?_, ?_, ?_, ?_⟩
  · intro k mismatch j s live found
    exact next_of_runLive_mem (fun m b => b.codecDone m k.val mismatch) rfl live (codecDone_block (b := s.start) found s.mem mismatch)
  · intro l port bytes ds s live usable mine some' magic version kind long
    exact next_of_runLive (·.decPacket l.val port.toNat bytes) rfl live
      (decPacket_native (b := s.start) usable l.isLt mine some' magic version kind long)
  · intro l port bytes s live usable none
    exact next_of_runLive (·.decPacket l.val port.toNat bytes) rfl live (decPacket_none (b := s.start) usable l.isLt none bytes)
  · intro d b first l s live on next wrong
    exact next_of_runLive_mem (fun m b => b.decBlock m d.val) rfl live (decBlock_length (b := s.start) on next wrong)
  · intro d b first l vals s live on next some' few gain decodes ordered unlimited
    exact next_of_runLive_mem (fun m b => b.decBlock m d.val) rfl live
      (decBlock_output (b := s.start) on next some' few gain decodes ordered unlimited)

end Sys2Proof
end

section
/-! PROOFS. The statements of the stimulus channels and the vector plane: the sequencer's items, host datagrams, the output and the ticks. -/
namespace Sys2Proof
open Machine

/-! ## The sequencer (R372 to R378) -/

/-- A channel plays: it is neither OFF nor STOPPING, and its playback has not ended. -/
theorem seqTake_acts {b : Block} {k : Nat} (on : b.isOff bSTM k = false) (goes : b.life bSTM k ≠ lStopping) (plays : (b.stim k).ended = false) :
    ¬ (b.isOff bSTM k = true ∨ b.life bSTM k = lStopping ∨ (b.stim k).ended = true) := by
  simp [on, goes, plays]

theorem seqTake_entry {s : Machine.State} {k : Nat} {b : Block} (on : s.blk.isOff bSTM k = false) (goes : s.blk.life bSTM k ≠ lStopping)
    (plays : (s.blk.stim k).ended = false) (run : b = s.start.stmRun s.mem k) (next : b.seqItem k = some .entry) :
    Block.seqTake s.mem s.start k .entry = b.seqEntry k := by
  simp only [Block.seqTake, if_neg (seqTake_acts (b := s.start) on goes plays), ← run, next, ne_eq, not_true_eq_false, if_false]

theorem seqTake_decision {s : Machine.State} {k : Nat} {b : Block} {p : Play} (on : s.blk.isOff bSTM k = false) (goes : s.blk.life bSTM k ≠ lStopping)
    (plays : (s.blk.stim k).ended = false) (run : b = s.start.stmRun s.mem k) (next : b.seqItem k = some .decision)
    (last : (b.stim k).plays.getLast? = some p) : Block.seqTake s.mem s.start k .decision = b.decide' k p := by
  simp only [Block.seqTake, if_neg (seqTake_acts (b := s.start) on goes plays), ← run, next, last, ne_eq, not_true_eq_false, if_false]

theorem seqTake_effect {s : Machine.State} {k : Nat} {b : Block} {p : Play} {j : JumpReq} (on : s.blk.isOff bSTM k = false)
    (goes : s.blk.life bSTM k ≠ lStopping) (plays : (s.blk.stim k).ended = false) (run : b = s.start.stmRun s.mem k)
    (next : b.seqItem k = some .effect) (last : (b.stim k).plays.getLast? = some p) (fixed : p.fixed = some j) :
    Block.seqTake s.mem s.start k .effect =
      (b.setStim k { b.stim k with plays := (b.stim k).plays.dropLast ++ [{ p with fixed := none }] }).jumpEffect k j := by
  simp only [Block.seqTake, if_neg (seqTake_acts (b := s.start) on goes plays), ← run, next, last, fixed, ne_eq, not_true_eq_false, if_false]
  rfl

theorem playBegin_plays {b : Block} {c : Nat} (long : bits (b.val (K.STM_SEG + bits (b.stim c).word 49 38 + stmStore * 65536)) 27 4 ≠ 0) (e left : Nat) :
    b.playBegin c e left =
      let x := b.stim c
      let seg := b.val (K.STM_SEG + bits x.word 49 38 + stmStore * 65536)
      let ratio := b.f (K.STM_SEG_RATIO + bits x.word 49 38) stmStore 31 0
      b.setStim c { x with
        plays := x.plays ++ [{ entry := e, seg := seg, ratio := ratio, start := x.fed, d := playLen (256 * bits seg 27 4) ratio, vec := x.vec, jumped := x.jump }]
        idle := 0, jump := none, left := left - 1, again := if 1 < left then some e else none, entry := bits x.word 13 2 } :=
  if_neg long

theorem seqEntry_again {b : Block} {c e : Nat} (again : (b.stim c).again = some e) : b.seqEntry c = b.playBegin c e (b.stim c).left := by
  simp only [Block.seqEntry, again]

theorem seqEntry_play {b : Block} {c : Nat} (first : (b.stim c).again = none) (few : (b.stim c).idle < 16)
    (kind : bits (b.val (K.STM_SEQ + (b.stim c).entry + stmStore * 65536)) 1 0 = 0) :
    b.seqEntry c =
      let x := b.stim c
      let q := b.val (K.STM_SEQ + x.entry + stmStore * 65536)
      (b.setStim c { x with word := q, vec := b.val (K.STM_SEQV + x.entry + stmStore * 65536) }).playBegin c x.entry (bits q 37 14 + 1) := by
  simp only [Block.seqEntry, first, if_neg (Nat.not_le.mpr few), kind]

theorem seqEntry_loop {b : Block} {c : Nat} (first : (b.stim c).again = none) (few : (b.stim c).idle < 16)
    (kind : bits (b.val (K.STM_SEQ + (b.stim c).entry + stmStore * 65536)) 1 0 = 1) :
    b.seqEntry c =
      let x := b.stim c
      let q := b.val (K.STM_SEQ + x.entry + stmStore * 65536)
      let n := tget 0 x.loops x.entry + 1
      if n < bits q 37 14 + 1 then b.setStim c { x with loops := tset x.loops x.entry n, entry := bits q 49 38, idle := x.idle + 1 }
      else b.setStim c { x with loops := tset x.loops x.entry 0, entry := bits q 13 2, idle := x.idle + 1 } := by
  simp only [Block.seqEntry, first, if_neg (Nat.not_le.mpr few), kind]

/-- An END entry ends playback with reason 1, and a seventeenth entry without a PLAY with reason 2. -/
theorem seqEntry_ends {b : Block} {c : Nat} (first : (b.stim c).again = none)
    (ends : bits (b.val (K.STM_SEQ + (b.stim c).entry + stmStore * 65536)) 1 0 = 2 ∨ 16 ≤ (b.stim c).idle) :
    b.seqEntry c =
      let x := b.stim c
      b.setStim c { x with endAt := some (x.fed, if 16 ≤ x.idle then 2 else 1, x.entry) } := by
  by_cases many : 16 ≤ (b.stim c).idle
  · simp only [Block.seqEntry, first, if_pos many]
  · have last := ends.resolve_right many
    simp only [Block.seqEntry, first, if_neg many, last]

/-! ## Host datagrams (R379) -/

/-- A received frame leaves the settings of a channel. -/
theorem stPack_netRx (b : Block) (l c : Nat) : (b.netRx l).stPack c = b.stPack c :=
  f_inc_ne _ _ _ _ _ _ _ _ (by simp only [ki, K.STM_CFG, K.NET_RX_FRAMES]; omega)

theorem stmDatagram_none {b : Block} {l port : Nat} (below : l < 16) (usable : b.netUsable l = true) (on : b.isOn bNET l = true)
    (none : which 4 (fun c => !b.isOff bSTM c && b.f K.STM_HOST_PORT c 15 0 == port) = []) (m : Mem) (bytes : List Byte) :
    b.stmDatagram m l port bytes = b.netDrop l := by
  have hears : ¬ (16 ≤ l ∨ (!b.netUsable l) = true ∨ (!b.isOn bNET l) = true) := by simp [below, usable, on]
  simp only [Block.stmDatagram, if_neg hears, none, List.head?_nil]

/-- A datagram reaches the first channel with its port. -/
theorem stmDatagram_first {b : Block} {l port c : Nat} {rest : List Nat} (below : l < 16) (usable : b.netUsable l = true) (on : b.isOn bNET l = true)
    (mine : which 4 (fun c => !b.isOff bSTM c && b.f K.STM_HOST_PORT c 15 0 == port) = c :: rest) (m : Mem) (bytes : List Byte) :
    b.stmDatagram m l port bytes =
      let f (o n : Nat) : Nat := beNat ((bytes.drop o).take n)
      let pb := packBytes (b.stPack c)
      let data := bytes.drop 16
      if bytes.length < 16 ∨ f 0 4 ≠ 0x46594801 ∨ f 4 1 ≠ c ∨ f 5 1 ≠ b.stPack c ∨ f 6 2 ≠ 0 ∨ data.length % pb ≠ 0 then
        (b.netRx l).inc K.STM_HOST_DROPPED c 1
      else
        let r := (b.netRx l).stmRun m c
        let x := r.stim c
        let first := f 8 8
        let n := data.length / pb
        let early := min n (x.hostNext - first)
        let lo := first + early
        let hi := min (first + n) (x.hostNext + r.fifoLen c)
        let d := r.inc K.STM_LATE_SAMPLES c early
        let d := if hi < first + n ∧ lo < first + n then d.inc K.STM_HOST_DROPPED c 1 else d
        if hi ≤ lo then d
        else
          let d := (List.range (hi - lo)).foldl (fun b i =>
            b.hbmStores (b.fifoAt c (lo + i)) ((data.drop ((early + i) * pb)).take pb)) d
          d.setStim c { x with have' := addRange lo hi x.have' } := by
  have hears : ¬ (16 ≤ l ∨ (!b.netUsable l) = true ∨ (!b.isOn bNET l) = true) := by simp [below, usable, on]
  simp only [Block.stmDatagram, if_neg hears, mine, List.head?_cons, stPack_netRx b l c]

/-- Settles O29: each item is taken once the sequencer stands at it, and a datagram takes the branch of the first channel with its port. -/
theorem stimulusSequencer : Obligations.StimulusSequencer := by
  refine ⟨?_, ?_, ?_, ?_, ?_, ?_, ?_, ?_, ?_⟩
  · intro k b e left s live on goes plays run next again remains long
    subst remains
    exact next_of_runLive_mem (fun m b => Block.seqTake m b k.val .entry) rfl live
      ((seqTake_entry on goes plays run next).trans ((seqEntry_again again).trans (playBegin_plays long _ _)))
  · intro k b q s live on goes plays run next first few word kind
    subst word
    exact next_of_runLive_mem (fun m b => Block.seqTake m b k.val .entry) rfl live
      ((seqTake_entry on goes plays run next).trans (seqEntry_play first few kind))
  · intro k b q s live on goes plays run next first few word kind
    subst word
    exact next_of_runLive_mem (fun m b => Block.seqTake m b k.val .entry) rfl live
      ((seqTake_entry on goes plays run next).trans (seqEntry_loop first few kind))
  · intro k b q s live on goes plays run next first word ends
    subst word
    exact next_of_runLive_mem (fun m b => Block.seqTake m b k.val .entry) rfl live
      ((seqTake_entry on goes plays run next).trans (seqEntry_ends first ends))
  · intro k b p s live on goes plays run next last
    exact next_of_runLive_mem (fun m b => Block.seqTake m b k.val .decision) rfl live (seqTake_decision on goes plays run next last)
  · intro k b p j s live on goes plays run next last fixed
    exact next_of_runLive_mem (fun m b => Block.seqTake m b k.val .effect) rfl live (seqTake_effect on goes plays run next last fixed)
  · intro l port bytes s live usable on none
    exact next_of_runLive_mem (fun m b => b.stmDatagram m l.val port.toNat bytes) rfl live
      (stmDatagram_none (b := s.start) l.isLt usable on none s.mem bytes)
  · intro l port bytes c rest s live usable on mine wrong
    have takes := stmDatagram_first (b := s.start) l.isLt usable on mine s.mem bytes
    refine next_of_runLive_mem (fun m b => b.stmDatagram m l.val port.toNat bytes) rfl live (takes.trans (if_pos ?_))
    rcases wrong with short | magic | channel | reserved
    · exact .inl short
    · exact .inr (.inl magic)
    · exact .inr (.inr (.inl channel))
    · exact .inr (.inr (.inr (.inr (.inl reserved))))
  · intro l port bytes data c first n pb rest b s live usable on mine long magic channel packing reserved data_eq pb_eq whole n_eq first_eq run next fits some'
    have takes := stmDatagram_first (b := s.start) l.isLt usable on mine s.mem bytes
    have packing : beNat ((bytes.drop 5).take 1) = s.start.stPack c := packing
    have pb_eq : pb = packBytes (s.start.stPack c) := pb_eq
    have good : ¬ (bytes.length < 16 ∨ beNat ((bytes.drop 0).take 4) ≠ 0x46594801 ∨ beNat ((bytes.drop 4).take 1) ≠ c ∨
        beNat ((bytes.drop 5).take 1) ≠ s.start.stPack c ∨ beNat ((bytes.drop 6).take 2) ≠ 0 ∨ (bytes.drop 16).length % packBytes (s.start.stPack c) ≠ 0) := by
      rw [← data_eq, ← pb_eq, List.drop_zero]
      rintro (short | wrong | wrong | wrong | wrong | wrong)
      · omega
      · exact wrong magic
      · exact wrong channel
      · exact wrong packing
      · exact wrong reserved
      · exact wrong whole
    have early : min n ((b.stim c).hostNext - first) = 0 := by omega
    have hi : min (first + n) ((b.stim c).hostNext + b.fifoLen c) = first + n := by omega
    have more : ¬ first + n ≤ first := by omega
    refine next_of_runLive_mem (fun m b => b.stmDatagram m l.val port.toNat bytes) rfl live (takes.trans ((if_neg good).trans ?_))
    simp only [← run, ← data_eq, ← pb_eq, ← n_eq, ← first_eq, early, hi, Nat.add_zero, Nat.zero_add, Nat.lt_irrefl, false_and, if_false, if_neg more,
      Nat.add_sub_cancel_left]

/-! ## The output (R374, R380, R381) -/

theorem stim_vecAt (b : Block) (m : Mem) (c pos : Nat) (p : Option Play) (under : Bool) (k : Nat) : (b.vecAt m c pos p under).stim k = b.stim k := by
  unfold Block.vecAt
  split <;> rfl

theorem stim_dacSend (b : Block) (c : Nat) (v : Int × Int) (k : Nat) : (b.dacSend c v).stim k = b.stim k := by
  unfold Block.dacSend
  dsimp only
  split <;> rfl

/-- The end of playback changes only what the channel plays. -/
theorem stim_stmEnd (b : Block) (c reason entry : Nat) : (b.stmEnd c reason entry).stim c = { b.stim c with ended := true, plays := [] } :=
  setStim_stim _ _ _

theorem stmRunEnd_none {b : Block} {c : Nat} (none : (b.stim c).run = none) : b.stmRunEnd c = b := by
  simp only [Block.stmRunEnd, none]

/-- An under-run sample changes only the run of them. -/
theorem stim_stmUnder (b : Block) (c pos cause : Nat) : ∃ run, (b.stmUnder c pos cause).stim c = { b.stim c with run := run } :=
  ⟨_, setStim_stim _ _ _⟩

/-- An under-run sample changes the state of no other function. -/
theorem isOn_vec_slip (b : Block) (c v pos cause : Nat) : ((b.pv K.STM_SLIP_TOTAL c v).stmUnder c pos cause).isOn bVEC 0 = b.isOn bVEC 0 := by
  have slips : mkKey bVEC 0 2 ≠ ki K.STM_SLIP_TOTAL c := by simp only [mkKey, ki, bVEC, K.STM_SLIP_TOTAL]; omega
  have samples : mkKey bVEC 0 2 ≠ ki K.STM_UNDERRUN_SAMPLES c := by simp only [mkKey, ki, bVEC, K.STM_UNDERRUN_SAMPLES]; omega
  have status : mkKey bVEC 0 2 ≠ ki K.STM_STATUS c := by simp only [mkKey, ki, bVEC, K.STM_STATUS]; omega
  have same : ((b.pv K.STM_SLIP_TOTAL c v).stmUnder c pos cause).val (mkKey bVEC 0 2) = b.val (mkKey bVEC 0 2) := by
    rw [Block.stmUnder, val_pf_ne _ _ _ _ _ _ _ status, val_incSat_ne _ _ _ _ _ samples]
    exact val_pv_ne _ _ _ _ _ slips
  simp only [Block.isOn, Block.life, same]

/-- On a channel that is ON the sequencer comes up to date first. -/
theorem isOff_of_isOn {b : Block} {blk i : Nat} (on : b.isOn blk i = true) : b.isOff blk i = false := by
  have runs : b.life blk i = lOn := beq_iff_eq.mp on
  rw [Block.isOff, runs]
  rfl

theorem stmOutput_zero {b : Block} {k : Nat} (goes : b.isOff bSTM k = false) (notYet : b.isOn bSTM k = false) (m : Mem) (late : Bool) :
    b.stmOutput m k late = b.dacSend k (0, 0) := by
  simp only [Block.stmOutput, goes, notYet, Bool.not_false, Bool.false_eq_true, if_false, if_true]

theorem stmOutput_slips {s : Machine.State} {k : Nat} {b : Block} (on : s.start.isOn bSTM k = true) (run : b = s.start.stmRun s.mem k)
    (plays : (b.stim k).ended = false) (goes : (b.stim k).endAt = none) (stands : (b.stim k).fed ≤ (b.stim k).pos + stmLead)
    (plane : b.isOn bVEC 0 = false) (late : Bool) :
    s.start.stmOutput s.mem k late =
      ((b.pv K.STM_SLIP_TOTAL k (b.val (ki K.STM_SLIP_TOTAL k) + 1)).stmUnder k (b.stim k).pos 1).dacSend k (0, 0) := by
  have noVec := (isOn_vec_slip b k (b.val (ki K.STM_SLIP_TOTAL k) + 1) (b.stim k).pos 1).trans plane
  simp only [Block.stmOutput, isOff_of_isOn on, on, ← run, plays, goes, stands, Bool.not_true, Bool.false_eq_true, if_false, Option.isNone_none,
    and_self, if_true, Block.stmSlip, noVec, false_and]

theorem stmOutput_ended {s : Machine.State} {k p r e : Nat} {b : Block} (on : s.start.isOn bSTM k = true) (run : b = s.start.stmRun s.mem k)
    (plays : (b.stim k).ended = false) (ends : (b.stim k).endAt = some (p, r, e)) (past : p ≤ (b.stim k).pos) (quiet : (b.stim k).run = none)
    (late : Bool) :
    s.start.stmOutput s.mem k late =
      let c := ((b.stmEnd k r e).vecAt s.mem k (b.stim k).pos none false).dacSend k (0, 0)
      c.setStim k { c.stim k with pos := (c.stim k).pos + 1 } := by
  simp only [Block.stmOutput, isOff_of_isOn on, on, ← run, plays, ends, past, stmRunEnd_none quiet, Bool.not_true, Bool.false_eq_true, if_false,
    decide_true, if_true, stim_dacSend, stim_vecAt, stim_stmEnd]

theorem stmOutput_plays {s : Machine.State} {k n : Nat} {b : Block} {p : Play} (on : s.start.isOn bSTM k = true) (run : b = s.start.stmRun s.mem k)
    (plays : (b.stim k).ended = false) (goes : (b.stim k).endAt = none) (ahead : (b.stim k).pos + stmLead < (b.stim k).fed)
    (at' : (b.stim k).plays.findIdx? (fun p => decide (p.start ≤ (b.stim k).pos) && decide ((b.stim k).pos < p.stop)) = some n)
    (play : (b.stim k).plays[n]? = some p) (stored : p.kind = 0) (noJump : p.jumped = none) (link : (b.lnk bJTX (b.stLink k)).resync = false)
    (locked : (b.pll 0).down = false) (quiet : (b.stim k).run = none) :
    s.start.stmOutput s.mem k false =
      let x := b.stim k
      let c := (b.pf K.STM_STATUS k 15 4 p.entry).vecAt s.mem k x.pos (some p) false
      let c := c.dacSend k (c.playOut s.mem k x.plays n (x.pos - p.start))
      (c.setStim k { c.stim k with
        pos := x.pos + 1, plays := if x.pos + 1 = p.stop then x.plays.drop n else x.plays }).pf K.STM_STATUS k 3 3 (b2n x.held.isSome) := by
  have moves : ¬ ((b.stim k).fed ≤ (b.stim k).pos + stmLead ∧ (none : Option (Nat × Nat × Nat)).isNone = true) :=
    fun stands => absurd stands.1 (Nat.not_le.mpr ahead)
  have kept : (b.pf K.STM_STATUS k 15 4 p.entry).stim k = b.stim k := rfl
  simp only [Block.stmOutput, isOff_of_isOn on, on, ← run, plays, goes, if_neg moves, at', play, stored, noJump, link, locked,
    stmRunEnd_none quiet, Bool.not_true, Bool.false_eq_true, if_false, bne_self_eq_false, Bool.false_and, if_true, ite_self, ne_eq,
    not_true_eq_false, stim_dacSend, stim_vecAt, kept]

theorem stmOutput_late {s : Machine.State} {k n : Nat} {b : Block} {p : Play} (on : s.start.isOn bSTM k = true) (run : b = s.start.stmRun s.mem k)
    (plays : (b.stim k).ended = false) (goes : (b.stim k).endAt = none) (ahead : (b.stim k).pos + stmLead < (b.stim k).fed)
    (at' : (b.stim k).plays.findIdx? (fun p => decide (p.start ≤ (b.stim k).pos) && decide ((b.stim k).pos < p.stop)) = some n)
    (play : (b.stim k).plays[n]? = some p) (stored : p.kind = 0) (noJump : p.jumped = none) (link : (b.lnk bJTX (b.stLink k)).resync = false) :
    s.start.stmOutput s.mem k true =
      let x := b.stim k
      let c := (((b.stmUnder k x.pos 2).pf K.STM_STATUS k 15 4 p.entry).vecAt s.mem k x.pos (some p) true).dacSend k (0, 0)
      (c.setStim k { c.stim k with
        pos := x.pos + 1, plays := if x.pos + 1 = p.stop then x.plays.drop n else x.plays }).pf K.STM_STATUS k 3 3 (b2n x.held.isSome) := by
  obtain ⟨run', under⟩ := stim_stmUnder b k (b.stim k).pos 2
  have kept : ((b.stmUnder k (b.stim k).pos 2).pf K.STM_STATUS k 15 4 p.entry).stim k = { b.stim k with run := run' } := under
  have moves : ¬ ((b.stim k).fed ≤ (b.stim k).pos + stmLead ∧ (none : Option (Nat × Nat × Nat)).isNone = true) :=
    fun stands => absurd stands.1 (Nat.not_le.mpr ahead)
  have cause : (if (b.pll 0).down = true then 2 else 2) = 2 := ite_self 2
  have late : ¬ 2 = 0 := by decide
  simp only [Block.stmOutput, isOff_of_isOn on, on, ← run, plays, goes, if_neg moves, at', play, stored, noJump, link,
    Bool.not_true, Bool.false_eq_true, if_false, bne_self_eq_false, Bool.false_and, beq_self_eq_true, Bool.and_self, if_true, cause, ite_self,
    late, ne_eq, not_false_eq_true, stim_dacSend, stim_vecAt, kept]
  rfl

theorem stmRunEnd_some {b : Block} {k first n cause : Nat} (run : (b.stim k).run = some (first, n, cause)) :
    b.stmRunEnd k =
      (((b.setStim k { b.stim k with run := none }).inc K.STM_UNDERRUN_RUNS k 1).pf K.STM_STATUS k 2 2 0).raise (913 + 4 * k)
        (beBytes 8 first ++ beBytes 4 (min n (2 ^ 32 - 1)) ++ beBytes 1 cause ++ zeros 3) := by
  simp only [Block.stmRunEnd, run]

/-! ## Vectors (R384 to R386) -/

theorem vecTick_drives {b : Block} {t : VecDue} {rest : List VecDue} (due : b.vec.due = t :: rest) (words : t.safe = false) :
    b.vecTick =
      let w := t.words.getD (b.vec.w0, b.vec.w1)
      let c := ({ b with vec := { b.vec with due := rest } }).vecDrive w (b.vecTime t.pos)
      { c with vec := { c.vec with cmp := some { t with words := some w } } } := by
  simp only [Block.vecTick, due, words, Bool.false_eq_true, if_false]

theorem vecTick_safe {b : Block} {t : VecDue} {rest : List VecDue} (due : b.vec.due = t :: rest) (safe : t.safe = true) :
    b.vecTick =
      let c := (({ b with vec := { b.vec with due := rest } }).vecDrive b.safeVec (b.vecTime t.pos)).inc K.VEC_SAFE_TICKS 0 1
      { c with vec := { c.vec with cmp := none } } := by
  simp only [Block.vecTick, due, safe, if_true]
  rfl

/-- The pins as a comparison shows them. -/
def vecShown (b : Block) (levels : Nat) : Block :=
  ({ b with vec := { b.vec with cmp := none } }).pf K.VEC_PINS 0 31 0
    (maskOf 32 (fun p => if vecPin (b.vec.w0, b.vec.w1) p < 2 then bit levels p else vecPin (b.vec.w0, b.vec.w1) p == 3))

/-- A comparison leaves the first-failure record until it fails. -/
theorem firstTick_vecShown (b : Block) (levels : Nat) :
    (((vecShown b levels).inc K.VEC_COMPARES 0 1).inc K.VEC_FAILS 0 1).val K.VEC_FIRST_TICK = b.val K.VEC_FIRST_TICK := by
  rw [val_inc_ne _ _ _ _ _ (by decide), val_inc_ne _ _ _ _ _ (by decide), vecShown, val_pf_ne _ _ _ _ _ _ _ (by decide)]
  rfl

theorem vecCompare_fails {b : Block} {levels bad : Nat} {t : VecDue} {w : Nat × Nat} (waits : b.vec.cmp = some t)
    (words : w = t.words.getD (b.vec.w0, b.vec.w1)) (some' : which 32 (fun p => vecPin w p == 1) ≠ [])
    (wrong : bad = maskOf 32 (fun p => vecPin w p == 1 && bit levels p != bit w.2 (16 + p))) (fails : bad ≠ 0)
    (armed : b.val K.VEC_FIRST_TICK = 2 ^ 64 - 1) :
    b.vecCompare levels =
      let c := ((vecShown b levels).inc K.VEC_COMPARES 0 1).inc K.VEC_FAILS 0 1
      let time := c.vecTime t.pos
      let c := (c.pv K.VEC_FIRST_TICK 0 t.tick).pf K.VEC_FIRST_PINS 0 31 0 bad
      let c := (c.pf K.VEC_FIRST_TIME_W0 0 47 0 time.w0).pf K.VEC_FIRST_TIME_W1 0 47 0 time.w1
      c.raise 928 (beBytes 8 t.tick ++ beBytes 4 bad ++ zeros 4) := by
  have first := (firstTick_vecShown b levels).trans armed
  have compared : (which 32 (fun p => vecPin w p == 1)).isEmpty = false := by rw [List.isEmpty_eq_false_iff]; exact some'
  subst words wrong
  simp only [Block.vecCompare, waits, compared, if_neg fails, Bool.false_eq_true, if_false]
  exact if_pos first

theorem vecCompare_passes {b : Block} {levels : Nat} {t : VecDue} {w : Nat × Nat} (waits : b.vec.cmp = some t)
    (words : w = t.words.getD (b.vec.w0, b.vec.w1)) (some' : which 32 (fun p => vecPin w p == 1) ≠ [])
    (right : maskOf 32 (fun p => vecPin w p == 1 && bit levels p != bit w.2 (16 + p)) = 0) :
    b.vecCompare levels = (vecShown b levels).inc K.VEC_COMPARES 0 1 := by
  have compared : (which 32 (fun p => vecPin w p == 1)).isEmpty = false := by rw [List.isEmpty_eq_false_iff]; exact some'
  subst words
  simp only [Block.vecCompare, waits, compared, right, Bool.false_eq_true, if_false, if_true]
  rfl

/-- Settles O30: the output takes the branch of its position, and a tick and a comparison theirs. -/
theorem stimulusOutputAndVectors : Obligations.StimulusOutputAndVectors := by
  refine ⟨?_, ?_, ?_, ?_, ?_, ?_, ?_, ?_, ?_, ?_⟩
  · intro k late s live goes notYet
    exact next_of_runLive_mem (fun m b => b.stmOutput m k.val late) rfl live (stmOutput_zero (b := s.start) goes notYet s.mem late)
  · intro k late b s live on run plays goes stands plane
    exact next_of_runLive_mem (fun m b => b.stmOutput m k.val late) rfl live (stmOutput_slips on run plays goes stands plane late)
  · intro k late b p r e s live on run plays ends past quiet
    exact next_of_runLive_mem (fun m b => b.stmOutput m k.val late) rfl live (stmOutput_ended on run plays ends past quiet late)
  · intro k b n p s live on run plays goes ahead at' play stored noJump link locked quiet
    exact next_of_runLive_mem (fun m b => b.stmOutput m k.val false) rfl live
      (stmOutput_plays on run plays goes ahead at' play stored noJump link locked quiet)
  · intro k b n p s live on run plays goes ahead at' play stored noJump link
    exact next_of_runLive_mem (fun m b => b.stmOutput m k.val true) rfl live
      (stmOutput_late on run plays goes ahead at' play stored noJump link)
  · intro k first n cause s live run
    exact next_of_runLive (·.stmRunEnd k.val) rfl live (stmRunEnd_some (b := s.start) run)
  · intro t rest s live due words
    exact next_of_runLive (·.vecTick) rfl live (vecTick_drives (b := s.start) due words)
  · intro t rest s live due safe
    exact next_of_runLive (·.vecTick) rfl live (vecTick_safe (b := s.start) due safe)
  · intro levels t w bad s live waits words some' wrong fails armed
    exact next_of_runLive (·.vecCompare levels.toNat) rfl live (vecCompare_fails (b := s.start) waits words some' wrong fails armed)
  · intro levels t w s live waits words some' right
    exact next_of_runLive (·.vecCompare levels.toNat) rfl live (vecCompare_passes (b := s.start) waits words some' right)

end Sys2Proof
end

section
/-! PROOFS. The statements of the time base: PTP messages, the references and the servo, the pulses and the time-interval unit. -/
namespace Sys2Proof
open Machine

/-! ## PTP (R402, R403) -/

/-- A port that runs in the role takes the message. -/
theorem ptpRuns_takes {b : Block} {l role : Nat} (runs : b.ptpRuns l role = true) : ¬ (!b.ptpRuns l role) = true := by simp [runs]

theorem ptpSync_taken {b : Block} {l : Nat} (runs : b.ptpRuns l 2 = true) (seq : Nat) (twoStep : Bool) (t1 corr : Int) (frac : Nat) :
    b.ptpSync l seq twoStep t1 corr frac =
      let c := b.ptpRx l
      if twoStep then c.setPtp l { b.ptp l with waitSync := some (seq, c.instant frac, corr) } else c.ptpOffset l t1 (c.instant frac) corr :=
  if_neg (ptpRuns_takes runs)

theorem ptpFollowUp_waited {b : Block} {l seq : Nat} {t2 c : Int} (runs : b.ptpRuns l 2 = true) (waits : (b.ptp l).waitSync = some (seq, t2, c))
    (t1 corr : Int) :
    b.ptpFollowUp l seq t1 corr = ((b.ptpRx l).setPtp l { b.ptp l with waitSync := none }).ptpOffset l t1 t2 (c + corr) := by
  have waits : ((b.ptpRx l).ptp l).waitSync = some (seq, t2, c) := waits
  simp only [Block.ptpFollowUp, if_neg (ptpRuns_takes runs), waits, if_true]
  rfl

theorem ptpDelayReq_answered {b : Block} {l : Nat} (runs : b.ptpRuns l 1 = true) (seq src frac : Nat) :
    b.ptpDelayReq l seq src frac = (b.ptpRx l).ptpSend l 9 ([seq, src] ++ b.stampFields (b.instant frac)) :=
  if_neg (ptpRuns_takes runs)

theorem ptpDelayResp_latest {b : Block} {l seq : Nat} {t3 ms : Int} (runs : b.ptpRuns l 2 = true) (sent : (b.ptp l).t3 = some (seq, t3))
    (offset : (b.ptp l).ms = some ms) (t4 corr : Int) :
    b.ptpDelayResp l seq t4 corr =
      let c := b.ptpRx l
      let sm := t4 - t3 - corr + rndEven (sgn 32 (c.f K.TIM_PTP_ASYM (ptpInst l) 31 0) * 65536) 1000
      (c.setPtp l { b.ptp l with t3 := none }).pf K.TIM_PTP_MPD (ptpInst l) 31 0 (satU 32 (rndEven ((ms + sm) * 1000) 131072).toNat) := by
  have kept : (b.ptpRx l).ptp l = b.ptp l := rfl
  simp only [Block.ptpDelayResp, if_neg (ptpRuns_takes runs), kept, sent, offset, if_true]

/-- A received message leaves the time base's settings. -/
theorem timCfg_ptpRx (b : Block) (l hi lo : Nat) : (b.ptpRx l).f K.TIM_CFG 0 hi lo = b.f K.TIM_CFG 0 hi lo := by
  have frames : ki K.TIM_CFG 0 ≠ ki K.NET_RX_FRAMES l := by simp only [ki, K.TIM_CFG, K.NET_RX_FRAMES]; omega
  have messages : ki K.TIM_CFG 0 ≠ ki K.TIM_PTP_RX (ptpInst l) := by simp only [ki, ptpInst, K.TIM_CFG, K.TIM_PTP_RX]; omega
  rw [Block.ptpRx, f_inc_ne _ _ _ _ _ _ _ _ messages]
  exact f_inc_ne _ _ _ _ _ _ _ _ frames

theorem ptpAnnounce_kept {b : Block} {l : Nat} (runs : b.ptpRuns l 2 = true) (other : b.timSrc ≠ 3 ∨ b.f K.TIM_CFG 0 9 5 ≠ l) (a : Announce) :
    b.ptpAnnounce l a = ((b.ptpRx l).setPtp l { b.ptp l with ann := some a, annAt := b.clock }).ptpSettle l := by
  have other : ¬ ((b.ptpRx l).timSrc = 3 ∧ (b.ptpRx l).f K.TIM_CFG 0 9 5 = l) := by
    rw [Block.timSrc, timCfg_ptpRx, timCfg_ptpRx]
    exact fun names => other.elim (· names.1) (· names.2)
  have other : ¬ (((b.ptpRx l).setPtp l { b.ptp l with ann := some a, annAt := b.clock }).timSrc = 3 ∧
      ((b.ptpRx l).setPtp l { b.ptp l with ann := some a, annAt := b.clock }).f K.TIM_CFG 0 9 5 = l) := other
  simp only [Block.ptpAnnounce, if_neg (ptpRuns_takes runs), if_neg other]

/-- The Announce data of a master hangs on no port's timers. -/
theorem ptpOwn_setPtp {b : Block} {l : Nat} {y : PtpPort} (same : y.ann = (b.ptp l).ann) : (b.setPtp l y).ptpOwn = b.ptpOwn := by
  have anns : ∀ k, ((b.setPtp l y).ptp k).ann = (b.ptp k).ann := by
    intro k
    by_cases mine : k = l
    · rw [mine, setPtp_ptp, same]
    · exact congrArg PtpPort.ann (tget_tset_ne _ _ _ _ _ mine)
  simp only [Block.ptpOwn, anns]
  rfl

/-- Settles O31: a port that runs in its role takes each message, and sends each that is due. -/
theorem ptpMessages : Obligations.PtpMessages := by
  refine ⟨?_, ?_, ?_, ?_, ?_, ?_, ?_, ?_, ?_⟩
  · intro l seq frac t1 corr s flow runs
    exact next_of_runLive (fun b => b.ptpSync l.val seq.toNat true t1.toNat corr.toInt frac.toNat) rfl ((live_iff s.blk).mpr (.inr flow))
      (ptpSync_taken (b := s.start) runs seq.toNat true t1.toNat corr.toInt frac.toNat)
  · intro l seq frac t1 corr s flow runs
    exact next_of_runLive (fun b => b.ptpSync l.val seq.toNat false t1.toNat corr.toInt frac.toNat) rfl ((live_iff s.blk).mpr (.inr flow))
      (ptpSync_taken (b := s.start) runs seq.toNat false t1.toNat corr.toInt frac.toNat)
  · intro l seq t1 corr t2 c s flow runs waits
    exact next_of_runLive (fun b => b.ptpFollowUp l.val seq.toNat t1.toNat corr.toInt) rfl ((live_iff s.blk).mpr (.inr flow))
      (ptpFollowUp_waited (b := s.start) runs waits _ _)
  · intro l seq frac src s flow runs
    exact next_of_runLive (fun b => b.ptpDelayReq l.val seq.toNat src.toNat frac.toNat) rfl ((live_iff s.blk).mpr (.inr flow))
      (ptpDelayReq_answered (b := s.start) runs _ _ _)
  · intro l seq t4 corr t3 ms s flow runs sent offset
    exact next_of_runLive (fun b => b.ptpDelayResp l.val seq.toNat t4.toNat corr.toInt) rfl ((live_iff s.blk).mpr (.inr flow))
      (ptpDelayResp_latest (b := s.start) runs sent offset _ _)
  · intro l gm cls time freq steps s flow runs other
    exact next_of_runLive (fun b => b.ptpAnnounce l.val ⟨gm.toNat, cls.toNat, time, freq, steps.toNat⟩) rfl ((live_iff s.blk).mpr (.inr flow))
      (ptpAnnounce_kept (b := s.start) runs other _)
  · intro l x s flow runs mine due
    subst mine
    exact next_of_runLive (fun b => b.ptpSyncTx l.val) rfl ((live_iff s.blk).mpr (.inr flow)) (if_pos ⟨runs, due⟩)
  · intro l x s flow runs mine due
    subst mine
    refine next_of_runLive (fun b => b.ptpAnnounceTx l.val) rfl ((live_iff s.blk).mpr (.inr flow)) ((if_pos ⟨runs, due⟩).trans ?_)
    dsimp only
    rw [ptpOwn_setPtp (b := s.start) (by rfl)]
    rfl
  · intro l x s flow runs mine due
    subst mine
    exact next_of_runLive (fun b => b.ptpDelayReqTx l.val) rfl ((live_iff s.blk).mpr (.inr flow)) (if_pos ⟨runs, due⟩)

/-! ## References and the servo (R392 to R397) -/

/-- The offset of an instant from its nearest whole second, `n` units long, is the one within half a second. -/
theorem nearest_offset {t offset n : Int} (low : -n ≤ 2 * offset) (high : 2 * offset < n) (whole : (t - offset).emod n = 0) :
    (if 2 * t.emod n < n then t.emod n else t.emod n - n) = offset := by
  obtain ⟨q, hq⟩ := Int.dvd_of_emod_eq_zero whole
  have pos : 0 < n := by omega
  have t_eq : t = offset + n * q := by omega
  have rem : t.emod n = offset.emod n := by rw [t_eq]; exact Int.add_mul_emod_self_left offset n q
  rw [rem]
  by_cases neg : offset < 0
  · have wraps : offset.emod n = offset + n := by
      have shifted : (offset + n).emod n = offset.emod n := Int.add_emod_right offset n
      rw [← shifted]
      exact Int.emod_eq_of_lt (by omega) (by omega)
    rw [wraps, if_neg (by omega)]
    omega
  · have stays : offset.emod n = offset := Int.emod_eq_of_lt (by omega) (by omega)
    rw [stays, if_pos high]

theorem ppsEdge_selected {b : Block} {rising : Bool} {frac : Nat} {offset : Int} (src : b.timSrc = 0 ∨ b.timSrc = 2)
    (edge : rising ≠ (b.f K.TIM_PTP_DOMAIN 0 8 8 == 1)) (low : -500000000 * 65536 ≤ offset) (high : offset < 500000000 * 65536)
    (whole : (b.instant frac - rndEven (sgn 32 (b.f K.TIM_IN_DELAY 0 31 0) * 65536) 1000 - offset).emod (1000000000 * 65536) = 0) :
    b.ppsEdge rising frac =
      b.servoUpdate (some offset) 0 (decide (offset.natAbs < lockLimit)) true (!b.timLocked || decide (offset.natAbs ≤ 65536000)) := by
  have nearest := nearest_offset (by omega) (by omega) whole
  have takes : ¬ ((!(b.timSrc = 0 ∨ b.timSrc = 2 : Bool)) = true ∨ rising = (b.f K.TIM_PTP_DOMAIN 0 8 8 == 1)) := by simp [src, edge]
  simp only [Block.ppsEdge, if_neg takes, nearest]
  rfl

theorem refUpdate_near {b : Block} {err : Int} (src : b.timSrc = 1 ∨ b.timSrc = 2) (near : err.natAbs ≤ 100000000) :
    b.refUpdate err = b.servoUpdate none err (decide (err.natAbs < 1000)) (b.timSrc == 1) := by
  simp only [Block.refUpdate, src, decide_true, Bool.not_true, Bool.false_eq_true, if_false, if_neg (Nat.not_lt.mpr near)]

theorem refUpdate_far {b : Block} {err : Int} (src : b.timSrc = 1 ∨ b.timSrc = 2) (far : 100000000 < err.natAbs) : b.refUpdate err = b.timLoss := by
  simp only [Block.refUpdate, src, decide_true, Bool.not_true, Bool.false_eq_true, if_false, if_pos far]

/-- What a loss shows first leaves LOCKED as it was. -/
theorem timLocked_lossShown (b : Block) (payload : List Byte) :
    (((b.inc K.TIM_REF_LOSSES 0 1).raise 833 payload).pf K.TIM_STATE 0 6 6 0).timLocked = b.timLocked := by
  have shown : (((b.inc K.TIM_REF_LOSSES 0 1).raise 833 payload).pf K.TIM_STATE 0 6 6 0).f K.TIM_STATE 0 2 2 = b.f K.TIM_STATE 0 2 2 := by
    rw [f_pf_beside _ _ _ _ _ _ _ _ (by decide) (by decide) (by decide)]
    exact f_inc_ne b _ _ _ _ _ _ _ (by decide)
  rw [Block.timLocked, shown, Block.timLocked]

theorem timSilent_pps {b c : Block} (flow : b.dev = .flow) (pps : b.timSrc = 0) (heard : b.tim.lost = false) (runs : b.timState = 1 ∨ b.timState = 3)
    (locked : b.timLocked = true) (silent : b.tim.refAt + (2 * 1600000000 + 1600) ≤ b.clock)
    (shown : c = ((b.inc K.TIM_REF_LOSSES 0 1).raise 833 (beBytes 1 0)).pf K.TIM_STATE 0 6 6 0) :
    b.timSilent =
      let c := c.setTim { c.tim with lost := true, back := 0, good := 0, bad := 0 }
      let q := c.quality
      let c := c.setY c.yMean
      let c := c.setTim { c.tim with before := q, holdAt := b.clock, holdBase := 0 }
      (c.pf K.TIM_HOLD_SECONDS 0 31 0 0).setTimState 2 false := by
  have gone : b.timGone = true := by
    simp only [Block.timGone, pps]
    exact decide_eq_true silent
  have silence : b.timSrc = 1 ∨ b.timSrc = 2 ∨ b.timGone = true := .inr (.inr gone)
  have acts : ¬ (b.dev ≠ .flow ∨ b.tim.lost = true ∨ (!(b.timState = 1 ∨ b.timState = 3 : Bool)) = true) := by simp [flow, heard, runs]
  have still : (c.setTim { c.tim with lost := true, back := 0, good := 0, bad := 0 }).timLocked = true := by
    subst shown
    exact (timLocked_lossShown b _).trans locked
  rw [Block.timSilent, if_pos silence]
  simp only [Block.timLoss, if_neg acts, pps, ← shown, still, if_true]
  subst shown
  rfl

theorem servoStep_quiet {b : Block} {d : Int} (waits : b.tim.step = true) (first : b.cycle = 0) (allowed : b.f K.TIM_CFG 0 11 11 = 1)
    (quiet : b.quiet = true) (units : d = (sgn 64 (b.val K.TIM_OFFSET)).tdiv (5 * 1280 * 65536) * 5) (some' : d ≠ 0) :
    b.servoStep =
      (b.stepDone.pv K.TIM_OFFSET 0 (uns 64 (sgn 64 (b.stepDone.val K.TIM_OFFSET) - d * (1280 * 65536)))).stepTo ((b.beat : Int) - d).toNat := by
  have acts : ¬ ((!b.tim.step) = true ∨ b.cycle ≠ 0) := by simp [waits, first]
  have on : ¬ b.f K.TIM_CFG 0 11 11 = 0 := by omega
  have kept : b.stepDone.val K.TIM_OFFSET = b.val K.TIM_OFFSET := val_pf_ne _ _ _ _ _ _ _ (by decide)
  simp only [Block.servoStep, if_neg acts, if_neg on, ← units, if_neg some', quiet, if_true, kept]
  rfl

theorem pltServoStep_leader {b : Block} {d : Int} (waits : b.tim.step = true) (first : b.cycle = 0) (allowed : b.f K.TIM_CFG 0 11 11 = 1)
    (leads : b.leader = true) (free : b.plt.notice = none) (quiet : b.groupQuiet = true)
    (units : d = (sgn 64 (b.val K.TIM_OFFSET)).tdiv (5 * 1280 * 65536) * 5) (some' : d ≠ 0) :
    b.pltServoStep =
      (b.stepDone.pv K.TIM_OFFSET 0 (uns 64 (sgn 64 (b.stepDone.val K.TIM_OFFSET) - d * (1280 * 65536)))).stepNotice (-d) := by
  have grouped : ¬ b.topology = 0 := by
    intro alone
    simp [Block.leader, alone] at leads
  have acts : ¬ ((!b.leader) = true ∨ (!b.tim.step) = true ∨ b.cycle ≠ 0 ∨ b.plt.notice.isSome = true) := by simp [leads, waits, first, free]
  have goes : ¬ (d = 0 ∨ b.f K.TIM_CFG 0 11 11 = 0) := by simp [some', allowed]
  simp only [Block.pltServoStep, if_neg grouped, if_neg acts, ← units, if_neg goes, quiet, if_true]

/-- Settles O32: each reference takes the branch that acts. -/
theorem timeReferences : Obligations.TimeReferences := by
  refine ⟨?_, ?_, ?_, ?_, ?_, ?_, ?_, ?_⟩
  · intro rising frac offset s live src edge low high whole
    exact next_of_runLive (·.ppsEdge rising frac.toNat) rfl live (ppsEdge_selected (b := s.start) src edge low high whole)
  · intro err s live src near
    exact next_of_runLive (·.refUpdate err.toInt) rfl live (refUpdate_near (b := s.start) src near)
  · intro err s live src far
    exact next_of_runLive (·.refUpdate err.toInt) rfl live (refUpdate_far (b := s.start) src far)
  · intro b s flow pps heard runs locked silent shown
    exact next_of_runLive (·.timSilent) rfl ((live_iff s.blk).mpr (.inr flow))
      (timSilent_pps (b := s.start) flow pps heard runs locked silent shown)
  · intro s live holds over'
    exact next_of_runLive (·.holdExpire) rfl live (if_pos ⟨holds, over'⟩)
  · intro s live learns locked day learnt
    exact next_of_runLive (·.ageLearn) rfl live (if_pos ⟨learns, locked, day, learnt⟩)
  · intro d s live first waits allowed quiet alone units some'
    exact next_of_runBoundary (·.pltServoStep) rfl live first
      ((if_pos alone).trans (servoStep_quiet (b := s.start) waits first allowed quiet units some'))
  · intro d s live first waits allowed leads free quiet units some'
    exact next_of_runBoundary (·.pltServoStep) rfl live first
      (pltServoStep_leader (b := s.start) waits first allowed leads free quiet units some')

/-! ## Pulses, measurements and calibration (R399, R407, R408) -/

/-- The first whole second of `sec` units at or after `x` is the one whose distance from it is less than a second. -/
theorem iceilDiv_eq {x n : Int} {sec : Nat} (low : 0 ≤ n * sec - x) (high : n * sec - x < sec) : iceilDiv x sec = n := by
  have pos : (0 : Int) < sec := by omega
  have floor : (-x).fdiv sec = -n := by
    rw [Int.fdiv_eq_ediv_of_nonneg _ (Int.le_of_lt pos), Int.ediv_eq_iff_of_pos pos, Int.neg_mul]
    constructor <;> omega
  rw [iceilDiv, floor, Int.neg_neg]

theorem ppsPulse_falls {b : Block} {k n : Nat} {d : Int} (on : bit (b.val (ki K.TIM_PPS_CFG (ppsInst k))) 0 = true)
    (free : bit (b.val (ki K.TIM_PPS_CFG (ppsInst k))) 1 = false)
    (falls : (n : Int) * 1000000000000 + sgn 32 (b.f K.TIM_PPS_DELAY (ppsInst k) 31 0) - b.beat * 1280000 = d) (low : 0 ≤ d) (high : d < 1280000)
    (once : tget 0 b.tim.pps k ≠ n + 1) :
    b.ppsPulse k =
      let c := b.setTim { b.tim with pps := tset b.tim.pps k (n + 1) }
      (c.send (.pin "PPS_OUT" k true d)).send (.pin "PPS_OUT" k false (d + bits (b.val (ki K.TIM_PPS_CFG (ppsInst k))) 20 2 * 1000000)) := by
  have second : iceilDiv ((b.beat : Int) * 1280000 - sgn 32 (b.f K.TIM_PPS_DELAY (ppsInst k) 31 0)) 1000000000000 = n :=
    iceilDiv_eq (by omega) (by omega)
  simp only [Block.ppsPulse, second, falls, on, free, high, Int.toNat_natCast, once, Bool.not_false, ne_eq, not_false_eq_true, true_or, and_self, if_true]

/-- A measurement that closes leaves the settings of the service. -/
theorem tiuMeas_inc (b : Block) (hi lo : Nat) : (b.inc K.TIU_MEASUREMENTS 0 1).f K.TIU_MEAS 0 hi lo = b.f K.TIU_MEAS 0 hi lo :=
  f_inc_ne _ _ _ _ _ _ _ _ (by decide)

theorem tiuClose_closes {b c : Block} {m : Meas} {rest : List Meas} (swept : c = b.tiuSweep) (oldest : c.tiu.meas = m :: rest)
    (over' : c.tiuOver m.s = true) (none : c.tiu.edges.any (fun e => c.tiuIn m.s e.2.1) = false) :
    b.tiuClose = (which 8 (fun i => bit (c.f K.TIU_MEAS 0 10 3) i)).foldl (fun b i => b.tiuResults m i)
      ((c.setTiu { c.tiu with meas := rest }).inc K.TIU_MEASUREMENTS 0 1) := by
  have closes : c.tiuOver m.s = true ∧ (!c.tiu.edges.any (fun e => c.tiuIn m.s e.2.1)) = true := ⟨over', by rw [none]; rfl⟩
  simp only [Block.tiuClose, ← swept, oldest, if_pos closes, tiuMeas_inc]
  rfl

theorem tiuCalTemp_far {b : Block} {temp : Int} (flow : b.dev = .flow) (far : b.f K.TIU_CAL_CFG 0 7 0 * 8 < (temp - b.tiu.temp).natAbs) :
    b.tiuCalTemp temp = b.tiuCalStart :=
  if_pos ⟨flow, far⟩

theorem tiuCalTemp_near {b : Block} {temp : Int} (near : (temp - b.tiu.temp).natAbs ≤ b.f K.TIU_CAL_CFG 0 7 0 * 8) : b.tiuCalTemp temp = b :=
  if_neg (fun far => absurd far.2 (Nat.not_lt.mpr near))

/-- A run of calibration that is under way in FLOW ends. -/
theorem tiuCalEnd_acts {b : Block} (runs : b.tiu.running = true) : ¬ ((!b.tiu.running) = true ∧ b.dev ≠ .thaw) := by simp [runs]

theorem tiuCalEnd_passes {b : Block} {h : List (List Nat)} (flow : b.dev = .flow) (runs : b.tiu.running = true) (all' : h.length = 16)
    (passes : h.all histPass = true) (temp : Int) :
    b.tiuCalEnd h temp =
      let c := b.setTiu { b.tiu with running := false, temp := temp, owed := b.tiu.owed && b.coreSafe, next := some (h, temp) }
      (c.pf K.TIU_CAL_STATE 0 1 0 2).raise 838 (beBytes 1 0 ++ beBytes 2 (codesUsed (h.headD [])) ++ zeros 5 ++ beBytes 8 (b.beat + 1)) := by
  have whole : h.take 16 = h := List.take_of_length_le (Nat.le_of_eq all')
  have good : h.find? (fun l => !histPass l) = none := by
    rw [List.find?_eq_none]
    intro l member
    simp [List.all_eq_true.mp passes l member]
  have thaw : (DevState.flow == DevState.thaw) = false := by decide
  have kept : ∀ x, (b.setTiu x).dev = .flow := fun _ => flow
  have next : ∀ x, (b.setTiu x).tiu = x := fun _ => rfl
  rw [Block.tiuCalEnd, if_neg (tiuCalEnd_acts runs)]
  simp only [whole, good, all', flow, thaw, kept, next, Option.isNone_none, Nat.le_refl, decide_true,
    Bool.and_self, if_true, Option.isSome_some, Bool.or_true, Bool.not_true, Option.getD_none, reduceCtorEq, if_false]
  rfl

theorem tiuCalEnd_fails {b : Block} {h : List (List Nat)} {bad : List Nat} (flow : b.dev = .flow) (runs : b.tiu.running = true)
    (fails : (h.take 16).find? (fun l => !histPass l) = some bad) (none : b.tiu.next = none) (temp : Int) :
    b.tiuCalEnd h temp =
      let c := b.setTiu { b.tiu with running := false, temp := temp, owed := b.tiu.owed && b.coreSafe }
      let c := (c.inc K.TIU_CAL_FAIL 0 1).pf K.TIU_CAL_STATE 0 1 0 (if b.tiu.passed then 2 else 0)
      c.raise 838 (beBytes 1 1 ++ beBytes 2 (codesUsed bad) ++ zeros 5 ++ beBytes 8 0) := by
  have thaw : (DevState.flow == DevState.thaw) = false := by decide
  have kept : ∀ x, ((b.setTiu x).inc K.TIU_CAL_FAIL 0 1).dev = .flow := fun _ => flow
  have next : ∀ x, ((b.setTiu x).inc K.TIU_CAL_FAIL 0 1).tiu = x := fun _ => rfl
  rw [Block.tiuCalEnd, if_neg (tiuCalEnd_acts runs)]
  simp only [fails, flow, thaw, kept, next, none, Option.isNone_some, Bool.false_and, Bool.false_eq_true,
    if_false, Option.isSome_none, Bool.or_false, Bool.not_false, Option.getD_some, reduceCtorEq]
  rfl

/-- Settles O33: each output and each run takes the branch that acts. -/
theorem timeOutputsAndIntervals : Obligations.TimeOutputsAndIntervals := by
  refine ⟨?_, ?_, ?_, ?_, ?_, ?_⟩
  · intro k n d s live on free falls low high once
    exact next_of_runLive (·.ppsPulse k.val) rfl live (ppsPulse_falls (b := s.start) on free falls low high once)
  · intro b m rest s live swept oldest over' none
    exact next_of_runLive (·.tiuClose) rfl live (tiuClose_closes (b := s.start) swept oldest over' none)
  · intro temp s flow far
    exact next_of_runLive (·.tiuCalTemp temp.toInt) rfl ((live_iff s.blk).mpr (.inr flow)) (tiuCalTemp_far (b := s.start) flow far)
  · intro temp s flow near
    exact next_of_runLive (·.tiuCalTemp temp.toInt) rfl ((live_iff s.blk).mpr (.inr flow)) (tiuCalTemp_near (b := s.start) near)
  · intro hits h temp s flow runs mine all' passes
    subst mine
    exact next_of_runLive (·.tiuCalEnd (hits.map (List.map BitVec.toNat)) temp.toInt) rfl ((live_iff s.blk).mpr (.inr flow))
      (tiuCalEnd_passes (b := s.start) flow runs all' passes _)
  · intro hits bad temp s flow runs fails none
    exact next_of_runLive (·.tiuCalEnd (hits.map (List.map BitVec.toNat)) temp.toInt) rfl ((live_iff s.blk).mpr (.inr flow))
      (tiuCalEnd_fails (b := s.start) flow runs fails none _)

end Sys2Proof
end

section
/-! PROOFS. Plait: a port that loses its link, and the contexts and frames of imports (R450, R458, R459). -/
namespace Sys2Proof
open Machine

/-! ## A port that loses its link forgets its exchange (R450) -/

/-- Port 0 of Plait is ON, and its latest time exchange was noted at the first core cycle. -/
def exchanged : Machine.State :=
  let b : Block := { pltPorts := [(0, { exchangeAt := 1 })] }
  ⟨b.setVal (mkKey bPLT (pltPort 0) 2) lOn, [], []⟩

/-- When port 0 made its latest time exchange, after a command. -/
def exchangeOf0 : Host.Outcome Machine.State Fault Refusal → Nat
  | .next t => (t.blk.pPort 0).exchangeAt
  | _ => 0

theorem exchangeOf0_exchanged : exchangeOf0 (exec (.pltPortFault 0 false []) exchanged) = 0 := by decide

/-- Refutes O34: its fifth clause has a port that loses its link keep the instant of its latest time exchange, and the model starts the port
anew at step 1 with none. -/
theorem not_plaitPortsAndTime : ¬ Obligations.PlaitPortsAndTime := by
  rintro ⟨-, -, -, -, fault, -⟩
  have stated := fault 0 false [] exchanged (by decide) (by decide)
  have none := exchangeOf0_exchanged
  rw [stated] at none
  exact absurd none (by decide)

/-! ## Contexts of an import (R458) -/

/-- Two places of a table may be written in either order. -/
theorem tset_comm {α : Type} (l : Tab α) {j k : Nat} (apart : j ≠ k) (v w : α) : tset (tset l j v) k w = tset (tset l k w) j v := by
  induction l with
  | nil => grind [tset]
  | cons e rest ih =>
    obtain ⟨i, x⟩ := e
    grind [tset]

/-- Two parameters may be written in either order. -/
theorem pv_pv_comm (b : Block) {k i k' i' : Nat} (apart : ki k i ≠ ki k' i') (v w : Nat) :
    (b.pv k i v).pv k' i' w = (b.pv k' i' w).pv k i v :=
  congrArg (fun params => ({ b with params := params } : Block)) (tset_comm b.params apart _ _)

/-- An import that is STARTING or ON passes the test of its life. -/
theorem imp_runs {b : Block} {x : Nat} (runs : b.life bPLT (pltImp x) = lStarting ∨ b.life bPLT (pltImp x) = lOn) :
    ¬ (b.life bPLT (pltImp x) ≠ lStarting ∧ b.life bPLT (pltImp x) ≠ lOn) :=
  fun h => runs.elim h.1 h.2

/-- An import whose port hears takes contexts while it runs and its export has not ended. -/
theorem imp_takesContext {b : Block} {x : Nat} (hears : b.portHears (b.impPort x) = true)
    (runs : b.life bPLT (pltImp x) = lStarting ∨ b.life bPLT (pltImp x) = lOn) (going : (b.imp x).stopped = false) :
    ¬ ((!b.portHears (b.impPort x)) = true ∨ (b.life bPLT (pltImp x) ≠ lStarting ∧ b.life bPLT (pltImp x) ≠ lOn) ∨
      (b.imp x).stopped = true) := by
  simp only [hears, going, imp_runs runs]; decide

theorem impContext_otherKind {b : Block} {x : Nat} {c : ExportContext} (hears : b.portHears (b.impPort x) = true)
    (runs : b.life bPLT (pltImp x) = lStarting ∨ b.life bPLT (pltImp x) = lOn) (going : (b.imp x).stopped = false)
    (other : c.kind ≠ b.f K.LANE_CFG (b.impLane x) 1 0) (free : Bool) : b.impContext x c free = (b.impEvent x 1 0 0).impStop x :=
  (if_neg (imp_takesContext hears runs going)).trans (if_pos other)

theorem impContext_slotsTaken {b : Block} {x : Nat} {c : ExportContext} (hears : b.portHears (b.impPort x) = true)
    (runs : b.life bPLT (pltImp x) = lStarting ∨ b.life bPLT (pltImp x) = lOn) (going : (b.imp x).stopped = false)
    (kind : c.kind = b.f K.LANE_CFG (b.impLane x) 1 0) (first : (b.imp x).context = false) :
    b.impContext x c false = (b.impEvent x 2 0 0).impStop x :=
  (if_neg (imp_takesContext hears runs going)).trans ((if_neg (Classical.not_not.mpr kind)).trans (if_pos (by simp [first])))

theorem pf_imp (b : Block) (k i hi lo v x : Nat) : (b.pf k i hi lo v).imp x = b.imp x := rfl

theorem pv_imp (b : Block) (k i v x : Nat) : (b.pv k i v).imp x = b.imp x := rfl

theorem impContext_first {b : Block} {x : Nat} {c : ExportContext} (hears : b.portHears (b.impPort x) = true)
    (runs : b.life bPLT (pltImp x) = lStarting ∨ b.life bPLT (pltImp x) = lOn) (going : (b.imp x).stopped = false)
    (kind : c.kind = b.f K.LANE_CFG (b.impLane x) 1 0) (first : (b.imp x).context = false) :
    b.impContext x c true =
      let i := b.impLane x
      let d := b.setImp x { b.imp x with pack := c.pack }
      let d := d.pf K.PLT_IMP_SRC (pltImp x) 22 0 (c.node % 2 ^ 18 + c.lane % 32 * 2 ^ 18)
      let d := ((d.pv K.LANE_EPOCH_BEAT i c.epoch).pv K.LANE_ANCHOR_INDEX i c.anchorIndex).pv K.LANE_ANCHOR_INPUT i c.anchorInput
      let d := (d.pv K.LANE_STEP_Q i c.stepQ).pf K.LANE_F_IN i 39 0 (rndEven (c.finN : Int) (max 1 c.finD)).toNat
      let d := (d.setImp x { d.imp x with context := true }).setLane i { running := true, finN := c.finN, finD := c.finD }
      d.setLife bLANE i lStarting := by
  refine (if_neg (imp_takesContext hears runs going)).trans ((if_neg (Classical.not_not.mpr kind)).trans ((if_neg (by simp)).trans ?_))
  have positions (d : Block) (i : Nat) :
      ((d.pv K.LANE_ANCHOR_INDEX i c.anchorIndex).pv K.LANE_ANCHOR_INPUT i c.anchorInput).pv K.LANE_EPOCH_BEAT i c.epoch =
        ((d.pv K.LANE_EPOCH_BEAT i c.epoch).pv K.LANE_ANCHOR_INDEX i c.anchorIndex).pv K.LANE_ANCHOR_INPUT i c.anchorInput := by
    rw [pv_pv_comm _ (k := K.LANE_ANCHOR_INPUT) (k' := K.LANE_EPOCH_BEAT) (by simp only [ki, K.LANE_ANCHOR_INPUT, K.LANE_EPOCH_BEAT]; omega),
      pv_pv_comm _ (k := K.LANE_ANCHOR_INDEX) (k' := K.LANE_EPOCH_BEAT) (by simp only [ki, K.LANE_ANCHOR_INDEX, K.LANE_EPOCH_BEAT]; omega)]
  simp only [pf_imp, pv_imp, setImp_imp, first, Bool.false_eq_true, if_false, positions]

/-! ## Frames of an import (R458, R459) -/

/-- A frame that arrives at an import that has a context is taken while the import runs. -/
theorem imp_takesFrames {b : Block} {x : Nat} (runs : b.life bPLT (pltImp x) = lStarting ∨ b.life bPLT (pltImp x) = lOn)
    (context : (b.imp x).context = true) :
    ¬ ((b.life bPLT (pltImp x) ≠ lStarting ∧ b.life bPLT (pltImp x) ≠ lOn) ∨ (!(b.imp x).context) = true) := by
  simp only [context, imp_runs runs]; decide

/-- What an import makes of a frame is delivered. -/
theorem impDeliver_eq {b : Block} {x : Nat} {fr : ExportFrame} {r : Block × List LaneOut} (frame : b.impFrame x fr = r) (m : Mem) (late : Bool) :
    Block.impDeliver m b x fr late = r.2.foldl (fun c o => Block.laneDeliver m (c.impOut (b.impLane x) o) (b.impLane x) late o) r.1 :=
  congrArg (fun r : Block × List LaneOut => r.2.foldl _ r.1) frame

theorem impDeliver_one {b d : Block} {x : Nat} {fr : ExportFrame} {o : LaneOut} (frame : b.impFrame x fr = (d, [o])) (m : Mem) (late : Bool) :
    Block.impDeliver m b x fr late = Block.laneDeliver m (d.impOut (b.impLane x) o) (b.impLane x) late o :=
  impDeliver_eq frame m late

theorem impFrame_stopped {b : Block} {x : Nat} (runs : b.life bPLT (pltImp x) = lStarting ∨ b.life bPLT (pltImp x) = lOn)
    (context : (b.imp x).context = true) (going : (b.imp x).stopped = false) :
    b.impFrame x .stopped = ((b.setImp x { b.imp x with stopped := true }).impEvent x 4 0 0, []) :=
  (if_neg (imp_takesFrames runs context)).trans (if_neg (by simp [going]))

theorem impFrame_lost {b : Block} {x : Nat} (runs : b.life bPLT (pltImp x) = lStarting ∨ b.life bPLT (pltImp x) = lOn)
    (context : (b.imp x).context = true) (going : (b.imp x).stopped = false) (first count : Nat) (crc : Bool) :
    b.impFrame x (.lost first count crc) = (b.frameLost x crc).impLost x first count :=
  (if_neg (imp_takesFrames runs context)).trans (congrArg (Block.impLost · x first count) (if_neg (by simp [going])))

theorem impFrame_lostAfterEnd {b : Block} {x : Nat} (runs : b.life bPLT (pltImp x) = lStarting ∨ b.life bPLT (pltImp x) = lOn)
    (context : (b.imp x).context = true) (stopped : (b.imp x).stopped = true) (first count : Nat) (crc : Bool) :
    b.impFrame x (.lost first count crc) = b.impLost x first count :=
  (if_neg (imp_takesFrames runs context)).trans (congrArg (Block.impLost · x first count) (if_pos stopped))

/-- After the end of the export the missing samples count, and are not reported. -/
theorem impLost_stopped {b : Block} {x : Nat} (stopped : (b.imp x).stopped = true) (first count : Nat) :
    b.impLost x first count =
      ((b.setImp x { b.imp x with left := true }).inc K.PLT_IMP_MISSING (pltImp x) count,
       (List.range count).map (fun k => ⟨first + k, 0, 0, false, some (1, 0x10 + b.impPort x), false, false, false, false, none⟩)) := by
  have port (d : Block) (n : Nat) : (d.inc K.PLT_IMP_MISSING (pltImp x) n).impPort x = d.impPort x :=
    f_inc_ne _ _ _ _ _ _ _ _ (by simp only [ki, K.PLT_IMP_CFG, K.PLT_IMP_MISSING]; omega)
  simp only [Block.impLost, stopped, if_true, port]
  rfl

theorem impFrame_sample {b : Block} {x : Nat} (runs : b.life bPLT (pltImp x) = lStarting ∨ b.life bPLT (pltImp x) = lOn)
    (context : (b.imp x).context = true) (going : (b.imp x).stopped = false) (hears : b.portHears (b.impPort x) = true)
    {sm : ExportSample} (whole : sm.flags = 0x10) (first seq cause detail : Nat) :
    b.impFrame x (.data first seq cause detail [sm]) =
      let i := b.impLane x
      let w := 4 * packBytes (b.imp x).pack
      ((b.setLane i { b.lane i with rateSeq := seq % 65536 }).setImp x { b.imp x with left := true },
       [⟨first, sgn w (uns w sm.i) * (2 ^ (24 - w) : Nat), sgn w (uns w sm.q) * (2 ^ (24 - w) : Nat), true, none, false, false, false, false,
         none⟩]) := by
  refine (if_neg (imp_takesFrames runs context)).trans ((if_neg (by simp [going])).trans ((if_neg (by simp [hears])).trans ?_))
  have whole : sm.flags.toNat = 16 := congrArg BitVec.toNat whole
  have bits : bit 16 4 = true ∧ bit 16 3 = false ∧ bit 16 2 = false ∧ bit 16 1 = false ∧ bit 16 0 = false := by decide
  obtain ⟨data, b3, b2, b1, b0⟩ := bits
  simp only [setImp_imp, List.zipIdx_cons, List.zipIdx_nil, List.map_cons, List.map_nil, whole, data, b3, b2, b1, b0, if_true, Nat.add_zero]
  rfl

/-- Settles O35: each message and each frame takes the branch of what the import is in. -/
theorem plaitImports : Obligations.PlaitImports := by
  refine ⟨?_, ?_, ?_, ?_, ?_, ?_, ?_⟩
  · intro x ctx i s live lane hears runs kind going first free
    subst lane
    have free : s.start.slotsFree (s.start.impLane x.val) = true := free
    exact next_of_runLive (fun b => b.impContext x.val ctx (b.slotsFree (b.impLane x.val))) rfl live
      ((congrArg (s.start.impContext x.val ctx) free).trans (impContext_first (b := s.start) hears runs going kind first))
  · intro x ctx s live hears runs other going
    exact next_of_runLive (fun b => b.impContext x.val ctx (b.slotsFree (b.impLane x.val))) rfl live
      (impContext_otherKind (b := s.start) hears runs going other _)
  · intro x ctx s live hears runs kind going first taken
    have taken : s.start.slotsFree (s.start.impLane x.val) = false := taken
    exact next_of_runLive (fun b => b.impContext x.val ctx (b.slotsFree (b.impLane x.val))) rfl live
      ((congrArg (s.start.impContext x.val ctx) taken).trans (impContext_slotsTaken (b := s.start) hears runs going kind first))
  · intro x late s live runs context going
    exact next_of_runLive_mem (fun m b => Block.impDeliver m b x.val .stopped late) rfl live
      (impDeliver_eq (impFrame_stopped (b := s.start) runs context going) _ _)
  · intro x first count crc late s live runs context going
    exact next_of_runLive_mem (fun m b => Block.impDeliver m b x.val (.lost first count crc) late) rfl live
      (impDeliver_eq (impFrame_lost (b := s.start) runs context going first count crc) _ _)
  · intro x first count crc late s live runs context stopped
    have lost := (impFrame_lostAfterEnd (b := s.start) runs context stopped first count crc).trans
      (impLost_stopped (b := s.start) stopped first count)
    exact next_of_runLive_mem (fun m b => Block.impDeliver m b x.val (.lost first count crc) late) rfl live
      ((impDeliver_eq lost _ _).trans List.foldl_map)
  · intro x first seq cause detail i w sm late s live runs context going hears lane width whole
    subst lane width
    have frame := impFrame_sample (b := s.start) runs context going hears whole first seq cause detail
    exact next_of_runLive_mem (fun m b => Block.impDeliver m b x.val (.data first seq cause detail [sm]) late) rfl live
      (impDeliver_one frame _ _)

end Sys2Proof
end

section
/-! PROOFS. What the JTAG instructions shift out, die temperatures and the core voltage's supply (R478, R490, R496 to R498). -/
namespace Sys2Proof
open Machine

/-! ## JTAG (R478) -/

/-- A command that raises nothing and stores nothing leaves the block that it makes, and the memories as they are. -/
theorem next_of_run_quiet {o : Host.Outcome Machine.State Fault Refusal} {s : Machine.State} {b : Block} (f : Block → Block)
    (run : o = s.run (fun _ => f)) (makes : f s.start = b) (quiet : b.raised = []) (stores : b.stores = []) :
    ∃ t : Machine.State, o = .next t ∧ t.mem = s.mem ∧ t.pending = s.pending ∧ t.blk = b := by
  refine ⟨s.finish b, ?_, ?_, rfl, ?_⟩
  · rw [run, run_next, makes]
  · rw [finish_mem, flushEvents_quiet b quiet, stores]; rfl
  · rw [finish_blk, flushEvents_quiet b quiet]

theorem jtagSample_within (b : Block) {pins tdi len : Nat} (pinsFit : pins < 2 ^ len) (tdiFits : tdi < 2 ^ len) :
    b.jtagSample pins tdi len = (b.setSys { b.sys with boundary := tdi, extest := false }).send (.tdo pins len) := by
  rw [Block.jtagSample, Nat.mod_eq_of_lt pinsFit, Nat.mod_eq_of_lt tdiFits]; rfl

theorem jtagExtest_within (b : Block) {pins tdi len : Nat} (pinsFit : pins < 2 ^ len) (tdiFits : tdi < 2 ^ len) :
    b.jtagExtest pins tdi len = (b.setSys { b.sys with boundary := tdi, extest := true }).send (.tdo pins len) := by
  rw [Block.jtagExtest, Nat.mod_eq_of_lt pinsFit, Nat.mod_eq_of_lt tdiFits]

/-- Settles O38: each instruction's shift, from a block that has sent nothing. -/
theorem jtagInstructions : Obligations.JtagInstructions := by
  refine ⟨?_, ?_, ?_, ?_, ?_⟩
  · intro s
    exact next_of_run_quiet (·.jtagShift 0x285160B3 32) rfl rfl rfl rfl
  · intro s
    exact next_of_run_quiet (fun b => b.jtagShift b.haltWord 16) rfl rfl rfl rfl
  · intro tdi len s
    exact next_of_run_quiet (·.jtagBypass tdi len) rfl rfl rfl rfl
  · intro pins tdi len s pinsFit tdiFits
    exact next_of_run_quiet (·.jtagSample pins tdi len) rfl (jtagSample_within s.start pinsFit tdiFits) rfl rfl
  · intro pins tdi len s pinsFit tdiFits
    exact next_of_run_quiet (·.jtagExtest pins tdi len) rfl (jtagExtest_within s.start pinsFit tdiFits) rfl rfl

/-! ## Die temperatures (R498) -/

/-- DIE_MAX stands beside DIE_TEMP. -/
theorem dieMax_dieTemp (b : Block) (v : Nat) : (b.pf K.THM_DIE_TEMP 0 15 0 v).f K.THM_DIE_MAX 0 15 0 = b.f K.THM_DIE_MAX 0 15 0 :=
  f_pf_ne _ _ _ _ _ _ _ _ _ _ (by decide)

theorem dieReading_cool {b : Block} {t top : Int} {rest : List Int} (highest : top = rest.foldl max t)
    (within : top ≤ sgn 16 (b.f K.THM_DIE_MAX 0 15 0)) (first : b.sys.hot = false) :
    b.dieReading (t :: rest) =
      let c := b.pf K.THM_DIE_TEMP 0 15 0 (uns 16 top)
      c.setSys { c.sys with hot := decide (sgn 16 (c.f K.THM_TSHUT 0 15 0) < top) } := by
  have within : ¬ sgn 16 ((b.pf K.THM_DIE_TEMP 0 15 0 (uns 16 top)).f K.THM_DIE_MAX 0 15 0) < top := by
    rw [dieMax_dieTemp]; exact Int.not_lt.mpr within
  have first : (b.pf K.THM_DIE_TEMP 0 15 0 (uns 16 top)).sys.hot = false := first
  subst highest
  simp only [Block.dieReading, if_neg within, first, Bool.and_false, Bool.false_eq_true, if_false]

theorem dieReading_hotAgain {b c : Block} {t top : Int} {rest : List Int} (highest : top = rest.foldl max t)
    (above : sgn 16 (b.f K.THM_DIE_MAX 0 15 0) < top) (again : b.sys.hot = true)
    (shown : c = (b.pf K.THM_DIE_TEMP 0 15 0 (uns 16 top)).pf K.THM_DIE_MAX 0 15 0 (uns 16 top))
    (hot : sgn 16 (c.f K.THM_TSHUT 0 15 0) < top) : b.dieReading (t :: rest) = c.enterHalt 5 := by
  have above : sgn 16 ((b.pf K.THM_DIE_TEMP 0 15 0 (uns 16 top)).f K.THM_DIE_MAX 0 15 0) < top := by
    rw [dieMax_dieTemp]; exact above
  have again : c.sys.hot = true := shown ▸ again
  subst highest
  simp only [Block.dieReading, if_pos above, ← shown, hot, again, decide_true, Bool.and_self, if_true]

/-! ## The adaptive core voltage (R490, R496) -/

/-- The mode that AVS_STATE shows stands beside the target. -/
theorem avsTarget_avsShow (b : Block) : b.avsShow.avsTarget = b.avsTarget :=
  f_pf_beside _ _ _ _ _ _ _ _ (by decide) (by decide) (by decide)

theorem avsUpdate_adaptive {b c : Block} {lowest : Nat} {dev : List Nat}
    (shown : c = (List.range 4).foldl (fun b k => b.pv K.THM_DEVCLK (0x10 + k) (dev.getD k 0 % 2 ^ 32)) b) (sound : c.avsFault = false)
    (adaptive : c.avsMode = 0) :
    b.avsUpdate lowest dev =
      ((c.avsShow).avsCommand (max (max 720 (min 800 lowest)) (c.avsShow.avsTarget - 5)) false).pmQueue false
        [(pmReadVout, 0), (pmReadIout, 0), (pmStatusWord, 0)] := by
  simp only [Block.avsUpdate, ← shown, sound, adaptive, Bool.false_eq_true, if_false, if_true, avsTarget_avsShow]

theorem avsRaise_adaptive {b : Block} (sound : b.avsFault = false) (adaptive : b.avsMode = 0) :
    b.avsRaise = b.avsCommand (min 800 (b.avsTarget + 10)) true :=
  if_neg (by simp [sound, adaptive])

/-! ## PMBus transactions (R497) -/

/-- A voltage that was read is shown, and no fault is noted for it. -/
theorem pmEnd_vout {b : Block} {v : Nat} (bus : b.sys.pmBus = some (0x8B, v)) (sound : b.avsFault = false) (again : b.sys.pmAgain = false)
    (waits : tfind b.waiting K.THM_AVS_CFG = none) (w : BitVec 16) :
    b.pmEnd (.ok w) = ((b.pf K.THM_VCORE 0 11 0 w.toNat).setSys { b.sys with pmBus := none, pmFails := 0, pmAgain := false }).pmNext := by
  have sound : (b.pf K.THM_VCORE 0 11 0 w.toNat).avsFault = false :=
    (congrArg (· == 3) (f_pf_ne b _ _ _ _ _ _ _ _ _ (by decide))).trans sound
  have waits (y : SysUnit) : tfind ((b.pf K.THM_VCORE 0 11 0 w.toNat).setSys y).waiting K.THM_AVS_CFG = none := waits
  have again : (b.pf K.THM_VCORE 0 11 0 w.toNat).sys.pmAgain = false := again
  simp only [Block.pmEnd, bus]
  simp only [sound, again, waits, Bool.false_and, Bool.false_eq_true, false_and, if_false]
  rfl

theorem pmEnd_thirdFailure {b c : Block} {k v : Nat} (bus : b.sys.pmBus = some (k, v)) (third : 2 ≤ b.sys.pmFails)
    (counted : c = (b.inc K.THM_AVS_ERR 0 1).setSys { b.sys with
      pmFails := b.sys.pmFails + 1, pmAgain := b.sys.pmAgain || (k == pmVoutCommand && v == 800 && (b.inc K.THM_AVS_ERR 0 1).avsMode == 2) })
    (sound : c.avsFault = false) :
    b.pmEnd .failed = (c.setSys { c.sys with pmRetryAt := b.ticks }).pf K.THM_AVS_STATE 0 1 0 3 := by
  have mode : (b.inc K.THM_AVS_ERR 0 1).avsMode = b.avsMode := f_inc_ne _ _ _ _ _ _ _ _ (by decide)
  subst counted
  have three : 3 ≤ b.sys.pmFails + 1 := Nat.succ_le_succ third
  have sound : ¬ (b.inc K.THM_AVS_ERR 0 1).avsFault = true := Bool.eq_false_iff.mp sound
  simp only [Block.pmEnd, bus, mode]
  exact (if_neg sound).trans (if_pos three)

theorem pmRetry_due {b : Block} {c v : Nat} (bus : b.sys.pmBus = some (c, v)) (fault : b.avsFault = true)
    (due : b.sys.pmRetryAt + 1600000000 ≤ b.ticks) :
    b.pmRetry = (b.setSys { b.sys with pmRetryAt := b.ticks }).pmSend (c, v) := by
  simp only [Block.pmRetry, bus]
  exact if_pos ⟨fault, due⟩

/-- Settles O39: each reading, update and transaction takes the branch stated. -/
theorem thermalAndSupply : Obligations.ThermalAndSupply := by
  refine ⟨?_, ?_, ?_, ?_, ?_, ?_, ?_, ?_⟩
  · intro temps t rest top s live temps highest within first
    subst temps
    exact next_of_runLive (·.dieReading ((t :: rest).map BitVec.toInt)) rfl live (dieReading_cool (b := s.start) highest within first)
  · intro temps t rest top b s live temps highest above again shown hot
    subst temps
    exact next_of_runLive (·.dieReading ((t :: rest).map BitVec.toInt)) rfl live
      (dieReading_hotAgain (b := s.start) highest above again shown hot)
  · intro lowest devclk b s live shown sound adaptive
    exact next_of_runLive (·.avsUpdate lowest.toNat (devclk.map BitVec.toNat)) rfl live (avsUpdate_adaptive (b := s.start) shown sound adaptive)
  · intro s live sound adaptive
    exact next_of_runLive Block.avsRaise rfl live (avsRaise_adaptive (b := s.start) sound adaptive)
  · intro s live
    exact next_of_runLive Block.pmAlert rfl live rfl
  · intro w v s live bus sound again waits
    exact next_of_runLive (·.pmEnd (.ok w)) rfl live (pmEnd_vout (b := s.start) bus sound again waits w)
  · intro c v b s live bus third counted sound
    exact next_of_runLive (·.pmEnd .failed) rfl live (pmEnd_thirdFailure (b := s.start) bus third counted sound)
  · intro c v s live bus fault due
    exact next_of_runLive Block.pmRetry rfl live (pmRetry_due (b := s.start) bus fault due)

end Sys2Proof
end

section
/-! PROOFS. Resets, the end of RESET, the boot slots and the entries to THAW and HALT (R467 to R472, R477). -/
namespace Sys2Proof
open Machine

/-- A command that acts in every state of the device leaves what it makes of the block it starts from. -/
theorem next_of_run {o : Host.Outcome Machine.State Fault Refusal} {s : Machine.State} {b : Block} (f : Block → Block)
    (run : o = s.run (fun _ => f)) (makes : f s.start = b) : o = .next (s.finish b) := by
  rw [run, run_next, makes]

/-! ## Resets begin (R467) -/

/-- A reset that arrives during no other is of its own kind and has its own cause. -/
theorem resetBegin_idle {b : Block} (up : b.dev ≠ .reset) (booted : b.dev ≠ .boot) (kind cause : Nat) :
    b.resetBegin kind cause = (if kind = 2 then b.warmBlock else b.coldBlock kind).pf K.SYS_RESET_CAUSE 0 2 0 cause := by
  simp [Block.resetBegin, up, booted]

/-- A cold reset that arrives during a power-on reset leaves it a power-on reset, with its cause. -/
theorem resetBegin_duringPowerOn {b : Block} (busy : b.dev = .reset ∨ b.dev = .boot) (kind : b.sys.kind = 0) (cause : Nat) :
    b.resetBegin 1 cause = (b.coldBlock 0).pf K.SYS_RESET_CAUSE 0 2 0 (b.f K.SYS_RESET_CAUSE 0 2 0) := by
  have busy : (b.dev == .reset || b.dev == .boot) = true := by simpa using busy
  simp [Block.resetBegin, busy, kind]

/-- The watchdog resets of the last 10 s. -/
theorem watchdog_resets {b : Block} (live : b.live = true) {recent : List Nat}
    (window : recent = b.sys.wdogs.filter (fun t => decide (b.ticks < t + 10 * 1600000000))) (few : recent.length < 2) :
    b.watchdog =
      let c := b.firnSet K.SYS_WDOG_RESETS ((b.val K.SYS_WDOG_RESETS + 1) % 2 ^ 32)
      ((c.setSys { c.sys with wdogs := recent ++ [b.ticks] }).warmBlock).pf K.SYS_RESET_CAUSE 0 2 0 4 := by
  subst window
  have up : b.dev ≠ .reset := by rintro dead; simp [Block.live, dead] at live
  have booted : b.dev ≠ .boot := by rintro dead; simp [Block.live, dead] at live
  refine (if_neg (by simp [live])).trans ((if_neg (Nat.not_le.mpr few)).trans ?_)
  exact resetBegin_idle (b := (b.firnSet K.SYS_WDOG_RESETS ((b.val K.SYS_WDOG_RESETS + 1) % 2 ^ 32)).setSys _) up booted 2 4

theorem watchdog_halts {b : Block} (live : b.live = true)
    (many : 2 ≤ (b.sys.wdogs.filter (fun t => decide (b.ticks < t + 10 * 1600000000))).length) : b.watchdog = b.enterHalt 3 :=
  (if_neg (by simp [live])).trans (if_pos many)

/-! ## The end of RESET, and the boot slots (R470 to R472) -/

/-- RESET of a kind that samples the straps, with no pin held. -/
theorem resetEnd_samples {b : Block} (reset : b.dev = .reset) (released : b.sys.held = 0) (cold : b.sys.kind ≠ 2) (member bootMode : Nat) :
    b.resetEnd member bootMode =
      let c := b.setSys { b.sys with member := member % 16, bootMode := bootMode % 4, booted := false, rejected := 0,
                                     slots := [[0, 1], [1, 0], [0], []].getD (bootMode % 4) [] }
      if bootMode % 4 = 3 then c.enterHalt 2 else { c with dev := .boot } :=
  if_neg (by simp [reset, released, cold])

theorem bootSlot_next {b : Block} {k : Nat} {rest : List Nat} (boot : b.dev = .boot) (waits : b.sys.booted = false)
    (slots : b.sys.slots = k :: rest) (slot : BootSlot) :
    b.bootSlot slot =
      if b.bootCheck slot = 0 then
        let first := b.sys.rejected
        let image := beNat ((slot.header.drop 6).take 2) % 64 + k * 64 + b2n (first != 0) * 128 +
          beNat ((slot.header.drop 16).take 1) % 4 * 256 + first * 1024
        ((b.pv K.SEC_IMAGE 0 image).pv K.SYS_FW_VERSION 0 (beNat ((slot.header.drop 8).take 4))).setSys { b.sys with slots := rest, booted := true }
      else
        let c := b.setSys { b.sys with slots := rest, rejected := b.bootCheck slot }
        if rest.isEmpty = true then c.enterHalt 1 else c := by
  unfold Block.bootSlot
  rw [slots]
  exact if_neg (by simp [boot, waits])

/-! ## Entry to THAW (R470) -/

theorem thawEntry_fromBoot {b : Block} (boot : b.dev = .boot) (booted : b.sys.booted = true) :
    b.thawEntry =
      if Config.firnReadable b.fresh = true then
        let c := [0, 1, 2, 5].foldl Block.pllSeries { b with dev := .thaw, beat := 0, tim := { b.tim with ageAt := b.ticks } }
        let c := c.sys.group.foldl (fun b (_, id, h2e, e2h) => b.groupSession id h2e e2h) c
        let c := c.tiuCalStart
        let c := c.cals.foldl (fun b (t, _) => b.calShow t) c
        (((c.setAux { c.aux with want := true }).auxRefStart).tick.pltSettle).pmQueue false [(pmVoutMode, 0)]
      else b.tick.enterHalt 6 := by
  have cold : (b.dev == .boot && b.sys.booted) = true := by simp [boot, booted]
  simp only [Block.thawEntry, cold, Bool.not_true, Bool.false_and, Bool.false_eq_true, if_false, if_true]
  by_cases readable : Config.firnReadable b.fresh = true
  · simp only [readable, Bool.not_true, Bool.false_eq_true, if_false, if_true]
    rfl
  · rw [if_neg readable, if_pos (by simpa using readable)]

/-- Settles O36: each reset, check and entry takes the branch of the state it comes in. -/
theorem resetAndBoot : Obligations.ResetAndBoot := by
  refine ⟨?_, ?_, ?_, ?_, ?_, ?_, ?_, ?_, ?_, ?_, ?_⟩
  · intro s up booted
    exact next_of_run (·.pinReset 0) rfl
      (congrArg (fun b : Block => b.setSys { b.sys with held := b.sys.held ||| 2 ^ 0 }) (resetBegin_idle (b := s.start) up booted 0 0))
  · intro s up booted
    exact next_of_run (·.pinReset 1) rfl
      (congrArg (fun b : Block => b.setSys { b.sys with held := b.sys.held ||| 2 ^ 1 }) (resetBegin_idle (b := s.start) up booted 1 1))
  · intro s busy kind
    exact next_of_run (·.pinReset 1) rfl
      (congrArg (fun b : Block => b.setSys { b.sys with held := b.sys.held ||| 2 ^ 1 }) (resetBegin_duringPowerOn (b := s.start) busy kind 1))
  · intro pin s
    exact next_of_run (·.pinRelease pin.val) rfl rfl
  · intro recent s live window few
    exact next_of_run Block.watchdog rfl (watchdog_resets (b := s.start) live window few)
  · intro s live many
    exact next_of_run Block.watchdog rfl (watchdog_halts (b := s.start) live many)
  · intro member bootMode s reset released cold boots
    have mode : bootMode.toNat % 4 = bootMode.toNat := Nat.mod_eq_of_lt bootMode.isLt
    have three : bootMode.toNat ≠ 3 := fun h => boots (BitVec.eq_of_toNat_eq h)
    have within : member.toNat % 16 = member.toNat := Nat.mod_eq_of_lt member.isLt
    have samples := resetEnd_samples (b := s.start) reset released cold member.toNat bootMode.toNat
    rw [mode, within, if_neg three] at samples
    exact next_of_run (·.resetEnd member.toNat bootMode.toNat) rfl samples
  · intro member s reset released cold
    have within : member.toNat % 16 = member.toNat := Nat.mod_eq_of_lt member.isLt
    have samples := resetEnd_samples (b := s.start) reset released cold member.toNat 3
    rw [within] at samples
    exact next_of_run (·.resetEnd member.toNat 3) rfl samples
  · intro slot k rest s boot waits slots
    exact next_of_run (·.bootSlot slot) rfl (bootSlot_next (b := s.start) boot waits slots slot)
  · intro s boot booted
    exact next_of_run Block.thawEntry rfl (thawEntry_fromBoot (b := s.start) boot booted)
  · intro s up
    exact next_of_run (fun b => if b.dev = .halt then b else b.enterHalt 4) rfl (if_neg up)

end Sys2Proof
end

section
/-! PROOFS. Writes to the fuses and the keys in a session and sequence (R473, R479 to R481). -/
namespace Sys2Proof
open Machine

/-! ## A write to SEC in a session (R54, R57, R480) -/

/-- A key of SEC whose rows are all IMM: it is no ENABLE, and no core serves it. -/
structure SecKey (b : Block) (k : Nat) (row : Row) : Prop where
  blk : keyBlock k = bSEC
  unserved : serviceCore k = none
  plain : isEnable k = false
  defined : b.keyRow k = some row
  imm : effectOf k row = .imm

theorem secKey_of_keyIs {b : Block} {key lo hi k : Nat} {row : Row} (sel : keyIs key lo hi k = true) (h : b.keyRow k = some row)
    (blk : keyBlock key = bSEC) (item : keyItem key ∉ [1, 2]) (rows : RowsImm key lo hi) : SecKey b k row := by
  obtain ⟨hblk, hitem, -⟩ := keyIs_iff.mp sel
  simp only [List.mem_cons, List.not_mem_nil, or_false, not_or] at item
  have sec : keyBlock k = bSEC := hblk.trans blk
  exact {
    blk := sec
    unserved := by rw [serviceCore, sec, if_neg (fun c => absurd c.1 (by decide))]
    plain := by rw [isEnable, hitem, beq_false_of_ne item.1, Bool.false_and]
    defined := h
    imm := effectOf_imm sel h item.1 item.2 (by rw [blk]; decide) rows }

/-- The status that a write of a session is answered with. -/
def sessionStatus (b : Block) (id seq k v : Nat) (row : Row) : Status :=
  b.checkWrite ⟨.session id seq, b.beat, false, true⟩ [] ⟨k, v⟩ row.width

/-- What a record of a SET that writes SEC leaves: a ZEROISE follows the reply. -/
theorem setAll_sec {b : Block} {k : Nat} {row : Row} (h : SecKey b k row) (m : Mem) (rto : ReplyTo) (id seq beat v : Nat) :
    b.setAll m ⟨.session id seq, rto, 0, beat, []⟩ [⟨k, row.width, v⟩] =
      if (sessionStatus b id seq k v row).good = true then
        if k = K.SEC_ZEROISE ∧ bit v 0 = true then
          { b := b, recs := [(k, (sessionStatus b id seq k v row).num, [])], zero := some ⟨k, v⟩ }
        else { b := (b.writeVal m k v id seq).lanesApply, recs := [(k, (sessionStatus b id seq k v row).num, [])] }
      else
        { b := b.commitRefused k v (sessionStatus b id seq k v row), recs := [(k, (sessionStatus b id seq k v row).num, [])] } := by
  have status (q : Req) (e : q.asker = .session id seq) :
      Block.checkWrite { b with accepted := (b.accept q []).accepted } ⟨.session id seq, b.beat, false, true⟩ [] ⟨k, v⟩ row.width =
        sessionStatus b id seq k v row := by
    obtain ⟨_, _, _, _, _⟩ := q
    cases e
    simp only [Block.accept, Block.takePrimitives, List.map_nil, List.append_nil]
    rfl
  simp only [Block.setAll, List.foldl_cons, List.foldl_nil, Setting.one, h.unserved, h.plain, h.defined, h.imm, WireRec.write,
    beq_self_eq_true, Bool.not_false, Bool.and_true, if_true, status, List.nil_append]
  cases good : (sessionStatus b id seq k v row).good
  · simp only [Bool.not_false, if_true, Bool.false_eq_true, if_false]
  · simp only [if_true, Bool.not_true, Bool.false_eq_true, if_false, Block.takePrimitives, Block.askerIds]

/-- The conditions under which a write to SEC is checked at once, the status that the checks give, and the block with the value stored. -/
structure SecWrite (s : Machine.State) (w : Write) (id seq : BitVec 32) (row : Row) (st : Status) (b : Block) : Prop where
  live : s.blk.live = true
  target : w.target = 0
  free : s.blk.plt.notice = none ∨ s.blk.leader = true
  room : s.blk.waitingGroups < 256
  defined : s.blk.keyRow w.key.toNat = some row
  status : st = s.start.checkWrite ⟨.session id.toNat seq.toNat, s.blk.beat, false, true⟩ [] ⟨w.key.toNat, w.val.toNat⟩ row.width
  stored : b = s.start.storeVal w.key.toNat w.val.toNat

section
variable {s : Machine.State} {w : Write} {id seq : BitVec 32} {row : Row} {st : Status} {b : Block}

theorem SecWrite.writeCmd (h : SecWrite s w id seq row st b) (key : SecKey s.start w.key.toNat row) :
    s.start.writeCmd s.mem w id.toNat seq.toNat =
      (if st.good = true then
        if w.key.toNat = K.SEC_ZEROISE ∧ bit w.val.toNat 0 = true then s.start.zeroise
        else (s.start.writeVal s.mem w.key.toNat w.val.toNat id.toNat seq.toNat).lanesApply
      else s.start.commitRefused w.key.toNat w.val.toNat st).send (.result st.num) := by
  have awaits : s.start.stepAwaited = false := by
    have free : s.start.plt.notice = none ∨ s.start.leader = true := h.free
    rcases free with none | leads
    · simp [Block.stepAwaited, none]
    · simp [Block.stepAwaited, leads]
  have beat : s.start.opBeat 0x11 0 = .inr (s.start.beat + 1) := by
    simp [Block.opBeat, opNotInThaw, opActs, awaits]
  have now : w.target.toNat = 0 := by rw [h.target]; rfl
  have room : ¬ 256 ≤ s.start.waitingGroups := Nat.not_le.mpr h.room
  have status : sessionStatus s.start id.toNat seq.toNat w.key.toNat w.val.toNat row = st := h.status.symm
  simp only [Block.writeCmd, now, beat, if_neg room, key.defined, setAll_sec key, status]
  split
  · split <;> rfl
  · rfl

/-- A write to a SEC register other than ZEROISE, by a command whose row holds it. -/
theorem SecWrite.next (h : SecWrite s w id seq row st b) {o : Host.Outcome Machine.State Fault Refusal} {sel : Nat → Nat → Bool}
    (run : o = s.runSec sel w id seq) (selected : sel w.key.toNat w.val.toNat = true) (key : SecKey s.start w.key.toNat row)
    (other : w.key.toNat ≠ K.SEC_ZEROISE) {c : Block}
    (makes : b.secWrote (keyInst w.key.toNat) (keyItem w.key.toNat) w.val.toNat id.toNat seq.toNat = c) :
    o = .next (s.finish (
      if st.good = true then c.lanesApply.send (.result st.num)
      else (s.start.commitRefused w.key.toNat w.val.toNat st).send (.result st.num))) := by
  have sec : s.start.writeVal s.mem w.key.toNat w.val.toNat id.toNat seq.toNat = c := by
    rw [← makes, h.stored]
    simp only [Block.writeVal, Block.actVal, key.blk, bSEC]
  have keeps : ¬ (w.key.toNat = K.SEC_ZEROISE ∧ bit w.val.toNat 0 = true) := fun zeroise => other zeroise.1
  rw [run, Machine.State.runSec, runLive_live _ _ h.live, if_pos selected, h.writeCmd key, if_neg keeps, sec]
  split <;> rfl

end

/-! ## What each write makes of the keys (R473, R480) -/

theorem secWrote_fuse (b : Block) (v id seq : Nat) :
    b.secWrote 0 0x12 v id seq =
      let fuse := b.val K.SEC_FUSE_STATE
      let fuse := if bit v 0 = true then setBits fuse 5 0 (max (bits fuse 5 0) (b.f K.SEC_IMAGE 0 5 0)) else fuse
      b.firnSet K.SEC_FUSE_STATE (setBits fuse 9 6 (bits fuse 9 6 ||| bits v 4 1)) := rfl

/-- A commit names an action. -/
theorem commit_installs {v : Nat} (install : bit v 0 = true) : v % 4 ≠ 0 := by
  simp only [bit, beq_iff_eq] at install
  omega

theorem commit_removes {v : Nat} (remove : bit v 1 = true) : v % 4 ≠ 0 := by
  simp only [bit, beq_iff_eq] at remove
  omega

section
variable {b : Block} {v k : Nat}

/-- A commit of a host key is one of the first kind. -/
theorem secWrote_host (few : k < 8) (acts : v % 4 ≠ 0) (id seq : Nat) :
    b.secWrote (0x10 + k) 0x20 v id seq =
      (if bit v 0 = true then
        ((b.setSys { b.sys with host := tset b.sys.host k (beNat ((b.staged (0x10 + k) 13).take 97)) }).firnSet K.SEC_HOST_KEYS
          (setBits (b.val K.SEC_HOST_KEYS) k k 1)).keyEvent 0 k 0 id
      else if bit v 1 = true ∧ bit (b.val K.SEC_HOST_KEYS) k = true then
        ((b.setSys { b.sys with host := tdel b.sys.host k }).firnSet K.SEC_HOST_KEYS (setBits (b.val K.SEC_HOST_KEYS) k k 0)).keyEvent 0 k 1 id
      else b).unstage (0x10 + k) 13 := by
  have host : 0x10 + k < 0x20 := by omega
  have number : 0x10 + k - 0x10 = k := Nat.add_sub_cancel_left ..
  refine (if_neg (by omega)).trans ((if_neg acts).trans ((if_pos ⟨host, rfl⟩).trans ?_))
  rw [number]

theorem secWrote_hostEnroll (few : k < 8) (enroll : bit v 0 = true) (id seq : Nat) :
    b.secWrote (0x10 + k) 0x20 v id seq =
      (((b.setSys { b.sys with host := tset b.sys.host k (beNat ((b.staged (0x10 + k) 13).take 97)) }).firnSet K.SEC_HOST_KEYS
        (setBits (b.val K.SEC_HOST_KEYS) k k 1)).keyEvent 0 k 0 id).unstage (0x10 + k) 13 := by
  rw [secWrote_host few (commit_installs enroll), if_pos enroll]

theorem secWrote_hostRemove (few : k < 8) (remove : bit v 1 = true) (only : bit v 0 = false) (held : bit (b.val K.SEC_HOST_KEYS) k = true)
    (id seq : Nat) :
    b.secWrote (0x10 + k) 0x20 v id seq =
      (((b.setSys { b.sys with host := tdel b.sys.host k }).firnSet K.SEC_HOST_KEYS (setBits (b.val K.SEC_HOST_KEYS) k k 0)).keyEvent
        0 k 1 id).unstage (0x10 + k) 13 := by
  rw [secWrote_host few (commit_removes remove), if_neg (by simp [only]), if_pos ⟨remove, held⟩]

/-- A group key that nothing opens leaves no key. -/
theorem secWrote_groupInstall_refused (few : k < 4) (install : bit v 0 = true) {id seq : Nat}
    (opened : b.unwrap (0x20 + k) 80 (mkKey bSEC (0x20 + k) 0x21) id seq = none) :
    b.secWrote (0x20 + k) 0x21 v id seq = b.unstage (0x20 + k) 10 := by
  have group : 0x20 ≤ 0x20 + k ∧ 0x20 + k < 0x30 := by omega
  have host : ¬ 0x20 + k < 0x20 := by omega
  simp [Block.secWrote, commit_installs install, install, group, host, opened]

theorem secWrote_groupInstall (few : k < 4) (install : bit v 0 = true) {id seq : Nat} {keys : List Byte}
    (opened : b.unwrap (0x20 + k) 80 (mkKey bSEC (0x20 + k) 0x21) id seq = some keys) (empty : tfind b.sys.group k = none) :
    b.secWrote (0x20 + k) 0x21 v id seq =
      let n := b.val (ki K.SEC_GROUP_ID (0x20 + k))
      let c := b.groupSession n (keys.take 32) ((keys.drop 32).take 32)
      (((c.setSys { c.sys with group := tset c.sys.group k (n, keys.take 32, (keys.drop 32).take 32) }).firnSet
        (ki K.SEC_GROUP_STATE (0x20 + k)) 1).keyEvent 1 k 0 id).unstage (0x20 + k) 10 := by
  have group : 0x20 ≤ 0x20 + k ∧ 0x20 + k < 0x30 := by omega
  have host : ¬ 0x20 + k < 0x20 := by omega
  simp [Block.secWrote, commit_installs install, install, group, host, opened, empty]

theorem secWrote_groupRemove (few : k < 4) (remove : bit v 1 = true) (only : bit v 0 = false) {n : Nat} {h e : List Byte}
    (held : tfind b.sys.group k = some (n, h, e)) (id seq : Nat) :
    b.secWrote (0x20 + k) 0x21 v id seq =
      let c : Block := { b with sessions := b.sessions.filter (fun s => s.id != n) }
      (((c.setSys { c.sys with group := tdel c.sys.group k }).firnSet (ki K.SEC_GROUP_STATE (0x20 + k)) 0).keyEvent 1 k 1 id).unstage
        (0x20 + k) 10 := by
  have group : 0x20 ≤ 0x20 + k ∧ 0x20 + k < 0x30 := by omega
  have host : ¬ 0x20 + k < 0x20 := by omega
  simp [Block.secWrote, commit_removes remove, remove, only, group, host, held]

/-- A stream key that nothing opens leaves no key. -/
theorem secWrote_streamInstall_refused (install : bit v 0 = true) {id seq : Nat}
    (opened : b.unwrap (0x30 + k) 52 (mkKey bSEC (0x30 + k) 0x20) id seq = none) :
    b.secWrote (0x30 + k) 0x20 v id seq = b.unstage (0x30 + k) 7 := by
  have stream : 0x30 ≤ 0x30 + k := by omega
  have host : ¬ 0x30 + k < 0x20 := by omega
  simp [Block.secWrote, commit_installs install, install, stream, host, opened]

theorem secWrote_streamInstall (install : bit v 0 = true) {id seq : Nat} {key : List Byte}
    (opened : b.unwrap (0x30 + k) 52 (mkKey bSEC (0x30 + k) 0x20) id seq = some key) :
    b.secWrote (0x30 + k) 0x20 v id seq =
      ((({ b with streamKeys := tset b.streamKeys k (beNat (key.take 32), beNat ((key.drop 32).take 4)) } : Block).firnSet
        (ki K.SEC_STREAM_STATE (0x30 + k)) 1).keyEvent 2 k 0 id).unstage (0x30 + k) 7 := by
  have stream : 0x30 ≤ 0x30 + k := by omega
  have host : ¬ 0x30 + k < 0x20 := by omega
  simp [Block.secWrote, commit_installs install, install, stream, host, opened]

theorem secWrote_streamRemove (remove : bit v 1 = true) (only : bit v 0 = false) (held : (tfind b.streamKeys k).isSome = true)
    (id seq : Nat) :
    b.secWrote (0x30 + k) 0x20 v id seq =
      ((({ b with streamKeys := tdel b.streamKeys k } : Block).firnSet (ki K.SEC_STREAM_STATE (0x30 + k)) 0).keyEvent 2 k 1 id).unstage
        (0x30 + k) 7 := by
  have stream : 0x30 ≤ 0x30 + k := by omega
  have host : ¬ 0x30 + k < 0x20 := by omega
  simp [Block.secWrote, commit_removes remove, remove, only, stream, host, held]

end

/-! ## The keys of the commits (R480) -/

theorem hostCommit_key : ∀ k : Fin 8, keyIs K.SEC_HOST_COMMIT 0x10 0x17 (ki K.SEC_HOST_COMMIT (0x10 + k.val)) = true ∧
    keyInst (ki K.SEC_HOST_COMMIT (0x10 + k.val)) = 0x10 + k.val ∧ keyItem (ki K.SEC_HOST_COMMIT (0x10 + k.val)) = 0x20 ∧
    ki K.SEC_HOST_COMMIT (0x10 + k.val) ≠ K.SEC_ZEROISE := by decide

theorem groupCommit_key : ∀ g : Fin 4, keyIs K.SEC_GROUP_COMMIT 0x20 0x23 (ki K.SEC_GROUP_COMMIT (0x20 + g.val)) = true ∧
    keyInst (ki K.SEC_GROUP_COMMIT (0x20 + g.val)) = 0x20 + g.val ∧ keyItem (ki K.SEC_GROUP_COMMIT (0x20 + g.val)) = 0x21 ∧
    ki K.SEC_GROUP_COMMIT (0x20 + g.val) ≠ K.SEC_ZEROISE ∧ ki K.SEC_GROUP_COMMIT (0x20 + g.val) = mkKey bSEC (0x20 + g.val) 0x21 := by decide

theorem streamCommit_key : ∀ k : Fin 8, keyIs K.SEC_STREAM_COMMIT 0x30 0x37 (ki K.SEC_STREAM_COMMIT (0x30 + k.val)) = true ∧
    keyInst (ki K.SEC_STREAM_COMMIT (0x30 + k.val)) = 0x30 + k.val ∧ keyItem (ki K.SEC_STREAM_COMMIT (0x30 + k.val)) = 0x20 ∧
    ki K.SEC_STREAM_COMMIT (0x30 + k.val) ≠ K.SEC_ZEROISE ∧ ki K.SEC_STREAM_COMMIT (0x30 + k.val) = mkKey bSEC (0x30 + k.val) 0x20 := by decide

section
variable {s : Machine.State} {w : Write} {id seq : BitVec 32} {row : Row} {st : Status} {b c : Block}
  {o : Host.Outcome Machine.State Fault Refusal} {sel : Nat → Nat → Bool}

/-- A write to FUSE_OP: it is no commit, so a refusal changes nothing. -/
theorem SecWrite.next_fuse (h : SecWrite s w id seq row st b) (key : w.key.toNat = K.SEC_FUSE_OP) (run : o = s.runSec sel w id seq)
    (selected : sel w.key.toNat w.val.toNat = true) (makes : b.secWrote 0 0x12 w.val.toNat id.toNat seq.toNat = c) :
    o = .next (s.finish (if st.good = true then c.lanesApply.send (.result st.num) else s.start.send (.result st.num))) := by
  have fuse : keyIs K.SEC_FUSE_OP 0 0 w.key.toNat = true := by rw [key]; decide
  obtain ⟨inst, item⟩ : keyInst w.key.toNat = 0 ∧ keyItem w.key.toNat = 0x12 := by rw [key]; decide
  have noCommit : s.start.commitRefused w.key.toNat w.val.toNat st = s.start :=
    if_neg (fun ⟨_, commit, _⟩ => absurd commit (by rw [inst, item]; decide))
  have written := h.next run selected (secKey_of_keyIs (b := s.start) fuse h.defined rfl (by decide) (by decide)) (by rw [key]; decide)
    (by rw [inst, item, makes])
  rwa [noCommit] at written

/-- A commit of host key `k`. -/
theorem SecWrite.next_host (h : SecWrite s w id seq row st b) {k : Fin 8} (key : w.key.toNat = ki K.SEC_HOST_COMMIT (0x10 + k.val))
    (run : o = s.runSec sel w id seq) (selected : keyIs K.SEC_HOST_COMMIT 0x10 0x17 w.key.toNat = true → sel w.key.toNat w.val.toNat = true)
    (makes : b.secWrote (0x10 + k.val) 0x20 w.val.toNat id.toNat seq.toNat = c) :
    o = .next (s.finish (
      if st.good = true then c.lanesApply.send (.result st.num)
      else (s.start.commitRefused w.key.toNat w.val.toNat st).send (.result st.num))) := by
  obtain ⟨commit, inst, item, other⟩ := hostCommit_key k
  rw [← key] at commit inst item other
  exact h.next run (selected commit) (secKey_of_keyIs (b := s.start) commit h.defined rfl (by decide) (by decide)) other
    (by rw [inst, item, makes])

/-- A commit of group key `g`. -/
theorem SecWrite.next_group (h : SecWrite s w id seq row st b) {g : Fin 4} (key : w.key.toNat = ki K.SEC_GROUP_COMMIT (0x20 + g.val))
    (run : o = s.runSec sel w id seq) (selected : keyIs K.SEC_GROUP_COMMIT 0x20 0x23 w.key.toNat = true → sel w.key.toNat w.val.toNat = true)
    (makes : b.secWrote (0x20 + g.val) 0x21 w.val.toNat id.toNat seq.toNat = c) :
    o = .next (s.finish (
      if st.good = true then c.lanesApply.send (.result st.num)
      else (s.start.commitRefused w.key.toNat w.val.toNat st).send (.result st.num))) := by
  obtain ⟨commit, inst, item, other, -⟩ := groupCommit_key g
  rw [← key] at commit inst item other
  exact h.next run (selected commit) (secKey_of_keyIs (b := s.start) commit h.defined rfl (by decide) (by decide)) other
    (by rw [inst, item, makes])

/-- A commit of stream key `k`. -/
theorem SecWrite.next_stream (h : SecWrite s w id seq row st b) {k : Fin 8} (key : w.key.toNat = ki K.SEC_STREAM_COMMIT (0x30 + k.val))
    (run : o = s.runSec sel w id seq) (selected : keyIs K.SEC_STREAM_COMMIT 0x30 0x37 w.key.toNat = true → sel w.key.toNat w.val.toNat = true)
    (makes : b.secWrote (0x30 + k.val) 0x20 w.val.toNat id.toNat seq.toNat = c) :
    o = .next (s.finish (
      if st.good = true then c.lanesApply.send (.result st.num)
      else (s.start.commitRefused w.key.toNat w.val.toNat st).send (.result st.num))) := by
  obtain ⟨commit, inst, item, other, -⟩ := streamCommit_key k
  rw [← key] at commit inst item other
  exact h.next run (selected commit) (secKey_of_keyIs (b := s.start) commit h.defined rfl (by decide) (by decide)) other
    (by rw [inst, item, makes])

/-- A ZEROISE that passes its checks. -/
theorem SecWrite.next_zeroise (h : SecWrite s w id seq row st b) (key : w.key.toNat = K.SEC_ZEROISE) (asked : bit w.val.toNat 0 = true)
    (good : st.good = true) (run : o = s.runSec selZeroise w id seq) :
    o = .next (s.finish (s.start.zeroise.send (.result st.num))) := by
  have selected : selZeroise w.key.toNat w.val.toNat = true := by simp only [selZeroise, key]; decide
  rw [run, Machine.State.runSec, runLive_live _ _ h.live, if_pos selected,
    h.writeCmd (secKey_of_keyIs (b := s.start) selected h.defined rfl (by decide) (by decide)), if_pos good, if_pos ⟨key, asked⟩]

end

/-- Settles O48: each write is one to a register of SEC that is taken at once, and `secWrote` of it is what the statement says. -/
theorem keyAndFuseWrites : Obligations.KeyAndFuseWrites := by
  refine ⟨?_, ?_, ?_, ?_, ?_, ?_, ?_, ?_⟩
  · rintro i w id seq row st b s command key live target free room defined status stored
    have h : SecWrite s w id seq row st b := ⟨live, target, free, room, defined, status, stored⟩
    rcases command with ⟨rfl, advance⟩ | ⟨rfl, revoke⟩
    · exact h.next_fuse (sel := selSvn) key rfl (by simp only [selSvn, key, advance]; decide) (secWrote_fuse ..)
    · exact h.next_fuse (sel := selRevoke) key rfl (by simp only [selRevoke, key, revoke]; decide) (secWrote_fuse ..)
  · rintro k w id seq row st b s keeps enroll key live target free room defined status stored
    have h : SecWrite s w id seq row st b := ⟨live, target, free, room, defined, status, stored⟩
    exact h.next_host (sel := selHostEnroll) key rfl (fun commit => by simp only [selHostEnroll, commit, keeps]; decide)
      (secWrote_hostEnroll k.isLt enroll ..)
  · rintro k w id seq row st b s remove only key held live target free room defined status stored
    have h : SecWrite s w id seq row st b := ⟨live, target, free, room, defined, status, stored⟩
    exact h.next_host (sel := selHostRemove) key rfl (fun commit => by simp only [selHostRemove, commit, remove]; decide)
      (secWrote_hostRemove k.isLt remove only held ..)
  · rintro g w id seq row st b s keeps install key live target free room defined status stored empty
    have h : SecWrite s w id seq row st b := ⟨live, target, free, room, defined, status, stored⟩
    have selected (commit : keyIs K.SEC_GROUP_COMMIT 0x20 0x23 w.key.toNat = true) : selGroupInstall w.key.toNat w.val.toNat = true := by
      simp only [selGroupInstall, commit, keeps]; decide
    obtain ⟨-, -, -, -, place⟩ := groupCommit_key g
    have name := key.trans place
    cases opened : b.unwrap (0x20 + g.val) 80 w.key.toNat id.toNat seq.toNat with
    | none => exact h.next_group key rfl selected (secWrote_groupInstall_refused g.isLt install (name ▸ opened))
    | some keys => exact h.next_group key rfl selected (secWrote_groupInstall g.isLt install (name ▸ opened) empty)
  · rintro g w id seq row st b n hostKey engineKey s remove only key live target free room defined status stored held
    have h : SecWrite s w id seq row st b := ⟨live, target, free, room, defined, status, stored⟩
    exact h.next_group (sel := selGroupRemove) key rfl (fun commit => by simp only [selGroupRemove, commit, remove]; decide)
      (secWrote_groupRemove g.isLt remove only held ..)
  · rintro k w id seq row st b s keeps install key live target free room defined status stored
    have h : SecWrite s w id seq row st b := ⟨live, target, free, room, defined, status, stored⟩
    have selected (commit : keyIs K.SEC_STREAM_COMMIT 0x30 0x37 w.key.toNat = true) : selStreamInstall w.key.toNat w.val.toNat = true := by
      simp only [selStreamInstall, commit, keeps]; decide
    obtain ⟨-, -, -, -, place⟩ := streamCommit_key k
    have name := key.trans place
    cases opened : b.unwrap (0x30 + k.val) 52 w.key.toNat id.toNat seq.toNat with
    | none => exact h.next_stream key rfl selected (secWrote_streamInstall_refused install (name ▸ opened))
    | some keys => exact h.next_stream key rfl selected (secWrote_streamInstall install (name ▸ opened))
  · rintro k w id seq row st b s remove only key live target free room defined status stored held
    have h : SecWrite s w id seq row st b := ⟨live, target, free, room, defined, status, stored⟩
    exact h.next_stream (sel := selStreamRemove) key rfl (fun commit => by simp only [selStreamRemove, commit, remove]; decide)
      (secWrote_streamRemove remove only held ..)
  · rintro w id seq row st s asked key live target free room defined status good
    exact SecWrite.next_zeroise ⟨live, target, free, room, defined, status, rfl⟩ key asked good rfl

end Sys2Proof
end

section
/-! PROOFS. What holds of every command and every step: the queue, the outcome, and the byte memories. -/
namespace Sys2Proof
open Machine

/-! ## Commands and the queue (R37, R55) -/

/-- Every command answers what `finish` makes of a function of the memories and the block. -/
theorem exec_next (c : Instr) : ∃ f : Mem → Block → Block, ∀ s : Machine.State, exec c s = .next (s.finish (f s.mem s.start)) := by
  obtain ⟨f, runs⟩ := exec_run c
  exact ⟨f, fun s => (runs s).trans (run_next f s)⟩

theorem step_front {c : Instr} {rest : List Instr} {s : Machine.State} (front : s.pending = c :: rest) :
    step s = exec c { s with pending := rest } := by
  simp only [step, front]

/-- Settles O50: the step of a queue with a command in front is that command's, on the queue's rest. -/
theorem stepTakesTheFront : Obligations.StepTakesTheFront := fun _ _ _ front => step_front front

/-- Settles O52: a command runs a function of the memories and of the block with its outputs cleared. -/
theorem everyCommandCompletes : Obligations.EveryCommandCompletes := by
  refine ⟨fun c s => ?_, fun c s u start mem pending => ?_⟩
  · obtain ⟨f, next⟩ := exec_next c
    exact ⟨_, next s, rfl⟩
  · obtain ⟨f, next⟩ := exec_next c
    rw [next, next, Machine.State.finish, Machine.State.finish, start, mem, pending]

/-- A step with a command waiting answers a state in which the rest of the queue waits. -/
theorem step_serves {c : Instr} {rest : List Instr} {s : Machine.State} (front : s.pending = c :: rest) :
    ∃ t : Machine.State, step s = .next t ∧ t.pending = rest := by
  obtain ⟨t, next, queue⟩ := everyCommandCompletes.1 c { s with pending := rest }
  exact ⟨t, (step_front front).trans next, queue⟩

/-- Settles O53, by induction on the queue. -/
theorem queueIsServed : Obligations.QueueIsServed := by
  intro s
  generalize queue : s.pending = l
  induction l generalizing s with
  | nil => exact ⟨s, rfl, queue⟩
  | cons c rest ih =>
    obtain ⟨u, next, waits⟩ := step_serves queue
    obtain ⟨t, run, empty⟩ := ih u waits
    refine ⟨t, ?_, empty⟩
    have first : Sys2Proof.core.step s = .next u := next
    simp only [List.length_cons, Host.Core.run, first]
    exact run

/-! ## The byte memories (R64, R234) -/

/-- A command's state holds its block's stores, made on the memories it found. -/
theorem exec_mem {c : Instr} {s t : Machine.State} (next : exec c s = .next t) : t.mem = memApplyAll s.mem t.blk.stores := by
  obtain ⟨f, runs⟩ := exec_next c
  rw [runs, Host.Outcome.next.injEq] at next
  rw [← next]
  rfl

theorem exec_memOk {c : Instr} {s t : Machine.State} (ok : MemOk s) (next : exec c s = .next t) : MemOk t := by
  rw [MemOk, exec_mem next]
  exact memApplyAll_wf _ _ ok

/-- Settles O54: an idle step leaves the memories, and a command makes its stores on them. -/
theorem memoryStaysCanonical : Obligations.MemoryStaysCanonical := by
  intro s t ok next
  cases queue : s.pending with
  | nil =>
    rw [step_idle s queue, Host.Outcome.next.injEq] at next
    rw [← next]
    exact ok
  | cons c rest =>
    rw [step_front queue] at next
    exact exec_memOk (s := { s with pending := rest }) ok next

end Sys2Proof
end

section
/-! PROOFS. The next request of a session: what its arrival leaves of the block, its beat, and its answer (R37, R53). -/
namespace Sys2Proof
open Machine

/-! ## What the arrival of a packet leaves -/

/-- An arrival counts, and touches no other part of the block. -/
theorem arrive_leaves (b : Block) (port : Nat) :
    (b.arrive port).dev = b.dev ∧ (b.arrive port).beat = b.beat ∧ (b.arrive port).ticks = b.ticks ∧ (b.arrive port).sessions = b.sessions ∧
      (b.arrive port).shakes = b.shakes ∧ (b.arrive port).accepted = b.accepted ∧ (b.arrive port).plt = b.plt ∧ (b.arrive port).sys = b.sys ∧
      (b.arrive port).fresh = b.fresh ∧ (b.arrive port).raised = b.raised ∧ (b.arrive port).stores = b.stores := by
  simp only [Block.arrive, Block.heard]
  split <;> exact ⟨rfl, rfl, rfl, rfl, rfl, rfl, rfl, rfl, rfl, rfl, rfl⟩

/-- Of the parameters an arrival changes the interface's RX_FRAMES alone. -/
theorem val_arrive (b : Block) (port : Nat) {k : Nat} (other : k ≠ ki K.NET_RX_FRAMES port) : (b.arrive port).val k = b.val k := by
  have heard : (b.arrive port).val k = (b.heard port).val k := rfl
  rw [heard, Block.heard]
  split
  · rfl
  · exact val_pv_ne _ _ _ _ _ other

/-- A key outside the network's block is no RX_FRAMES. -/
theorem ne_rxFrames {k : Nat} (blk : keyBlock k ≠ bNET) (port : Fin 17) : k ≠ ki K.NET_RX_FRAMES port.val := by
  rintro rfl
  exact blk ((by decide : ∀ port : Fin 17, keyBlock (ki K.NET_RX_FRAMES port.val) = bNET) port)

/-! ## What the session's taking of a request leaves -/

section
variable (p : Packet) (x : Session) (s : Machine.State)

theorem opened_leaves :
    (opened p x s).dev = s.blk.dev ∧ (opened p x s).beat = s.blk.beat ∧ (opened p x s).accepted = s.blk.accepted ∧
      (opened p x s).plt = s.blk.plt ∧ (opened p x s).sys = s.blk.sys ∧ (opened p x s).raised = [] ∧ (opened p x s).stores = [] := by
  obtain ⟨dev, beat, -, -, -, accepted, plt, sys, -, raised, stores⟩ := arrive_leaves s.start p.port.val
  exact ⟨dev, beat, accepted, plt, sys, raised, stores⟩

theorem opened_dev : (opened p x s).dev = s.blk.dev := by
  obtain ⟨dev, -⟩ := opened_leaves p x s
  exact dev

theorem opened_beat : (opened p x s).beat = s.blk.beat := by
  obtain ⟨-, beat, -⟩ := opened_leaves p x s
  exact beat

theorem opened_accepted : (opened p x s).accepted = s.blk.accepted := by
  obtain ⟨-, -, accepted, -⟩ := opened_leaves p x s
  exact accepted

theorem opened_val {k : Nat} (blk : keyBlock k ≠ bNET) : (opened p x s).val k = s.blk.val k :=
  val_arrive s.start p.port.val (ne_rxFrames blk p.port)

theorem opened_waitingGroups : (opened p x s).waitingGroups = s.blk.waitingGroups := by
  rw [Block.waitingGroups, Block.waitingGroups, opened_accepted]

theorem opened_leader : (opened p x s).leader = s.blk.leader := by
  obtain ⟨-, -, -, -, sys, -⟩ := opened_leaves p x s
  simp only [Block.leader, Block.topology, Block.member, Block.f, sys]
  rw [opened_val _ _ _ (by decide)]

end

/-- An engine with no step notice to obey holds no request back (R455). -/
theorem stepAwaited_of_free {b : Block} (free : b.plt.notice = none ∨ b.leader = true) : b.stepAwaited = false := by
  rcases free with none | leads
  · simp [Block.stepAwaited, none]
  · simp [Block.stepAwaited, leads]

theorem opened_stepAwaited {p : Packet} {s : Machine.State} (x : Session) (free : s.blk.plt.notice = none ∨ s.blk.leader = true) :
    (opened p x s).stepAwaited = false := by
  obtain ⟨-, -, -, plt, -⟩ := opened_leaves p x s
  exact stepAwaited_of_free (by rwa [plt, opened_leader])

/-! ## The beat of a request (R53, R61) -/

/-- There is room for a request that has its beat. -/
theorem room_of_dated {p : Packet} {t : Nat} {s : Machine.State} (x : Session) (dated : Dated p t s) : (opened p x s).waitingGroups < 256 := by
  obtain ⟨-, -, room⟩ := dated
  rwa [opened_waitingGroups]

/-- An opcode that acts at a beat acts at the next one or at the one that the request names. -/
theorem opBeat_dated {op : Nat} {p : Packet} {t : Nat} {s : Machine.State} (x : Session) (acts : opActs op = true)
    (offered : opNotInThaw op = false ∨ s.blk.dev = .flow) (dated : Dated p t s) : (opened p x s).opBeat op p.target.toNat = .inr t := by
  obtain ⟨beat, free, -⟩ := dated
  have thaw : ¬ (opNotInThaw op = true ∧ (opened p x s).dev = .thaw) := by
    rw [opened_dev]
    rcases offered with always | flow
    · simp [always]
    · simp [flow]
  have enterFlow : op ≠ 0x80 := by
    rintro rfl
    exact absurd acts (by decide)
  simp only [Block.opBeat, thaw, enterFlow, acts, opened_stepAwaited x free, opened_beat, false_and, and_false, or_false, if_false, Bool.not_true,
    Bool.false_eq_true]
  rcases beat with ⟨next, rfl⟩ | ⟨after, within, rfl⟩
  · rw [if_pos (by rw [next]; rfl)]
  · rw [if_neg (by omega), if_neg (by omega), if_neg (by omega)]

/-- An opcode that acts at no beat is served in the present one. -/
theorem opBeat_now {op : Nat} {p : Packet} {s : Machine.State} (x : Session) (acts : opActs op = false)
    (offered : opNotInThaw op = false ∨ s.blk.dev = .flow) (flow : op ≠ 0x80 ∨ s.blk.dev = .thaw) (target : p.target = 0) :
    (opened p x s).opBeat op p.target.toNat = .inr s.blk.beat := by
  have thaw : ¬ (opNotInThaw op = true ∧ (opened p x s).dev = .thaw) := by
    rw [opened_dev]
    rcases offered with always | flow
    · simp [always]
    · simp [flow]
  have twice : ¬ (op = 0x80 ∧ (opened p x s).dev = .flow) := by
    rintro ⟨enter, there⟩
    rw [opened_dev] at there
    rcases flow with other | thaw
    · exact other enter
    · exact absurd (thaw.symm.trans there) (by decide)
  simp only [Block.opBeat, thaw, twice, acts, opened_beat, false_and, or_false, if_false, Bool.not_false, Bool.false_eq_true, if_true]
  rw [if_pos (by rw [target]; rfl)]

/-! ## The answer of a request -/

/-- A session that a host opened is of no group. -/
theorem isGroup_of_comes {op : Nat} {p : Packet} {x : Session} {s : Machine.State} (comes : Comes op p x s) : isGroup x.id = false := by
  obtain ⟨-, -, -, -, -, -, -, -, -, -, low, found, -⟩ := comes
  rw [session_id _ _ _ found, isGroup, decide_eq_false_iff_not]
  exact Nat.not_le.mpr low

/-- What the performance of a request leaves once its answer is sent. -/
def answered (q : Req) (c : Block) (r : Option Answer) : Block :=
  match r with
  | some a => c.reply q.rto a.1 q.beat a.2
  | none => c

section
variable {op : Nat} {p : Packet} {x : Session} {t : Nat} {s : Machine.State} {o : Host.Outcome Machine.State Fault Refusal} {c d : Block}
  {r : Option Answer}

/-- The request of a session of no group, of a known opcode and with its beat settled, is performed and answered. -/
theorem serve_performs (b : Block) (m : Mem) (alone : isGroup x.id = false) (known : opKnown op = true)
    (beat : b.opBeat op p.target.toNat = .inr t) (performs : b.opPerform m op (asked op p x t) = (c, r, none)) :
    b.serve m op (.session x.id p.seq.toNat) (asked op p x 0).rto p.target.toNat p.payload = answered (asked op p x t) c r := by
  have performs : b.opPerform m op ⟨.session x.id p.seq.toNat, (asked op p x 0).rto, p.target.toNat, t, p.payload⟩ = (c, r, none) := performs
  rw [serve_at _ _ _ _ _ _ _ _ _ known beat, performs]
  cases r with
  | none => rfl
  | some a => simp only [Block.answer, Block.groupReply, asked, alone, answered, Bool.false_eq_true, if_false]

/-- The next request of a session. -/
theorem next_of_request (run : o = s.runPacket op p) (comes : Comes op p x s) (tagged : Tagged op p x.h2e) (known : opKnown op = true)
    (beat : (opened p x s).opBeat op p.target.toNat = .inr t) (performs : (opened p x s).opPerform s.mem op (asked op p x t) = (c, r, none))
    (makes : answered (asked op p x t) c r = d) : o = .next (s.finish d) := by
  rw [run, runPacket_next op p x s comes tagged, serve_performs _ _ (isGroup_of_comes comes) known beat performs, makes]

/-- A request whose opcode acts at a beat. -/
theorem next_of_dated (run : o = s.runPacket op p) (comes : Comes op p x s) (tagged : Tagged op p x.h2e) (acts : opActs op = true)
    (offered : opNotInThaw op = false ∨ s.blk.dev = .flow) (dated : Dated p t s)
    (performs : (opened p x s).opPerform s.mem op (asked op p x t) = (c, r, none)) (makes : answered (asked op p x t) c r = d) :
    o = .next (s.finish d) :=
  next_of_request run comes tagged (by simp [opKnown, acts]) (opBeat_dated x acts offered dated) performs makes

/-- A request whose opcode acts at no beat. -/
theorem next_of_now (run : o = s.runPacket op p) (comes : Comes op p x s) (tagged : Tagged op p x.h2e) (known : opKnown op = true)
    (acts : opActs op = false) (offered : opNotInThaw op = false ∨ s.blk.dev = .flow) (flow : op ≠ 0x80 ∨ s.blk.dev = .thaw) (target : p.target = 0)
    (performs : (opened p x s).opPerform s.mem op (asked op p x s.blk.beat) = (c, r, none))
    (makes : answered (asked op p x s.blk.beat) c r = d) : o = .next (s.finish d) :=
  next_of_request run comes tagged known (opBeat_now x acts offered flow target) performs makes

end

/-! ## What a reply leaves -/

theorem sendMsg_leaves (b : Block) (port addr dport : Nat) (m : BcpMsg) :
    (b.sendMsg port addr dport m).raised = b.raised ∧ (b.sendMsg port addr dport m).stores = b.stores ∧
      (b.sendMsg port addr dport m).sessions = b.sessions := by
  unfold Block.sendMsg
  split <;> split <;> exact ⟨rfl, rfl, rfl⟩

/-- A reply raises no event and stores nothing. -/
theorem reply_leaves (b : Block) (rto : ReplyTo) (status target : Nat) (payload : List Byte) :
    (b.reply rto status target payload).raised = b.raised ∧ (b.reply rto status target payload).stores = b.stores := by
  unfold Block.reply
  split
  · exact ⟨rfl, rfl⟩
  · dsimp only
    split
    · exact ⟨rfl, rfl⟩
    · obtain ⟨raised, stores, -⟩ := sendMsg_leaves (b.setSession _) rto.port rto.addr rto.dport _
      exact ⟨raised, stores⟩

end Sys2Proof
end

section
/-! PROOFS. The statements of the requests that read and write records and name units: GET, SET, SET_MANY, ARM, DISARM, FORCE and CAL_RUN. -/
namespace Sys2Proof
open Machine

/-! ## Performance, opcode by opcode (R61) -/

section
variable {b : Block} {q : Req} {recs : List WireRec} (m : Mem)

theorem opPerform_get (records : parseRecs 256 q.body = some recs) (fits : b.readTooBig q recs = false) :
    b.opPerform m 0x10 q = ((b.getEach q recs).1, (b.getEach q recs).2, none) := by
  simp [Block.opPerform, opRecords, opActs, records, fits]

theorem opPerform_set (records : parseRecs 256 q.body = some recs) (room : b.waitingGroups < 256) :
    b.opPerform m 0x11 q = b.setEach m q recs := by
  simp [Block.opPerform, opRecords, records, Nat.not_le.mpr room]

theorem opPerform_setMany (records : parseRecs 256 q.body = some recs) (room : b.waitingGroups < 256) :
    b.opPerform m 0x12 q = ((b.setMany q recs).1, some (b.setMany q recs).2, none) := by
  simp [Block.opPerform, opRecords, records, Nat.not_le.mpr room]

/-- The opcodes that name units. -/
def opUnits (op : Nat) : Bool := [0x20, 0x21, 0x22, 0x70].contains op

theorem opUnits_iff {op : Nat} : opUnits op = true ↔ op = 0x20 ∨ op = 0x21 ∨ op = 0x22 ∨ op = 0x70 := by
  simp [opUnits]

theorem opPerform_units {op : Nat} (names : opUnits op = true) (room : b.waitingGroups < 256) :
    b.opPerform m op q = ((b.units op q).1, some (b.units op q).2, none) := by
  obtain rfl | rfl | rfl | rfl := opUnits_iff.mp names <;> simp [Block.opPerform, opRecords, Nat.not_le.mpr room]

end

/-! ## GET (R46, R508) -/

/-- A GET of one parameter that no core serves reads it. -/
theorem getEach_one {b c : Block} {q : Req} {k st : Nat} {v : List Byte} (unserved : serviceCore k = none) (read : b.readRecord k = (c, st, v)) :
    b.getEach q [⟨k, 0, 0⟩] = (c, some (packetStatus [st], recordBytes k st v)) := by
  have refused (undefined : b.keyRow k = none) : c = b ∧ st = Status.paramKey.num ∧ v = [] := by
    simp only [Block.readRecord, undefined, Prod.mk.injEq] at read
    obtain ⟨same, status, empty⟩ := read
    exact ⟨same.symm, status.symm, empty.symm⟩
  cases defined : b.keyRow k with
  | none =>
    obtain ⟨rfl, rfl, rfl⟩ := refused defined
    simp [Block.getEach, Block.readable, unserved, defined, recsBytes]
  | some row => simp [Block.getEach, Block.readable, unserved, defined, read, recsBytes]

/-! ## SET (R57) -/

/-- The record waits for its beat: no core serves it, and it is not taken at once. -/
structure Waits (b : Block) (k field : Nat) : Prop where
  unserved : serviceCore k = none
  later : field ≠ 0 ∨ isEnable k = true ∨ ∀ row, b.keyRow k = some row → effectOf k row ≠ .imm

/-- The request of a session that has nothing to accept leaves the queue. -/
theorem accept_nil_accepted {b : Block} {q : Req} {id seq : Nat} (asker : q.asker = .session id seq) :
    { b with accepted := (b.accept q []).accepted } = b := by
  simp only [Block.accept, asker, Block.takePrimitives, List.map_nil, List.append_nil]

/-- A record of a session's SET that waits for its beat is accepted where it passes its checks, and refused where it does not. -/
theorem setAll_waits {b : Block} {q : Req} {r : WireRec} {id seq : Nat} {a : Ask} {st : Status} (m : Mem) (asker : q.asker = .session id seq)
    (waits : Waits b r.key q.field) (ask : a = ⟨q.asker, q.beat, false, q.field == 0⟩) (status : st = b.checkWrite a [] r.write r.len)
    (other : st.good = true → r.key ≠ K.SEC_ZEROISE) :
    b.setAll m q [r] =
      if st.good = true then { b := b, recs := [(r.key, st.num, [])], later := [.write (b.settled a r.write)] }
      else { b := b.commitRefused r.key r.val st, recs := [(r.key, st.num, [])] } := by
  subst ask
  simp only [Block.setAll, List.foldl_cons, List.foldl_nil, Setting.one, waits.unserved, accept_nil_accepted asker]
  generalize taken : (q.field == 0 && !isEnable r.key && _) = imm
  have beat : imm = false := by
    rw [← taken]
    rcases waits.later with named | enable | later
    · simp [named]
    · simp [enable]
    · cases defined : b.keyRow r.key with
      | none => simp
      | some row => simp [later row defined]
  simp only [beat, Bool.false_eq_true, if_false, List.nil_append, ← status]
  cases good : st.good
  · simp
  · simp [other good]

/-- SET of one record that waits for its beat. -/
theorem setEach_waits {b : Block} {q : Req} {r : WireRec} {id seq : Nat} {a : Ask} {st : Status} (m : Mem) (asker : q.asker = .session id seq)
    (waits : Waits b r.key q.field) (ask : a = ⟨q.asker, q.beat, false, q.field == 0⟩) (status : st = b.checkWrite a [] r.write r.len)
    (other : st.good = true → r.key ≠ K.SEC_ZEROISE) :
    b.setEach m q [r] =
      (if st.good = true then b.accept q [.write (b.settled a r.write)] else b.commitRefused r.key r.val st,
        some (packetStatus [st.num], recordBytes r.key st.num []), none) := by
  simp only [Block.setEach, setAll_waits m asker waits ask status other]
  split <;> simp [recsBytes]

/-! ## SET_MANY (R58) and units (R62) -/

/-- An atomic set whose records all pass is answered with their statuses. -/
theorem manyOutcome_good {l : List Status} (good : l.all (·.good) = true) : manyOutcome l =
    (packetStatus (l.map Status.num), l.map Status.num, true) := by
  have none : l.find? (fun s => !s.good) = none := by
    rw [List.find?_eq_none]
    intro s listed
    simp [List.all_eq_true.mp good s listed]
  simp only [manyOutcome, none]

theorem judgeMany_good {b : Block} {q : Req} {recs : List WireRec} {a : Ask} (ask : a = ⟨q.asker, q.beat, true, q.field == 0⟩)
    (good : (b.checkMany a recs).all (·.good) = true) :
    b.judgeMany q recs =
      ((packetStatus ((b.checkMany a recs).map Status.num),
        recsBytes ((recs.zip ((b.checkMany a recs).map Status.num)).map (fun (r, x) => (r.key, x, [])))),
        some (recs.map (fun r => b.settled a r.write))) := by
  subst ask
  simp only [Block.judgeMany, manyOutcome_good good, if_true]

theorem setMany_good {b : Block} {q : Req} {recs : List WireRec} {a : Ask} (ask : a = ⟨q.asker, q.beat, true, q.field == 0⟩)
    (good : (b.checkMany a recs).all (·.good) = true) :
    b.setMany q recs =
      (b.accept q [.writeMany (recs.map (fun r => b.settled a r.write))],
        packetStatus ((b.checkMany a recs).map Status.num),
        recsBytes ((recs.zip ((b.checkMany a recs).map Status.num)).map (fun (r, x) => (r.key, x, [])))) := by
  simp only [Block.setMany, judgeMany_good ask good]

/-- What an opcode that names units asks for. -/
def unitsBody (op : Nat) (us : List Nat) : ReqBody :=
  if op = 0x20 then .arm us else if op = 0x21 then .disarm us else if op = 0x22 then .force us else .calRun us

/-- Units that all pass are accepted together. -/
theorem units_good {b : Block} {op : Nat} {q : Req} {l : List Status} (names : opUnits op = true) (whole : q.body.length % 4 = 0)
    (some' : unitRefs q.body ≠ []) (fits : 2 * q.body.length ≤ b.replyLimit q)
    (status : l = (unitRefs q.body).map (fun k => b.unitCheck (b.foresee q.beat b.planned) q.asker op k q.beat)) (good : l.all (·.good) = true) :
    b.units op q =
      (b.accept q [unitsBody op (unitRefs q.body)], packetStatus (l.map Status.num),
        (((unitRefs q.body).zip (l.map Status.num)).map (fun (k, x) => beBytes 4 k ++ beBytes 2 x ++ zeros 2)).flatten) := by
  have any : (unitRefs q.body).isEmpty = false := by simpa using some'
  simp only [Block.units, whole, Nat.not_lt.mpr fits, ← status, manyOutcome_good good, any, ne_eq, not_true_eq_false, Bool.not_false, and_self,
    if_true, if_false]
  obtain rfl | rfl | rfl | rfl := opUnits_iff.mp names <;> rfl

/-! ## The statement -/

/-- The command of an opcode that names units, and what it asks for. -/
def UnitsCommand (p : Packet) (op : Nat) (i : Instr) (body : List Nat → ReqBody) : Prop :=
  (op = 0x20 ∧ i = .arm p ∧ body = .arm) ∨ (op = 0x21 ∧ i = .disarm p ∧ body = .disarm) ∨ (op = 0x22 ∧ i = .force p ∧ body = .force) ∨
    (op = 0x70 ∧ i = .calRun p ∧ body = .calRun)

theorem UnitsCommand.runs {p : Packet} {op : Nat} {i : Instr} {body : List Nat → ReqBody} (row : UnitsCommand p op i body) :
    opUnits op = true ∧ opActs op = true ∧ opNotInThaw op = false ∧ unitsBody op = body ∧ ∀ s, exec i s = s.runPacket op p := by
  rcases row with ⟨rfl, rfl, rfl⟩ | ⟨rfl, rfl, rfl⟩ | ⟨rfl, rfl, rfl⟩ | ⟨rfl, rfl, rfl⟩ <;> exact ⟨rfl, rfl, rfl, rfl, fun _ => rfl⟩

/-- A record of a SET that the statement calls not immediate. -/
theorem waits_of_request {p : Packet} {b : Block} {k : Nat} (unserved : serviceCore k = none)
    (later : p.target ≠ 0 ∨ isEnable k = true ∨ b.keyRow k = none ∨ ∃ row, b.keyRow k = some row ∧ effectOf k row ≠ .imm) :
    Waits b k p.target.toNat := by
  refine ⟨unserved, ?_⟩
  rcases later with named | enable | undefined | ⟨row, defined, other⟩
  · exact .inl (fun zero => named (BitVec.eq_of_toNat_eq zero))
  · exact .inr (.inl enable)
  · exact .inr (.inr (fun row defined => absurd (undefined.symm.trans defined) (by simp)))
  · refine .inr (.inr (fun row' defined' => ?_))
    rwa [← Option.some.inj (defined.symm.trans defined')]

/-- A SET of one record that waits for its beat. -/
theorem set_waits {p : Packet} {x : Session} {q : Req} {r : WireRec} {st : Status} {t : Nat} {s : Machine.State} (comes : Comes 0x11 p x s)
    (tagged : Tagged 0x11 p x.h2e) (dated : Dated p t s) (request : q = asked 0x11 p x t) (records : parseRecs 256 p.payload = some [r])
    (waits : Waits (opened p x s) r.key p.target.toNat)
    (status : st = (opened p x s).checkWrite ⟨q.asker, t, false, p.target == 0⟩ [] r.write r.len) (other : st.good = true → r.key ≠ K.SEC_ZEROISE) :
    exec (.set p) s = .next (s.finish (
      (if st.good = true then (opened p x s).accept q [.write ((opened p x s).settled ⟨q.asker, t, false, p.target == 0⟩ r.write)]
        else (opened p x s).commitRefused r.key r.val st).reply q.rto (packetStatus [st.num]) t (recordBytes r.key st.num []))) := by
  subst request
  have zero : (p.target == 0) = (p.target.toNat == 0) := by
    rw [Bool.eq_iff_iff, beq_iff_eq, beq_iff_eq]
    exact ⟨fun e => by rw [e]; rfl, fun e => BitVec.eq_of_toNat_eq e⟩
  rw [zero] at status ⊢
  have performs := (opPerform_set s.mem (q := asked 0x11 p x t) records (room_of_dated x dated)).trans
      (setEach_waits s.mem rfl waits rfl status other)
  exact next_of_dated rfl comes tagged rfl (.inl rfl) dated performs rfl

/-- Settles O43: each request is the session's next, so it is performed on the block that the session has taken it in, and answered. -/
theorem writeRequests : Obligations.WriteRequests := by
  refine ⟨?_, ?_, ?_, ?_, ?_⟩
  · rintro p x b b' k st v s comes tagged target rfl records unserved fits read
    have performs := opPerform_get (q := asked 0x10 p x s.blk.beat) s.mem records fits
    rw [getEach_one unserved read] at performs
    exact next_of_now rfl comes tagged rfl rfl (.inl rfl) (.inl (by decide)) target performs rfl
  · rintro p x b q r st t s comes tagged dated rfl request records unserved later status good other
    rw [set_waits comes tagged dated request records (waits_of_request unserved later) status (fun _ => other), if_pos good]
  · rintro p x b q r st t s comes tagged dated rfl request records unserved later status bad
    rw [set_waits comes tagged dated request records (waits_of_request unserved later) status (fun good => absurd (bad.symm.trans good) (by decide)),
      if_neg (by simp [bad])]
  · rintro p x b q recs a t s comes tagged dated rfl rfl records ask good
    have performs := opPerform_setMany (q := asked 0x12 p x t) s.mem records (room_of_dated x dated)
    rw [setMany_good ask good] at performs
    exact next_of_dated rfl comes tagged rfl (.inl rfl) dated performs rfl
  · rintro p x b q op t i body l s row comes tagged dated rfl rfl whole some' fits status good
    obtain ⟨names, acts, offered, asks, run⟩ := UnitsCommand.runs row
    have performs := opPerform_units (q := asked op p x t) s.mem names (room_of_dated x dated)
    rw [units_good (q := asked op p x t) names whole some' fits status good, asks] at performs
    exact next_of_dated (run s) comes tagged acts (.inl offered) dated performs rfl

end Sys2Proof
end

section
/-! PROOFS. The statement of the requests that stand or act on the engine: SCHEDULE, PREPARE, COMMIT, ABORT, SNAPSHOT, RESET and ENTER_FLOW. -/
namespace Sys2Proof
open Machine

/-! ## Performance, opcode by opcode (R61) -/

section
variable {b : Block} {q : Req} {recs : List WireRec} (m : Mem)

theorem opPerform_schedule (room : b.waitingGroups < 256) : b.opPerform m 0x23 q = ((b.schedule q).1, some (b.schedule q).2, none) := by
  simp [Block.opPerform, opRecords, Nat.not_le.mpr room]

theorem opPerform_prepare (records : parseRecs 256 q.body = some recs) (room : b.waitingGroups < 256) :
    b.opPerform m 0x30 q = ((b.prepare q recs).1, some (b.prepare q recs).2, none) := by
  simp [Block.opPerform, opRecords, records, Nat.not_le.mpr room]

theorem opPerform_commit (room : b.waitingGroups < 256) : b.opPerform m 0x31 q = ((b.commit q).1, some (b.commit q).2, none) := by
  simp [Block.opPerform, opRecords, Nat.not_le.mpr room]

theorem opPerform_abort : b.opPerform m 0x32 q = ((b.abort q).1, some (b.abort q).2, none) := by
  simp [Block.opPerform, opRecords, opActs]

theorem opPerform_snapshot (records : parseRecs 256 q.body = some recs) (room : b.waitingGroups < 256) :
    b.opPerform m 0x71 q = ((b.snapshotAsk q recs).1, (b.snapshotAsk q recs).2, none) := by
  simp [Block.opPerform, opRecords, records, Nat.not_le.mpr room]

theorem opPerform_reset (room : b.waitingGroups < 256) : b.opPerform m 0x81 q = ((b.resetAsk q).1, some (b.resetAsk q).2, none) := by
  simp [Block.opPerform, opRecords, Nat.not_le.mpr room]

theorem opPerform_enterFlow (empty : q.body = []) : b.opPerform m 0x80 q = (b.enterFlow.1, some b.enterFlow.2.bare, none) := by
  simp [Block.opPerform, opRecords, opActs, empty]

end

/-! ## SCHEDULE (R63) -/

/-- The field of `n` bytes at place `o` of a payload. -/
def fieldAt (l : List Byte) (o n : Nat) : Nat := beNat ((l.drop o).take n)

/-- The payload of a SCHEDULE is whole, with its reserved fields 0. -/
structure ScheduleForm (l : List Byte) : Prop where
  whole : l.length = 32 + fieldAt l 28 4
  flags : fieldAt l 2 2 = 0
  count : fieldAt l 20 4 = 0
  opcode : fieldAt l 26 2 = 0

/-- SCHEDULE of an entry, where there is room. -/
theorem schedule_entry {b : Block} {q : Req} {id seq : Nat} (form : ScheduleForm q.body) (asker : q.asker = .session id seq)
    (fresh : fieldAt q.body 0 2 = 0) (named : q.field ≠ 0) (known : embeds (fieldAt q.body 24 2) = true) (room : b.sched.length < 64) :
    b.schedule q =
      ({ b with
        sched := b.sched ++ [⟨b.nextEntry, id, seq, q.beat, fieldAt q.body 8 8,
          if fieldAt q.body 8 8 = 0 then some 1 else if fieldAt q.body 16 4 = 0 then none else some (fieldAt q.body 16 4), fieldAt q.body 24 2,
          q.body.drop 32⟩]
        nextEntry := (b.nextEntry + 1) % 2 ^ 32 }, 0, beBytes 4 b.nextEntry) := by
  obtain ⟨whole, flags, count, opcode⟩ := form
  unfold fieldAt at *
  have long : ¬ (q.body.length < 32 ∨ q.body.length ≠ 32 + beNat ((q.body.drop 28).take 4)) := by omega
  simp only [Block.schedule, if_neg long, flags, count, opcode, fresh, named, known, Nat.not_le.mpr room, asker, Block.askerIds]
  rfl

/-- SCHEDULE with CANCEL removes the entry that it names. -/
theorem schedule_cancel {b : Block} {q : Req} (form : ScheduleForm q.body) (cancel : fieldAt q.body 0 2 = 1)
    (stands : b.sched.any (fun e => e.id == fieldAt q.body 4 4) = true) :
    b.schedule q = ({ b with sched := b.sched.filter (fun e => e.id != fieldAt q.body 4 4) }, 0, beBytes 4 (fieldAt q.body 4 4)) := by
  obtain ⟨whole, flags, count, opcode⟩ := form
  unfold fieldAt at *
  have long : ¬ (q.body.length < 32 ∨ q.body.length ≠ 32 + beNat ((q.body.drop 28).take 4)) := by omega
  simp only [Block.schedule, if_neg long, flags, count, opcode, cancel, stands]
  rfl

/-! ## PREPARE, COMMIT and ABORT (R59, R60) -/

/-- PREPARE of records that all pass. -/
theorem prepare_good {b : Block} {q : Req} {recs : List WireRec} {a : Ask} {id seq : Nat} (asker : q.asker = .session id seq) (named : q.field ≠ 0)
    (room : (b.txns.filter (fun t => !t.committed)).length < 8) (ask : a = ⟨q.asker, q.beat, true, q.field == 0⟩)
    (good : (b.checkMany a recs).all (·.good) = true) :
    b.prepare q recs =
      ({ b with txns := b.txns ++ [⟨id, seq, q.beat, recs.map (fun r => b.settled a r.write), false⟩] },
        packetStatus ((b.checkMany a recs).map Status.num),
        recsBytes ((recs.zip ((b.checkMany a recs).map Status.num)).map (fun (r, x) => (r.key, x, [])))) := by
  simp only [Block.prepare, named, if_false, Nat.not_le.mpr room, judgeMany_good ask good, asker, Block.askerIds]

/-- The transaction that a session names. -/
theorem txnNamed_some {b : Block} {q : Req} {y : Txn} {id seq : Nat} (asker : q.asker = .session id seq) (names : q.body.length = 4)
    (held : b.txns.find? (fun t => t.session == id && t.seq == beNat q.body) = some y) : b.txnNamed q = some y := by
  simp only [Block.txnNamed, asker, Block.askerIds, names, if_true, held]

theorem commit_prepared {b : Block} {q : Req} {y : Txn} (named : b.txnNamed q = some y) (fresh : y.committed = false) (beat : y.target = q.field) :
    b.commit q =
      (({ b with txns := b.txns.map (fun z => if z = y then { z with committed := true } else z) } : Block).accept q [.writeMany y.recs],
        Status.ok.bare) := by
  simp [Block.commit, named, fresh, beat]

theorem abort_prepared {b : Block} {q : Req} {y : Txn} (named : b.txnNamed q = some y) (fresh : y.committed = false) :
    b.abort q = ({ b with txns := b.txns.erase y }, Status.ok.bare) := by
  simp [Block.abort, named, fresh]

/-! ## SNAPSHOT, RESET and ENTER_FLOW (R68, R69, R475) -/

theorem snapshotAsk_accepts {b : Block} {q : Req} {recs : List WireRec} (soon : q.beat ≤ b.beat + 781250) (fits : b.readTooBig q recs = false)
    (alone : isGroup q.rto.session = false) :
    b.snapshotAsk q recs =
      (b.accept q [.snapshot (recs.map (fun r => (r.key,
        if (b.keyRow r.key).isNone = true then Status.paramKey.num else if r.len ≠ 0 then Status.paramRange.num else 0))) q.rto], none) := by
  have within : ¬ 781250 < q.beat - b.beat := by omega
  simp only [Block.snapshotAsk, within, fits, alone, Bool.false_eq_true, if_false]

theorem resetAsk_accepts {b : Block} {q : Req} (form : q.body.length = 4) (reserved : beNat (q.body.drop 1) = 0) (kind : beNat (q.body.take 1) ≤ 1) :
    b.resetAsk q = (b.accept q [.reset (beNat (q.body.take 1))], Status.ok.bare) := by
  simp only [Block.resetAsk, form, reserved, Nat.not_lt.mpr kind, ne_eq, not_true_eq_false, or_self, if_false]

theorem enterFlow_pends {b : Block} (offers : b.sys.trained = false ∨ 1 ≤ b.nPc) : b.enterFlow = (b.pf K.SYS_FLOW_PENDING 0 0 0 1, .ok) := by
  have working : ¬ (b.sys.trained = true ∧ b.nPc = 0) := by
    rintro ⟨trained, none⟩
    rcases offers with untrained | some'
    · exact absurd (untrained.symm.trans trained) (by decide)
    · omega
  rw [Block.enterFlow, if_neg working]

/-! ## The statement -/

/-- Settles O44: each request is the session's next, so it is performed on the block that the session has taken it in, and answered. -/
theorem standingRequests : Obligations.StandingRequests := by
  refine ⟨?_, ?_, ?_, ?_, ?_, ?_, ?_, ?_⟩
  · rintro p x _ _ t _ s comes tagged flow dated target rfl rfl rfl whole fresh flags count opcode known room
    have performs := opPerform_schedule (q := asked 0x23 p x t) s.mem (room_of_dated x dated)
    have named : (asked 0x23 p x t).field ≠ 0 := fun zero => target (BitVec.eq_of_toNat_eq zero)
    rw [schedule_entry (q := asked 0x23 p x t) ⟨whole, flags, count, opcode⟩ rfl fresh named (List.elem_iff.mpr known) room] at performs
    exact next_of_dated rfl comes tagged rfl (.inr flow) dated performs rfl
  · rintro p x _ _ t _ s comes tagged flow dated rfl rfl rfl whole cancel flags count opcode stands
    have performs := opPerform_schedule (q := asked 0x23 p x t) s.mem (room_of_dated x dated)
    rw [schedule_cancel (q := asked 0x23 p x t) ⟨whole, flags, count, opcode⟩ cancel stands] at performs
    exact next_of_dated rfl comes tagged rfl (.inr flow) dated performs rfl
  · rintro p x _ _ recs _ t s comes tagged flow dated target rfl rfl records room rfl good
    have named : (asked 0x30 p x t).field ≠ 0 := fun zero => target (BitVec.eq_of_toNat_eq zero)
    have performs := opPerform_prepare (q := asked 0x30 p x t) s.mem records (room_of_dated x dated)
    rw [prepare_good (q := asked 0x30 p x t) rfl named room (by rw [beq_false_of_ne named]; rfl) good] at performs
    exact next_of_dated rfl comes tagged rfl (.inr flow) dated performs rfl
  · rintro p x _ _ y t s comes tagged flow dated rfl rfl names held fresh beat
    have performs := opPerform_commit (q := asked 0x31 p x t) s.mem (room_of_dated x dated)
    rw [commit_prepared (txnNamed_some (q := asked 0x31 p x t) rfl names held) fresh beat] at performs
    exact next_of_dated rfl comes tagged rfl (.inr flow) dated performs rfl
  · rintro p x _ _ y s comes tagged flow target rfl rfl names held fresh
    have performs := opPerform_abort (b := opened p x s) (q := asked 0x32 p x s.blk.beat) s.mem
    rw [abort_prepared (txnNamed_some (q := asked 0x32 p x s.blk.beat) rfl names held) fresh] at performs
    exact next_of_now rfl comes tagged rfl rfl (.inr flow) (.inl (by decide)) target performs rfl
  · rintro p x _ _ recs t s comes tagged dated rfl rfl records soon fits
    have performs := opPerform_snapshot (q := asked 0x71 p x t) s.mem records (room_of_dated x dated)
    rw [snapshotAsk_accepts (q := asked 0x71 p x t) (by rw [opened_beat]; exact soon) fits (isGroup_of_comes comes)] at performs
    exact next_of_dated rfl comes tagged rfl (.inl rfl) dated performs rfl
  · rintro p x _ _ t s comes tagged dated rfl rfl form reserved kind
    have performs := opPerform_reset (q := asked 0x81 p x t) s.mem (room_of_dated x dated)
    rw [resetAsk_accepts (q := asked 0x81 p x t) form reserved kind] at performs
    exact next_of_dated rfl comes tagged rfl (.inl rfl) dated performs rfl
  · rintro p x _ _ s comes tagged thaw target rfl rfl empty offers
    have offers : (opened p x s).sys.trained = false ∨ 1 ≤ (opened p x s).nPc := by
      obtain ⟨-, -, -, -, sys, -⟩ := opened_leaves p x s
      rwa [sys, Block.nPc, Block.f, opened_val _ _ _ (by decide)]
    have performs := opPerform_enterFlow (b := opened p x s) (q := asked 0x80 p x s.blk.beat) s.mem empty
    rw [enterFlow_pends offers] at performs
    exact next_of_now rfl comes tagged rfl rfl (.inl rfl) (.inr thaw) target performs rfl

end Sys2Proof
end

section
/-! PROOFS. The statement of PING: a session's echo, the steps of the opening handshake, and a close (R39 to R43, R61, R506). -/
namespace Sys2Proof
open Machine

/-! ## A packet that passes the first checks (R37) -/

/-- A whole packet comes to the command port of a port in service, within the limits and with the magic number, and this engine is its member. -/
structure ForUs (p : Packet) (s : Machine.State) : Prop where
  live : s.blk.live = true
  hears : s.blk.bcpHears p.port.val p = true
  whole : p.fragment = false
  room : s.blk.unprocessed p < 64
  short : 48 ≤ p.udpLen
  long : p.udpLen ≤ s.blk.payloadLimit p.port.val + 48
  magic : p.magic = 0x424350
  dest : pkFlag p 4 = false ∨ pkDest p = s.blk.member

theorem ForUs.packetAt {p : Packet} {s : Machine.State} (us : ForUs p s) (m : Mem) (op : Nat) :
    s.start.packetAt m p.port.val op p = (s.start.arrive p.port.val).packetChecks m p.port.val op p := by
  obtain ⟨-, hears, whole, room, short, long, magic, dest⟩ := us
  obtain ⟨port, mine⟩ : s.start.bcpPort p.port.val = true ∧ s.start.toCommand p.port.val p = true := by
    simp only [Block.bcpHears, Bool.and_eq_true] at hears
    exact hears
  obtain ⟨-, member, limit⟩ := arrive_frame s.start p.port.val
  have long : p.udpLen ≤ (s.start.arrive p.port.val).payloadLimit p.port.val + 48 := by rwa [limit]
  have room : ¬ 64 ≤ s.start.unprocessed p := Nat.not_le.mpr room
  have elsewhere : ¬ (pkFlag p 4 = true ∧ pkDest p ≠ (s.start.arrive p.port.val).member) := by
    rw [member]
    rintro ⟨flag, other⟩
    rcases dest with none | here
    · exact absurd (none.symm.trans flag) (by decide)
    · exact other here
  simp only [Block.packetAt, port, mine, whole, room, magic, elsewhere, Bool.not_true, Bool.false_eq_true, or_self, if_false, ne_eq,
    not_true_eq_false]
  rw [if_neg (by omega)]

/-- A PING of the command's kind arrives as any packet does. -/
theorem runPing_kind {k : PingKind} {p : Packet} {s : Machine.State} (kind : s.start.pingKind p = k) : s.runPing k p = s.runPacket 1 p := by
  simp only [Machine.State.runPing, Machine.State.runPacket, Machine.State.runLive, Machine.State.run, kind, if_true]

/-- A PING that is for this engine. -/
theorem ForUs.runPing {k : PingKind} {p : Packet} {s : Machine.State} (us : ForUs p s) (kind : s.start.pingKind p = k) :
    s.runPing k p = .next (s.finish ((s.start.arrive p.port.val).packetChecks s.mem p.port.val 1 p)) := by
  rw [runPing_kind kind, Machine.State.runPacket, runLive_live _ _ us.live, us.packetAt]

/-! ## PING of an open session (R42, R61) -/

theorem opPerform_ping {b : Block} {q : Req} (m : Mem) (short : q.body.length ≤ 64) :
    b.opPerform m 1 q = (b, some (0, beBytes 4 b.stateWord ++ beBytes 8 b.beat ++ b.now.bytes ++ q.body), none) := by
  simp [Block.opPerform, opRecords, opActs, Block.pingReply, Nat.not_lt.mpr short]

/-- CLOSE is a bit of its own beside DEST_MEMBER's (R36). -/
theorem pkFlag_withoutClose (p : Packet) : pkFlag { p with flags := p.flags &&& 0xFFF7 } 4 = pkFlag p 4 := by
  simp only [pkFlag, bit_testBit, BitVec.toNat_and, Nat.testBit_and]
  exact Bool.and_true _

theorem pkDest_withoutClose (p : Packet) : pkDest { p with flags := p.flags &&& 0xFFF7 } = pkDest p := by
  apply Nat.eq_of_testBit_eq
  intro n
  have kept : ∀ k < 4, Nat.testBit 0xFFF7 (k + 8) = true := by decide
  by_cases low : n < 4
  · simp [pkDest, testBit_bits, Nat.testBit_and, low, kept n low]
  · simp [pkDest, testBit_bits, low]

/-- What a PING that closes its session leaves: its answer, and the session's end. -/
theorem packetChecks_close {b : Block} {p : Packet} {x : Session} {c : Block} (m : Mem) (version : p.version = 3) (opened : p.session ≠ 0)
    (found : b.session p.session.toNat = some x) (tagged : Tagged 1 p x.h2e) (alone : isGroup p.session.toNat = false)
    (next : p.seq.toNat = x.nextSeq)
    (form : formatOk 1 p = true) (close : pkFlag p 3 = true)
    (serves : (b.taken x p.port.val p (p.seq.toNat + 1)).serve m 1 (.session x.id p.seq.toNat) (asked 1 p x 0).rto p.target.toNat p.payload = c) :
    b.packetChecks m p.port.val 1 p = c.closeSession x.id 0 := by
  have tag : (beNat (tagOf x.h2e (packetBytes 1 p)) == p.tag.toNat) = true := beq_iff_eq.mpr tagged
  rw [← serves]
  simp only [Block.packetChecks, version, opened, found, tag, Block.sessionPacket, next, Block.flood, alone, form, close, ne_eq, not_true_eq_false,
    Bool.not_true, Bool.false_eq_true, false_and, true_or, and_self, if_true, if_false]
  simp only [asked, next]

/-! ## Step 1 of the handshake (R39 to R41) -/

/-- Step 1 is refused by the first check that fails, or leaves a handshake and sends step 2. -/
theorem packetChecks_step1 {b : Block} {p : Packet} (m : Mem) (port : Nat) (version : p.version = 3) (new : p.session = 0) :
    b.packetChecks m port 1 p = b.shakeOpen port p := by
  simp only [Block.packetChecks, version, new, ne_eq, not_true_eq_false, if_false, if_true]

/-! ## Step 3 of the handshake (R39, R506) -/

theorem packetChecks_step3 {b : Block} {p : Packet} {h : Handshake} (m : Mem) (port : Nat) (version : p.version = 3) (named : p.session ≠ 0)
    (closed : b.session p.session.toNat = none) (waits : b.shakes.find? (fun x => x.id == p.session.toNat) = some h) (first : p.seq = 1)
    (tagged : Tagged 1 p h.h2e) : b.packetChecks m port 1 p = b.shakeConfirm port p h := by
  have tag : (beNat (tagOf h.h2e (packetBytes 1 p)) == p.tag.toNat) = true := beq_iff_eq.mpr tagged
  simp only [Block.packetChecks, version, named, closed, waits, first, tag, ne_eq, not_true_eq_false, and_self, if_false, if_true]

/-- The proof of step 3: nothing where no host key is named, and else a signature that the enrolled key verifies. -/
def proves (b : Block) (p : Packet) (h : Handshake) : Bool :=
  if h.hostKey = 255 then p.payload.isEmpty
  else p.payload.length == 96 &&
    (tfind b.sys.host h.hostKey).any (fun key => Config.signatureVerifies (beBytes 97 key) (sha384 (h.step1 ++ h.engine)) p.payload)

/-- The session that a handshake opens. -/
def sessionOpened (b : Block) (port : Nat) (p : Packet) (h : Handshake) : Session :=
  { id := h.id, h2e := h.h2e, e2h := h.e2h, wrap := h.wrap, lastAccept := b.ticks, addr := p.addr.toNat, dport := p.dport.toNat, iface := port,
    cache := [(1, none)] }

/-- Step 3 is answered in the session that it opens, and CLOSE ends it. -/
def confirmed (b : Block) (port : Nat) (p : Packet) (h : Handshake) : Block :=
  let c := ({ b with sessions := b.sessions ++ [sessionOpened b port p h] } : Block).reply
    ⟨h.id, 1, 1, false, port, p.addr.toNat, p.dport.toNat⟩ 0 b.beat []
  if pkFlag p 3 = true then c.closeSession h.id 0 else c

/-- Step 3 is refused with ST_AUTH. -/
def unconfirmed (b : Block) (port : Nat) (p : Packet) (h : Handshake) : Block :=
  (b.sendMsg port p.addr.toNat p.dport.toNat (({
    flags := 1, opcode := 1, session := h.id, seq := 1, status := Status.auth.num, target := b.beat, payload := [], tag := [] } :
    BcpMsg).signed h.e2h)).authFail p

/-- A step 3 in form ends the handshake, with a session or without. -/
theorem shakeConfirm_eq {b : Block} {p : Packet} {h : Handshake} (port : Nat) (form : formatOk 1 p = true) (target : p.target = 0)
    (first : p.seq = 1) :
    b.shakeConfirm port p h =
      if proves b p h = true then confirmed { b with shakes := b.shakes.filter (fun x => x.id != h.id) } port p h
      else unconfirmed { b with shakes := b.shakes.filter (fun x => x.id != h.id) } port p h := by
  have number : p.seq.toNat = 1 := by rw [first]; rfl
  simp only [Block.shakeConfirm, form, target, number, Bool.not_true, Bool.false_eq_true, ne_eq, not_true_eq_false, if_false]
  cases known : tfind b.sys.host h.hostKey <;> simp only [proves, known] <;> rfl

/-! ## The statement -/

/-- A packet of the session `x` that comes but for its CLOSE is for this engine. -/
theorem forUs_of_comes {p : Packet} {x : Session} {s : Machine.State} (comes : Comes 1 { p with flags := p.flags &&& 0xFFF7 } x s) : ForUs p s := by
  obtain ⟨live, hears, whole, room, short, long, magic, dest, -⟩ := comes
  rw [pkFlag_withoutClose, pkDest_withoutClose] at dest
  exact ⟨live, hears, whole, room, short, long, magic, dest⟩

/-- Settles O42: a PING that is for this engine is checked as its kind asks. -/
theorem pingAndHandshake : Obligations.PingAndHandshake := by
  refine ⟨?_, ?_, ?_, ?_⟩
  · rintro p x b s comes tagged free target short rfl
    have kind : s.start.pingKind p = .plain := by
      obtain ⟨-, -, -, -, -, -, -, -, -, named, -, -, -, -, -, stays⟩ := id comes
      have free : s.start.shakes.any (fun h => h.id == p.session.toNat) = false := free
      simp only [Block.pingKind, named, free, stays, Bool.false_eq_true, if_false]
    have performs := opPerform_ping (b := opened p x s) (q := asked 1 p x s.blk.beat) s.mem short
    refine next_of_now (runPing_kind kind) comes tagged rfl rfl (.inl rfl) (.inl (by decide)) target performs ?_
    rw [opened_beat]
    rfl
  · intro p s live hears whole room short long magic here version new
    have us : ForUs p s := ⟨live, hears, whole, room, short, long, magic, .inl here⟩
    have kind : s.start.pingKind p = .step1 := by simp only [Block.pingKind, new, if_true]
    refine (us.runPing kind).trans ?_
    obtain ⟨-, beat, ticks, sessions, shakes, -, -, sys, fresh, -⟩ := arrive_leaves s.start p.port.val
    rw [packetChecks_step1 _ _ version new]
    simp only [Block.shakeOpen, Block.sessionsHeld, Block.freeSession, Block.hostKeyOk, Block.clock, beat, ticks, sessions, shakes, sys, fresh,
      Bool.not_eq_eq_eq_not, Bool.not_true]
    rfl
  · intro p h s live hears whole room short long magic here version named closed waits first tagged form target
    have us : ForUs p s := ⟨live, hears, whole, room, short, long, magic, .inl here⟩
    have held : s.start.shakes.any (fun x => x.id == p.session.toNat) = true := by
      rw [List.any_eq_true]
      exact ⟨h, List.mem_of_find?_eq_some waits, by simpa using List.find?_some waits⟩
    have kind : s.start.pingKind p = .step3 := by simp only [Block.pingKind, named, held, if_true, if_false]
    refine (us.runPing kind).trans ?_
    obtain ⟨-, -, -, sessions, shakes, -, -, sys, -⟩ := arrive_leaves s.start p.port.val
    have closed : (s.start.arrive p.port.val).session p.session.toNat = none := by rw [Block.session, sessions]; exact closed
    rw [packetChecks_step3 _ _ version named closed (by rw [shakes]; exact waits) first tagged, shakeConfirm_eq _ form target first, shakes]
    refine congrArg (fun c => Host.Outcome.next (s.finish c)) (ite_congr (propext ?_) (fun _ => rfl) (fun _ => rfl))
    cases known : tfind (s.start.arrive p.port.val).sys.host h.hostKey <;> by_cases key : h.hostKey = 255 <;> simp [proves, known, key]
  · rintro p x b s comes close tagged free form target short rfl
    have us := forUs_of_comes comes
    obtain ⟨-, -, -, -, -, -, -, -, version, named, low, found, next, -⟩ := id comes
    have free : s.start.shakes.any (fun h => h.id == p.session.toNat) = false := free
    have kind : s.start.pingKind p = .close := by simp only [Block.pingKind, named, free, close, Bool.false_eq_true, if_false, if_true]
    have alone : isGroup p.session.toNat = false := decide_eq_false (Nat.not_le.mpr low)
    have same : x.id = p.session.toNat := session_id _ _ _ found
    obtain ⟨sessions, -⟩ := arrive_frame s.start p.port.val
    have serves := serve_performs (opened p x s) s.mem (same ▸ alone) rfl (opBeat_now x rfl (.inl rfl) (.inl (by decide)) target)
      (opPerform_ping (q := asked 1 p x s.blk.beat) s.mem short)
    refine (us.runPing kind).trans ?_
    rw [packetChecks_close (b := s.start.arrive p.port.val) (p := p) s.mem version named ((sessions _).trans found)
      tagged alone next form close serves, opened_beat]
    rfl

end Sys2Proof
end

section
/-! PROOFS. The statement of the byte memories: a command changes no byte but those it stores (R64). -/
namespace Sys2Proof
open Machine

/-! ## Bytes stored at rising addresses -/

/-- A byte of a run of stores reads as the run's, and every other as before. -/
theorem opsRead_bytes (m : Mem) (a c : Nat) (l : List Byte) :
    opsRead m (l.mapIdx (fun i v => MemOp.byte (a + i) v)).reverse c = if a ≤ c ∧ c < a + l.length then l.getD (c - a) 0 else memRead m c := by
  rw [← List.reverse_reverse l]
  induction l.reverse with
  | nil =>
    have empty : ¬ (a ≤ c ∧ c < a + 0) := by omega
    exact (if_neg empty).symm
  | cons v r ih =>
    rw [List.reverse_cons]
    generalize r.reverse = l at ih ⊢
    rw [List.mapIdx_concat, List.reverse_append, List.reverse_singleton, List.singleton_append, opsRead, ih, List.length_append,
      List.length_singleton]
    by_cases last : a + l.length = c
    · subst last
      rw [if_pos rfl, if_pos (by omega), Nat.add_sub_cancel_left, List.getD_eq_getElem?_getD, List.getElem?_concat_length, Option.getD_some]
    · rw [if_neg last]
      by_cases within : a ≤ c ∧ c < a + l.length
      · have inside : c - a < l.length := by omega
        rw [if_pos within, if_pos (by omega), List.getD_eq_getElem?_getD, List.getD_eq_getElem?_getD, List.getElem?_append_left inside]
      · rw [if_neg within, if_neg (by omega)]

/-! ## READ_MEM and WRITE_MEM (R64) -/

theorem opPerform_readMem (b : Block) (q : Req) (m : Mem) : b.opPerform m 0x40 q = (b, some (b.readMem m q), none) := by
  simp [Block.opPerform, opRecords, opActs]

theorem opPerform_writeMem (b : Block) (q : Req) (m : Mem) : b.opPerform m 0x41 q = ((b.writeMem q).1, some (b.writeMem q).2, none) := by
  simp [Block.opPerform, opRecords, opActs]

/-- A WRITE_MEM of the shared scratch that passes its checks stores its bytes from its address on. -/
theorem writeMem_shared {b : Block} {q : Req} {a : MemAsk} (head : memAsk q.body = some a) (shared : a.space = 1)
    (whole : q.body.length = 24 + a.len) (checked : b.memCheck (b.replyLimit q) a true = .ok) :
    b.writeMem q = (b.stBytes (spShared a.addr) (q.body.drop 24), 0, q.body.take 24) := by
  have data : (q.body.drop 24).length = a.len := by rw [List.length_drop, whole, Nat.add_sub_cancel_left]
  simp only [Block.writeMem, head, checked, data, shared, ne_eq, not_true_eq_false, if_false]

section
variable {p : Packet} {x : Session} {s t : Machine.State}

/-- The state after a request that raises no event. -/
theorem state_of_request {o : Host.Outcome Machine.State Fault Refusal} {c : Block} {q : Req} {r : Answer}
    (answers : o = .next (s.finish (answered q c (some r)))) (quiet : c.raised = []) (next : o = .next t) :
    t.blk = c.reply q.rto r.1 q.beat r.2 ∧ t.mem = memApplyAll s.mem c.stores := by
  obtain ⟨raised, stores⟩ := reply_leaves c q.rto r.1 q.beat r.2
  have state : t = s.finish (c.reply q.rto r.1 q.beat r.2) := Host.Outcome.next.inj (next.symm.trans answers)
  rw [finish_quiet s _ (raised.trans quiet), stores] at state
  rw [state]
  exact ⟨rfl, rfl⟩

theorem readMem_mem (comes : Comes 0x40 p x s) (tagged : Tagged 0x40 p x.h2e) (target : p.target = 0) (next : exec (.readMem p) s = .next t) :
    t.mem = s.mem := by
  obtain ⟨-, -, -, -, -, raised, stores⟩ := opened_leaves p x s
  have answers := next_of_now rfl comes tagged rfl rfl (.inl rfl) (.inl (by decide)) target (opPerform_readMem _ _ s.mem) rfl
  obtain ⟨-, mem⟩ := state_of_request answers raised next
  rw [mem, stores]
  rfl

/-- What every byte reads as after a WRITE_MEM of the shared scratch that passes its checks. -/
theorem writeMem_read {a : MemAsk} (ok : MemOk s) (comes : Comes 0x41 p x s) (tagged : Tagged 0x41 p x.h2e) (target : p.target = 0)
    (head : memAsk p.payload = some a) (shared : a.space = 1) (whole : p.payload.length = 24 + a.len)
    (checked : (opened p x s).memCheck ((opened p x s).payloadLimit p.port.val) a true = .ok) (next : exec (.writeMem p) s = .next t) (c : Nat) :
    memRead t.mem c =
      if spShared a.addr ≤ c ∧ c < spShared a.addr + a.len then (p.payload.drop 24).getD (c - spShared a.addr) 0 else memRead s.mem c := by
  obtain ⟨-, -, -, -, -, raised, stores⟩ := opened_leaves p x s
  have performs := opPerform_writeMem (opened p x s) (asked 0x41 p x s.blk.beat) s.mem
  rw [writeMem_shared (q := asked 0x41 p x s.blk.beat) head shared whole checked] at performs
  have answers := next_of_now rfl comes tagged rfl rfl (.inl rfl) (.inl (by decide)) target performs rfl
  have data : (p.payload.drop 24).length = a.len := by rw [List.length_drop, whole, Nat.add_sub_cancel_left]
  have made : ((opened p x s).stBytes (spShared a.addr) (p.payload.drop 24)).stores =
      ((p.payload.drop 24).mapIdx (fun i v => MemOp.byte (spShared a.addr + i) v)).reverse := by
    rw [Block.stBytes, stores, List.append_nil]
  obtain ⟨-, mem⟩ := state_of_request answers raised next
  rw [mem, memRead_memApplyAll _ _ _ ok]
  exact (congrArg (opsRead s.mem · c) made).trans (data ▸ opsRead_bytes _ _ _ _)

end

/-- Settles O55: the stores of a command are all that reaches the memories, and those of a WRITE_MEM of the shared scratch are its bytes. -/
theorem memoryChangesByStores : Obligations.MemoryChangesByStores := by
  refine ⟨?_, ?_, ?_, ?_⟩
  · intro c s t a ok next
    rw [exec_mem next, memRead_memApplyAll _ _ _ ok]
  · intro p x q k s t ok comes tagged target head shared whole checked next within
    rw [writeMem_read ok comes tagged target head shared whole checked next, if_pos (by simp only [spShared]; omega)]
    have place : spShared (q.addr + k) - spShared q.addr = k := by simp only [spShared]; omega
    rw [place, List.getD_eq_getElem?_getD, List.getElem?_drop, List.getD_eq_getElem?_getD]
  · intro p x q a s t ok comes tagged target head shared whole checked next beside
    rw [writeMem_read ok comes tagged target head shared whole checked next, if_neg (by simp only [spShared] at *; omega)]
  · intro p x s t comes tagged target next
    exact readMem_mem comes tagged target next

end Sys2Proof
end

section
/-! PROOFS. The statement of the subscriptions: the masks that SUBSCRIBE and UNSUBSCRIBE leave, where event packets go, and which sessions an
occurrence reaches (R67, R79 to R82). -/
namespace Sys2Proof
open Machine

/-! ## Masks -/

/-- The bits that a number shares with a mask and those it holds beside the mask make the number. -/
theorem and_add_xor_and (a m : Nat) : (a &&& m) + (a ^^^ (a &&& m)) = a := by
  induction a using Nat.div2Induction generalizing m with
  | ind a ih =>
    by_cases positive : 0 < a
    · have halves := ih positive (m / 2)
      have shared : (a &&& m) / 2 = a / 2 &&& m / 2 := Nat.and_div_two
      have beside : (a ^^^ (a &&& m)) / 2 = a / 2 ^^^ (a / 2 &&& m / 2) := by rw [Nat.xor_div_two, shared]
      have sharedLow := @Nat.and_mod_two_eq_one a m
      have besideLow := @Nat.xor_mod_two_eq_one a (a &&& m)
      omega
    · rw [Nat.eq_zero_of_not_pos positive, Nat.zero_and, Nat.xor_self]

/-- A mask less another holds the bits of the first that the second lacks. -/
theorem bit_sub_and (a m n : Nat) : bit (a - (a &&& m)) n = (bit a n && !bit m n) := by
  have rest : a - (a &&& m) = a ^^^ (a &&& m) := by
    have whole := and_add_xor_and a m
    omega
  rw [rest, bit_testBit, bit_testBit, bit_testBit, Nat.testBit_xor, Nat.testBit_and]
  cases a.testBit n <;> cases m.testBit n <;> rfl

theorem bit_or (a m n : Nat) : bit (a ||| m) n = (bit a n || bit m n) := by
  rw [bit_testBit, bit_testBit, bit_testBit, Nat.testBit_or]

/-! ## Sessions of a block -/

/-- Replacing sessions by one of the same identifier keeps every identifier. -/
theorem id_replaced (x z : Session) : (if x.id = z.id then z else x).id = x.id := by
  split
  · exact Eq.symm ‹_›
  · rfl

theorem session_setSession (b : Block) (z : Session) (n : Nat) :
    (b.setSession z).session n = (b.session n).map (fun x => if x.id = z.id then z else x) := by
  simp only [Block.session, Block.setSession, List.find?_map, Function.comp_def, id_replaced]

theorem session_setSession_same {b : Block} {y z : Session} (found : b.session z.id = some y) : (b.setSession z).session z.id = some z := by
  rw [session_setSession, found, Option.map_some, if_pos (session_id _ _ _ found)]

theorem session_setSession_ne {b : Block} {z : Session} {n : Nat} (other : n ≠ z.id) : (b.setSession z).session n = b.session n := by
  rw [session_setSession]
  cases found : b.session n with
  | none => rfl
  | some x => rw [Option.map_some, if_neg (by rw [session_id _ _ _ found]; exact other)]

theorem session_of_sessions {b c : Block} (same : c.sessions = b.sessions) (n : Nat) : c.session n = b.session n := by
  rw [Block.session, Block.session, same]

/-- The session of a request is as before it but for its place, its replies and its address. -/
def sessionTaken (p : Packet) (x : Session) (s : Machine.State) : Session :=
  { x with
    nextSeq := p.seq.toNat + 1, cache := ((p.seq.toNat, none) :: x.cache).take 16, lastAccept := (s.start.arrive p.port.val).clock
    addr := p.addr.toNat, dport := p.dport.toNat, iface := p.port.val }

theorem session_opened_same {p : Packet} {x : Session} {s : Machine.State} (found : s.blk.session x.id = some x) :
    (opened p x s).session x.id = some (sessionTaken p x s) := by
  obtain ⟨sessions, -⟩ := arrive_frame s.start p.port.val
  exact session_setSession_same (z := sessionTaken p x s) ((sessions _).trans found)

theorem session_opened_ne {p : Packet} {x : Session} {s : Machine.State} {n : Nat} (other : n ≠ x.id) :
    (opened p x s).session n = s.blk.session n := by
  obtain ⟨sessions, -⟩ := arrive_frame s.start p.port.val
  exact (session_setSession_ne (z := sessionTaken p x s) other).trans (sessions _)

/-- A reply keeps itself in its session's cache, and touches no other part of the sessions (R43). -/
theorem reply_sessions {b : Block} {rto : ReplyTo} {y : Session} (found : b.session rto.session = some y) (status target : Nat) (payload : List Byte) :
    ∃ cache, (b.reply rto status target payload).sessions = (b.setSession { y with cache := cache }).sessions := by
  simp only [Block.reply, found]
  split
  · exact ⟨_, rfl⟩
  · obtain ⟨-, -, sessions⟩ := sendMsg_leaves (b.setSession _) rto.port rto.addr rto.dport _
    exact ⟨_, sessions⟩

/-- The sessions after the reply to a request that has made `z` of its session. -/
theorem reply_session {b : Block} {rto : ReplyTo} {y z : Session} (found : b.session z.id = some y) (own : rto.session = z.id) (status target : Nat)
    (payload : List Byte) :
    (∃ cache, ((b.setSession z).reply rto status target payload).session z.id = some { z with cache := cache }) ∧
      ∀ n, n ≠ z.id → ((b.setSession z).reply rto status target payload).session n = b.session n := by
  have made : (b.setSession z).session z.id = some z := session_setSession_same found
  obtain ⟨cache, sessions⟩ := reply_sessions (rto := rto) (own ▸ made) status target payload
  refine ⟨⟨cache, ?_⟩, fun n other => ?_⟩
  · rw [session_of_sessions sessions]
    exact session_setSession_same (z := { z with cache := cache }) made
  · rw [session_of_sessions sessions, session_setSession_ne (z := { z with cache := cache }) other, session_setSession_ne other]

/-! ## SUBSCRIBE and UNSUBSCRIBE (R67) -/

theorem opPerform_subscribe (b : Block) (q : Req) (m : Mem) : b.opPerform m 0x60 q = ((b.subscribe q true).1, some (b.subscribe q true).2, none) := by
  simp [Block.opPerform, opRecords, opActs]

theorem opPerform_unsubscribe (b : Block) (q : Req) (m : Mem) :
    b.opPerform m 0x61 q = ((b.subscribe q false).1, some (b.subscribe q false).2, none) := by
  simp [Block.opPerform, opRecords, opActs]

/-- The session that a SUBSCRIBE leaves. -/
def subscribed (b : Block) (y : Session) (l : List Byte) : Session :=
  { y with
    mask := y.mask ||| beNat (l.drop 4)
    evtPort := if beNat (l.take 2) = 0 then b.f K.SYS_BCP_EVT_PORT 0 15 0 else beNat (l.take 2)
    minSev := beNat ((l.drop 2).take 1) }

/-- The session that an UNSUBSCRIBE leaves. -/
def unsubscribed (y : Session) (l : List Byte) : Session := { y with mask := y.mask - (y.mask &&& beNat l) }

theorem subscribe_form {b : Block} {q : Req} {y : Session} (found : b.session q.rto.session = some y) (whole : q.body.length = 132)
    (severity : beNat ((q.body.drop 2).take 1) ≤ 4) (reserved : beNat ((q.body.drop 3).take 1) = 0) :
    b.subscribe q true = (b.setSession (subscribed b y q.body), 0, beBytes 128 (subscribed b y q.body).mask) := by
  simp only [Block.subscribe, found, whole, Nat.not_lt.mpr severity, reserved]
  rfl

theorem unsubscribe_form {b : Block} {q : Req} {y : Session} (found : b.session q.rto.session = some y) (whole : q.body.length = 128) :
    b.subscribe q false = (b.setSession (unsubscribed y q.body), 0, beBytes 128 (unsubscribed y q.body).mask) := by
  simp only [Block.subscribe, found, whole]
  rfl

/-- Bit `n` of the 128 bytes that carry a mask (R67). -/
theorem bit_maskBytes {l : List Byte} {n : Nat} (whole : l.length = 128) (listed : n < 1024) :
    bit (beNat l) n = bit (l.getD (127 - n / 8) 0).toNat (n % 8) := by
  rw [bit_beNat l n (by omega), whole]

section
variable {p : Packet} {x : Session} {s t : Machine.State}

/-- The session that comes is its own, under the packet's identifier. -/
theorem session_of_comes {op : Nat} (comes : Comes op p x s) : s.blk.session p.session.toNat = some x ∧ x.id = p.session.toNat := by
  obtain ⟨-, -, -, -, -, -, -, -, -, -, -, found, -⟩ := comes
  exact ⟨found, session_id _ _ _ found⟩

/-- The sessions after a request that has made `z` of its own. -/
theorem sessions_of_request {op : Nat} (comes : Comes op p x s) {z : Session} {o : Host.Outcome Machine.State Fault Refusal} {r : Answer} {beat : Nat}
    (same : z.id = x.id) (answers : o = .next (s.finish (answered (asked op p x beat) ((opened p x s).setSession z) (some r)))) (next : o = .next t) :
    (∃ cache, t.blk.session p.session.toNat = some { z with cache := cache }) ∧
      ∀ n, n ≠ p.session.toNat → t.blk.session n = s.blk.session n := by
  obtain ⟨found, id⟩ := session_of_comes comes
  obtain ⟨-, -, -, -, -, raised, -⟩ := opened_leaves p x s
  obtain ⟨blk, -⟩ := state_of_request answers raised next
  have own : (opened p x s).session z.id = some (sessionTaken p x s) := by
    rw [same]
    exact session_opened_same (id ▸ found)
  obtain ⟨made, others⟩ := reply_session own (rto := (asked op p x beat).rto) same.symm r.1 beat r.2
  rw [blk, ← same.trans id]
  exact ⟨made, fun n other => (others n other).trans (session_opened_ne (same ▸ other))⟩

/-- The sessions after a SUBSCRIBE in form. -/
theorem subscribe_sessions (comes : Comes 0x60 p x s) (tagged : Tagged 0x60 p x.h2e) (target : p.target = 0) (whole : p.payload.length = 132)
    (severity : beNat ((p.payload.drop 2).take 1) ≤ 4) (reserved : beNat ((p.payload.drop 3).take 1) = 0) (next : exec (.subscribe p) s = .next t) :
    (∃ cache, t.blk.session p.session.toNat = some { subscribed (opened p x s) (sessionTaken p x s) p.payload with cache := cache }) ∧
      ∀ n, n ≠ p.session.toNat → t.blk.session n = s.blk.session n := by
  obtain ⟨found, id⟩ := session_of_comes comes
  have performs := opPerform_subscribe (opened p x s) (asked 0x60 p x s.blk.beat) s.mem
  rw [subscribe_form (q := asked 0x60 p x s.blk.beat) (session_opened_same (id ▸ found)) whole severity reserved] at performs
  exact sessions_of_request comes rfl (next_of_now rfl comes tagged rfl rfl (.inl rfl) (.inl (by decide)) target performs rfl) next

/-- The sessions after an UNSUBSCRIBE in form. -/
theorem unsubscribe_sessions (comes : Comes 0x61 p x s) (tagged : Tagged 0x61 p x.h2e) (target : p.target = 0) (whole : p.payload.length = 128)
    (next : exec (.unsubscribe p) s = .next t) :
    (∃ cache, t.blk.session p.session.toNat = some { unsubscribed (sessionTaken p x s) p.payload with cache := cache }) ∧
      ∀ n, n ≠ p.session.toNat → t.blk.session n = s.blk.session n := by
  obtain ⟨found, id⟩ := session_of_comes comes
  have performs := opPerform_unsubscribe (opened p x s) (asked 0x61 p x s.blk.beat) s.mem
  rw [unsubscribe_form (q := asked 0x61 p x s.blk.beat) (session_opened_same (id ▸ found)) whole] at performs
  exact sessions_of_request comes rfl (next_of_now rfl comes tagged rfl rfl (.inl rfl) (.inl (by decide)) target performs rfl) next

end

/-! ## An occurrence reaches the sessions (R79 to R82) -/

theorem strOffer_sessions (b : Block) (k : Nat) (it : StrItem) : (b.strOffer k it).1.sessions = b.sessions := by
  unfold Block.strOffer
  split <;> rfl

theorem strEvent_sessions (b : Block) (severity : Nat) (bytes : List Byte) : (b.strEvent severity bytes).sessions = b.sessions :=
  foldl_keeps Block.sessions (fun b k => strOffer_sessions b k _) _ b

theorem routePin_sessions (b : Block) (id k : Nat) : (b.routePin id k).sessions = b.sessions := by
  unfold Block.routePin
  split
  · dsimp only
    split <;> split <;> rfl
  · rfl

theorem pendLine_sessions (b : Block) (c line : Nat) : (b.pendLine c line).sessions = b.sessions := by
  unfold Block.pendLine
  split <;> rfl

/-- The places that a list of closed packets takes. -/
theorem taken_closed (s : Session) (l : List EvRec) : ({ s with queue := [], closed := s.closed ++ [⟨l⟩] } : Session).taken =
    (s.closed.map (fun p => p.recs.length)).foldl (· + ·) 0 + l.length := by
  simp [Session.taken]

theorem length_insertRec (r : EvRec) (l : List EvRec) : (insertRec r l).length = l.length + 1 := by
  induction l with
  | nil => rfl
  | cons x l ih =>
    rw [insertRec]
    split
    · rfl
    · rw [List.length_cons, ih, List.length_cons]

/-- A record that joins a queue takes one place (R82, R83). -/
theorem taken_push (s : Session) (limit : Nat) (r : EvRec) : (s.push limit r).taken = s.taken + 1 := by
  simp only [Session.push]
  split
  · rw [taken_closed, length_insertRec, Session.taken]
    omega
  · simp only [Session.taken, length_insertRec]
    omega

/-- A session that has two places free again, with the record of what it lost (R82). -/
def lossTold (s : Session) (limit : Nat) (r : EvRec) : Session :=
  let y : Session := { s with lost := 0, full := false }
  if limit ≤ y.queue.length + 1 then { y with queue := [], closed := y.closed ++ [⟨y.queue ++ [r]⟩] } else { y with queue := y.queue ++ [r] }

theorem taken_lossTold (s : Session) (limit : Nat) (r : EvRec) : (lossTold s limit r).taken = s.taken + 1 := by
  simp only [lossTold]
  split <;> simp [Session.taken] <;> omega

theorem id_lossTold (s : Session) (limit : Nat) (r : EvRec) : (lossTold s limit r).id = s.id := by
  simp only [lossTold]
  split <;> rfl

theorem id_push (s : Session) (limit : Nat) (r : EvRec) : (s.push limit r).id = s.id := by
  simp only [Session.push]
  split <;> rfl

/-- A session with room takes a record, one that is full is told of its loss first, and one without room counts the record lost (R82). -/
theorem deliverTo_sessions {b : Block} {id : Nat} {y : Session} (found : b.session id = some y) (o : Occ) :
    ((b.deliverTo id o).sessions = (b.setSession { y with lost := y.lost + 1, full := true }).sessions ∧ (y.full = true ∨ 256 ≤ y.taken)) ∨
      (∃ limit r q, (b.deliverTo id o).sessions = (b.setSession ((lossTold y limit r).push limit q)).sessions) ∨
      ∃ limit q, (b.deliverTo id o).sessions = (b.setSession (y.push limit q)).sessions := by
  have found : b.sessions.find? (fun s => s.id == id) = some y := found
  simp only [Block.deliverTo, found]
  cases full : y.full
  · by_cases room : 256 ≤ y.taken
    · left
      simp only [room, Bool.false_eq_true, if_false, decide_true, if_true]
      exact ⟨rfl, .inr trivial⟩
    · right; right
      simp only [room, Bool.false_eq_true, if_false, decide_false]
      exact ⟨_, _, rfl⟩
  · by_cases room : 254 < y.taken
    · left
      simp only [room, if_true, decide_true]
      exact ⟨rfl, .inl trivial⟩
    · right; left
      simp only [room, if_true, decide_false, Bool.false_eq_true, if_false]
      exact ⟨_, _, _, rfl⟩

/-- What the delivery of an occurrence makes of its session: it takes a place more where there is room, and none fewer. -/
theorem deliverTo_session_same {b : Block} {id : Nat} {y : Session} (found : b.session id = some y) (o : Occ) :
    ∃ z, (b.deliverTo id o).session id = some z ∧ y.taken ≤ z.taken ∧ (y.full = false → y.taken < 256 → y.taken < z.taken) := by
  have key : y.id = id := session_id _ _ _ found
  have becomes {z : Session} (same : z.id = y.id) (sessions : (b.deliverTo id o).sessions = (b.setSession z).sessions) :
      (b.deliverTo id o).session id = some z := by
    rw [session_of_sessions sessions, ← key, ← same]
    exact session_setSession_same (same.trans key ▸ found)
  rcases deliverTo_sessions found o with ⟨sessions, stuck⟩ | ⟨limit, r, q, sessions⟩ | ⟨limit, q, sessions⟩
  · refine ⟨_, becomes (z := { y with lost := y.lost + 1, full := true }) rfl sessions, Nat.le_refl _, fun free room => ?_⟩
    rcases stuck with full | taken
    · exact absurd (free.symm.trans full) (by decide)
    · omega
  · have places := (taken_push (lossTold y limit r) limit q).trans (congrArg (· + 1) (taken_lossTold y limit r))
    exact ⟨_, becomes ((id_push ..).trans (id_lossTold ..)) sessions, by omega, fun _ _ => by omega⟩
  · have places := taken_push y limit q
    exact ⟨_, becomes (id_push ..) sessions, by omega, fun _ _ => by omega⟩

theorem deliverTo_session_ne {b : Block} {id n : Nat} (other : n ≠ id) (o : Occ) : (b.deliverTo id o).session n = b.session n := by
  cases found : b.session id with
  | none =>
    have found : b.sessions.find? (fun s => s.id == id) = none := found
    simp only [Block.deliverTo, found]
  | some y =>
    have key : y.id = id := session_id _ _ _ found
    rcases deliverTo_sessions found o with ⟨sessions, -⟩ | ⟨limit, r, q, sessions⟩ | ⟨limit, q, sessions⟩
    · rw [session_of_sessions sessions, session_setSession_ne (by rwa [key])]
    · rw [session_of_sessions sessions, session_setSession_ne (by rwa [id_push, id_lossTold, key])]
    · rw [session_of_sessions sessions, session_setSession_ne (by rwa [id_push, key])]

/-! ## Deliveries to several sessions -/

/-- Every session of a list of identifiers takes an occurrence. -/
def deliverAll (o : Occ) (l : List Nat) (b : Block) : Block := l.foldl (fun b id => b.deliverTo id o) b

theorem deliverAll_cons (o : Occ) (id : Nat) (l : List Nat) (b : Block) : deliverAll o (id :: l) b = deliverAll o l (b.deliverTo id o) := rfl

theorem deliverAll_session_ne {o : Occ} {l : List Nat} {n : Nat} (other : n ∉ l) (b : Block) : (deliverAll o l b).session n = b.session n := by
  induction l generalizing b with
  | nil => rfl
  | cons id l ih =>
    rw [List.mem_cons, not_or] at other
    rw [deliverAll_cons, ih other.2, deliverTo_session_ne other.1]

theorem deliverAll_keeps_taken (o : Occ) (l : List Nat) {b : Block} {n : Nat} {y : Session} (found : b.session n = some y) :
    ∃ z, (deliverAll o l b).session n = some z ∧ y.taken ≤ z.taken := by
  induction l generalizing b y with
  | nil => exact ⟨y, found, Nat.le_refl _⟩
  | cons id l ih =>
    rw [deliverAll_cons]
    by_cases here : n = id
    · subst here
      obtain ⟨u, made, more, -⟩ := deliverTo_session_same found o
      obtain ⟨z, last, most⟩ := ih made
      exact ⟨z, last, Nat.le_trans more most⟩
    · exact ih ((deliverTo_session_ne here o).trans found)

/-- A listed session with room has taken a place more. -/
theorem deliverAll_takes {o : Occ} {l : List Nat} {b : Block} {n : Nat} {y : Session} (listed : n ∈ l) (found : b.session n = some y)
    (free : y.full = false) (room : y.taken < 256) : ∃ z, (deliverAll o l b).session n = some z ∧ y.taken < z.taken := by
  induction l generalizing b with
  | nil => exact absurd listed List.not_mem_nil
  | cons id l ih =>
    rw [deliverAll_cons]
    by_cases here : n = id
    · subst here
      obtain ⟨u, made, -, more⟩ := deliverTo_session_same found o
      obtain ⟨z, last, most⟩ := deliverAll_keeps_taken o l made
      exact ⟨z, last, Nat.lt_of_lt_of_le (more free room) most⟩
    · exact ih ((List.mem_cons.mp listed).resolve_left here) ((deliverTo_session_ne here o).trans found)

/-! ## One occurrence (R77 to R82) -/

/-- An occurrence is counted at its source and in its window (R79). -/
def counted (b : Block) (o : Occ) : Block :=
  { b.countSource o.id with srcWin := tset b.srcWin o.id (tget 0 b.srcWin o.id + 1) }

theorem srcCfg_counted (b : Block) (o : Occ) (hi lo : Nat) : (counted b o).srcCfg o.id hi lo = b.srcCfg o.id hi lo := by
  have other : K.EVT_SRC_CFG + o.id ≠ ki (K.EVT_SRC_COUNT + o.id) 0 := by
    simp only [ki, K.EVT_SRC_CFG, K.EVT_SRC_COUNT]
    omega
  have same : (counted b o).val (K.EVT_SRC_CFG + o.id) = b.val (K.EVT_SRC_CFG + o.id) := val_pv_ne _ _ _ _ _ other
  rw [Block.srcCfg, Block.srcCfg, same]

/-- LIMIT withholds the occurrence (R76, R79). -/
def withheld (b : Block) (o : Occ) : Bool :=
  !(o.id == 978 || o.id == 979) && b.srcCfg o.id 15 4 != 0 && decide (b.srcCfg o.id 15 4 < tget 0 b.srcWin o.id + 1)

/-- The sessions that an occurrence reaches: those whose mask has its bit and whose severity its source meets (R67, R80). -/
def reachedBy (b : Block) (o : Occ) : List Nat :=
  (b.sessions.filter (fun s => bit s.mask o.id && decide (s.minSev ≤ b.srcCfg o.id 2 0))).map (·.id)

/-- An occurrence that LIMIT withholds is counted as such (R79). -/
def suppressed (b : Block) (o : Occ) : Block :=
  let b := b.inc (K.EVT_SRC_SUPPRESSED + o.id) 0 1
  { b with
    supFirst := some (b.supFirst.getD o.id), supTotal := b.supTotal + 1
    supSrcs := if b.supSrcs.contains o.id then b.supSrcs else b.supSrcs ++ [o.id] }

/-- An occurrence that LIMIT does not withhold reaches streams and sessions. -/
def delivered (b : Block) (o : Occ) : Block :=
  deliverAll o (reachedBy b o) (b.strEvent (b.srcCfg o.id 2 0) (b.recBytes (b.record o false)))

/-- An occurrence goes on to the pins and the core that its source names (R84, R85). -/
def routed (b : Block) (o : Occ) : Block :=
  if o.id == 978 || o.id == 979 then b
  else
    let b := (b.routePin o.id 0).routePin o.id 1
    if b.srcCfg o.id 18 18 = 1 then b.pendLine (b.srcCfg o.id 24 19) (b.srcCfg o.id 26 25) else b

theorem routed_sessions (b : Block) (o : Occ) : (routed b o).sessions = b.sessions := by
  have pins : ((b.routePin o.id 0).routePin o.id 1).sessions = b.sessions := (routePin_sessions ..).trans (routePin_sessions ..)
  unfold routed
  split
  · rfl
  · dsimp only
    split
    · exact (pendLine_sessions ..).trans pins
    · exact pins

theorem occur_eq (b : Block) (o : Occ) :
    b.occur o = routed (if !(o.id == 978 || o.id == 979) && (counted b o).srcCfg o.id 15 4 != 0 &&
      decide ((counted b o).srcCfg o.id 15 4 < tget 0 b.srcWin o.id + 1) then suppressed (counted b o) o else delivered (counted b o) o) o := rfl

theorem reachedBy_counted (b : Block) (o : Occ) : reachedBy (counted b o) o = reachedBy b o := by
  rw [reachedBy, srcCfg_counted]
  rfl

/-- An occurrence that LIMIT withholds touches no session. -/
theorem occur_withheld {b : Block} {o : Occ} (held : withheld b o = true) : (b.occur o).sessions = b.sessions := by
  rw [withheld] at held
  rw [occur_eq, routed_sessions, srcCfg_counted, if_pos held]
  rfl

/-- Any other is delivered to those that it reaches. -/
theorem occur_delivered {b : Block} {o : Occ} (free : withheld b o = false) :
    ∃ c : Block, c.sessions = b.sessions ∧ (b.occur o).sessions = (deliverAll o (reachedBy b o) c).sessions := by
  rw [withheld] at free
  rw [occur_eq, routed_sessions, srcCfg_counted, if_neg (Bool.eq_false_iff.mp free), delivered, reachedBy_counted]
  exact ⟨_, strEvent_sessions (counted b o) _ _, rfl⟩

theorem withheld_eq_false {b : Block} {o : Occ}
    (free : o.id = 978 ∨ o.id = 979 ∨ b.srcCfg o.id 15 4 = 0 ∨ tget 0 b.srcWin o.id < b.srcCfg o.id 15 4) : withheld b o = false := by
  rcases free with first | second | unlimited | within
  · simp [withheld, first]
  · simp [withheld, second]
  · simp [withheld, unlimited]
  · simp [withheld, Nat.not_lt.mpr within]

/-- A session with the bit, that asks for no more, is reached. -/
theorem mem_reachedBy {b : Block} {o : Occ} {x : Session} (found : b.session x.id = some x) (masked : bit x.mask o.id = true)
    (severe : x.minSev ≤ b.srcCfg o.id 2 0) : x.id ∈ reachedBy b o := by
  refine List.mem_map.mpr ⟨x, List.mem_filter.mpr ⟨List.mem_of_find?_eq_some found, ?_⟩, rfl⟩
  simp [masked, severe]

/-- A session that lacks the bit or asks for more is not. -/
theorem not_mem_reachedBy {b : Block} {o : Occ} {n : Nat}
    (passed : ∀ y ∈ b.sessions, y.id = n → (bit y.mask o.id = false ∨ b.srcCfg o.id 2 0 < y.minSev)) : n ∉ reachedBy b o := by
  intro listed
  obtain ⟨y, reached, id⟩ := List.mem_map.mp listed
  obtain ⟨held, takes⟩ := List.mem_filter.mp reached
  simp only [Bool.and_eq_true, decide_eq_true_eq] at takes
  rcases passed y held id with unmasked | more
  · exact absurd (unmasked.symm.trans takes.1) (by decide)
  · omega

/-- Settles O59: a request makes one session of its own and its reply touches only that session's cache; a delivery takes a place in the session it
names and touches no other. -/
theorem subscriptionMask : Obligations.SubscriptionMask := by
  refine ⟨?_, ?_, ?_, ?_, ?_⟩
  · intro p x s t comes tagged target whole severity reserved next
    obtain ⟨⟨cache, own⟩, others⟩ := subscribe_sessions comes tagged target whole severity reserved next
    refine ⟨⟨_, own, fun n listed => ?_, rfl, ?_, rfl⟩, others⟩
    · have carried := bit_maskBytes (l := p.payload.drop 4) (by rw [List.length_drop, whole]) listed
      have place : 4 + (127 - n / 8) = 131 - n / 8 := by omega
      rw [List.getD_eq_getElem?_getD, List.getElem?_drop, place, ← List.getD_eq_getElem?_getD] at carried
      exact (bit_or _ _ _).trans (congrArg _ carried)
    · simp only [subscribed, Block.f]
      rw [opened_val _ _ _ (by decide)]
  · intro p x s t comes tagged target whole next
    obtain ⟨⟨cache, own⟩, others⟩ := unsubscribe_sessions comes tagged target whole next
    refine ⟨⟨_, own, fun n listed => ?_, rfl, rfl, rfl⟩, others⟩
    exact (bit_sub_and _ _ _).trans (congrArg _ (congrArg _ (bit_maskBytes whole listed)))
  · intro id x s live found closed net up
    obtain ⟨packet, rest, list⟩ := List.exists_cons_of_ne_nil closed
    have sends := exec_eventPacketSend id live
    rw [eventSend_net (b := s.start) found list net up, finish_quiet _ _ rfl] at sends
    exact ⟨_, _, sends, rfl⟩
  · intro b o x _ found masked severe free room limit
    obtain ⟨c, same, sessions⟩ := occur_delivered (withheld_eq_false limit)
    rw [session_of_sessions sessions]
    exact deliverAll_takes (mem_reachedBy found masked severe) ((session_of_sessions same _).trans found) free room
  · intro b o n _ passed
    cases held : withheld b o with
    | true => exact session_of_sessions (occur_withheld held) n
    | false =>
      obtain ⟨c, same, sessions⟩ := occur_delivered held
      rw [session_of_sessions sessions, deliverAll_session_ne (not_mem_reachedBy passed), session_of_sessions same]

end Sys2Proof
end

section
/-! PROOFS. What refutes the statement of the handshakes, sessions and windows that end, and that of the writes for a beat. -/
namespace Sys2Proof
open Machine

/-! ## A prepared transaction that no COMMIT has reached (R60, R71) -/

/-- A transaction of session 5 was prepared for the beat that begins, and stream 0 is ON with the events as its source. -/
def expiring : Machine.State :=
  let b : Block := { beat := 10, txns := [⟨5, 7, 10, [], false⟩] }
  ⟨((b.setVal (mkKey bSTR 0 2) lOn).pf K.STR_CFG 0 2 0 5).pf K.STR_BUF 0 5 0 1, [], []⟩

/-- The payloads of the event records that wait in stream 0 after a command: the last 16 of the 44 bytes of R81. -/
def payloadsTold : Host.Outcome Machine.State Fault Refusal → List (List Byte)
  | .next t => (t.blk.str 0).items.map (fun it => it.data.drop 28)
  | _ => []

/-- The event carries the session, the SEQUENCE and ST_TOO_LATE, which is 0x0027. -/
theorem payloadsTold_expiring : payloadsTold (exec (.preparedTxnExpiry 5 7) expiring) = [[0, 0, 0, 5, 0, 0, 0, 7, 0, 0x27, 0, 0, 0, 0, 0, 0]] := by
  decide

/-- Refutes O40: its third clause has event 984 carry status 4, where ST_TOO_LATE is 0x0027 (R71), which the model sends. -/
theorem not_sessionsAndWindowsEnd : ¬ Obligations.SessionsAndWindowsEnd := by
  rintro ⟨-, -, expires, -⟩
  have stated := expires 5 7 ⟨5, 7, 10, [], false⟩ expiring (by decide) (by decide) (by decide) rfl
  have told := payloadsTold_expiring
  rw [stated] at told
  exact absurd told (by decide)

/-! ## A write that a step notice holds back (R37, R455) -/

/-- Beat 1 with a step notice, on an engine that leads no group. -/
def stepNoticed : Machine.State := ⟨{ beat := 1, plt := { notice := some (5, 1) } }, [], []⟩

/-- A write to a parameter without a command of its own, for the beat in progress. -/
def lateWrite : Write := ⟨BitVec.ofNat 32 K.VEC_SAFE_W0, 1, 1⟩

/-- The statuses that a command sends. -/
def statusesSent : Host.Outcome Machine.State Fault Refusal → List Nat
  | .next t => t.blk.sent.filterMap (fun x => match x with | .result n => some n | _ => none)
  | _ => []

/-- The notice is obeyed before the beat is looked at. -/
theorem statusesSent_stepNoticed : statusesSent (exec (.parameterWrite lateWrite) stepNoticed) = [Status.state.num] := by decide

/-- Refutes O46: its second clause has a write for a beat that is past answered ST_TOO_LATE with no premise on step notices, where a notice
that the engine obeys holds it back first, with ST_STATE (R455; steps 9 and 10 of R37). -/
theorem not_writesForABeat : ¬ Obligations.WritesForABeat := by
  rintro ⟨-, late, -⟩
  have stated := late lateWrite stepNoticed (by decide) (by decide) (by decide) (by decide)
  have sent := statusesSent_stepNoticed
  rw [stated] at sent
  exact absurd sent (by decide)

end Sys2Proof
end
